-- ==== Sys2Proof/Word.lean ====
section
/-!
DEFINITION. The words of the 4T80: bus words, bytes, samples, and the fixed tables its blocks hold.
-/

namespace Sys2Proof

/-- One 32-bit word of the host bus and of the exchange RAM (spec 01, R1). -/
abbrev Word := BitVec 32

/-- One byte of a record, a payload or a message. -/
abbrev Byte := BitVec 8

/-- One 24-bit two's complement audio sample (spec 00, Samples and coefficients). -/
abbrev Sample := BitVec 24

/-- A byte of the service stream: 8 data bits, and the address mark in bit 8 (spec 04, R65). -/
abbrev ServiceByte := BitVec 9

/-- A fixed number of like things, numbered from 0. -/
abbrev Bank (n : Nat) (α : Type) := Vector α n

/-- Every entry of a bank, changed by one function. -/
def Bank.mapAll {n : Nat} {α β : Type} (f : α → β) (v : Bank n α) : Bank n β :=
  ⟨⟨v.toList.map f⟩, by simp⟩

/-- Every entry of a bank, changed by a function that is told the entry's number. -/
def Bank.mapNum {n : Nat} {α β : Type} (f : Nat → α → β) (v : Bank n α) : Bank n β :=
  ⟨⟨v.toList.mapIdx f⟩, by simp⟩

/-- Two banks, entry by entry. -/
def Bank.zipAll {n : Nat} {α β γ : Type} (f : α → β → γ) (v : Bank n α) (w : Bank n β) : Bank n γ :=
  ⟨⟨v.toList.zipWith f w.toList⟩, by simp⟩

/-- One entry of a bank, changed by a function. -/
def Bank.update {n : Nat} {α : Type} (v : Bank n α) (i : Fin n) (f : α → α) : Bank n α :=
  v.set i (f (v.get i))

/-- The numbers 0 to n - 1 as indices of a bank, in ascending order. -/
def indices (n : Nat) : List (Fin n) := List.finRange n

/-- The index of a bank that a number names, if it names one. -/
def index? (n k : Nat) : Option (Fin n) :=
  if h : k < n then some ⟨k, h⟩ else none

end Sys2Proof
end

