-- ==== Sys2Proof/Syntax.lean ====
section
/-!
DEFINITION. The commands of the 4T80: one constructor per row of spec/opcode_table.json, with the operands its rule gives.
-/

namespace Sys2Proof

/-- The two optical ports (spec 00, The ring). -/
inductive Port where
  | east
  | west
  deriving DecidableEq, Repr

/-- The two transmit queues, which are also the two message classes (spec 04, R66, R71). -/
inductive QueueClass where
  | urgent
  | normal
  deriving DecidableEq, Repr

/-- The three view areas (spec 01, section 1.8). -/
inductive View where
  | input
  | ring
  | talk
  deriving DecidableEq, Repr

/-- The two directions round the ring (spec 02, R27). -/
inductive Direction where
  | eastward
  | westward
  deriving DecidableEq, Repr

/-- A burst as it stands on the fibre, field by field in the order of spec 02, R22. -/
structure Burst where
  /-- Origin id in bits 1:0, hop count in bits 3:2, the high four bits ignored. -/
  head : Byte
  mark : BitVec 16
  frame : Word
  slotCount : Byte
  talkSlot : Byte
  summary : Word
  slots : List Sample
  service : List ServiceByte
  check : Word
  deriving DecidableEq, Repr

/-- A request tag: requester id (255 none), lane and request sequence (spec 04, R67). -/
structure Tag where
  requester : Byte
  lane : Byte
  seq : Byte
  deriving DecidableEq, Repr

/-- The commands. A command that acts on a step names its lane: the step is the one the lane has begun, and its header
and payload stand in the exchange RAM. A command that acts on a message taken from the ring carries the sender and the
message's fields (spec 04, R66, R70). -/
inductive Instr where
  /-- POWER_ON: `contents` are words the RAM then happens to hold (spec 01, R6). -/
  | powerOn (contents : List (BitVec 16 × Word))
  /-- RESET_PIN_LOW (spec 10, R191). -/
  | resetPinLow
  /-- RESET_PIN_RELEASE: `contents` are words the RAM then happens to hold (spec 10, R191; spec 01, R6). -/
  | resetPinRelease (contents : List (BitVec 16 × Word))
  /-- HOST_RAM_WRITE of word number `word`, at byte offset 4 × `word` (spec 01, R1). -/
  | hostRamWrite (word : BitVec 16) (value : Word)
  /-- SOFT_RESET: the value written to CONTROL (spec 01, R3, R6). -/
  | softReset (value : Word)
  /-- RUN_START: the value written to CONTROL (spec 01, R3, R8). -/
  | runStart (value : Word)
  /-- RUN_STOP: the value written to CONTROL (spec 01, R3, R7). -/
  | runStop (value : Word)
  /-- ATTENTION_MASK_WRITE: the value written to CONTROL (spec 01, R3). -/
  | attentionMaskWrite (value : Word)
  /-- ATTENTION_CLEAR: the value written to ATTENTION (spec 01, R5). -/
  | attentionClear (value : Word)
  /-- IGNORED_REGISTER_WRITE at byte offset 4 × `word` (spec 01, R1, R2). -/
  | ignoredRegisterWrite (word : BitVec 17) (value : Word)
  /-- ANCHOR_CHECK (spec 01, R8 to R11). -/
  | anchorCheck
  /-- LANE_SCAN of all sixteen lanes (spec 01, R12, R16). -/
  | laneScan
  /-- STEP_BAD_KIND (spec 01, R13). -/
  | stepBadKind (lane : Fin 16)
  /-- MARK (spec 01, R18). -/
  | mark (lane : Fin 16)
  /-- WAIT (spec 01, R19). -/
  | wait (lane : Fin 16)
  /-- WAIT_ELAPSED (spec 01, R19). -/
  | waitElapsed (lane : Fin 16)
  /-- WAIT_FRAME_REACHED (spec 01, R19). -/
  | waitFrameReached (lane : Fin 16)
  /-- WAIT_TIMEOUT (spec 01, R19). -/
  | waitTimeout (lane : Fin 16)
  /-- VIEW_REWRITE_FOLLOWUP (spec 01, R21). -/
  | viewRewriteFollowup (view : View)
  /-- BURST_BUILD (spec 02, R22). -/
  | burstBuild
  /-- BURST_RECEIVE on a port, `phase` 1/256 frames into the local frame; `whole` says that it arrived whole, with no line
  code fault inside it (spec 02, R23, R39). -/
  | burstReceive (port : Port) (phase : BitVec 8) (whole : Bool) (burst : Burst)
  /-- FORWARD_BUFFER_SEND (spec 02, R26). -/
  | forwardBufferSend (port : Port)
  /-- MAP_SLOTS (spec 02, R34). -/
  | mapSlots (lane : Fin 16)
  /-- MAP_SLOTS_SETTLED (spec 02, R35). -/
  | mapSlotsSettled (lane : Fin 16)
  /-- PLAYOUT: `tdm` are the samples received in this frame's TDM frame, local input 0 first (spec 03, R45; spec 10, R186). -/
  | playout (tdm : List Sample)
  /-- PATCH_OUTPUTS (spec 03, R62). -/
  | patchOutputs (lane : Fin 16)
  /-- PATCH_OUTPUTS_SETTLED (spec 03, R63). -/
  | patchOutputsSettled (lane : Fin 16)
  /-- GAIN_REQUEST taken at the stage (spec 05, R89). -/
  | gainRequest (sender : Fin 4) (tag : Tag) (input gain pad phantom : Byte)
  /-- GAIN_ANNOUNCE taken at a desk from origin 0 (spec 05, R84). -/
  | gainAnnounce (input gain pad phantom owner state orphaned : Byte) (switch : Word) (tag : Tag) (refresh : Byte)
  /-- GAIN_REFUSED taken at a desk (spec 05, R102). -/
  | gainRefused (tag : Tag) (input reason : Byte)
  /-- CLAIM taken at the stage (spec 05, R85). -/
  | claim (sender : Fin 4) (tag : Tag) (inputs : BitVec 64)
  /-- RELEASE taken at the stage (spec 05, R86). -/
  | release (sender : Fin 4) (tag : Tag) (inputs : BitVec 64)
  /-- OWNER_ANNOUNCE taken at a desk from origin 0 (spec 05, R87). -/
  | ownerAnnounce (inputs : BitVec 64) (owner : Byte) (tag : Tag) (result : BitVec 64)
  /-- REFERENCE taken from a terminal (spec 05, R98). -/
  | reference (sender : Fin 4) (input value : Byte) (switch : Word)
  /-- MIX_SENDS taken at the mix terminal; a record is one send entry record (spec 06, R110, R117, R120). -/
  | mixSends (sender : Fin 4) (tag : Tag) (staged last : Bool) (records : List Word)
  /-- MIX_SET taken at the mix terminal (spec 06, R120). -/
  | mixSet (sender : Fin 4) (tag : Tag) (mix active : Byte) (master duck talk : BitVec 16)
  /-- MIX_CUE taken at the mix terminal (spec 06, R120). -/
  | mixCue (sender : Fin 4) (tag : Tag) (mixes : Word) (now : Byte) (frame fade : Word)
  /-- MIX_ACK taken at the controller (spec 06, R121). -/
  | mixAck (tag : Tag) (applied refused reason : Byte)
  /-- TALK_OPEN taken from a talker (spec 07, R135). -/
  | talkOpen (sender : Fin 4) (group seq : Byte) (mixes : Word)
  /-- TALK_CLOSE taken from a talker (spec 07, R135). -/
  | talkClose (sender : Fin 4) (group seq : Byte) (mixes : Word)
  /-- TALK_STATE taken from a target terminal (spec 07, R132). -/
  | talkState (sender : Fin 4) (group seq : Byte) (held waiting lost : Word)
  /-- LOOP_REQUEST taken from a neighbour (spec 08, R172). -/
  | loopRequest (sender : Fin 4) (tag : Tag) (port : Byte) (duration : Word)
  /-- LOOP_REPLY taken from a neighbour (spec 08, R171). -/
  | loopReply (tag : Tag) (port answer : Byte)
  /-- NOTE taken; `frame` is the local frame of the playout that completed it (spec 04, R81). -/
  | note (sender : Fin 4) (frame : Word) (text : List Byte)
  /-- ROOM_GRANT in one queue (spec 04, R73). -/
  | roomGrant (queue : QueueClass)
  /-- PENDING_ENTRY_GRANT (spec 04, R76). -/
  | pendingEntryGrant
  /-- REQUEST_TIMEOUT of the request a lane and sequence name (spec 04, R77). -/
  | requestTimeout (lane : Fin 16) (seq : Byte)
  /-- SEND_NOTE (spec 04, R80). -/
  | sendNote (lane : Fin 16)
  /-- SCHEDULED_CHANGE_APPLY of one input of a desk's mirror (spec 05, R84). -/
  | scheduledChangeApply (input : Fin 64)
  /-- PENDING_CHANGE_APPLY of one input of the stage's table (spec 05, R91). -/
  | pendingChangeApply (input : Fin 64)
  /-- PHANTOM_MUTE_END of one input (spec 05, R92). -/
  | phantomMuteEnd (input : Fin 64)
  /-- PHANTOM_SHORT_REPORT: the report word taken from the report line (spec 05, R93; spec 10, R188). -/
  | phantomShortReport (report : BitVec 16)
  /-- SCHEDULED_REFERENCE_APPLY of one entry of one tracking table (spec 05, R98). -/
  | scheduledReferenceApply (table : Fin 4) (input : Fin 64)
  /-- SET_INPUT (spec 05, R101). -/
  | setInput (lane : Fin 16)
  /-- CLAIM_INPUTS (spec 05, R103). -/
  | claimInputs (lane : Fin 16)
  /-- RELEASE_INPUTS (spec 05, R103). -/
  | releaseInputs (lane : Fin 16)
  /-- SET_REFERENCE (spec 05, R104). -/
  | setReference (lane : Fin 16)
  /-- PREAMP_WORD_SEND at a frame edge (spec 10, R187). -/
  | preampWordSend
  /-- CUE_DUE at one mix (spec 06, R119). -/
  | cueDue (mix : Fin 32)
  /-- CUE_RECORD_GRANT (spec 06, R125). -/
  | cueRecordGrant
  /-- SET_MIX (spec 06, R122). -/
  | setMix (lane : Fin 16)
  /-- LOAD_SENDS (spec 06, R123). -/
  | loadSends (lane : Fin 16)
  /-- STAGE_SCENE (spec 06, R124). -/
  | stageScene (lane : Fin 16)
  /-- CUE_SCENE (spec 06, R125). -/
  | cueScene (lane : Fin 16)
  /-- READ_MIXES (spec 06, R126). -/
  | readMixes (lane : Fin 16)
  /-- TALK_ANSWER_TIMEOUT of one group at one target terminal (spec 07, R132). -/
  | talkAnswerTimeout (group : Fin 8) (target : Fin 4)
  /-- BUTTON_DEBOUNCE: pin `button` is sampled at `level` at this frame's edge (spec 07, R141; spec 10, R190). -/
  | buttonDebounce (button : Fin 8) (level : Bool)
  /-- LAMP_FLASH_TOGGLE (spec 07, R146). -/
  | lampFlashToggle
  /-- SET_TALK_GROUP (spec 07, R148). -/
  | setTalkGroup (lane : Fin 16)
  /-- SET_RANKS (spec 07, R149). -/
  | setRanks (lane : Fin 16)
  /-- SET_BUTTON (spec 07, R150). -/
  | setButton (lane : Fin 16)
  /-- TALK (spec 07, R151). -/
  | talk (lane : Fin 16)
  /-- SIGNAL_LOSS at a port's receiver (spec 08, R153). -/
  | signalLoss (port : Port)
  /-- SIGNAL_PRESENT at a port's receiver (spec 08, R154). -/
  | signalPresent (port : Port)
  /-- DARK_PROBE (spec 08, R154). -/
  | darkProbe (port : Port)
  /-- ACQUIRE_TIMEOUT (spec 08, R155). -/
  | acquireTimeout (port : Port)
  /-- QUARANTINE_END (spec 08, R158). -/
  | quarantineEnd (port : Port)
  /-- PATH_TIMEOUT of one origin on one port (spec 08, R160). -/
  | pathTimeout (origin : Fin 4) (port : Port)
  /-- CLOSURE_TIMEOUT of one direction (spec 08, R163). -/
  | closureTimeout (direction : Direction)
  /-- CONFLICT_FLAG_CLEAR (spec 08, R164). -/
  | conflictFlagClear (port : Port)
  /-- RING_VIEW_REFRESH (spec 08, R165). -/
  | ringViewRefresh
  /-- LOOP_TEST (spec 08, R169). -/
  | loopTest (lane : Fin 16)
  /-- RETURN_LOOP_END (spec 08, R172). -/
  | returnLoopEnd (port : Port)
  /-- TESTER_WINDOW_END (spec 08, R173). -/
  | testerWindowEnd (port : Port)
  /-- METER (spec 09, R179). -/
  | meter (lane : Fin 16)
  /-- METER_PASS_BEGIN (spec 09, R180). -/
  | meterPassBegin
  /-- DETECTOR_WINDOW_END (spec 09, R177). -/
  | detectorWindowEnd (detector : Fin 8)
  /-- METER_FRAME_TRIGGER of a lane's sweep (spec 09, R183). -/
  | meterFrameTrigger (lane : Fin 16)
  /-- WORD_CLOCK_PRESENT (spec 10, R189). -/
  | wordClockPresent
  /-- WORD_CLOCK_ABSENT (spec 10, R189). -/
  | wordClockAbsent
  /-- WORD_CLOCK_PHASE_LOCK (spec 10, R189). -/
  | wordClockPhaseLock
  deriving DecidableEq, Repr

end Sys2Proof
end

