-- ==== Sys2Proof/Decode.lean ====
section
/-!
DEFINITION. The command a word spells by the table's bits. spec/opcode_table.json gives no row any bits, so there is none.
-/

namespace Sys2Proof

/-- No word spells a command (spec/opcode_table.json has no row with bits). -/
def decodeTableWord (_nbits _w : Nat) : Option Instr := none

end Sys2Proof
end

