-- ==== Sys2Proof/Config.lean ====
section
/-!
DEFINITION. The fixed numbers of the part (spec 00, Principal numbers, and the rules that repeat them).
-/

namespace Sys2Proof.Config

/-- IDENT: part code 0x0480 and revision 1 (spec 01, R2). -/
def ident : Word := 0x04800001

/-- The anchor's signature (spec 01, R8). -/
def signature : Word := 0x04805A17

/-- Bytes of exchange RAM (spec 01, R1). -/
def ramSize : Nat := 0x40000

/-- The anchor's bytes, below which no area, step or payload may lie (spec 01, R8, R13). -/
def anchorSize : Nat := 256

/-- Words of the anchor the part reads: offsets 0x00 to 0x28 (spec 01, section 1.10). -/
def anchorWords : Nat := 11

/-- Frames between two lane scans (spec 01, R12). -/
def scanInterval : Nat := 24

/-- Frames a request waits for its answer (spec 01, R17; spec 04, R77). -/
def requestTimeout : Nat := 9600

/-- Steps of a map fade and of the talk gate (spec 02, R31; spec 07, R127). -/
def fadeSteps : Nat := 48

/-- Bursts a forward buffer holds (spec 02, R26). -/
def forwardRoom : Nat := 4

/-- The offset, in frames, above which a clock arrival is a frame jump (spec 02, R40). -/
def jumpThreshold : Nat := 32

/-- Playouts a record holds before it fades (spec 03, R51). -/
def holdPlayouts : Nat := 8

/-- Steps of a concealment fade out and of a fade-in (spec 03, R50, R51). -/
def concealSteps : Nat := 480

/-- Messages a transmit queue holds (spec 04, R71). -/
def queueRoom : Nat := 16

/-- Replies the reply hold keeps (spec 04, R75). -/
def replyRoom : Nat := 32

/-- Entries of the pending request table (spec 04, R76). -/
def requestRoom : Nat := 64

/-- Frames added to D and A for a gain switch frame, and to D for a reference (spec 05, R90, R98). -/
def switchLead : Nat := 32

/-- Frames of a phantom mute (spec 05, R92). -/
def phantomMute : Nat := 9600

/-- Unity gain as a coefficient (spec 00, Samples and coefficients). -/
def unity : Nat := 1048576

/-- Steps of a reference ramp, and of a send or master ramp (spec 05, R97; spec 06, R107). -/
def rampSteps : Nat := 64

/-- Steps of a duck ramp (spec 06, R107). -/
def duckSteps : Nat := 256

/-- Live or staged entries of one mix that are not fading out (spec 06, R108). -/
def mixSends : Nat := 48

/-- Entries of a terminal's send pool (spec 06, R108). -/
def poolSize : Nat := 1024

/-- The furthest a remote cue frame may lie ahead (spec 06, R120). -/
def cueLead : Nat := 4800

/-- Frames a pin level must persist (spec 07, R141). -/
def debounceFrames : Nat := 480

/-- The press, in frames, that an AUTO button still latches (spec 07, R143). -/
def autoLatch : Nat := 19200

/-- Half the period of a flashing lamp (spec 07, R146). -/
def flashFrames : Nat := 12000

/-- Clean bursts that qualify a port (spec 08, R156). -/
def qualifyBursts : Nat := 4800

/-- Frames of absent signal that send an ACQUIRE port DARK (spec 08, R155). -/
def acquireFrames : Nat := 4800

/-- Frames a port stays DARK before it probes (spec 08, R154). -/
def probeFrames : Nat := 48000

/-- Frames a port stays in QUARANTINE (spec 08, R158). -/
def quarantineFrames : Nat := 96000

/-- Frames a flap stays in the flap history (spec 08, R153). -/
def flapFrames : Nat := 480000

/-- Check failures of an error storm, and the frames they fall within (spec 08, R157). -/
def stormFailures : Nat := 8

/-- The frames an error storm's failures fall within (spec 08, R157). -/
def stormFrames : Nat := 48

/-- Frames without an arrival, or without a closure, that lose a path or open a direction (spec 08, R160, R163). -/
def pathFrames : Nat := 32

/-- Frames between two refreshes of the ring view, and of quiet that clear a conflict flag (spec 08, R164, R165). -/
def quietFrames : Nat := 48000

end Sys2Proof.Config
end

