-- ==== Sys2Proof/Machine/State.lean ====
section
/-!
DEFINITION. The state of the 4T80, block by block (spec 00, Block diagram), as plain data, and its value at reset.
-/

namespace Sys2Proof.Machine

/-- The faults a command can stop with. There are none: the spec gives no behaviour that stops the part (INVENTORY.md,
Faults). -/
inductive Fault where
  deriving DecidableEq, Repr

/-- The refusals. -/
inductive Refusal where
  /-- A command whose meaning is not written; raised by exec's own arms only. Safe: nothing can be proved of the command. -/
  | notModelled (mnemonic : String)
  deriving DecidableEq, Repr

/-! ### Registers, lists and views (spec 01) -/

/-- The run state (R4). -/
inductive RunState where
  | stopped
  | starting
  | running
  deriving DecidableEq, Repr

/-- The anchor verdict (R4). -/
inductive Verdict where
  | none
  | anchorOk
  | badSignature
  | badId
  | badLayout
  | badCount
  deriving DecidableEq, Repr

/-- The stored fields of CONTROL, STATUS and ATTENTION (R3 to R5). -/
structure Regs where
  run : Bool := false
  mask : BitVec 24 := 0
  attention : BitVec 23 := 0
  runState : RunState := .stopped
  verdict : Verdict := .none
  deriving DecidableEq, Repr

/-- The anchor's values in use for a run (R8, R9, R29). -/
structure RunConfig where
  id : Fin 4 := 0
  slotCount : Nat := 0
  talkSlot : Option Nat := none
  identity : Bool := false
  delay : Nat := 8
  latency : Nat := 0
  laneTable : Nat := 0
  inputView : Nat := 0
  ringView : Nat := 0
  talkView : Nat := 0
  faultLog : Nat := 0
  noteList : Nat := 0
  faultCapacity : Nat := 8
  noteCapacity : Nat := 4
  deriving DecidableEq, Repr

/-- The part's counts of a part-written list (R20). -/
structure ListRec where
  written : Word := 0
  dropped : Word := 0
  deriving DecidableEq, Repr

/-- A view: its change count, whether a rewrite is in progress, and whether a change has arrived during it (R21). -/
structure ViewRec where
  count : Word := 0
  rewriting : Bool := false
  again : Bool := false
  deriving DecidableEq, Repr

/-! ### Service unit (spec 04) -/

/-- Who is told when a message's last byte is placed, or when it is discarded at the head (R72, R74). -/
inductive Producer where
  /-- No one. -/
  | block
  /-- A request of a lane, by its number (R76). -/
  | request (lane : Fin 16) (number : Nat)
  /-- A lane's note (R80). -/
  | note (lane : Fin 16)
  /-- A TALK OPEN of a group to a terminal (R131). -/
  | talkOpen (group : Fin 8) (target : Fin 4) (seq : Byte)
  /-- The accepting LOOP REPLY of a loop on the port `facing`, to terminal `tester` (spec 08, R172). -/
  | loopReply (facing : Port) (tester : Fin 4) (duration : Nat)
  deriving DecidableEq, Repr

/-- A message waiting to be sent. `dest` is a terminal id or 15 (R65). -/
structure Message where
  kind : Nat
  dest : Nat
  body : List Byte
  producer : Producer := .block
  deriving DecidableEq, Repr

/-- The producers a room list can hold (R73). -/
inductive Held where
  | lane (lane : Fin 16)
  | pendingGain (input : Fin 64)
  | faultAnnounce (input : Fin 64)
  | gainRefresh
  | refRefresh
  | outbox
  | talkReply (talker : Fin 4)
  | reply
  deriving DecidableEq, Repr

/-- QUEUED, or WAITING with the frames waited (R76). -/
inductive RequestState where
  | queued
  | waiting (frames : Nat)
  deriving DecidableEq, Repr

/-- One entry of the pending request table (R76): `number` is the count of its lane's requests up to and with it, whose low eight
bits are its sequence (R17). By it the request's message and its entry of a SET INPUT step name it, also where a sequence that has
wrapped stands in two live requests. -/
structure Request where
  lane : Fin 16
  number : Nat
  target : Fin 4
  kind : Nat
  state : RequestState
  deriving DecidableEq, Repr

/-- The request sequence of an entry (R17, R76). -/
def Request.seq (r : Request) : Byte := BitVec.ofNat 8 r.number

/-- The states of a receive assembler (R68). -/
inductive AssemblerState where
  | hunt
  | kind
  | length
  | body
  | check
  deriving DecidableEq, Repr

/-- A receive assembler (R68). -/
structure Assembler where
  state : AssemblerState := .hunt
  dest : Nat := 0
  kind : Byte := 0
  length : Nat := 0
  got : List Byte := []
  sum : Byte := 0
  deriving DecidableEq, Repr

/-- The message in progress: the bytes still to place, and the message they belong to (R72). -/
structure InFlight where
  rest : List ServiceByte
  message : Message
  deriving DecidableEq, Repr

/-- The service unit (R64 to R79). -/
structure Service where
  urgent : List Message := []
  normal : List Message := []
  urgentRoom : List Held := []
  normalRoom : List Held := []
  current : Option InFlight := none
  replies : List Message := []
  requests : List Request := []
  entryWait : List (Fin 16) := []
  assemblers : Bank 4 Assembler := Vector.replicate 4 {}
  lastFrame : Bank 4 (Option Word) := Vector.replicate 4 none
  taken : Bank 4 Word := Vector.replicate 4 0
  framing : Bank 4 Word := Vector.replicate 4 0
  unusable : Bank 4 Word := Vector.replicate 4 0
  sent : Word := 0
  discards : Word := 0
  replyDrops : Word := 0
  deriving DecidableEq, Repr

/-! ### Lane engine (spec 01) -/

/-- The lane states (R11, R12). -/
inductive LaneState where
  | idle
  | running
  | parked
  | halted
  deriving DecidableEq, Repr

/-- The status codes of section 1.9. -/
inductive Status where
  | ok
  | partly
  | notOwner
  | held
  | unreachable
  | timeout
  | noRoom
  | badStep
  | busy
  | cancelled
  | superseded
  | refused
  | notReady
  | broken
  deriving DecidableEq, Repr

/-- A step, or the steps a GATHER has joined (R15): their addresses in link order, the fields taken from the first, where
each payload lies, and the joined payload as read. -/
structure Join where
  steps : List Nat := []
  kind : Nat := 0
  notify : Bool := false
  haltOnError : Bool := false
  param : BitVec 16 := 0
  target : Nat := 0
  segments : List (Nat × Nat) := []
  payload : List Byte := []
  deriving DecidableEq, Repr

/-- The condition of a WAIT step (R19). -/
inductive WaitCond where
  | elapsed (frames : Word)
  | frame (frame : Word)
  | button (button : Fin 8)
  | reachable (origin : Fin 4)
  | unreachable (origin : Fin 4)
  deriving DecidableEq, Repr

/-- The course of one SET INPUT entry (spec 05, R101, R102): not sent; requested, by the request's number; taken at the stage, not
yet announced; waiting for the switch at a frame, with the sequence of the request answered; ended. -/
inductive EntryState where
  | unsent
  | requested (number : Nat)
  | taken
  | switching (seq : Byte) (frame : Word)
  | ended (status : Status)
  deriving DecidableEq, Repr

/-- Gain, pad and phantom of an input (spec 05, R82). -/
structure Setting where
  gain : Nat := 0
  pad : Bool := false
  phantom : Bool := false
  deriving DecidableEq, Repr

/-- One entry of a SET INPUT step; `outcome` is the RAM offset of its outcome byte. -/
structure InputStep where
  input : Fin 64
  setting : Setting
  outcome : Nat
  state : EntryState
  deriving DecidableEq, Repr

/-- The modes of a SET REFERENCE entry (spec 05, R104); `fixed` is a reference already fixed, none untracked. -/
inductive RefMode where
  | trackNow
  | fixed (value : Option Int)
  deriving DecidableEq, Repr

/-- The parts and totals of a remote mix step (spec 06, R121). -/
structure RemoteMix where
  target : Fin 4
  kind : Nat
  /-- The bodies, less the tag, of the parts not yet given. -/
  todo : List (List Byte)
  staging : Bool
  applied : Nat := 0
  refused : Nat := 0
  /-- The first nonzero reason answered. -/
  reason : Nat := 0
  deriving DecidableEq, Repr

/-- What a cue asks for: now or a frame, and the clamped fade length (spec 06, R118, R119). -/
structure CueSpec where
  now : Bool
  frame : Word
  fade : Nat
  deriving DecidableEq, Repr

/-- A step in progress at its owning block. -/
inductive Op where
  | wait (cond : WaitCond) (timeout : Word)
  | mapSlots (slots : List (Fin 64)) (count : Nat)
  | patchOutputs (outputs : List (Fin 64)) (count : Nat)
  | sendNote (length : Nat)
  | setInput (entries : List InputStep)
  /-- CLAIM INPUTS and RELEASE INPUTS; `result` is present at the stage, while the broadcast waits for room. -/
  | claim (release : Bool) (inputs : BitVec 64) (result : Option (BitVec 64))
  | setReference (todo : List (Fin 64 × RefMode)) (count : Nat) (frames : List Word)
  | mixRemote (remote : RemoteMix)
  /-- CUE SCENE acting here; `record` is absent while it waits for a cue request record. -/
  | cueScene (mixes : Word) (cue : CueSpec) (record : Option (Fin 16))
  | talkOpen (group : Fin 8)
  | loopTest (port : Port) (duration : Nat)
  | meter
  deriving DecidableEq, Repr

/-- What a lane has in hand: nothing; a step begun at `next` whose header is not yet read, or a join to be continued
there; a join parked inside a GATHER; a step in progress (R11, R13, R15). -/
inductive Activity where
  | none
  | joining (join : Join) (next : Nat)
  | gathered (join : Join)
  | working (join : Join) (op : Op)
  deriving DecidableEq, Repr

/-- A request a step is to give when an entry of the pending request table is free (spec 04, R76). -/
structure Want where
  target : Fin 4
  kind : Nat
  body : List Byte
  deriving DecidableEq, Repr

/-- A change of a button's debounced level, with the frames that had passed since a step began (R19; spec 07, R141). -/
structure ButtonChange where
  level : Bool
  age : Nat
  deriving DecidableEq, Repr

/-- A lane context, with the words its lane entry shows (R11). `given` counts the lane's requests in the run: its low eight bits are
the request sequence (R17). `age` is the frames passed since the step in hand began, and `firstChange` the first change of each
button's debounced level since then, kept while the step is not yet at its block (R13, R15, R19). -/
structure Lane where
  state : LaneState := .idle
  activity : Activity := .none
  lastSeen : Word := 0
  parked : Option Nat := none
  done : Word := 0
  given : Nat := 0
  current : Nat := 0
  lastStatus : Status := .ok
  lastDetail : Nat := 0
  age : Nat := 0
  firstChange : Bank 8 (Option ButtonChange) := Vector.replicate 8 none
  held : Option Message := none
  want : Option Want := none
  deriving DecidableEq, Repr

/-- The request sequence of a lane (R11, R17). -/
def Lane.seq (x : Lane) : Byte := BitVec.ofNat 8 x.given

/-! ### Map fades (spec 02, R31; spec 03, R58) -/

/-- The sources of a transmit map entry (spec 02, R31). -/
inductive SlotSource where
  | silent
  | localInput (input : Fin 64)
  | mix (mix : Fin 32)
  deriving DecidableEq, Repr

/-- The sources of a delivery map entry (spec 03, R58). -/
inductive OutputSource where
  | none
  | slot (origin : Fin 4) (slot : Fin 64) (tracking : Option (Fin 4))
  | mix (mix : Fin 32)
  | localInput (input : Fin 64)
  deriving DecidableEq, Repr

/-- A map entry of either kind: current source, next source, fade gain. -/
structure Fade (σ : Type) where
  current : σ
  next : Option σ := none
  gain : Nat := Config.fadeSteps
  deriving DecidableEq, Repr

/-! ### Ring ports (spec 08) -/

/-- The port states, coded as in the summary (spec 02, R25). -/
inductive PortState where
  | dark
  | acquire
  | qualify
  | up
  | quarantine
  | loop
  deriving DecidableEq, Repr

/-- The loop roles (R152). -/
inductive LoopRole where
  | testerNear
  | testerFar
  | returner
  deriving DecidableEq, Repr

/-- A port's loop state (R152, R172, R173). -/
structure LoopRec where
  role : LoopRole
  duration : Nat
  /-- The lane of the tester's step. -/
  lane : Option (Fin 16)
  /-- The port's neighbour before the test. -/
  neighbour : Option (Fin 4)
  firstTest : Option Word := none
  sent : Word := 0
  returned : Word := 0
  errors : Word := 0
  roundTrip : Option Word := none
  deriving DecidableEq, Repr

/-- A port record (R152), with its forward buffer (spec 02, R26) and the bursts it has sent in this frame. -/
structure PortRec where
  state : PortState := .dark
  signal : Bool := false
  qualify : Nat := 0
  qualifyOrigin : Option (Fin 4) := none
  errors : List Nat := []
  flaps : List Nat := []
  timer : Nat := 0
  absent : Nat := 0
  darkReported : Bool := false
  conflictReported : Bool := false
  conflictQuiet : Nat := 0
  loop : Option LoopRec := none
  valid : Word := 0
  failures : Word := 0
  flapCount : Word := 0
  drops : Word := 0
  forward : List Burst := []
  returning : List Burst := []
  sent : List Burst := []
  deriving DecidableEq, Repr

/-- One thing for each port. -/
structure Both (α : Type) where
  east : α
  west : α
  deriving DecidableEq, Repr

/-! ### Clock unit (spec 02, R36) -/

/-- The clock states. -/
inductive ClockState where
  | none
  | master
  | locked
  | pulling
  | deputy
  deriving DecidableEq, Repr

/-- What the rate of the local frame counter follows (R41, R43): the oscillator, the source, the source adjusted by
100 ppm up or down, or the rate last followed. -/
inductive ClockRate where
  | oscillator
  | source
  | faster
  | slower
  | held
  deriving DecidableEq, Repr

/-- The clock unit; lock point and skew are in 1/256 frame. -/
structure Clock where
  state : ClockState := .none
  source : Option (Fin 4) := none
  port : Option Port := none
  lock : Int := 0
  skew : Option Int := none
  frame : Word := 0
  /-- The next arrival of the source on the clock port is measured as the first of a newly gained source (R40). -/
  gained : Bool := false
  /-- Frame numbers and arrival differences of the source's arrivals on each port, the latest first, one for a frame number
  (R39). -/
  arrivals : Both (List (Word × Int)) := ⟨[], []⟩
  rate : ClockRate := .oscillator
  deriving DecidableEq, Repr

/-! ### Merge unit (spec 03) -/

/-- A stored frame (R44). -/
structure StoredFrame where
  frame : Word
  slotCount : Nat
  talkSlot : Option Nat
  slots : List Sample
  service : List ServiceByte
  played : Bool
  deriving DecidableEq, Repr

/-- The concealment states (R44). -/
inductive Conceal where
  | playing
  | holding (count : Nat)
  | fading (step : Nat)
  | silent
  | fadingIn (step : Nat)
  deriving DecidableEq, Repr

/-- A merge record (R44). -/
structure MergeRec where
  cells : Bank 64 (Option StoredFrame) := Vector.replicate 64 none
  last : Bank 64 Sample := Vector.replicate 64 0
  lastCount : Nat := 0
  lastTalk : Option Nat := none
  conceal : Conceal := .silent
  duplicates : Word := 0
  late : Word := 0
  window : Word := 0
  missing : Word := 0
  overruns : Word := 0
  deriving DecidableEq, Repr

/-- The merge unit: its records, D in use, the playout point, and whether this frame's playout has been made (R44 to R46). -/
structure Merge where
  records : Bank 4 MergeRec := Vector.replicate 4 {}
  delay : Nat := 8
  point : Word := 0
  playedNow : Bool := false
  deriving DecidableEq, Repr

/-- What a playout yields for one origin (R52, R53). -/
structure PlayedFrame where
  present : Bool
  slots : Bank 64 Sample
  slotCount : Nat
  talkSlot : Option Nat
  service : List ServiceByte
  deriving DecidableEq, Repr

/-! ### Gain unit (spec 05) -/

/-- The states of an input (R82). -/
inductive InputState where
  | normal
  | phantomMute
  | phantomFault
  deriving DecidableEq, Repr

/-- Who asked for a change: a terminal by its request, entry `index` of the step of a stage lane, or the stage by a step that
has been cancelled since (R82, R101, R102). -/
inductive Requester where
  | remote (id : Fin 4) (tag : Tag)
  | lane (lane : Fin 16) (index : Nat)
  | forgotten
  deriving DecidableEq, Repr

/-- A pending change; its switch frame is unset until it is announced (R82). -/
structure PendingChange where
  setting : Setting
  requester : Requester
  switch : Option Word
  keepsFault : Bool
  deriving DecidableEq, Repr

/-- A waiting change (R82). -/
structure WaitingChange where
  setting : Setting
  requester : Requester
  keepsFault : Bool
  deriving DecidableEq, Repr

/-- An input table entry (R82); the mute window is first frame and end frame. -/
structure InputEntry where
  setting : Setting := {}
  owner : Option (Fin 4) := none
  state : InputState := .normal
  orphaned : Bool := false
  mute : Option (Word × Word) := none
  pending : Option PendingChange := none
  waiting : Option WaitingChange := none
  deriving DecidableEq, Repr

/-- A scheduled change of a mirror entry (R83). `deferred` says that it is applied at the next playout, whatever its
switch frame, and `counts` that it is then counted as a late gain if it changes E (R84, R94). -/
structure Scheduled where
  setting : Setting
  state : InputState
  switch : Word
  tag : Tag
  deferred : Bool
  counts : Bool
  deriving DecidableEq, Repr

/-- A mirror entry (R83). -/
structure MirrorEntry where
  setting : Setting := {}
  owner : Option (Fin 4) := none
  state : InputState := .normal
  orphaned : Bool := false
  scheduled : Option Scheduled := none
  fresh : Bool := false
  muteEnd : Option Word := none
  deriving DecidableEq, Repr

/-- A scheduled reference; `value` none is untracked (R95, R98). -/
structure ScheduledRef where
  value : Option Int
  switch : Word
  deferred : Bool
  deriving DecidableEq, Repr

/-- A tracking table entry (R95); the ramp is the old coefficient and the step. -/
structure TrackEntry where
  reference : Option Int := none
  k : Nat := Config.unity
  ramp : Option (Nat × Nat) := none
  limited : Bool := false
  scheduled : Option ScheduledRef := none
  deriving DecidableEq, Repr

/-- The gain unit. -/
structure Gain where
  table : Bank 64 InputEntry := Vector.replicate 64 {}
  mirror : Bank 64 MirrorEntry := Vector.replicate 64 {}
  stale : Bool := true
  lateGains : Word := 0
  tracking : Bank 4 (Bank 64 TrackEntry) := Vector.replicate 4 (Vector.replicate 64 {})
  gainCursor : Option (Fin 64) := none
  refCursor : Option (Fin 64) := none
  heldFaults : Bank 64 (Option Message) := Vector.replicate 64 none
  /-- Inputs whose E has changed for the playout about to be made (R97). -/
  switched : List (Fin 64) := []
  deriving DecidableEq, Repr

/-! ### Mix engine (spec 06) -/

/-- A running ramp (R107). -/
structure Ramp where
  start : Int
  target : Int
  step : Nat
  length : Nat
  deriving DecidableEq, Repr

/-- A level the mix engine moves: its value and its ramp (R107). -/
structure Level where
  value : Int
  ramp : Option Ramp := none
  deriving DecidableEq, Repr

/-- A live send entry (R108); `source` is origin × 64 + slot. -/
structure Send where
  source : Byte
  code : Nat
  level : Level
  fading : Bool := false
  deriving DecidableEq, Repr

/-- A staged scene (R105, R116). -/
structure Scene where
  sends : List (Byte × Nat)
  master : Nat
  complete : Bool
  source : Fin 4
  deriving DecidableEq, Repr

/-- A scheduled cue and the cue request record it belongs to (R119). -/
structure Cue where
  spec : CueSpec
  record : Fin 16
  deriving DecidableEq, Repr

/-- A mix record (R105); `output` is its output of the latest frame computation. -/
structure Mix where
  active : Bool := false
  controller : Fin 4 := 0
  lost : Bool := false
  masterCode : Nat := 900
  master : Level := ⟨Config.unity, none⟩
  duckCode : Nat := 900
  duck : Level := ⟨Config.unity, none⟩
  talkCode : Nat := 900
  sends : List Send := []
  staged : Option Scene := none
  cue : Option Cue := none
  clips : Nat := 0
  output : Sample := 0
  deriving DecidableEq, Repr

/-- Who asked for a cue (R119; spec 07, R145). -/
inductive CueRequester where
  | lane (lane : Fin 16)
  | button
  | remote (id : Fin 4) (tag : Tag)
  deriving DecidableEq, Repr

/-- A cue request record (R119). -/
structure CueRequest where
  requester : CueRequester
  outstanding : Nat
  applied : Nat
  refused : Nat
  reason : Nat
  deriving DecidableEq, Repr

/-- The mix engine. -/
structure MixEngine where
  mixes : Bank 32 Mix := Vector.replicate 32 {}
  records : Bank 16 (Option CueRequest) := Vector.replicate 16 none
  cueWait : List (Fin 16) := []
  deriving DecidableEq, Repr

/-! ### Talk unit (spec 07) -/

/-- The target states (R128). -/
inductive TargetState where
  | closed
  | held
  | waiting
  | lost
  deriving DecidableEq, Repr

/-- A target of a talk group, with its state (R128). -/
structure Target where
  terminal : Fin 4
  mix : Fin 32
  state : TargetState := .closed
  deriving DecidableEq, Repr

/-- The pending message of an outbox entry (R128). -/
inductive OutboxMessage where
  | none
  | opening
  | closing
  deriving DecidableEq, Repr

/-- An outbox entry (R128): `told` is the sequence the terminal was told, none closed; `sent` the sent frame of the last
OPEN; `waited` the frames of its answer wait, none while no wait runs; `silent` says that the answered mark was set by the end
of that wait, and no TALK STATE has come since (R132). -/
structure OutboxEntry where
  told : Option Byte := none
  pending : OutboxMessage := .none
  sent : Option Word := none
  waited : Option Nat := none
  silent : Bool := false
  deriving DecidableEq, Repr

/-- A talk group (R128). -/
structure Group where
  targets : List Target := []
  buttons : BitVec 8 := 0
  lanes : Bool := false
  seq : Byte := 0
  answered : BitVec 4 := 0
  outbox : Bank 4 OutboxEntry := Vector.replicate 4 {}
  deriving DecidableEq, Repr

/-- One group of a talker, as the mix terminal records it (R134). Its open sequence is 0 in the stopped state (DESIGN CHOICE, log
entry 59). -/
structure TalkerGroup where
  isOpen : Bool := false
  seq : Byte := 0
  requested : BitVec 32 := 0
  lost : BitVec 32 := 0
  deriving DecidableEq, Repr

/-- A talker record, with the flags of its reply record (R134, R138). -/
structure Talker where
  groups : Bank 8 TalkerGroup := Vector.replicate 8 {}
  flags : BitVec 8 := 0
  deriving DecidableEq, Repr

/-- A talker present in an insert, with its recorded rank (R136). -/
structure Present where
  talker : Fin 4
  rank : Nat
  deriving DecidableEq, Repr

/-- A talk insert (R134). -/
structure Insert where
  holder : Option Present := none
  waiting : List Present := []
  deriving DecidableEq, Repr

/-- The detections of a button (R141). -/
inductive Detection where
  | rising
  | falling
  | both
  | levelHigh
  | levelLow
  deriving DecidableEq, Repr

/-- The modes of a TALK action (R143). -/
inductive TalkMode where
  | momentary
  | latch
  | auto
  deriving DecidableEq, Repr

/-- The actions of a button (R141). -/
inductive Action where
  | none
  | talk (group : Fin 8) (mode : TalkMode)
  | chain (lane : Fin 16) (address : Word)
  | cue (mixes : Word) (fade : Nat)
  deriving DecidableEq, Repr

/-- The states of a button record; PENDING holds whether its after-state is LATCHED (R141). -/
inductive ButtonState where
  | idle
  | talking
  | latched
  | pending (latch : Bool)
  deriving DecidableEq, Repr

/-- A button record (R141). `sampled` says that this frame's sample of the pin has been taken. -/
structure Button where
  detection : Detection := .rising
  action : Action := .none
  notify : Bool := false
  state : ButtonState := .idle
  level : Bool := false
  count : Nat := 0
  pressFrames : Nat := 0
  presses : BitVec 16 := 0
  missed : BitVec 16 := 0
  sampled : Bool := false
  deriving DecidableEq, Repr

/-- The sources of a lamp (R146). -/
inductive LampSource where
  | none
  | group (group : Fin 8)
  | button (button : Fin 8)
  | origin (origin : Fin 4)
  deriving DecidableEq, Repr

/-- The talk unit. -/
structure Talk where
  gate : Nat := 0
  groups : Bank 8 Group := Vector.replicate 8 {}
  talkers : Bank 4 Talker := Vector.replicate 4 {}
  ranks : Bank 4 Nat := Vector.replicate 4 0
  inserts : Bank 32 Insert := Vector.replicate 32 {}
  buttons : Bank 8 Button := Vector.replicate 8 {}
  lamps : Bank 8 LampSource := Vector.replicate 8 .none
  flashHigh : Bool := true
  flashAge : Nat := 0
  deriving DecidableEq, Repr

/-! ### Supervisor (spec 08) -/

/-- A path record (R160). -/
structure Path where
  up : Bool := false
  hop : Nat := 0
  since : Option Nat := none
  losses : BitVec 16 := 0
  deriving DecidableEq, Repr

/-- A closure record (R163). -/
structure Closure where
  closed : Bool := false
  hop : Nat := 0
  roundTrip : Option Word := none
  since : Nat := 0
  deriving DecidableEq, Repr

/-- The supervisor; a summary is kept with the frames passed since (R165, R166). -/
structure Supervisor where
  paths : Bank 4 (Both Path) := Vector.replicate 4 ⟨{}, {}⟩
  present : Bank 4 Bool := Vector.replicate 4 false
  summaries : Bank 4 (Option (Word × Nat)) := Vector.replicate 4 none
  eastward : Closure := {}
  westward : Closure := {}
  refreshAge : Nat := 0
  deriving DecidableEq, Repr

/-! ### Meter unit (spec 09) -/

/-- A measuring detector (R175). -/
structure Measuring where
  position : Nat
  channel : Word
  start : Word
  left : Nat
  peak : Nat := 0
  overs : Nat := 0
  deriving DecidableEq, Repr

/-- The sweep modes (R179). -/
inductive SweepMode where
  | oneShot
  | sweep
  | repeating
  | triggered
  deriving DecidableEq, Repr

/-- The triggers of a triggered sweep: a button and an edge (0 either, 1 to level 1, 2 to level 0), or a frame (R179). -/
inductive Trigger where
  | button (button : Fin 8) (edge : Nat)
  | frame (frame : Word)
  deriving DecidableEq, Repr

/-- The sweep states (R175). -/
inductive SweepState where
  | armed
  | queued
  | measuring
  deriving DecidableEq, Repr

/-- A sweep record (R175). -/
structure Sweep where
  mode : SweepMode
  latest : Bool
  window : Nat
  address : Nat
  channels : List Word
  next : Nat := 0
  passes : Nat := 0
  limit : Nat := 0
  missed : Word := 0
  state : SweepState
  trigger : Option Trigger
  deriving DecidableEq, Repr

/-- The meter unit. -/
structure Meter where
  detectors : Bank 8 (Option Measuring) := Vector.replicate 8 none
  queue : List (Fin 16) := []
  sweeps : Bank 16 (Option Sweep) := Vector.replicate 16 none
  passDue : Bool := false
  deriving DecidableEq, Repr

/-! ### Converter and control ports (spec 10) -/

/-- A word of the preamp word schedule (R187). -/
structure PreampWord where
  due : Word
  input : Fin 64
  setting : Setting
  deriving DecidableEq, Repr

/-- What the stage's frame edges follow (R189). -/
inductive EdgeSource where
  | oscillator
  | pulling
  | wordClock
  | held
  deriving DecidableEq, Repr

/-- The converter and control ports. -/
structure Converter where
  tdmIn : Bank 64 Sample := Vector.replicate 64 0
  delivered : Bank 64 Sample := Vector.replicate 64 0
  tdmOut : Bank 64 Sample := Vector.replicate 64 0
  schedule : List PreampWord := []
  lastWords : Bank 64 Setting := Vector.replicate 64 {}
  wordLine : List (BitVec 16) := []
  wordsSent : Bool := false
  wordClock : Bool := false
  edges : EdgeSource := .oscillator
  gpi : BitVec 8 := 0xFF
  gpo : BitVec 8 := 0
  /-- The pins whose lamps were flashing at the last frame edge (R190). -/
  flashing : BitVec 8 := 0
  deriving DecidableEq, Repr

/-! ### The machine -/

/-- The state of the part: the queue of waiting commands, the parts the supply and the reset pin act on, and the blocks. -/
structure State where
  /-- The commands waiting, first in, first out. -/
  pending : List Instr := []
  /-- Messages taken from the ring and not yet acted on, as the commands that act on them, in the order they completed
  (spec 04, R70). The model's own field. -/
  inbox : List Instr := []
  resetLow : Bool := false
  mark : BitVec 16 := 1
  ram : List Host.Cell := []
  regs : Regs := {}
  anchorRead : List Word := []
  cfg : RunConfig := {}
  /-- Frames passed since the start of the run (spec 08, R152). -/
  passed : Nat := 0
  faultLog : ListRec := {}
  noteList : ListRec := {}
  inputView : ViewRec := {}
  ringView : ViewRec := {}
  talkView : ViewRec := {}
  lanes : Bank 16 Lane := Vector.replicate 16 {}
  scanPhase : Nat := 0
  scanDue : Bool := false
  /-- How often in this frame work that came about inside it has been queued (spec 01, R13; log entry 35). The model's own field. -/
  rounds : Nat := 0
  ports : Both PortRec := ⟨{}, {}⟩
  xmit : Bank 64 (Fade SlotSource) := Vector.replicate 64 { current := .silent }
  built : Bool := false
  lastBurst : Option Burst := none
  clock : Clock := {}
  merge : Merge := {}
  delivery : Bank 64 (Fade OutputSource) := Vector.replicate 64 { current := .none }
  svc : Service := {}
  gain : Gain := {}
  mix : MixEngine := {}
  talk : Talk := {}
  sup : Supervisor := {}
  meter : Meter := {}
  conv : Converter := {}
  deriving DecidableEq, Repr

/-- The 64 words that carry the input table's stopped state, due at a frame (spec 10, R187). -/
def resetWords (frame : Word) : List PreampWord :=
  (indices 64).map fun n => { due := frame, input := n, setting := {} }

/-- The machine right after reset: the power-on state of every block and register (spec 01, R6), the reset pin released and
the 64 reset words in the preamp word schedule (spec 10, R187, R191). -/
def State.reset : State := { conv := { schedule := resetWords 0 } }

end Sys2Proof.Machine
end

