-- ==== Sys2Proof/Machine/Arith.lean ====
section
/-!
DEFINITION. The arithmetic of the part: frame numbers, samples, rounding, coefficients (spec 00, Conventions; spec 05, R96;
spec 06, R106, R107), and the words and bytes values travel in.
-/

namespace Sys2Proof.Machine

/-! ### Frame numbers -/

/-- Frame a is later than frame b (spec 00, Time). -/
def later (a b : Word) : Bool := decide (0 < (a - b).toInt)

/-- Frame a is earlier than frame b (spec 00, Time). -/
def earlier (a b : Word) : Bool := later b a

/-- A frame number plus a count, modulo 2^32 (spec 00, Time). -/
def plusFrames (a : Word) (n : Nat) : Word := a + BitVec.ofNat 32 n

/-- A frame number less a count, modulo 2^32 (spec 00, Time). -/
def minusFrames (a : Word) (n : Nat) : Word := a - BitVec.ofNat 32 n

/-! ### Samples and rounding -/

/-- Clamp to the 24-bit range (spec 00, Samples and coefficients). -/
def saturate (v : Int) : Int := max (-8388608) (min v 8388607)

/-- The sample of a value within the 24-bit range. -/
def toSample (v : Int) : Sample := BitVec.ofInt 24 v

/-- floor((v + 2^19) / 2^20) (spec 00, Arithmetic). -/
def round20 (v : Int) : Int := (v + 524288) / 1048576

/-- Division that truncates toward zero (spec 00, Arithmetic). -/
def truncDiv (a b : Int) : Int := Int.tdiv a b

/-- trunc(x × n / d) of a sample (spec 02, R31; spec 03, R50, R51; spec 07, R127). -/
def scaleSample (x : Sample) (n d : Nat) : Sample := toSample (truncDiv (x.toInt * n) d)

/-- saturate(round(x × K)): a raw sample compensated by a coefficient (spec 05, R96; spec 03, R60). -/
def compensate (x : Sample) (k : Nat) : Sample := toSample (saturate (round20 (x.toInt * k)))

/-- x / 256 rounded to the nearest whole number, halves away from zero (spec 02, R40). -/
def roundFrames (x : Int) : Int :=
  if 0 ≤ x then (x + 128) / 256 else -((128 - x) / 256)

/-- A value brought into a range (spec 00, Numbers and names). -/
def clampNat (lo hi v : Nat) : Nat := max lo (min v hi)

/-- A value brought into a range. -/
def clampInt (lo hi v : Int) : Int := max lo (min v hi)

/-! ### Coefficients -/

/-- k is 0, or k - 1/2 is at most 2^20 × 10^(e/200): the 200th power of 2k - 1 is at most 2^4200 × 10^e. -/
def coeffFits (e : Int) (k : Nat) : Bool :=
  k == 0 || Nat.ble ((2 * k - 1) ^ 200 * 10 ^ (-e).toNat) (2 ^ 4200 * 10 ^ e.toNat)

/-- The largest k below 2^n above `base` that fits, found bit by bit. -/
def coeffSearch (e : Int) : Nat → Nat → Nat
  | 0, base => base
  | n + 1, base => if coeffFits e (base + 2 ^ n) then coeffSearch e n (base + 2 ^ n) else coeffSearch e n base

/-- 2^20 × 10^(e/200) rounded to the nearest integer, halves upward, for e up to 200. -/
def coeff (e : Int) : Nat := coeffSearch e 24 0

/-- The coefficient of a level code (spec 06, R106). -/
def levelCoeff (code : Nat) : Nat := if code = 0 then 0 else coeff ((code : Int) - 900)

/-- The compensation coefficient K(c) of c dB (spec 05, R96). -/
def gainCoeff (c : Int) : Nat := coeff (10 * c)

/-- A level code as stored (spec 00, Samples and coefficients; spec 06, R106). -/
def storeCode (code : Nat) : Nat := min code 1000

/-! ### Ramps (spec 06, R107) -/

/-- One frame computation's advance of a level's ramp. -/
def Level.advance (l : Level) : Level :=
  match l.ramp with
  | none => l
  | some r =>
    if r.length ≤ r.step + 1 then { value := r.target, ramp := none }
    else { value := r.start + truncDiv ((r.target - r.start) * ((r.step + 1 : Nat) : Int)) r.length,
           ramp := some { r with step := r.step + 1 } }

/-- A retarget of a level to a target over a length. -/
def Level.retarget (l : Level) (target : Int) (length : Nat) : Level :=
  match l.ramp with
  | some r => if r.target = target then l
              else { l with ramp := some { start := l.value, target := target, step := 0, length := length } }
  | none => if l.value = target then l
            else { l with ramp := some { start := l.value, target := target, step := 0, length := length } }

/-! ### Words and bytes -/

/-- The little-endian bytes of a number, `n` of them (spec 01, section 1.10). -/
def leBytes : Nat → Nat → List Byte
  | 0, _ => []
  | n + 1, v => BitVec.ofNat 8 v :: leBytes n (v / 256)

/-- The number whose little-endian bytes are given. -/
def leNat : List Byte → Nat
  | [] => 0
  | b :: bs => b.toNat + 256 * leNat bs

/-- Byte i of a payload or body, 0 past its end. -/
def byteAt (bs : List Byte) (i : Nat) : Byte := bs.getD i 0

/-- The little-endian number in bytes i to i + n - 1. -/
def numAt (bs : List Byte) (i n : Nat) : Nat := leNat ((bs.drop i).take n)

/-- The little-endian word at byte i. -/
def wordAt (bs : List Byte) (i : Nat) : Word := BitVec.ofNat 32 (numAt bs i 4)

/-- The records of n bytes a payload holds; a remainder is ignored. -/
def chunks (n : Nat) (bs : List Byte) : List (List Byte) :=
  (List.range (bs.length / n)).map fun i => (bs.drop (n * i)).take n

/-- A word with a number placed at a bit. -/
def field (v at_ : Nat) : Nat := v * 2 ^ at_

/-- A bit as a number. -/
def bitNat (b : Bool) : Nat := if b then 1 else 0

/-- The number of set bits. -/
def popCount {n : Nat} (v : BitVec n) : Nat := ((List.range n).filter fun i => v.getLsbD i).length

/-- The set of the members a test accepts. -/
def setOf (n : Nat) (p : Nat → Bool) : BitVec n :=
  BitVec.ofNat n ((List.range n).foldl (fun acc i => if p i then acc + 2 ^ i else acc) 0)

/-- A set with one member added. -/
def setBit {n : Nat} (v : BitVec n) (i : Nat) : BitVec n := v ||| BitVec.ofNat n (2 ^ i)

/-- A set with one member removed. -/
def clearBit {n : Nat} (v : BitVec n) (i : Nat) : BitVec n := v &&& ~~~ BitVec.ofNat n (2 ^ i)

/-- A two's complement byte as a number (spec 05, R98, R104). -/
def signedByte (b : Byte) : Int := b.toInt

/-- A list without the copies of one thing. -/
def without {α : Type} [DecidableEq α] (x : α) (xs : List α) : List α := xs.filter (fun y => decide (y ≠ x))

end Sys2Proof.Machine
end

