-- ==== Sys2Proof/Machine/Flags.lean ====
section
/-!
DEFINITION. The codes and status words the part shows: state codes, the registers, reachability and the ring as the
supervisor sees them, the terminal summary, and the pins that follow the state.
-/

namespace Sys2Proof

/-- The other port. -/
def Port.other : Port → Port
  | .east => .west
  | .west => .east

end Sys2Proof

namespace Sys2Proof.Machine

/-! ### Codes (spec 01, section 1.10; spec 02, R25) -/

/-- The run state in STATUS bits 1:0. -/
def RunState.code : RunState → Nat
  | .stopped => 0
  | .starting => 1
  | .running => 2

/-- The verdict in STATUS bits 6:4. -/
def Verdict.code : Verdict → Nat
  | .none => 0
  | .anchorOk => 1
  | .badSignature => 2
  | .badId => 3
  | .badLayout => 4
  | .badCount => 5

/-- The clock state in STATUS bits 10:8 and in the summary. -/
def ClockState.code : ClockState → Nat
  | .none => 0
  | .master => 1
  | .locked => 2
  | .pulling => 3
  | .deputy => 4

/-- The port state in fault records and in the summary. -/
def PortState.code : PortState → Nat
  | .dark => 0
  | .acquire => 1
  | .qualify => 2
  | .up => 3
  | .quarantine => 4
  | .loop => 5

/-- The lane state in a lane entry's word 5. -/
def LaneState.code : LaneState → Nat
  | .idle => 0
  | .running => 1
  | .parked => 2
  | .halted => 3

/-- The status codes of section 1.9. -/
def Status.code : Status → Nat
  | .ok => 0
  | .partly => 1
  | .notOwner => 2
  | .held => 3
  | .unreachable => 4
  | .timeout => 5
  | .noRoom => 6
  | .badStep => 7
  | .busy => 8
  | .cancelled => 9
  | .superseded => 10
  | .refused => 11
  | .notReady => 12
  | .broken => 13

/-- A port in a fault record: 0 East, 1 West, 3 none. -/
def portCode : Option Port → Nat
  | some .east => 0
  | some .west => 1
  | none => 3

/-- A terminal id in a 3-bit field: 7 for none. -/
def idCode : Option (Fin 4) → Nat
  | some o => o.val
  | none => 7

/-! ### The two ports -/

/-- The entry of one port. -/
def Both.get {α : Type} (b : Both α) : Port → α
  | .east => b.east
  | .west => b.west

/-- The entry of one port, replaced. -/
def Both.set {α : Type} (b : Both α) (p : Port) (x : α) : Both α :=
  match p with
  | .east => { b with east := x }
  | .west => { b with west := x }

/-- The port record of one port. -/
def State.port (s : State) (p : Port) : PortRec := s.ports.get p

/-- A port record, changed. -/
def State.setPort (s : State) (p : Port) (r : PortRec) : State := { s with ports := s.ports.set p r }

/-! ### Reachability and the ring (spec 08, R160 to R163) -/

/-- The path record of an origin on a port. -/
def Supervisor.path (v : Supervisor) (o : Fin 4) (p : Port) : Path := (v.paths.get o).get p

/-- Origin o is reachable: it is this terminal's own, or one of its paths is UP (R161). -/
def State.reachable (s : State) (o : Fin 4) : Bool :=
  decide (o = s.cfg.id) || (s.sup.path o .east).up || (s.sup.path o .west).up

/-- The origin, other than this terminal's own, whose path on the port is UP with a given hop count: the lowest id where there
are two (R162; DESIGN CHOICE, log entry 48). -/
def State.heardAt (s : State) (p : Port) (hop : Nat) : Option (Fin 4) :=
  (indices 4).find? fun o => decide (o ≠ s.cfg.id) && (s.sup.path o p).up && (s.sup.path o p).hop == hop

/-- The neighbour on a port (R162). -/
def State.neighbour (s : State) (p : Port) : Option (Fin 4) := s.heardAt p 0

/-- The east order at a distance of 1 to 3 (R162). -/
def State.eastOrder (s : State) (distance : Nat) : Option (Fin 4) := s.heardAt .east (distance - 1)

/-- The ring size (R163). -/
def State.ringSize (s : State) : Nat :=
  if s.sup.eastward.closed then s.sup.eastward.hop + 1
  else if s.sup.westward.closed then s.sup.westward.hop + 1
  else 0

/-- The reachability set as four bits (R25). -/
def State.reachSet (s : State) : Nat :=
  (indices 4).foldl (fun acc o => acc + if s.reachable o then 2 ^ o.val else 0) 0

/-- This terminal is the stage (spec 00, The ring). -/
def State.isStage (s : State) : Bool := decide (s.cfg.id = 0)

/-- The run state is RUNNING. -/
def State.isRunning (s : State) : Bool := decide (s.regs.runState = .running)

/-- The terminal summary (R25). -/
def State.summary (s : State) : Word :=
  BitVec.ofNat 32
    (s.ports.east.state.code + field s.ports.west.state.code 3 + field s.clock.state.code 6
      + field (idCode s.clock.source) 9 + field s.reachSet 12 + field (idCode (s.neighbour .east)) 16
      + field (idCode (s.neighbour .west)) 19 + field (if s.isStage then s.merge.delay else 0) 22)

/-- The playout delay field of a summary (R25). -/
def summaryDelay (w : Word) : Nat := (w.toNat / 2 ^ 22) % 64

/-! ### Registers (spec 01, R2 to R5) -/

/-- CONTROL as it reads. -/
def State.controlWord (s : State) : Word :=
  BitVec.ofNat 32 (bitNat s.regs.run + field s.regs.mask.toNat 8)

/-- STATUS as it reads. -/
def State.statusWord (s : State) : Word :=
  BitVec.ofNat 32
    (s.regs.runState.code + field s.regs.verdict.code 4
      + (if s.isRunning then field s.clock.state.code 8 + field (idCode s.clock.source) 12 else field 7 12))

/-- ATTENTION as it reads. -/
def State.attentionWord (s : State) : Word := s.regs.attention.setWidth 32

/-- The interrupt line: ATTENTION AND the enable mask is nonzero, and the reset pin is not low (R5; spec 10, R191). -/
def State.interrupt (s : State) : Bool :=
  !s.resetLow && decide (s.regs.attention.setWidth 24 &&& s.regs.mask ≠ 0)

/-- The ready line at rest (spec 10, R191). -/
def State.ready (s : State) : Bool := !s.resetLow

/-- The transmitter of a port is lit (spec 08, R152; spec 10, section 10.8). -/
def State.lit (s : State) (p : Port) : Bool :=
  !s.resetLow && s.isRunning && decide ((s.port p).state ≠ .dark)

end Sys2Proof.Machine
end

