-- ==== Sys2Proof/Machine/Ops.lean ====
section
/-!
DEFINITION. The named operations over the exchange RAM and the registers: reads and stores, ATTENTION, the part-written
lists and the fault log writer (spec 01, R1 to R5, R20; spec 08, R167, R168).
-/

namespace Sys2Proof.Machine

/-! ### Exchange RAM -/

/-- What an address that no cell lists reads as. DESIGN CHOICE: 0 (log entry 4). -/
def blankByte : Byte := 0

/-- The cells ascend strictly from a lower bound, lie in the RAM, and none equals what an unlisted address reads as. -/
def Memory.wfFrom (low : Nat) : List Host.Cell → Bool
  | [] => true
  | c :: cs => decide (low ≤ c.1) && decide (c.1 < Config.ramSize) && decide (c.2 ≠ blankByte) && Memory.wfFrom (c.1 + 1) cs

/-- The canonical form of the RAM. -/
def Memory.wf (ram : List Host.Cell) : Bool := Memory.wfFrom 0 ram

/-- One byte of the RAM. -/
def readByte : List Host.Cell → Nat → Byte
  | [], _ => blankByte
  | c :: cs, a => if c.1 = a then c.2 else readByte cs a

/-- Bytes a to a + n - 1 of the RAM. -/
def readBytes (ram : List Host.Cell) (a n : Nat) : List Byte :=
  (List.range n).map fun i => readByte (ram.filter fun c => decide (a ≤ c.1) && decide (c.1 < a + n)) (a + i)

/-- The little-endian word at byte offset a (spec 01, R1, section 1.10). -/
def readWord (ram : List Host.Cell) (a : Nat) : Word := BitVec.ofNat 32 (leNat (readBytes ram a 4))

/-- The cells that bytes at an offset list: those inside the RAM that differ from an unlisted byte. -/
def cellsOf (a : Nat) : List Byte → List Host.Cell
  | [] => []
  | b :: bs =>
    if a < Config.ramSize ∧ b ≠ blankByte then (a, b) :: cellsOf (a + 1) bs else cellsOf (a + 1) bs

/-- Bytes stored at an offset. Every write to the RAM is made by this operation; it keeps the canonical form. -/
def storeBytes (ram : List Host.Cell) (a : Nat) (bs : List Byte) : List Host.Cell :=
  ram.filter (fun c => decide (c.1 < a)) ++ cellsOf a bs ++ ram.filter (fun c => decide (a + bs.length ≤ c.1))

/-- The RAM once undefined contents are fixed: the words given, in order (spec 01, R6). -/
def ramOf (contents : List (BitVec 16 × Word)) : List Host.Cell :=
  contents.foldl (fun ram p => storeBytes ram (4 * p.1.toNat) (leBytes 4 p.2.toNat)) []

/-- The word at a byte offset. -/
def State.peek (s : State) (a : Nat) : Word := readWord s.ram a

/-- Bytes written by the part. -/
def State.store (s : State) (a : Nat) (bs : List Byte) : State := { s with ram := storeBytes s.ram a bs }

/-- One word written, whole (R1). -/
def State.poke (s : State) (a : Nat) (w : Word) : State := s.store a (leBytes 4 w.toNat)

/-- Words written one after another, each whole before the next (R1). One command writes them all, so no host access falls
between the words of a lane entry, a step result or a list entry (DESIGN CHOICE, log entry 10). -/
def State.pokeAll (s : State) (a : Nat) (ws : List Word) : State :=
  s.store a (ws.flatMap fun w => leBytes 4 w.toNat)

/-! ### The host bus (R1 to R5) -/

/-- The word a host bus read by byte offset finds (R1). It changes nothing; State.busData is what the bus then carries. -/
def State.busRead (s : State) (offset : Nat) : Word :=
  if offset < Config.ramSize then s.peek offset
  else if offset = 0x40000 then Config.ident
  else if offset = 0x40004 then s.controlWord
  else if offset = 0x40008 then s.statusWord
  else if offset = 0x4000C then s.attentionWord
  else if offset = 0x40010 then s.clock.frame
  else 0

/-- The word that the data lines carry for a host bus read; none while the reset pin is low, when no access is served (spec 10,
R191). -/
def State.busData (s : State) (offset : Nat) : Option Word := if s.resetLow then none else some (s.busRead offset)

/-- A host write to a word of the exchange RAM (R1); none is served while the reset pin is low (spec 10, R191). -/
def State.hostWrite (s : State) (offset : Nat) (w : Word) : State :=
  if s.resetLow then s else s.poke offset w

/-- ATTENTION bit i is set; no source sets a bit while the run state is other than RUNNING (R5). -/
def State.attend (s : State) (i : Nat) : State :=
  if s.isRunning then { s with regs.attention := setBit s.regs.attention i } else s

/-! ### Part-written lists (R20) -/

/-- A list has room: written less the taken count the host holds is below the capacity. -/
def listRoom (ram : List Host.Cell) (base capacity : Nat) (l : ListRec) : Bool :=
  decide ((l.written - readWord ram (base + 8)).toNat < capacity)

/-- A record is added to the fault log, or dropped (R20; spec 08, R167). -/
def State.addFault (s : State) (record : List Word) : State :=
  let base := s.cfg.faultLog
  if listRoom s.ram base s.cfg.faultCapacity s.faultLog then
    ((({ s with faultLog.written := s.faultLog.written + 1 }.pokeAll
        (base + 16 + 32 * (s.faultLog.written.toNat % s.cfg.faultCapacity)) record).poke
          (base + 4) (s.faultLog.written + 1)).attend 16)
  else
    { s with faultLog.dropped := s.faultLog.dropped + 1 }.poke (base + 12) (s.faultLog.dropped + 1)

/-- The words of a note entry (section 1.10; spec 04, R81). -/
def noteWords (sender : Fin 4) (frame : Word) (text : List Byte) : List Word :=
  BitVec.ofNat 32 (sender.val + field text.length 8) :: frame :: (List.range 14).map fun i => wordAt text (4 * i)

/-- A note is written into the note list, or dropped (spec 04, R81). -/
def State.addNote (s : State) (sender : Fin 4) (frame : Word) (text : List Byte) : State :=
  let base := s.cfg.noteList
  if listRoom s.ram base s.cfg.noteCapacity s.noteList then
    ((({ s with noteList.written := s.noteList.written + 1 }.pokeAll
        (base + 16 + 64 * (s.noteList.written.toNat % s.cfg.noteCapacity)) (noteWords sender frame text)).poke
          (base + 4) (s.noteList.written + 1)).attend 17)
  else
    { s with noteList.dropped := s.noteList.dropped + 1 }.poke (base + 12) (s.noteList.dropped + 1)

/-- A list's header as written at the start of a run (R20). -/
def State.initList (s : State) (base capacity : Nat) : State :=
  s.pokeAll base [BitVec.ofNat 32 capacity, 0, 0, 0]

/-! ### The fault log writer (spec 08, R167, R168) -/

/-- The kinds of fault record (spec 01, section 1.10). -/
inductive FaultKind where
  | portDark
  | portUp
  | errorStorm
  | quarantine
  | pathLost
  | pathUp
  | originLost
  | originBack
  | clockSource
  | frameJump
  | idConflict
  | lateGain
  | phantomFault
  | loopEnd
  deriving DecidableEq, Repr

/-- The code of a kind of fault record. -/
def FaultKind.code : FaultKind → Nat
  | .portDark => 1
  | .portUp => 2
  | .errorStorm => 3
  | .quarantine => 4
  | .pathLost => 5
  | .pathUp => 6
  | .originLost => 7
  | .originBack => 8
  | .clockSource => 9
  | .frameJump => 10
  | .idConflict => 11
  | .lateGain => 12
  | .phantomFault => 13
  | .loopEnd => 14

/-- The eight words of a fault record, filled in from the state the event left (R167). -/
def State.faultRecord (s : State) (kind : FaultKind) (port : Option Port) (origin neighbour : Option (Fin 4))
    (snapshot : List Word) : List Word :=
  BitVec.ofNat 32
      (kind.code + field (portCode port) 8 + field (idCode origin) 12 + field (idCode neighbour) 16
        + field s.ports.east.state.code 24 + field s.ports.west.state.code 28)
    :: s.clock.frame :: (List.range 6).map fun i => snapshot.getD i 0

/-- A fault record is filled in and handed to the writer. -/
def State.fault (s : State) (kind : FaultKind) (port : Option Port) (origin neighbour : Option (Fin 4))
    (snapshot : List Word) : State :=
  s.addFault (s.faultRecord kind port origin neighbour snapshot)

/-- A count or a number as a snapshot word. -/
def snap (n : Nat) : Word := BitVec.ofNat 32 n

/-- The counters of a port record's snapshot: valid bursts, check failures, flaps, forward drops (R168). -/
def PortRec.counters (r : PortRec) : List Word := [r.valid, r.failures, r.flapCount, r.drops]

/-- The five merge counters of an origin (R168; spec 03, R54). -/
def State.mergeCounters (s : State) (o : Fin 4) : List Word :=
  let r := s.merge.records.get o
  [r.duplicates, r.late, r.window, r.missing, r.overruns]

end Sys2Proof.Machine
end

