-- ==== Sys2Proof/Machine/Maps.lean ====
section
/-!
DEFINITION. The fades of the transmit map and of the delivery map (spec 02, R31 to R35; spec 03, R58 to R63).
-/

namespace Sys2Proof.Machine

/-- No next source, and at full level (spec 02, R33; spec 03, R61). -/
def Fade.steady {σ : Type} (f : Fade σ) : Bool := f.next.isNone && f.gain == Config.fadeSteps

/-- One frame of a map entry: the fade out falls by one step and switches at 0, the fade in rises by one (R32). An entry that
has just switched, with gain 0, and has been given another source switches at this step with gain 0 (DESIGN CHOICE, log entry
37). -/
def Fade.step {σ : Type} (f : Fade σ) : Fade σ :=
  match f.next with
  | some n => if f.gain ≤ 1 then { current := n, next := none, gain := 0 } else { f with gain := f.gain - 1 }
  | none => if f.gain < Config.fadeSteps then { f with gain := f.gain + 1 } else f

/-- A new source reaches an entry (R33): the entry, and whether a fade began or was redirected. -/
def Fade.change {σ : Type} [DecidableEq σ] (f : Fade σ) (source : σ) : Fade σ × Bool :=
  match f.next with
  | some n =>
    if source = n then (f, false)
    else if source = f.current then ({ f with next := none }, true)
    else ({ f with next := some source }, true)
  | none => if source = f.current then (f, false) else ({ f with next := some source }, true)

/-- Entries applied to a map in payload order (R34, R62): the map, and how many began or redirected a fade. -/
def changeAll {σ : Type} [DecidableEq σ] (map : Bank 64 (Fade σ)) :
    List (Fin 64 × σ) → Bank 64 (Fade σ) × Nat
  | [] => (map, 0)
  | (i, source) :: rest =>
    let changed := (map.get i).change source
    let after := changeAll (map.set i changed.1) rest
    (after.1, after.2 + bitNat changed.2)

/-- The transmit map at the start of a run (spec 01, R10). -/
def startMap (identity : Bool) (slotCount : Nat) : Bank 64 (Fade SlotSource) :=
  Bank.mapNum (fun i f =>
      match index? 64 i with
      | some n => if identity && decide (i < slotCount) then { current := .localInput n } else f
      | none => f)
    (Vector.replicate 64 ({ current := .silent } : Fade SlotSource))

end Sys2Proof.Machine
end

