-- ==== Sys2Proof/Machine/Bursts.lean ====
section
/-!
DEFINITION. The burst: its check word, its validity, and the forwarded copy (spec 02, R22, R23, R26).
-/

namespace Sys2Proof.Machine

/-- One bit enters the check register, whose polynomial is 0x04C11DB7 (R23). -/
def crcBit (reg : Word) (b : Bool) : Word :=
  if reg.msb != b then (reg <<< 1) ^^^ 0x04C11DB7 else reg <<< 1

/-- One byte enters the check register, least significant bit first (R23). -/
def crcByte (reg : Word) (b : Byte) : Word :=
  (List.range 8).foldl (fun r i => crcBit r (b.getLsbD i)) reg

/-- The check word of a run of bytes: from 0xFFFFFFFF, bit-reversed and inverted (R23). -/
def crc32 (bs : List Byte) : Word := ~~~ (bs.foldl crcByte 0xFFFFFFFF).reverse

/-- A service byte as it enters the check word: its data bits, then a byte that is its mark (R23). -/
def serviceCrcBytes (b : ServiceByte) : List Byte := [b.setWidth 8, BitVec.ofNat 8 (b.toNat / 256)]

/-- The origin byte (R22). -/
def originByte (origin : Fin 4) (hop : Nat) : Byte := BitVec.ofNat 8 (origin.val + 4 * hop)

end Sys2Proof.Machine

namespace Sys2Proof

open Sys2Proof.Machine

/-- The bytes the check word covers, in the order they are sent (R22, R23). -/
def Burst.bytes (b : Burst) : List Byte :=
  b.head :: leBytes 2 b.mark.toNat ++ leBytes 4 b.frame.toNat ++ [b.slotCount, b.talkSlot]
    ++ leBytes 4 b.summary.toNat ++ (b.slots.flatMap fun x => leBytes 3 x.toNat) ++ b.service.flatMap serviceCrcBytes

/-- The origin id of a burst (R22). -/
def Burst.origin (b : Burst) : Fin 4 := (b.head.extractLsb' 0 2).toFin

/-- The hop count of a burst (R22). -/
def Burst.hop (b : Burst) : Nat := (b.head.extractLsb' 2 2).toNat

/-- The burst with its check word computed (R23). -/
def Burst.sealed (b : Burst) : Burst := { b with check := crc32 b.bytes }

/-- A received burst is valid (R23). -/
def Burst.valid (b : Burst) (whole : Bool) : Bool :=
  whole && b.slots.length == b.slotCount.toNat && b.service.length == 8 && decide (b.slotCount.toNat ≤ 64)
    && (b.talkSlot == 255 || decide (b.talkSlot.toNat < b.slotCount.toNat)) && decide (b.check = crc32 b.bytes)

/-- The forwarded copy: the hop count raised by 1, the check word recomputed (R26). -/
def Burst.forwarded (b : Burst) : Burst := { b with head := originByte b.origin (b.hop + 1) }.sealed

/-- What the merge unit stores of a burst (spec 03, R44, R47). -/
def Burst.stored (b : Burst) : StoredFrame :=
  { frame := b.frame, slotCount := b.slotCount.toNat,
    talkSlot := if b.talkSlot = 255 then none else some b.talkSlot.toNat,
    slots := b.slots, service := b.service, played := false }

end Sys2Proof
end

