-- ==== Sys2Proof/Machine/Merging.lean ====
section
/-!
DEFINITION. Merge records: arrivals, playout and concealment (spec 03, R44 to R57).
-/

namespace Sys2Proof.Machine

/-- The cell of a frame number: the number modulo 64 (R44). -/
def cellOf (frame : Word) : Fin 64 := (frame.extractLsb' 0 6).toFin

/-- A frame stored in its cell, with the played mark clear (R48). -/
def MergeRec.put (r : MergeRec) (f : StoredFrame) : MergeRec :=
  { r with cells := r.cells.set (cellOf f.frame) (some { f with played := false }) }

/-- An arrival classified against the playout point and its cell, and stored or discarded (R48). A stored frame that differs
from the arrival by exactly 2^31 is taken as an earlier one (DESIGN CHOICE, log entry 38). -/
def MergeRec.arrive (r : MergeRec) (point : Word) (f : StoredFrame) : MergeRec :=
  if earlier f.frame point then { r with late := r.late + 1 }
  else if 64 ≤ (f.frame - point).toNat then { r with window := r.window + 1 }
  else match r.cells.get (cellOf f.frame) with
    | none => r.put f
    | some g =>
      if g.frame = f.frame then { r with duplicates := r.duplicates + 1 }
      else if later g.frame f.frame then { r with late := r.late + 1 }
      else if g.played then r.put f
      else { r.put f with overruns := r.overruns + 1 }

/-- The stored frame that is present at the playout of frame p (R49). -/
def MergeRec.present? (r : MergeRec) (p : Word) : Option StoredFrame :=
  match r.cells.get (cellOf p) with
  | some f => if f.frame = p ∧ f.played = false then some f else none
  | none => none

/-- The level, in steps of 480, at which a present frame is played, and the state after (R50). -/
def Conceal.onPresent : Conceal → Nat × Conceal
  | .playing => (480, .playing)
  | .holding _ => (480, .playing)
  | .fading _ => (1, .fadingIn 1)
  | .silent => (1, .fadingIn 1)
  | .fadingIn k => if k + 1 < Config.concealSteps then (k + 1, .fadingIn (k + 1)) else (480, .playing)

/-- The level, in steps of 480, at which a missing frame plays the last samples, and the state after (R51). -/
def Conceal.onMissing : Conceal → Nat × Conceal
  | .playing => (480, .holding 1)
  | .fadingIn _ => (480, .holding 1)
  | .holding c => if c < Config.holdPlayouts then (480, .holding (c + 1)) else (479, .fading 1)
  | .fading k => if k < Config.concealSteps then (480 - k - 1, .fading (k + 1)) else (0, .silent)
  | .silent => (0, .silent)

/-- The 64 samples of a frame at a level; slots at or above the slot count yield 0 (R50, R52). -/
def frameSlots (slots : List Sample) (slotCount level : Nat) : Bank 64 Sample :=
  Bank.mapNum (fun i _ => if i < slotCount then scaleSample (slots.getD i 0) level Config.concealSteps else 0)
    (Vector.replicate 64 (0 : Sample))

/-- The playout of a present frame (R50, R52). -/
def MergeRec.playPresent (r : MergeRec) (f : StoredFrame) : MergeRec × PlayedFrame :=
  let lvl := r.conceal.onPresent
  let slots := frameSlots f.slots f.slotCount lvl.1
  ({ r with cells := r.cells.set (cellOf f.frame) (some { f with played := true }), last := slots,
            lastCount := f.slotCount, lastTalk := f.talkSlot, conceal := lvl.2 },
   { present := true, slots := slots, slotCount := f.slotCount, talkSlot := f.talkSlot, service := f.service })

/-- The concealment of a missing frame (R51, R52). -/
def MergeRec.playMissing (r : MergeRec) : MergeRec × PlayedFrame :=
  let lvl := r.conceal.onMissing
  ({ r with conceal := lvl.2, missing := if r.conceal = .silent then r.missing else r.missing + 1 },
   { present := false, slots := frameSlots r.last.toList r.lastCount lvl.1, slotCount := r.lastCount,
     talkSlot := r.lastTalk, service := [] })

/-- The playout of frame p for one origin (R49). -/
def MergeRec.play (r : MergeRec) (p : Word) : MergeRec × PlayedFrame :=
  match r.present? p with
  | some f => r.playPresent f
  | none => r.playMissing

/-- Every cell of the record's queue emptied; everything else kept (R56). -/
def MergeRec.clearCells (r : MergeRec) : MergeRec := { r with cells := Vector.replicate 64 none }

/-- An arrival of an origin's frame at the merge unit (R47, R48). -/
def Merge.arrive (m : Merge) (o : Fin 4) (f : StoredFrame) : Merge :=
  { m with records := Bank.update m.records o fun r => r.arrive m.point f }

/-- A frame jump at the merge unit: the queues are emptied, and the playout point follows the new counter (R56). -/
def Merge.jump (m : Merge) (frame : Word) : Merge :=
  { m with records := Bank.mapAll MergeRec.clearCells m.records,
           point := minusFrames frame m.delay + BitVec.ofNat 32 (bitNat m.playedNow) }

/-- What a slot of an origin yields at a playout (R52). -/
def slotOf (frames : Bank 4 PlayedFrame) (o : Fin 4) (slot : Fin 64) : Sample := (frames.get o).slots.get slot

end Sys2Proof.Machine
end

