-- ==== Sys2Proof/Machine/Lanes.lean ====
section
/-!
DEFINITION. The lane engine: lane entries, the beginning of a step, GATHER joins, the end of a step (spec 01, R11 to R16).
-/

namespace Sys2Proof.Machine

/-! ### Lane contexts and entries (R11) -/

/-- The context of a lane. -/
def State.lane (s : State) (l : Fin 16) : Lane := s.lanes.get l

/-- The offset of a lane's entry. -/
def State.entry (s : State) (l : Fin 16) : Nat := s.cfg.laneTable + 32 * l.val

/-- The status word of an entry or of a step header. -/
def resultWord (status : Status) (detail : Nat) : Word := BitVec.ofNat 32 (status.code + field detail 16)

/-- The part-written words 4 to 7 of a lane entry. -/
def Lane.words (x : Lane) : List Word :=
  [x.done, BitVec.ofNat 32 x.state.code, BitVec.ofNat 32 x.current, resultWord x.lastStatus x.lastDetail]

/-- Words written where they differ from what they were. -/
def State.pokeChanged (s : State) (a : Nat) : List Word → List Word → State
  | o :: os, n :: ns => (if o = n then s else s.poke a n).pokeChanged (a + 4) os ns
  | _, _ => s

/-- A lane context is replaced, and the entry words that change are written (R11). -/
def State.setLane (s : State) (l : Fin 16) (x : Lane) : State :=
  { s with lanes := s.lanes.set l x }.pokeChanged (s.entry l + 16) (s.lane l).words x.words

/-! ### Step headers (section 1.10) -/

/-- The fields of a step header. -/
structure Header where
  link : Nat
  kind : Nat
  notify : Bool
  gather : Bool
  haltOnError : Bool
  target : Nat
  param : BitVec 16
  length : Nat
  payload : Nat
  deriving DecidableEq, Repr

/-- The header of the step at an address. -/
def State.header (s : State) (a : Nat) : Header :=
  let w1 := s.peek (a + 4)
  let w2 := s.peek (a + 8)
  { link := (s.peek a).toNat, kind := w1.toNat % 256, notify := w1.getLsbD 8, gather := w1.getLsbD 9,
    haltOnError := w1.getLsbD 10, target := (w1.toNat / 2 ^ 16) % 16, param := w2.setWidth 16,
    length := w2.toNat / 2 ^ 16, payload := (s.peek (a + 12)).toNat }

/-- A faulty step address (R13, detail 5). -/
def linkBad (a : Nat) : Bool := a % 4 != 0 || decide (a < Config.anchorSize) || decide (Config.ramSize < a + 32)

/-- The kinds whose target field is used, and the targets each allows (section 1.9). -/
def targetBad (kind target : Nat) : Bool :=
  if kind = 5 then decide (3 < target) && target != 15
  else if 10 ≤ kind ∧ kind ≤ 13 then decide (3 < target)
  else false

/-- The payload bytes a kind requires (R13, R19; spec 05, R103; spec 06, R125, R126; spec 07, R149; spec 08, R169; spec 09,
R179). -/
def lengthNeeded (kind : Nat) : Nat :=
  match kind with
  | 2 => 8
  | 7 => 16
  | 8 => 16
  | 13 => 16
  | 14 => 512
  | 16 => 4
  | 19 => 28
  | 20 => 24
  | _ => 0

/-- The lane-level fault of a header: bad kind, bad payload, bad target (R13). MARK reads no payload (R18). -/
def Header.fault (h : Header) : Option Nat :=
  if h.kind = 0 ∨ 20 < h.kind then some 1
  else if h.kind ≠ 1 ∧ h.length ≠ 0 ∧ (h.payload < Config.anchorSize ∨ Config.ramSize < h.payload + h.length) then some 2
  else if targetBad h.kind h.target then some 4
  else none

/-! ### Joins (R15) -/

/-- A step joined after the others; notify, halt, param and target are the first step's (R15). -/
def Join.add (j : Join) (ram : List Host.Cell) (a : Nat) (h : Header) : Join :=
  let reads := h.kind != 1 && h.length != 0
  let j' : Join := if j.steps.isEmpty then
      { kind := h.kind, notify := h.notify, haltOnError := h.haltOnError, param := h.param, target := h.target }
    else j
  { j' with
    steps := j'.steps ++ [a]
    segments := if reads then j'.segments ++ [(h.payload, h.length)] else j'.segments
    payload := if reads then j'.payload ++ readBytes ram h.payload h.length else j'.payload }

/-- The last step of a join. -/
def Join.last (j : Join) : Nat := j.steps.getLast?.getD 0

/-- The first step of a join. -/
def Join.first (j : Join) : Nat := j.steps.head?.getD 0

/-- The RAM offset of byte i of a joined payload. -/
def segmentAddress : List (Nat × Nat) → Nat → Nat
  | [], i => i
  | (a, n) :: rest, i => if i < n then a + i else segmentAddress rest (i - n)

/-- The RAM offset of byte i of a join's payload. -/
def Join.address (j : Join) (i : Nat) : Nat := segmentAddress j.segments i

/-- Bytes of a joined payload written where they lie. -/
def State.storeJoined (s : State) (j : Join) (at_ : Nat) (bs : List Byte) : State :=
  (bs.mapIdx fun i b => (i, b)).foldl (fun st k => st.store (j.address (at_ + k.1)) [k.2]) s

/-- Words of a joined payload written where they lie. -/
def State.storeWords (s : State) (j : Join) (at_ : Nat) (ws : List Word) : State :=
  s.storeJoined j at_ (ws.flatMap fun w => leBytes 4 w.toNat)

/-- How the reading of a step and of the steps it gathers ends. -/
inductive JoinEnd where
  /-- The join is closed. -/
  | ready (join : Join)
  /-- A GATHER step's link is 0. -/
  | gathered (join : Join)
  /-- A joined step is faulty, or a linked step is of another kind (detail 3). -/
  | failed (join : Join) (detail : Nat)
  /-- A link inside the join is a faulty address. -/
  | badLink (join : Join) (address : Nat)
  /-- The links never close the join. -/
  | endless
  deriving DecidableEq, Repr

/-- The join continued at a step (R15). -/
def State.joinFrom (s : State) : Nat → Join → Nat → JoinEnd
  | 0, _, _ => .endless
  | fuel + 1, j, a =>
    let h := s.header a
    if !j.steps.isEmpty && h.kind != j.kind then .failed j 3
    else
      let j' := j.add s.ram a h
      match h.fault with
      | some d => .failed j' d
      | none =>
        if h.gather then
          if h.link = 0 then .gathered j'
          else if linkBad h.link then .badLink j' h.link
          else s.joinFrom fuel j' h.link
        else .ready j'

/-! ### Where a lane goes (R13, R14) -/

/-- The lane halts at a faulty address, with no step finished: the entry shows the address and BAD STEP with detail 5, whatever
it held (R13, detail 5). -/
def State.haltAt (s : State) (l : Fin 16) (a : Nat) : State :=
  let s1 := s.setLane l
    { s.lane l with state := .halted, activity := .none, current := a, lastStatus := .badStep, lastDetail := 5 }
  (s1.pokeAll (s.entry l + 20) [snap LaneState.halted.code, snap a, resultWord .badStep 5]).attend l.val

/-- The step at an address begins: RUNNING and the address are written to the entry, whatever it held, and the frames and the button
changes since it began count from here (R13, R19). -/
def State.beginAt (s : State) (l : Fin 16) (a : Nat) : State :=
  if linkBad a then s.haltAt l a
  else
    (s.setLane l
      { s.lane l with state := .running, activity := .joining {} a, current := a, parked := none, age := 0,
                      firstChange := Vector.replicate 8 none }).pokeAll
      (s.entry l + 20) [snap LaneState.running.code, snap a]

/-- The post count of a lane's entry (R12). -/
def State.postCount (s : State) (l : Fin 16) : Word := s.peek (s.entry l + 4)

/-- The lane parks on a finished step, reads the post count at once, and re-reads the link if it has changed (R14). -/
def State.park (s : State) (l : Fin 16) (a : Nat) : State :=
  let s1 := s.setLane l { s.lane l with state := .parked, activity := .none, parked := some a }
  if s1.postCount l = (s1.lane l).lastSeen then s1
  else
    let s2 := s1.setLane l { s1.lane l with lastSeen := s1.postCount l }
    if s2.peek a = 0 then s2 else s2.beginAt l (s2.peek a).toNat

/-- After a step's end the lane follows the link of a step, or parks on it (R14). -/
def State.follow (s : State) (l : Fin 16) (a : Nat) : State :=
  if s.peek a = 0 then s.park l a else s.beginAt l (s.peek a).toNat

/-! ### The end of a step (R14) -/

/-- The status is OK or PARTIAL. -/
def Status.good (st : Status) : Bool := st == .ok || st == .partly

/-- Result fields and end frame of the steps of a join, in link order (R14, R15). Each step gets the count of the whole operation
(DESIGN CHOICE, log entry 69). -/
def State.writeResults (s : State) (status : Status) (detail : Nat) (count : Word) : List Nat → State
  | [] => s
  | a :: rest =>
    (s.pokeAll (a + 16) [resultWord status detail, count, s.clock.frame]).writeResults status detail count rest

/-- A join's steps are finished as R14 gives, up to the decision where the lane goes next: results, done count, last
status, ATTENTION. The done count and the last status are written whatever the entry held. -/
def State.closeJoin (s : State) (l : Fin 16) (j : Join) (status : Status) (detail : Nat) (count : Word) : State :=
  let s1 := s.writeResults status detail count j.steps
  let x := s1.lane l
  let n := x.done + BitVec.ofNat 32 j.steps.length
  let s2 := (s1.setLane l { x with done := n }).poke (s1.entry l + 16) n
  let s3 := (s2.setLane l { s2.lane l with lastStatus := status, lastDetail := detail, held := none, want := none }).poke
    (s1.entry l + 28) (resultWord status detail)
  if j.notify || !status.good then s3.attend l.val else s3

/-- A join's steps finish and the lane halts, follows the link, or parks (R14). -/
def State.finish (s : State) (l : Fin 16) (j : Join) (status : Status) (detail : Nat) (count : Word) : State :=
  let s1 := s.closeJoin l j status detail count
  if !status.good && j.haltOnError then
    s1.setLane l { s1.lane l with state := .halted, activity := .none }
  else s1.follow l j.last

/-- A cancelled join finishes and the lane becomes IDLE; it neither halts nor follows the link (R16). The entry's current step
address stays that of the cancelled step (DESIGN CHOICE, log entry 65). -/
def State.finishCancelled (s : State) (l : Fin 16) (j : Join) (count : Word) : State :=
  let s1 := s.closeJoin l j .cancelled 0 count
  s1.setLane l { s1.lane l with state := .idle, activity := .none, parked := none }

/-- The step a lane has in progress ends at its block (R13, R14). -/
def State.endStep (s : State) (l : Fin 16) (status : Status) (detail : Nat) (count : Word) : State :=
  match (s.lane l).activity with
  | .working j _ => s.finish l j status detail count
  | _ => s

/-- The lane's step is in progress at its block. -/
def State.setOp (s : State) (l : Fin 16) (j : Join) (op : Op) : State :=
  s.setLane l { s.lane l with activity := .working j op }

/-- The operation of a lane's step in progress. -/
def State.op? (s : State) (l : Fin 16) : Option Op :=
  match (s.lane l).activity with
  | .working _ op => some op
  | _ => none

/-- The join of a lane's step in progress. -/
def State.join (s : State) (l : Fin 16) : Join :=
  match (s.lane l).activity with
  | .working j _ => j
  | .joining j _ => j
  | .gathered j => j
  | .none => {}

/-- The operation in progress replaced by its next state. -/
def State.putOp (s : State) (l : Fin 16) (op : Op) : State :=
  match (s.lane l).activity with
  | .working j _ => s.setLane l { s.lane l with activity := .working j op }
  | _ => s

/-- The result count of a step that ends before its block takes it: the frames passed for a WAIT (R19), 0 for the other kinds (log
entry 11). -/
def State.brokenCount (s : State) (l : Fin 16) (j : Join) : Word := if j.kind = 2 then snap (s.lane l).age else 0

/-- The longest run of links the engine follows before a join counts as never closing: one step per word of the RAM. -/
def joinFuel : Nat := 65536

/-- The kind of the step a lane has begun, or of the join it is to continue. -/
def State.begunKind? (s : State) (l : Fin 16) : Option Nat :=
  match (s.lane l).activity with
  | .joining j a => some (if j.steps.isEmpty then (s.header a).kind else j.kind)
  | _ => none

/-- A lane's begun step of a kind is read, joined and checked, and handed to its block (R13, R15). It has no effect on a
lane that has begun no step of that kind. A join parked and continued counts its frames from the beginning of its first step (R19;
DEDUCED, log entry 53). The header's checks, the target among them, come before the length the kind requires,
which is that of the joined payload (DEDUCED, log entry 24). A park inside a GATHER does not read the post count: a post made
before it is met at the next scan (DESIGN CHOICE, log entry 42). -/
def State.startStep (s : State) (l : Fin 16) (kind : Nat) (act : Join → State → State) : State :=
  match (s.lane l).activity with
  | .joining j a =>
    if s.begunKind? l = some kind then
      match s.joinFrom joinFuel j a with
      | .ready j' =>
        if j'.payload.length < lengthNeeded kind then s.finish l j' .badStep 2 (s.brokenCount l j') else act j' s
      | .gathered j' =>
        s.setLane l { s.lane l with state := .parked, activity := .gathered j', parked := some j'.last }
      | .failed j' d => s.finish l j' .badStep d (s.brokenCount l j')
      | .badLink j' a' => (s.closeJoin l j' .badStep 5 (s.brokenCount l j')).haltAt l a'
      | .endless => s
    else s
  | _ => s

end Sys2Proof.Machine
end

