-- ==== Sys2Proof/Machine/Streams.lean ====
section
/-!
DEFINITION. Messages on the ring: their bytes, the receive assemblers, the transmit queues as a burst is filled, and the
room lists (spec 04, R64 to R76).
-/

namespace Sys2Proof.Machine

/-! ### Message kinds (R66) -/

/-- The class of a message kind. -/
def kindClass (kind : Nat) : QueueClass :=
  if kind = 2 ∨ kind = 7 ∨ kind = 10 ∨ kind = 12 ∨ kind = 13 ∨ kind = 14 then .urgent else .normal

/-- The fixed body length of a kind; none for MIX SENDS and NOTE. -/
def kindLength (kind : Nat) : Option Nat :=
  match kind with
  | 1 => some 7
  | 2 => some 15
  | 3 => some 5
  | 4 => some 11
  | 5 => some 11
  | 6 => some 20
  | 7 => some 6
  | 9 => some 11
  | 10 => some 16
  | 11 => some 6
  | 12 => some 6
  | 13 => some 6
  | 14 => some 14
  | 15 => some 8
  | 16 => some 5
  | _ => none

/-- A body length fits its kind (R70). -/
def lengthFits (kind length : Nat) : Bool :=
  match kindLength kind with
  | some n => length == n
  | none =>
    if kind = 8 then decide (4 ≤ length) && decide (length ≤ 52) && length % 4 == 0
    else kind == 17 && decide (length ≤ 56)

/-- A completed message is usable at this terminal (R70). -/
def usable (isStage : Bool) (origin : Fin 4) (kind length : Nat) : Bool :=
  decide (1 ≤ kind) && decide (kind ≤ 17) && lengthFits kind length
    && (isStage || !(kind == 1 || kind == 4 || kind == 5))
    && (decide (origin = 0) || !(kind == 2 || kind == 6))

/-! ### Sending (R65, R72, R74) -/

/-- The 8-bit sum of bytes. -/
def sumBytes (bs : List Byte) : Byte := bs.foldl (· + ·) 0

/-- The bytes of a message, in the order they are placed (R65). -/
def Message.bytes (m : Message) : List ServiceByte :=
  let inner : List Byte := BitVec.ofNat 8 m.kind :: BitVec.ofNat 8 m.body.length :: m.body
  BitVec.ofNat 9 (256 + m.dest + (if kindClass m.kind = .urgent then 16 else 0))
    :: (inner ++ [-(sumBytes inner)]).map fun b => b.setWidth 9

/-- What the filling of a burst tells: a message's last byte was placed, or a message was discarded at the head. -/
inductive ServiceEvent where
  | sent (message : Message)
  | discarded (message : Message)
  deriving DecidableEq, Repr

/-- The messages discarded at the head of a queue, the message that passes, and the rest (R74). -/
def takeHead (reach : List Nat) : List Message → List Message × Option Message × List Message
  | [] => ([], none, [])
  | m :: ms =>
    if m.dest = 15 ∨ m.dest ∈ reach then ([], some m, ms)
    else
      let rest := takeHead reach ms
      (m :: rest.1, rest.2.1, rest.2.2)

/-- The next byte of a message that has bytes to place. -/
def Service.placeByte (v : Service) (bytes : List ServiceByte) (m : Message) :
    Service × ServiceByte × List ServiceEvent :=
  match bytes with
  | [] => ({ v with current := none }, 0, [])
  | [b] => ({ v with current := none, sent := v.sent + 1 }, b, [.sent m])
  | b :: rest => ({ v with current := some { rest := rest, message := m } }, b, [])

/-- One service byte position is filled (R72). `reach` lists the reachable terminals. -/
def Service.fillOne (v : Service) (reach : List Nat) : Service × ServiceByte × List ServiceEvent :=
  match v.current with
  | some c => v.placeByte c.rest c.message
  | none =>
    let u := takeHead reach v.urgent
    let v1 := { v with urgent := u.2.2, discards := v.discards + BitVec.ofNat 32 u.1.length }
    match u.2.1 with
    | some m =>
      let placed := v1.placeByte m.bytes m
      (placed.1, placed.2.1, u.1.map .discarded ++ placed.2.2)
    | none =>
      let n := takeHead reach v1.normal
      let v2 := { v1 with normal := n.2.2, discards := v1.discards + BitVec.ofNat 32 n.1.length }
      match n.2.1 with
      | some m =>
        let placed := v2.placeByte m.bytes m
        (placed.1, placed.2.1, u.1.map .discarded ++ n.1.map .discarded ++ placed.2.2)
      | none => (v2, 0, u.1.map .discarded ++ n.1.map .discarded)

/-- The service byte positions of a burst, filled in order (R72). -/
def Service.fill (v : Service) (reach : List Nat) : Nat → Service × List ServiceByte × List ServiceEvent
  | 0 => (v, [], [])
  | n + 1 =>
    let one := v.fillOne reach
    let rest := one.1.fill reach n
    (rest.1, one.2.1 :: rest.2.1, one.2.2 ++ rest.2.2)

/-! ### Receiving (R64, R68, R69) -/

/-- What a stream gives an assembler. -/
inductive StreamItem where
  | byte (b : ServiceByte)
  | gap
  deriving DecidableEq, Repr

/-- What an assembler reports of an item. -/
inductive AssemblerReport where
  | none
  | framing
  | complete (kind : Nat) (body : List Byte)
  deriving DecidableEq, Repr

/-- A byte with mark 1, taken as an address byte from HUNT (R68). -/
def Assembler.address (id : Nat) (b : ServiceByte) : Assembler :=
  let dest := b.toNat % 16
  if dest = id ∨ dest = 15 then { state := .kind, dest := dest } else {}

/-- A byte with mark 0 (R68). -/
def Assembler.data (a : Assembler) (b : Byte) : Assembler × AssemblerReport :=
  match a.state with
  | .hunt => (a, .none)
  | .kind => ({ a with state := .length, kind := b, sum := b }, .none)
  | .length =>
    if 60 < b.toNat then ({}, .framing)
    else ({ a with state := if b = 0 then .check else .body, length := b.toNat, sum := a.sum + b }, .none)
  | .body =>
    ({ a with state := if a.got.length + 1 < a.length then .body else .check, got := a.got ++ [b], sum := a.sum + b },
     .none)
  | .check => if a.sum + b = 0 then ({}, .complete a.kind.toNat a.got) else ({}, .framing)

/-- An item of the stream taken by an assembler of terminal `id` (R68, R69). -/
def Assembler.take (a : Assembler) (id : Nat) : StreamItem → Assembler × AssemblerReport
  | .byte b =>
    if b.getLsbD 8 then
      (Assembler.address id b, if a.state = .hunt then .none else .framing)
    else a.data (b.setWidth 8)
  | .gap => if a.state = .hunt then (a, .none) else ({}, .framing)

/-- Items taken in order: the assembler, how many framing errors, and the messages completed. -/
def Assembler.takeAll (a : Assembler) (id : Nat) : List StreamItem → Assembler × Nat × List (Nat × List Byte)
  | [] => (a, 0, [])
  | i :: rest =>
    let one := a.take id i
    let more := one.1.takeAll id rest
    match one.2 with
    | .none => more
    | .framing => (more.1, more.2.1 + 1, more.2.2)
    | .complete k b => (more.1, more.2.1, (k, b) :: more.2.2)

/-- What the playout of frame p gives an origin's stream (R64). -/
def streamItems (last : Option Word) (p : Word) (f : PlayedFrame) : List StreamItem :=
  if f.present then
    (match last with
     | some l => if p = l + 1 then [] else [.gap]
     | none => []) ++ f.service.map .byte
  else [.gap]

/-! ### Queues and room lists (R71, R73) -/

/-- The queue of a class. -/
def Service.queue (v : Service) : QueueClass → List Message
  | .urgent => v.urgent
  | .normal => v.normal

/-- The room list of a class. -/
def Service.room (v : Service) : QueueClass → List Held
  | .urgent => v.urgentRoom
  | .normal => v.normalRoom

/-- The queue has room (R71). -/
def Service.hasRoom (v : Service) (q : QueueClass) : Bool := decide ((v.queue q).length < Config.queueRoom)

/-- A producer may place a message: the queue has room and no producer waits for it (R71). -/
def Service.mayPlace (v : Service) (q : QueueClass) : Bool := v.hasRoom q && (v.room q).isEmpty

/-- A message placed at the tail of the queue of its class (R71). -/
def Service.enqueue (v : Service) (m : Message) : Service :=
  match kindClass m.kind with
  | .urgent => { v with urgent := v.urgent ++ [m] }
  | .normal => { v with normal := v.normal ++ [m] }

/-- A room list replaced. -/
def Service.setRoom (v : Service) (q : QueueClass) (xs : List Held) : Service :=
  match q with
  | .urgent => { v with urgentRoom := xs }
  | .normal => { v with normalRoom := xs }

/-- A producer held in a room list, in which it appears at most once (R73). -/
def Service.hold (v : Service) (q : QueueClass) (h : Held) : Service :=
  if h ∈ v.room q then v else v.setRoom q (v.room q ++ [h])

/-- A producer that leaves both room lists (R73). -/
def Service.unhold (v : Service) (h : Held) : Service :=
  { v with urgentRoom := without h v.urgentRoom, normalRoom := without h v.normalRoom }

/-- A reply is queued, kept in the reply hold, or dropped (R75). -/
def Service.reply (v : Service) (m : Message) : Service :=
  let q := kindClass m.kind
  if v.mayPlace q then v.enqueue m
  else if v.replies.length < Config.replyRoom then
    { v.setRoom q (v.room q ++ [.reply]) with replies := v.replies ++ [m] }
  else { v with replyDrops := v.replyDrops + 1 }

/-- A reply queued: whether it will be sent is decided by `reply`; it is dropped only with the hold full (R75). -/
def Service.keepsReply (v : Service) (m : Message) : Bool :=
  v.mayPlace (kindClass m.kind) || decide (v.replies.length < Config.replyRoom)

/-- The messages of a step leave the queues and the message in progress loses its producer, as at a cancel (R77, R80). -/
def Service.withdraw (v : Service) (mine : Message → Bool) : Service :=
  { v with
    urgent := v.urgent.filter fun m => !mine m
    normal := v.normal.filter fun m => !mine m
    current := v.current.map fun c =>
      if mine c.message then { c with message := { c.message with producer := .block } } else c }

end Sys2Proof.Machine
end

