-- ==== Sys2Proof/Machine/Requests.lean ====
section
/-!
DEFINITION. Producers at the service unit: placing or holding messages, request tags, and the pending request table
(spec 01, R17; spec 04, R67, R71, R73, R76).
-/

namespace Sys2Proof.Machine

/-- A lane context changed in fields its entry does not show. -/
def State.modLane (s : State) (l : Fin 16) (f : Lane → Lane) : State := { s with lanes := Bank.update s.lanes l f }

/-! ### Tags (spec 04, R67) -/

/-- The bytes of a tag. -/
def tagBytes (t : Tag) : List Byte := [t.requester, t.lane, t.seq]

/-- The tag of no request: its other two bytes are ignored (R67) and sent as 0 (DESIGN CHOICE, log entry 43). -/
def noTag : Tag := { requester := 255, lane := 0, seq := 0 }

/-- The tag of a request of this terminal. -/
def State.tag (s : State) (l : Fin 16) (seq : Byte) : Tag :=
  { requester := BitVec.ofNat 8 s.cfg.id.val, lane := BitVec.ofNat 8 l.val, seq := seq }

/-- The tag in three bytes of a body. -/
def tagAt (bs : List Byte) (i : Nat) : Tag :=
  { requester := byteAt bs i, lane := byteAt bs (i + 1), seq := byteAt bs (i + 2) }

/-! ### Placing messages (spec 04, R71, R73) -/

/-- A producer that has messages to send places as many as it may and is held for the next one. `wants` says that it has a
message, `send` places one. A producer that no longer has a message to send leaves the room list. -/
def pump (q : QueueClass) (h : Held) (wants : State → Bool) (send : State → State) : Nat → State → State
  | 0, s => s
  | n + 1, s =>
    if wants s then
      if s.svc.mayPlace q then pump q h wants send n (send s) else { s with svc := s.svc.hold q h }
    else { s with svc := s.svc.setRoom q (without h (s.svc.room q)) }

/-- A message placed in its queue. -/
def State.enqueue (s : State) (m : Message) : State := { s with svc := s.svc.enqueue m }

/-- A reply given to the service unit (R75). -/
def State.reply (s : State) (m : Message) : State := { s with svc := s.svc.reply m }

/-- A step's message is placed, or held for room with the step RUNNING (R73). -/
def State.submit (s : State) (l : Fin 16) (m : Message) : State :=
  let q := kindClass m.kind
  if s.svc.mayPlace q then s.enqueue m
  else { s.modLane l (fun x => { x with held := some m }) with svc := s.svc.hold q (.lane l) }

/-- A lane's step has a message held for room. -/
def State.isHeld (s : State) (l : Fin 16) : Bool := (s.lane l).held.isSome

/-! ### Requests (spec 01, R17; spec 04, R76) -/

/-- A request is given: the sequence is raised, an entry is made, and the tagged message is placed or held. -/
def State.give (s : State) (l : Fin 16) (w : Want) : State :=
  let number := (s.lane l).given + 1
  let s1 := s.modLane l fun x => { x with given := number, want := none }
  let s2 : State := { s1 with svc.requests := s1.svc.requests ++
    [{ lane := l, number := number, target := w.target, kind := w.kind, state := .queued }] }
  s2.submit l { kind := w.kind, dest := w.target.val, body := tagBytes (s.tag l (BitVec.ofNat 8 number)) ++ w.body,
                producer := .request l number }

/-- A free entry of the pending request table may be taken by a step that is not held for one (R76). -/
def State.entryFree (s : State) : Bool :=
  decide (s.svc.requests.length < Config.requestRoom) && s.svc.entryWait.isEmpty

/-- A step gives a request, or is held until an entry is free (R76). -/
def State.request (s : State) (l : Fin 16) (w : Want) : State :=
  if s.entryFree then s.give l w
  else { s.modLane l (fun x => { x with want := some w }) with svc.entryWait := s.svc.entryWait ++ [l] }

/-- A remote step sends its request, or ends UNREACHABLE at once (R17). -/
def State.remoteRequest (s : State) (l : Fin 16) (w : Want) : State :=
  if s.reachable w.target then s.request l w else s.endStep l .unreachable 0 0

/-- The entry of a lane's request, by its number. -/
def State.entryOf (s : State) (l : Fin 16) (number : Nat) : Option Request :=
  s.svc.requests.find? fun r => decide (r.lane = l ∧ r.number = number)

/-- The entry of a lane's request freed; the lane's other requests stand, those with the same sequence too (R76). -/
def State.freeEntry (s : State) (l : Fin 16) (number : Nat) : State :=
  { s with svc.requests := s.svc.requests.filter fun r => !decide (r.lane = l ∧ r.number = number) }

/-- The kinds that answer a request (R76). -/
def answers (request answer : Nat) : Bool :=
  match request with
  | 1 => answer == 2 || answer == 3
  | 4 => answer == 6
  | 5 => answer == 6
  | 8 => answer == 11
  | 9 => answer == 11
  | 10 => answer == 11
  | 15 => answer == 16
  | _ => false

/-- The WAITING entry a taken message answers: its tag is this terminal's, its lane and sequence match, and its kind answers
the entry's kind (R67, R76); the oldest, where a sequence that has wrapped stands in two WAITING entries that it could answer
(DESIGN CHOICE, log entry 55). -/
def State.answered? (s : State) (t : Tag) (kind : Nat) : Option Request :=
  if t.requester.toNat = s.cfg.id.val then
    s.svc.requests.find? fun r =>
      decide (r.lane.val = t.lane.toNat ∧ r.seq = t.seq ∧ r.state ≠ .queued) && answers r.kind kind
  else none

/-- A step waits on nothing at the service unit any more: its message, its request entries and its place in the lists are
withdrawn (R73, R77, R80). -/
def State.withdraw (s : State) (l : Fin 16) : State :=
  let mine : Message → Bool := fun m =>
    match m.producer with
    | .request k _ => decide (k = l)
    | .note k => decide (k = l)
    | _ => false
  let v := (s.svc.withdraw mine).unhold (.lane l)
  { s.modLane l (fun x => { x with held := none, want := none }) with
    svc := { v with requests := v.requests.filter fun r => !decide (r.lane = l), entryWait := without l v.entryWait } }

end Sys2Proof.Machine
end

