-- ==== Sys2Proof/Machine/Gaining.lean ====
section
/-!
DEFINITION. The gain unit: the stage's input table, a desk's mirror, ownership, switches and phantom power, tracking tables
and compensation, SET INPUT outcomes (spec 05; the preamp word schedule of spec 10, R187).
-/

namespace Sys2Proof.Machine

/-! ### Effective gain and compensation (R82, R95 to R97) -/

/-- E = gain less 20 while the pad is on (R82). -/
def Setting.effective (x : Setting) : Int := (x.gain : Int) - if x.pad then 20 else 0

/-- The setting of an input as this terminal's table or mirror holds it. -/
def State.setting (s : State) (n : Fin 64) : Setting :=
  if s.isStage then (s.gain.table.get n).setting else (s.gain.mirror.get n).setting

/-- The compensation in dB of a reference at an E (R96). -/
def compOf (reference : Option Int) (e : Int) : Int :=
  match reference with
  | none => 0
  | some r => clampInt (-40) 20 (r - e)

/-- The clamp of R96 acts. -/
def limitedOf (reference : Option Int) (e : Int) : Bool :=
  match reference with
  | none => false
  | some r => decide (r - e < -40) || decide (20 < r - e)

/-- The coefficient an entry moves to (R96). -/
def targetOf (reference : Option Int) (e : Int) : Nat := gainCoeff (compOf reference e)

/-- A change of E: K at once, any ramp abandoned (R97). -/
def TrackEntry.onGain (t : TrackEntry) (e : Int) : TrackEntry :=
  { t with k := targetOf t.reference e, ramp := none, limited := limitedOf t.reference e }

/-- A reference applied (R97): at once where E changes at the same playout, by a new ramp otherwise; a reference equal to
the one held starts no ramp. -/
def TrackEntry.onReference (t : TrackEntry) (switched : Bool) (e : Int) (reference : Option Int) : TrackEntry :=
  if reference = t.reference then { t with scheduled := none }
  else if switched then
    { t with reference := reference, scheduled := none, k := targetOf reference e, ramp := none,
             limited := limitedOf reference e }
  else { t with reference := reference, scheduled := none, ramp := some (t.k, 0), limited := limitedOf reference e }

/-- A ramp advanced by one step (R97). -/
def TrackEntry.advance (t : TrackEntry) (e : Int) : TrackEntry :=
  match t.ramp with
  | none => t
  | some (old, step) =>
    let goal := targetOf t.reference e
    if Config.rampSteps ≤ step + 1 then { t with k := goal, ramp := none }
    else { t with k := ((old : Int) + truncDiv (((goal : Int) - old) * ((step + 1 : Nat) : Int)) Config.rampSteps).toNat,
                  ramp := some (old, step + 1) }

/-- A tracking table entry. -/
def State.track (s : State) (u : Fin 4) (n : Fin 64) : TrackEntry := (s.gain.tracking.get u).get n

/-- A tracking table entry, changed. -/
def State.modTrack (s : State) (u : Fin 4) (n : Fin 64) (f : TrackEntry → TrackEntry) : State :=
  { s with gain.tracking := Bank.update s.gain.tracking u fun table => Bank.update table n f }

/-- Every table's entry for an input follows its new E, which is noted for the playout about to be made (R97). -/
def State.gainMoved (s : State) (n : Fin 64) : State :=
  { s with gain.tracking := Bank.mapAll (fun table => Bank.update table n fun t => t.onGain (s.setting n).effective)
                              s.gain.tracking,
           gain.switched := n :: s.gain.switched }

/-- A table entry, changed. -/
def State.modInput (s : State) (n : Fin 64) (f : InputEntry → InputEntry) : State :=
  { s with gain.table := Bank.update s.gain.table n f }

/-- A mirror entry, changed. -/
def State.modMirror (s : State) (n : Fin 64) (f : MirrorEntry → MirrorEntry) : State :=
  { s with gain.mirror := Bank.update s.gain.mirror n f }

/-- The frame number of the playout of the present local frame (spec 03, R45). -/
def State.playoutFrame (s : State) : Word := minusFrames s.clock.frame s.merge.delay

/-- A switch frame falls due at the playout about to be made in this frame: the playout is still to be made, and the frame
is not later than the playout's. -/
def State.dueNow (s : State) (switch : Word) : Bool := !s.merge.playedNow && !later switch s.playoutFrame

/-- The sample of a local input in this frame, 0 while the stage mutes it for its phantom supply (R92; spec 10, R186). -/
def State.localInput (s : State) (n : Fin 64) : Sample :=
  let muted :=
    s.isStage && (match (s.gain.table.get n).mute with
      | some (first, last) => decide ((s.clock.frame - first).toNat < (last - first).toNat)
      | none => false)
  if muted then 0 else s.conv.tdmIn.get n

/-! ### SET INPUT outcomes (R102) -/

/-- The outcome an entry has ended with. -/
def InputStep.ended? (e : InputStep) : Option Status :=
  match e.state with
  | .ended st => some st
  | _ => none

/-- Outcome bytes written for the entries that have just ended (R101, R102). -/
def State.writeOutcomes (s : State) : List InputStep → List InputStep → State
  | o :: os, n :: ns =>
    (match o.ended?, n.ended? with
     | none, some st => s.store n.outcome [BitVec.ofNat 8 st.code]
     | _, _ => s).writeOutcomes os ns
  | _, _ => s

/-- The status a SET INPUT step ends with (R102). -/
def inputsStatus (es : List InputStep) : Status :=
  if es.all fun e => e.ended? == some .ok then .ok
  else if es.any fun e => e.ended? == some .ok then .partly
  else match es with
    | e :: _ => e.ended?.getD .ok
    | [] => .ok

/-- The number of OK entries (R102). -/
def inputsOk (es : List InputStep) : Nat := (es.filter fun e => e.ended? == some .ok).length

/-- The entries of a lane's SET INPUT step change; the step ends when every entry has an outcome (R102). -/
def State.settleEntries (s : State) (l : Fin 16) (f : Nat → InputStep → InputStep) : State :=
  match s.op? l with
  | some (.setInput es) =>
    let es' := es.mapIdx f
    let s1 := (s.writeOutcomes es es').putOp l (.setInput es')
    if es'.all fun e => e.ended?.isSome then s1.endStep l (inputsStatus es') 0 (BitVec.ofNat 32 (inputsOk es')) else s1
  | _ => s

/-- The entries of every lane's SET INPUT step change. -/
def State.settleAllEntries (s : State) (f : InputStep → InputStep) : State :=
  (indices 16).foldl (fun st l => st.settleEntries l fun _ e => f e) s

/-- An entry ends with a status. -/
def InputStep.endWith (e : InputStep) (st : Status) : InputStep := { e with state := .ended st }

/-- The entry of a lane's step that waits for the answer to a request ends (R102). -/
def State.endRequested (s : State) (l : Fin 16) (number : Nat) (st : Status) : State :=
  s.settleEntries l fun _ e => if e.state = .requested number then e.endWith st else e

/-- An entry of a stage lane ends (R89, R101). -/
def State.endEntry (s : State) (l : Fin 16) (index : Nat) (st : Status) : State :=
  s.settleEntries l fun i e => if i = index ∧ e.ended?.isNone then e.endWith st else e

/-- A desk's entries that wait for a switch of an input at a frame end OK (R102). -/
def State.endSwitched (s : State) (n : Fin 64) (switch : Word) : State :=
  s.settleAllEntries fun e =>
    match e.state with
    | .switching _ f => if e.input = n ∧ f = switch then e.endWith .ok else e
    | _ => e

/-! ### Messages of the gain unit (spec 04, R66) -/

/-- The owner byte of an announcement. -/
def ownerByte : Option (Fin 4) → Byte
  | some o => BitVec.ofNat 8 o.val
  | none => 255

/-- The state byte of an announcement. -/
def InputState.code : InputState → Nat
  | .normal => 0
  | .phantomMute => 1
  | .phantomFault => 2

/-- A GAIN ANNOUNCE to all. -/
def announceMessage (n : Fin 64) (x : Setting) (owner : Option (Fin 4)) (st : InputState) (orphaned : Bool)
    (switch : Word) (tag : Tag) (refresh : Bool) : Message :=
  { kind := 2, dest := 15,
    body := [BitVec.ofNat 8 n.val, BitVec.ofNat 8 x.gain, BitVec.ofNat 8 (bitNat x.pad), BitVec.ofNat 8 (bitNat x.phantom),
             ownerByte owner, BitVec.ofNat 8 st.code, BitVec.ofNat 8 (bitNat orphaned)]
            ++ leBytes 4 switch.toNat ++ tagBytes tag ++ [BitVec.ofNat 8 (bitNat refresh)] }

/-- An OWNER ANNOUNCE to all. -/
def ownerMessage (inputs : BitVec 64) (owner : Byte) (tag : Tag) (result : BitVec 64) : Message :=
  { kind := 6, dest := 15,
    body := leBytes 8 inputs.toNat ++ [owner] ++ tagBytes tag ++ leBytes 8 result.toNat }

/-- The request tag an announcement of a change carries: none for a change a stage lane asked for. -/
def Requester.tag : Requester → Tag
  | .remote _ t => t
  | .lane _ _ => noTag
  | .forgotten => noTag

/-- The terminal that asked for a change. -/
def Requester.id : Requester → Fin 4
  | .remote q _ => q
  | .lane _ _ => 0
  | .forgotten => 0

/-- A request refused: GAIN REFUSED to a desk, the outcome itself to a stage lane's entry (R89, R91). -/
def State.refuse (s : State) (r : Requester) (n : Fin 64) (st : Status) : State :=
  match r with
  | .remote q t =>
    s.reply { kind := 3, dest := q.val, body := tagBytes t ++ [BitVec.ofNat 8 n.val, BitVec.ofNat 8 st.code] }
  | .lane l i => s.endEntry l i st
  | .forgotten => s

/-- A requester, once the step of a lane is forgotten. -/
def Requester.forget (l : Fin 16) : Requester → Requester
  | .lane k i => if k = l then .forgotten else .lane k i
  | r => r

/-- The changes a cancelled stage step asked for go on without it (R102). -/
def State.forgetLane (s : State) (l : Fin 16) : State :=
  { s with gain.table := Bank.mapAll (fun e : InputEntry =>
      { e with pending := e.pending.map (fun c => { c with requester := c.requester.forget l }),
               waiting := e.waiting.map fun w => { w with requester := w.requester.forget l } }) s.gain.table }

/-! ### The preamp word schedule (spec 10, R187) -/

/-- A word added after the words already due at or before its frame. -/
def addWord (schedule : List PreampWord) (w : PreampWord) : List PreampWord :=
  schedule.takeWhile (fun x => !later x.due w.due) ++ [w] ++ schedule.dropWhile fun x => !later x.due w.due

/-- The 16 bits of a preamp word, with odd parity (spec 10, section 10.4). -/
def PreampWord.bits (w : PreampWord) : BitVec 16 :=
  let v : BitVec 16 := BitVec.ofNat 16 (field w.input.val 10 + field w.setting.gain 4 + field (bitNat w.setting.pad) 3
    + field (bitNat w.setting.phantom) 2)
  if popCount v % 2 = 0 then v ||| 1 else v

/-! ### The stage's changes (R89 to R91) -/

/-- The state a pending change will bring (R90). -/
def stateBrought (c : PendingChange) (e : InputEntry) : InputState :=
  if c.keepsFault then .phantomFault
  else if c.setting.phantom = e.setting.phantom then .normal
  else .phantomMute

/-- An input's pending change is not yet announced. -/
def State.unannounced (s : State) (n : Fin 64) : Bool :=
  match (s.gain.table.get n).pending with
  | some c => c.switch.isNone
  | none => false

/-- The mute window of an announced change whose phantom differs (R92). -/
def muteWindow (old : Option (Word × Word)) (f : Word) : Option (Word × Word) :=
  match old with
  | some (first, _) => some (first, plusFrames f Config.phantomMute)
  | none => some (f, plusFrames f Config.phantomMute)

/-- A pending change is announced: the switch frame is set, the announcement queued, the preamp word scheduled (R90, R92). -/
def State.announce (s : State) (n : Fin 64) : State :=
  let e := s.gain.table.get n
  match e.pending with
  | none => s
  | some c =>
    let f := plusFrames s.clock.frame (s.merge.delay + s.cfg.latency + Config.switchLead)
    let mutes := decide (c.setting.phantom ≠ e.setting.phantom)
    let s1 := s.modInput n fun x =>
      { x with pending := some { c with switch := some f }, mute := if mutes then muteWindow x.mute f else x.mute }
    let s2 := s1.enqueue (announceMessage n c.setting e.owner (stateBrought c e) e.orphaned f c.requester.tag false)
    let word : PreampWord := { due := minusFrames f s.cfg.latency, input := n, setting := c.setting }
    { s2 with conv.schedule := addWord s2.conv.schedule word }

/-- A pending change is announced, or held for room in the urgent queue (R90, R73). -/
def State.pumpPending (s : State) (n : Fin 64) : State :=
  pump .urgent (.pendingGain n) (fun st => st.unannounced n) (fun st => st.announce n) 2 s

/-- A request for a change is taken at the stage: refused, pending, or waiting (R89). -/
def State.takeGain (s : State) (n : Fin 64) (x : Setting) (r : Requester) : State :=
  let e := s.gain.table.get n
  if e.owner ≠ some r.id then s.refuse r n .notOwner
  else match e.pending with
    | none =>
      (s.modInput n fun y =>
        { y with pending := some { setting := x, requester := r, switch := none, keepsFault := false } }).pumpPending n
    | some _ =>
      let s1 := s.modInput n fun y => { y with waiting := some { setting := x, requester := r, keepsFault := false } }
      match e.waiting with
      | some w => s1.refuse w.requester n .superseded
      | none => s1

/-- The state of an input after its pending change is applied (R91 to R93). -/
def stateAfter (c : PendingChange) (e : InputEntry) : InputState :=
  if c.keepsFault then .phantomFault
  else if c.setting.phantom ≠ e.setting.phantom then .phantomMute
  else if e.state = .phantomMute then .phantomMute
  else .normal

/-- The entry of a stage lane whose change is applied ends OK (R102). -/
def State.endApplied (s : State) : Requester → State
  | .lane l i => s.endEntry l i .ok
  | .remote _ _ => s
  | .forgotten => s

/-- The waiting change is promoted, or refused where the owner has changed (R91). -/
def State.promote (s : State) (n : Fin 64) : State :=
  let e := s.gain.table.get n
  match e.waiting with
  | none => s
  | some w =>
    let s1 := s.modInput n fun y => { y with waiting := none }
    if e.owner = some w.requester.id then
      (s1.modInput n fun y =>
        { y with pending := some { setting := w.setting, requester := w.requester, switch := none,
                                   keepsFault := w.keepsFault } }).pumpPending n
    else s1.refuse w.requester n .notOwner

/-- The pending change of an input is due at the playout about to be made (R91). -/
def State.pendingDue (s : State) (n : Fin 64) : Bool :=
  match (s.gain.table.get n).pending with
  | some c => match c.switch with
    | some f => s.dueNow f
    | none => false
  | none => false

/-- The pending change is applied at its switch frame, and the waiting change promoted (R91). -/
def State.applyPending (s : State) (n : Fin 64) : State :=
  let e := s.gain.table.get n
  match e.pending with
  | none => s
  | some c =>
    let s1 := s.modInput n fun y => { y with setting := c.setting, state := stateAfter c e, pending := none }
    let s2 := if c.setting.effective = e.setting.effective then s1 else s1.gainMoved n
    (s2.endApplied c.requester).promote n

/-! ### A desk's scheduled changes (R84, R94) -/

/-- The scheduled change of an input is due at the playout about to be made, in its frame or deferred to it (R84). -/
def State.scheduledDue (s : State) (n : Fin 64) : Bool :=
  match (s.gain.mirror.get n).scheduled with
  | some c => !s.merge.playedNow && (c.deferred || s.dueNow c.switch)
  | none => false

/-- A late gain: counted, and handed to the supervisor (R84). -/
def State.lateGain (s : State) (n : Fin 64) (switch : Word) : State :=
  let s1 : State := { s with gain.lateGains := s.gain.lateGains + 1 }
  s1.fault .lateGain none (some 0) none [snap n.val, switch, s1.playoutFrame, s1.gain.lateGains]

/-- A mirror entry with its scheduled change applied (R84, R92). Every change to PHANTOM MUTE sets the mute end, a refresh that
changes no phantom too (DEDUCED, log entry 44). -/
def MirrorEntry.applied (m : MirrorEntry) (c : Scheduled) : MirrorEntry :=
  { m with
    setting := c.setting
    state := if c.state = .normal ∧ m.state = .phantomMute ∧ m.muteEnd.isSome = true then .phantomMute else c.state
    muteEnd := if c.state = .phantomMute then some (plusFrames c.switch Config.phantomMute) else m.muteEnd
    scheduled := none }

/-- The scheduled change is applied; a late application that changes E is counted (R84). -/
def State.applyScheduled (s : State) (n : Fin 64) : State :=
  let m := s.gain.mirror.get n
  match m.scheduled with
  | none => s
  | some c =>
    let moved := decide (c.setting.effective ≠ m.setting.effective)
    let s1 := s.modMirror n fun y => y.applied c
    let s2 := if moved then s1.gainMoved n else s1
    let s3 := if moved && c.deferred && c.counts then s2.lateGain n c.switch else s2
    s3.endSwitched n c.switch

/-- The mute of an input ends at the playout about to be made (R92). -/
def State.muteDue (s : State) (n : Fin 64) : Bool :=
  if s.isStage then
    match (s.gain.table.get n).mute with
    | some (_, last) => s.dueNow last
    | none => false
  else
    match (s.gain.mirror.get n).muteEnd with
    | some last => s.dueNow last
    | none => false

/-- A mute ends: NORMAL again, unless in PHANTOM FAULT (R92). -/
def State.endMute (s : State) (n : Fin 64) : State :=
  if s.isStage then
    s.modInput n fun e => { e with mute := none, state := if e.state = .phantomFault then .phantomFault else .normal }
  else
    s.modMirror n fun m => { m with muteEnd := none, state := if m.state = .phantomFault then .phantomFault else .normal }

/-- After a frame jump or a change of D, at a desk: what the playout point has passed is deferred to the next playout, and a
deferred change counts if it changes E; what it has not passed waits for the playout of its frame (R94). -/
def State.retestSwitches (s : State) (point : Word) : State :=
  if s.isStage then s
  else
    let gainTest : Scheduled → Scheduled := fun c =>
      if earlier c.switch point then { c with deferred := true, counts := true } else { c with deferred := false }
    let refTest : ScheduledRef → ScheduledRef := fun r =>
      { r with deferred := earlier r.switch point }
    let mirror := Bank.mapAll (fun m : MirrorEntry => { m with scheduled := m.scheduled.map gainTest }) s.gain.mirror
    let tables := Bank.mapAll (fun table : Bank 64 TrackEntry =>
      Bank.mapAll (fun t : TrackEntry => { t with scheduled := t.scheduled.map refTest }) table) s.gain.tracking
    { s with gain.mirror := mirror, gain.tracking := tables }

/-! ### References (R98, R99) -/

/-- A reference in a message: 127 untracked (R98). -/
def refByte : Option Int → Byte
  | some r => BitVec.ofInt 8 r
  | none => 127

/-- The reference a message byte stands for (R98). -/
def refOfByte (b : Byte) : Option Int :=
  if b = 127 then none else some (clampInt (-20) 60 (signedByte b))

/-- A reference of this terminal is queued as REFERENCE, and stored as the scheduled reference of its own table (R98). -/
def State.sendReference (s : State) (n : Fin 64) (value : Option Int) : State :=
  let f := plusFrames s.clock.frame (s.merge.delay + Config.switchLead)
  (s.modTrack s.cfg.id n fun t => { t with scheduled := some { value := value, switch := f, deferred := false } }).enqueue
    { kind := 7, dest := 15, body := [BitVec.ofNat 8 n.val, refByte value] ++ leBytes 4 f.toNat }

/-- A scheduled reference is due at the playout about to be made (R98). -/
def State.referenceDue (s : State) (u : Fin 4) (n : Fin 64) : Bool :=
  match (s.track u n).scheduled with
  | some r => !s.merge.playedNow && (r.deferred || s.dueNow r.switch)
  | none => false

/-- A scheduled reference is applied (R97, R98). -/
def State.applyReference (s : State) (u : Fin 4) (n : Fin 64) : State :=
  match (s.track u n).scheduled with
  | none => s
  | some r => s.modTrack u n fun t => t.onReference (decide (n ∈ s.gain.switched)) (s.setting n).effective r.value

/-- The input after a cursor; none after input 63. -/
def nextInput (n : Fin 64) : Option (Fin 64) := index? 64 (n.val + 1)

/-- The reference refresh queues the entry at its cursor (R99). -/
def State.sendRefRefresh (s : State) : State :=
  match s.gain.refCursor with
  | none => s
  | some n =>
    let t := s.track s.cfg.id n
    let value := match t.scheduled with
      | some r => r.value
      | none => t.reference
    { s.sendReference n value with gain.refCursor := nextInput n }

/-- The reference refresh queues what it may (R99). -/
def State.pumpRefRefresh (s : State) : State :=
  pump .urgent .refRefresh (fun st => st.gain.refCursor.isSome) State.sendRefRefresh 65 s

/-- A reference refresh starts, or starts again at input 0 (R99). -/
def State.startRefRefresh (s : State) : State := { s with gain.refCursor := some 0 }.pumpRefRefresh

/-! ### The gain refresh (R88) -/

/-- The gain refresh queues the entry at its cursor (R88). -/
def State.sendGainRefresh (s : State) : State :=
  match s.gain.gainCursor with
  | none => s
  | some n =>
    let e := s.gain.table.get n
    let m := match e.pending with
      | some c => match c.switch with
        | some f => announceMessage n c.setting e.owner (stateBrought c e) e.orphaned f noTag true
        | none => announceMessage n e.setting e.owner e.state e.orphaned s.clock.frame noTag true
      | none => announceMessage n e.setting e.owner e.state e.orphaned s.clock.frame noTag true
    { s.enqueue m with gain.gainCursor := nextInput n }

/-- The gain refresh queues what it may (R88). -/
def State.pumpGainRefresh (s : State) : State :=
  pump .urgent .gainRefresh (fun st => st.gain.gainCursor.isSome) State.sendGainRefresh 65 s

/-- A gain refresh starts, or goes back to input 0 (R88). -/
def State.startGainRefresh (s : State) : State := { s with gain.gainCursor := some 0 }.pumpGainRefresh

/-! ### Fault announcements (R93) -/

/-- An input's held fault announce is queued. -/
def State.sendFaultAnnounce (s : State) (n : Fin 64) : State :=
  match s.gain.heldFaults.get n with
  | none => s
  | some m => { s.enqueue m with gain.heldFaults := s.gain.heldFaults.set n none }

/-- A fault announce is queued, or held (R93). -/
def State.pumpFault (s : State) (n : Fin 64) : State :=
  pump .urgent (.faultAnnounce n) (fun st => (st.gain.heldFaults.get n).isSome) (fun st => st.sendFaultAnnounce n) 2 s

/-- The announcement of a phantom fault, by the pending change (R93). -/
def State.announceFault (s : State) (n : Fin 64) : State :=
  let e := s.gain.table.get n
  let give : Message → State := fun m => { s with gain.heldFaults := s.gain.heldFaults.set n (some m) }.pumpFault n
  match e.pending with
  | none => give (announceMessage n e.setting e.owner .phantomFault e.orphaned s.clock.frame noTag false)
  | some c => match c.switch with
    | some f => give (announceMessage n c.setting e.owner .phantomFault e.orphaned f c.requester.tag false)
    | none => s

/-- A phantom short is acted on (R93, R187). -/
def State.phantomShort (s : State) (n : Fin 64) : State :=
  let last := s.conv.lastWords.get n
  let off : Setting → Setting := fun x => { x with phantom := false }
  let word : PreampWord := { due := s.clock.frame, input := n, setting := off last }
  let kept := s.conv.schedule.map fun w => if w.input = n then { w with setting := off w.setting } else w
  let s1 : State := { s with conv.schedule := word :: kept }
  let s2 := s1.modInput n fun e =>
    { e with setting := off e.setting, state := .phantomFault,
             pending := e.pending.map fun c => { c with setting := off c.setting, keepsFault := true },
             waiting := e.waiting.map fun w => { w with setting := off w.setting, keepsFault := true } }
  (s2.announceFault n).fault .phantomFault none (some 0) none [snap n.val, snap last.gain]

/-! ### Ownership (R85 to R87) -/

/-- The inputs of a set that a test accepts. -/
def inputsWhere (inputs : BitVec 64) (p : Fin 64 → Bool) : BitVec 64 :=
  setOf 64 fun i => inputs.getLsbD i && match index? 64 i with
    | some n => p n
    | none => false

/-- The inputs a CLAIM is granted (R85). -/
def State.granted (s : State) (q : Fin 4) (inputs : BitVec 64) : BitVec 64 :=
  inputsWhere inputs fun n =>
    let e := s.gain.table.get n
    e.owner.isNone || decide (e.owner = some q) || e.orphaned

/-- The inputs a RELEASE releases (R86). -/
def State.released (s : State) (q : Fin 4) (inputs : BitVec 64) : BitVec 64 :=
  inputsWhere inputs fun n => decide ((s.gain.table.get n).owner = some q)

/-- The table entries of a set take an owner, with orphaned clear (R85, R86). -/
def State.setOwners (s : State) (inputs : BitVec 64) (owner : Option (Fin 4)) : State :=
  let table := Bank.mapNum (fun i (e : InputEntry) =>
    if inputs.getLsbD i then { e with owner := owner, orphaned := false } else e) s.gain.table
  { s with gain.table := table }

/-- A CLAIM acts on the table (R85); an empty one starts a gain refresh once it is answered. -/
def State.claimTable (s : State) (q : Fin 4) (inputs : BitVec 64) : State := s.setOwners (s.granted q inputs) (some q)

/-- A RELEASE acts on the table (R86). -/
def State.releaseTable (s : State) (q : Fin 4) (inputs : BitVec 64) : State := s.setOwners (s.released q inputs) none

/-- A desk origin's reachability changes at the stage: its inputs are orphaned or cleared, and an OWNER ANNOUNCE tells it
(R87). -/
def State.orphan (s : State) (t : Fin 4) (lost : Bool) : State :=
  let changed := setOf 64 fun i => match index? 64 i with
    | some n => decide ((s.gain.table.get n).owner = some t) && (s.gain.table.get n).orphaned != lost
    | none => false
  if changed = 0 then s
  else
    let table := Bank.mapNum (fun i (e : InputEntry) =>
      if changed.getLsbD i then { e with orphaned := lost } else e) s.gain.table
    { s with gain.table := table }.reply
      (ownerMessage changed (BitVec.ofNat 8 (t.val + if lost then 4 else 0)) noTag changed)

/-- The mirror goes stale: every fresh mark is cleared (R83). -/
def State.mirrorStale (s : State) : State :=
  { s with gain.stale := true, gain.mirror := Bank.mapAll (fun m : MirrorEntry => { m with fresh := false }) s.gain.mirror }

/-- The gain unit's part in a change of reachability of another origin (spec 08, R161). The gain refresh (R88) starts before
the reference refresh (R99): DESIGN CHOICE, log entry 45. -/
def State.gainReach (s : State) (o : Fin 4) (up : Bool) : State :=
  let s1 := if s.isStage then
      let a := s.orphan o (!up)
      if up then a.startGainRefresh else a
    else if !up && decide (o = 0) then s.mirrorStale
    else s
  if up then s1.startRefRefresh else s1

/-- The input owners a desk takes from an OWNER ANNOUNCE; none where the owner byte is no owner (R87). -/
def announcedOwner (b : Byte) : Option (Option (Fin 4) × Bool) :=
  if b = 255 then some (none, false)
  else if b.toNat ≤ 3 then some (index? 4 b.toNat, false)
  else if b.toNat ≤ 7 then some (index? 4 (b.toNat - 4), true)
  else none

end Sys2Proof.Machine
end

