-- ==== Sys2Proof/Machine/Mixing.lean ====
section
/-!
DEFINITION. The mix engine: sends and their pool, staged scenes, crossfades, the frame computation, controllers, cue requests
and the parts of remote mix steps (spec 06).
-/

namespace Sys2Proof.Machine

/-! ### Mix records and the pool (R105, R108) -/

/-- The mix record of a mix. -/
def State.mixRec (s : State) (m : Fin 32) : Mix := s.mix.mixes.get m

/-- A mix record, changed. -/
def State.modMix (s : State) (m : Fin 32) (f : Mix → Mix) : State :=
  { s with mix.mixes := Bank.update s.mix.mixes m f }

/-- The live entries that are not fading out. -/
def Mix.steadySends (x : Mix) : Nat := (x.sends.filter fun e => !e.fading).length

/-- The live entries that are fading out. -/
def Mix.fadingSends (x : Mix) : Nat := (x.sends.filter fun e => e.fading).length

/-- The staged entries. -/
def Mix.stagedSends (x : Mix) : Nat :=
  match x.staged with
  | some c => c.sends.length
  | none => 0

/-- Pool entries in use: live, staged and fading (R108). -/
def MixEngine.poolUsed (v : MixEngine) : Nat :=
  v.mixes.toList.foldl (fun acc x => acc + x.sends.length + x.stagedSends) 0

/-- The pool has a free entry. -/
def State.poolFree (s : State) : Bool := decide (s.mix.poolUsed < Config.poolSize)

/-! ### Send entry records (R110) -/

/-- A send entry record. -/
structure SendRecord where
  mixByte : Nat
  source : Byte
  code : Nat
  remove : Bool
  deriving DecidableEq, Repr

/-- The fields of a send entry record's word. -/
def sendRecord (w : Word) : SendRecord :=
  { mixByte := w.toNat % 256, source := w.extractLsb' 8 8, code := storeCode ((w.toNat / 2 ^ 16) % 1024),
    remove := w.getLsbD 31 }

/-- The mix of a send record. -/
def SendRecord.mix? (r : SendRecord) : Option (Fin 32) := index? 32 r.mixByte

/-- The mix of a master entry. -/
def SendRecord.master? (r : SendRecord) : Option (Fin 32) := if 128 ≤ r.mixByte then index? 32 (r.mixByte - 128) else none

/-- An entry placed in the order of the sources. -/
def insertSend (e : Send) : List Send → List Send
  | [] => [e]
  | x :: xs => if e.source.toNat < x.source.toNat then e :: x :: xs else x :: insertSend e xs

/-- A send moved to a level code over a length. -/
def Send.moveTo (e : Send) (code length : Nat) (fading : Bool) : Send :=
  { e with code := code, fading := fading, level := e.level.retarget (levelCoeff code) length }

/-- The entry of a source changed. -/
def Mix.modSend (x : Mix) (source : Byte) (f : Send → Send) : Mix :=
  { x with sends := x.sends.map fun e => if e.source = source then f e else e }

/-- A send entry record applied to a live list (R110): the mix, and whether the record was applied; the other answer is NO
ROOM. -/
def Mix.applySend (x : Mix) (poolFree : Bool) (source : Byte) (code : Nat) (remove : Bool) : Mix × Bool :=
  match x.sends.find? fun e => decide (e.source = source) with
  | none =>
    if remove then (x, true)
    else if decide (x.steadySends < Config.mixSends) && poolFree then
      let fresh : Send := { source := source, code := code, level := { value := 0 } }
      ({ x with sends := insertSend (fresh.moveTo code Config.rampSteps false) x.sends }, true)
    else (x, false)
  | some e =>
    if e.fading then
      if remove then (x, true)
      else if x.steadySends < Config.mixSends then
        (x.modSend source fun y => y.moveTo code Config.rampSteps false, true)
      else (x, false)
    else if remove then (x.modSend source fun y => y.moveTo 0 Config.rampSteps true, true)
    else (x.modSend source fun y => y.moveTo code Config.rampSteps false, true)

/-- Counts of applied and refused records or mixes, with the reason of the first refusal (R120). -/
structure MixAnswer where
  applied : Nat := 0
  refused : Nat := 0
  reason : Nat := 0
  deriving DecidableEq, Repr

/-- The reasons of R120. -/
def reasonNotController : Nat := 1
/-- NO ROOM. -/
def reasonNoRoom : Nat := 2
/-- BAD FIELD. -/
def reasonBadField : Nat := 3
/-- NOT READY. -/
def reasonNotReady : Nat := 4
/-- NO STAGING. -/
def reasonNoStaging : Nat := 5
/-- SUPERSEDED. -/
def reasonSuperseded : Nat := 6

/-- One record or mix applied. -/
def MixAnswer.apply (a : MixAnswer) : MixAnswer := { a with applied := a.applied + 1 }

/-- Records or mixes refused for a reason. -/
def MixAnswer.refuse (a : MixAnswer) (n reason : Nat) : MixAnswer :=
  if n = 0 then a
  else { a with refused := a.refused + n, reason := if a.reason = 0 then reason else a.reason }

/-- The result count of a mix step (R123). Of a count beyond 65,535 its half shows the low 16 bits (DESIGN CHOICE, log entry 70). -/
def MixAnswer.count (a : MixAnswer) : Word := BitVec.ofNat 32 (a.applied % 2 ^ 16 + field a.refused 16)

/-- A record applied to its mix by R110. -/
def State.applySend (s : State) (m : Fin 32) (r : SendRecord) : State × Bool :=
  let done := (s.mixRec m).applySend s.poolFree r.source r.code r.remove
  (s.modMix m fun _ => done.1, done.2)

/-- Records applied to live lists in order; `sender` is the terminal whose rights are tested, none for a local step (R110,
R114, R120, R123). -/
def State.applySends (s : State) (sender : Option (Fin 4)) (a : MixAnswer) : List SendRecord → State × MixAnswer
  | [] => (s, a)
  | r :: rest =>
    match r.mix? with
    | none => s.applySends sender (a.refuse 1 reasonBadField) rest
    | some m =>
      if sender.isSome && sender != some (s.mixRec m).controller then
        s.applySends sender (a.refuse 1 reasonNotController) rest
      else
        let one := s.applySend m r
        one.1.applySends sender (if one.2 then a.apply else a.refuse 1 reasonNoRoom) rest

/-! ### Scenes (R116 to R118) -/

/-- A staged entry placed in the order of the sources, or a level code replaced. -/
def stageInsert (source : Byte) (code : Nat) : List (Byte × Nat) → List (Byte × Nat)
  | [] => [(source, code)]
  | (b, c) :: rest =>
    if source = b then (b, code) :: rest
    else if source.toNat < b.toNat then (source, code) :: (b, c) :: rest
    else (b, c) :: stageInsert source code rest

/-- A mix without its staged scene. -/
def Mix.unstage (x : Mix) : Mix := { x with staged := none }

/-- Send records staged for a mix, in order (R117). -/
def State.stageRecords (s : State) (m : Fin 32) (a : MixAnswer) : List SendRecord → State × MixAnswer
  | [] => (s, a)
  | r :: rest =>
    match (s.mixRec m).staged with
    | none => (s, a)
    | some scene =>
      if r.mixByte ≠ m.val then s.stageRecords m (a.refuse 1 reasonBadField) rest
      else if scene.sends.any (fun e => e.1 == r.source)
          || (decide (scene.sends.length < Config.mixSends) && s.poolFree) then
        let added : Scene := { scene with sends := stageInsert r.source r.code scene.sends }
        (s.modMix m fun x => { x with staged := some added }).stageRecords m a.apply rest
      else s.stageRecords m (a.refuse 1 reasonNoRoom) rest

/-- The end of a part that has begun or continued a staging: discarded on a refusal, complete after the last part (R117). -/
def State.closeStaging (s : State) (m : Fin 32) (last : Bool) (a : MixAnswer) : State × MixAnswer :=
  if a.refused ≠ 0 then (s.modMix m Mix.unstage, a)
  else if last then
    (s.modMix m fun x => { x with staged := x.staged.map fun scene => { scene with complete := true } }, a)
  else (s, a)

/-- A MIX SENDS with its staged flag set (R117). A first record that names neither a master entry nor a mix has every record
refused BAD FIELD (DESIGN CHOICE, log entry 28). A master entry and records staged beside a refused record count as applied
(DEDUCED, log entry 54). -/
def State.takeStaged (s : State) (sender : Fin 4) (last : Bool) (records : List SendRecord) : State × MixAnswer :=
  let all := records.length
  match records with
  | [] => (s, { reason := reasonNoStaging })
  | first :: rest =>
    match first.master?, first.mix? with
    | some m, _ =>
      if (s.mixRec m).controller ≠ sender then (s, ({} : MixAnswer).refuse all reasonNotController)
      else
        let scene : Scene := { sends := [], master := first.code, complete := false, source := sender }
        let staged := (s.modMix m fun x => { x with staged := some scene }).stageRecords m ({} : MixAnswer).apply rest
        staged.1.closeStaging m last staged.2
    | none, some m =>
      if (s.mixRec m).controller ≠ sender then (s, ({} : MixAnswer).refuse all reasonNotController)
      else match (s.mixRec m).staged with
        | none => (s, ({} : MixAnswer).refuse all reasonNoStaging)
        | some scene =>
          if scene.complete || decide (scene.source ≠ sender) then (s, ({} : MixAnswer).refuse all reasonNoStaging)
          else
            let staged := s.stageRecords m {} records
            staged.1.closeStaging m last staged.2
    | none, none => (s, ({} : MixAnswer).refuse all reasonBadField)

/-- A live entry at a crossfade (R118). -/
def Send.cross (scene : List (Byte × Nat)) (fade : Nat) (e : Send) : Send :=
  match scene.find? fun t => t.1 == e.source with
  | some t => e.moveTo t.2 fade false
  | none => e.moveTo 0 fade true

/-- The crossfade of a mix to a staged scene over a fade length (R118). -/
def Mix.crossfade (x : Mix) (scene : Scene) (fade : Nat) : Mix :=
  let moved := scene.sends.filter fun t => !x.sends.any fun e => e.source == t.1
  let fresh : List Send := moved.map fun t =>
    ({ source := t.1, code := t.2, level := { value := 0 } } : Send).moveTo t.2 fade false
  { x with
    sends := fresh.foldl (fun acc e => insertSend e acc) (x.sends.map (Send.cross scene.sends fade))
    masterCode := scene.master
    master := x.master.retarget (levelCoeff scene.master) fade
    staged := none }

/-! ### The frame computation (R107, R109, R111, R112) -/

/-- Every ramp of a mix advanced by one step (R107). -/
def Mix.advance (x : Mix) : Mix :=
  { x with master := x.master.advance, duck := x.duck.advance,
           sends := x.sends.map fun e => { e with level := e.level.advance } }

/-- A fading entry that has come to 0 (R109). -/
def Send.spent (e : Send) : Bool := e.fading && e.level.ramp.isNone && e.level.value == 0

/-- A played sample as a mix takes it: compensated by the controller's tracking table where the origin is 0 (R111). -/
def mixSample (frames : Bank 4 PlayedFrame) (table : Bank 64 TrackEntry) (o : Fin 4) (slot : Fin 64) : Sample :=
  let x := slotOf frames o slot
  if o = 0 then compensate x (table.get slot).k else x

/-- The origin of a source byte. -/
def sourceOrigin (b : Byte) : Fin 4 := (b.extractLsb' 6 2).toFin

/-- The slot of a source byte. -/
def sourceSlot (b : Byte) : Fin 64 := (b.extractLsb' 0 6).toFin

/-- The accumulator (R111): the exact sum of samples times coefficients. -/
def mixSum (frames : Bank 4 PlayedFrame) (table : Bank 64 TrackEntry) (sends : List Send) : Int :=
  sends.foldl (fun acc e =>
    acc + (mixSample frames table (sourceOrigin e.source) (sourceSlot e.source)).toInt * e.level.value) 0

/-- The talk sample of an insert's holder (R112). -/
def talkSample (frames : Bank 4 PlayedFrame) (table : Bank 64 TrackEntry) (talkCode : Nat) : Option Present → Int
  | none => 0
  | some h =>
    match (frames.get h.talker).talkSlot with
    | none => 0
    | some k => match index? 64 k with
      | some slot => round20 ((mixSample frames table h.talker slot).toInt * levelCoeff talkCode)
      | none => 0

/-- The unclamped output of a mix whose ramps have advanced (R111, R112). -/
def Mix.level (x : Mix) (frames : Bank 4 PlayedFrame) (table : Bank 64 TrackEntry) (holder : Option Present) : Int :=
  let y1 := round20 (mixSum frames table x.sends)
  let g := round20 (x.master.value * x.duck.value)
  round20 (y1 * g) + talkSample frames table x.talkCode holder

/-- A value lies outside the 24-bit range. -/
def outside (v : Int) : Bool := decide (v < -8388608) || decide (8388607 < v)

/-- The frame computation of one mix (R111, R112). -/
def Mix.compute (x : Mix) (frames : Bank 4 PlayedFrame) (tables : Bank 4 (Bank 64 TrackEntry))
    (holder : Option Present) : Mix :=
  let y := x.advance
  let kept := y.sends.filter fun e => !e.spent
  if y.active then
    let v := y.level frames (tables.get y.controller) holder
    { y with sends := kept, output := toSample (saturate v), clips := if outside v then min (y.clips + 1) 65535 else y.clips }
  else { y with sends := kept, output := 0 }

/-- The frame computation of every mix. -/
def State.computeMixes (s : State) (frames : Bank 4 PlayedFrame) : State :=
  { s with mix.mixes :=
      Bank.zipAll (fun x (i : Insert) => x.compute frames s.gain.tracking i.holder) s.mix.mixes s.talk.inserts }

/-- The output of a mix of the latest frame computation, 0 while it is inactive (R105, R112): at once, also where it was made
inactive after the computation (R122; DEDUCED, log entry 46). -/
def State.mixOutput (s : State) (m : Fin 32) : Sample := if (s.mixRec m).active then (s.mixRec m).output else 0

/-! ### Controllers (R114, R115) -/

/-- A change of controller by a step of this terminal's host (R114). -/
def State.setController (s : State) (m : Fin 32) (c : Fin 4) : State :=
  s.modMix m fun x =>
    { x with
      controller := c
      lost := !s.reachable c
      staged := match x.staged with
        | some scene =>
          if !scene.complete && decide (scene.source ≠ c) && decide (scene.source ≠ s.cfg.id) then none else x.staged
        | none => none }

/-- A mix at a change of reachability of an origin (R115). -/
def Mix.reach (x : Mix) (o : Fin 4) (up : Bool) : Mix :=
  { x with
    lost := if x.controller = o then !up else x.lost
    staged := match x.staged with
      | some scene => if !up && !scene.complete && decide (scene.source = o) then none else x.staged
      | none => none }

/-- The mix engine's part in a change of reachability (R115). -/
def State.mixReach (s : State) (o : Fin 4) (up : Bool) : State :=
  { s with mix.mixes := Bank.mapAll (fun x => x.reach o up) s.mix.mixes }

/-! ### The status of a mix step (R121) -/

/-- The status and detail from the first nonzero reason. A reason that R120 does not list gives REFUSED (log entry 29). -/
def reasonStatus (reason : Nat) : Status × Nat :=
  if reason = reasonNoRoom then (.noRoom, 0)
  else if reason = reasonBadField then (.badStep, 19)
  else if reason = reasonNotReady ∨ reason = reasonNoStaging then (.notReady, 0)
  else if reason = reasonSuperseded then (.superseded, 0)
  else (.refused, 0)

/-- The status and detail of a mix step: its totals, and the status of a part that ended without an answer (R121). -/
def mixStatus (a : MixAnswer) (unanswered : Option Status) : Status × Nat :=
  match unanswered with
  | some st => if a.applied = 0 then (st, 0) else (.partly, 0)
  | none =>
    if a.refused = 0 then (.ok, 0)
    else if a.applied = 0 then reasonStatus a.reason
    else (.partly, 0)

/-- A mix step ends with its totals (R121, R123, R125). -/
def State.endMixStep (s : State) (l : Fin 16) (a : MixAnswer) (unanswered : Option Status) : State :=
  let st := mixStatus a unanswered
  s.endStep l st.1 st.2 a.count

/-! ### Cue requests (R119, R125) -/

/-- The totals of a cue request record. -/
def CueRequest.answer (r : CueRequest) : MixAnswer := { applied := r.applied, refused := r.refused, reason := r.reason }

/-- A cue request record with other totals. -/
def CueRequest.withAnswer (r : CueRequest) (a : MixAnswer) : CueRequest :=
  { r with applied := a.applied, refused := a.refused, reason := a.reason }

/-- A MIX ACK given as a reply (R120). -/
def State.mixAck (s : State) (asker : Fin 4) (tag : Tag) (a : MixAnswer) : State :=
  s.reply
    { kind := 11, dest := asker.val,
      body := tagBytes tag ++ [BitVec.ofNat 8 a.applied, BitVec.ofNat 8 a.refused, BitVec.ofNat 8 a.reason] }

/-- The free cue request records. -/
def State.freeRecords (s : State) : List (Fin 16) := (indices 16).filter fun r => (s.mix.records.get r).isNone

/-- A free cue request record. -/
def State.freeRecord? (s : State) : Option (Fin 16) := s.freeRecords.head?

/-- A record that a new request may take: a free one, beyond those that the waiting steps are to take (R120, R125; log entry
31). -/
def State.takeRecord? (s : State) : Option (Fin 16) :=
  if s.mix.cueWait.length < s.freeRecords.length then s.freeRecord? else none

/-- A record without an outstanding mix is finished: it is free, and its requester is answered (R119). -/
def State.finishRecord (s : State) (k : Fin 16) : State :=
  match s.mix.records.get k with
  | none => s
  | some r =>
    if r.outstanding ≠ 0 then s
    else
      let s1 : State := { s with mix.records := s.mix.records.set k none }
      match r.requester with
      | .lane l => s1.endMixStep l r.answer none
      | .remote asker tag => s1.mixAck asker tag r.answer
      | .button => s1

/-- A mix of a record is settled: one fewer outstanding, with its totals changed (R119). -/
def State.settleCue (s : State) (k : Fin 16) (f : MixAnswer → MixAnswer) : State :=
  match s.mix.records.get k with
  | none => s
  | some r =>
    let r1 := { r.withAnswer (f r.answer) with outstanding := r.outstanding - 1 }
    { s with mix.records := s.mix.records.set k (some r1) }.finishRecord k

/-- A cue is given to a mix; an older cue is withdrawn (R119). -/
def State.giveCue (s : State) (k : Fin 16) (spec : CueSpec) (m : Fin 32) : State :=
  let s1 := s.modMix m fun x => { x with cue := some { spec := spec, record := k } }
  match (s.mixRec m).cue with
  | none => s1
  | some old => s1.settleCue old.record fun a => a.refuse 1 reasonSuperseded

/-- The mixes of a set, ascending. -/
def mixesOf (set : Word) : List (Fin 32) := (indices 32).filter fun m => set.getLsbD m.val

/-- A cue request takes a record and cues its accepted mixes (R119), withdrawing their older cues in ascending order of mix (DESIGN
CHOICE, log entry 58); `a` counts the mixes already refused. -/
def State.cueMixes (s : State) (k : Fin 16) (who : CueRequester) (spec : CueSpec) (accepted : List (Fin 32))
    (a : MixAnswer) : State :=
  let r : CueRequest :=
    { requester := who, outstanding := accepted.length, applied := a.applied, refused := a.refused, reason := a.reason }
  accepted.foldl (fun st m => st.giveCue k spec m) { s with mix.records := s.mix.records.set k (some r) }

/-- A mix's cue is due at the frame computation about to be made (R119). -/
def State.cueIsDue (s : State) (m : Fin 32) : Bool :=
  match (s.mixRec m).cue with
  | some c => !s.merge.playedNow && (c.spec.now || !later c.spec.frame s.clock.frame)
  | none => false

/-- A due cue: the crossfade begins, or the mix is counted as not ready (R119). -/
def State.takeCue (s : State) (m : Fin 32) : State :=
  match (s.mixRec m).cue with
  | none => s
  | some c =>
    let s1 := s.modMix m fun x => { x with cue := none }
    match (s.mixRec m).staged with
    | some scene =>
      if scene.complete then
        (s1.modMix m fun x => x.crossfade scene c.spec.fade).settleCue c.record MixAnswer.apply
      else s1.settleCue c.record fun a => a.refuse 1 reasonNotReady
    | none => s1.settleCue c.record fun a => a.refuse 1 reasonNotReady

/-- The fade length of a cue as clamped when it is taken (R118). -/
def clampFade (n : Nat) : Nat := clampNat 64 480000 n

/-- The cues of a step's record that have not fallen due are removed, and the record freed (R125). -/
def State.dropRecord (s : State) (k : Fin 16) : State :=
  { s with
    mix.mixes := Bank.mapAll (fun x : Mix =>
      match x.cue with
      | some c => if c.record = k then { x with cue := none } else x
      | none => x) s.mix.mixes
    mix.records := s.mix.records.set k none }

/-! ### Remote mix steps (R121) -/

/-- The totals of a remote mix step. -/
def RemoteMix.answer (r : RemoteMix) : MixAnswer := { applied := r.applied, refused := r.refused, reason := r.reason }

/-- The next part of a lane's remote mix step is given, or the step ends when every part has been answered (R121). -/
def State.nextPart (s : State) (l : Fin 16) : State :=
  match s.op? l with
  | some (.mixRemote r) =>
    match r.todo with
    | [] => s.endMixStep l r.answer none
    | body :: rest =>
      if s.reachable r.target then
        (s.putOp l (.mixRemote { r with todo := rest })).request l { target := r.target, kind := r.kind, body := body }
      else s.endMixStep l r.answer (some .unreachable)
  | _ => s

/-- A part of a lane's remote mix step is answered (R121). -/
def State.partAnswered (s : State) (l : Fin 16) (applied refused reason : Nat) : State :=
  match s.op? l with
  | some (.mixRemote r) =>
    let r1 : RemoteMix :=
      { r with applied := r.applied + applied, refused := r.refused + refused,
               reason := if r.reason = 0 then reason else r.reason,
               todo := if r.staging && refused != 0 then [] else r.todo }
    (s.putOp l (.mixRemote r1)).nextPart l
  | _ => s

/-- A part of a lane's remote mix step ends without an answer (R121). -/
def State.partUnanswered (s : State) (l : Fin 16) (st : Status) : State :=
  match s.op? l with
  | some (.mixRemote r) => s.endMixStep l r.answer (some st)
  | _ => s

/-- A remote mix step begins with its first part (R17, R121). -/
def State.startParts (s : State) (l : Fin 16) (j : Join) (target : Fin 4) (kind : Nat) (staging : Bool)
    (bodies : List (List Byte)) : State :=
  let s1 := s.setOp l j (.mixRemote { target := target, kind := kind, todo := bodies, staging := staging })
  if s.reachable target then s1.nextPart l else s1.endStep l .unreachable 0 0

/-! ### READ MIXES (R126) -/

/-- The 16-byte record of a mix. -/
def Mix.record (x : Mix) : List Word :=
  let staged := x.staged.isSome
  let complete := match x.staged with
    | some c => c.complete
    | none => false
  [ BitVec.ofNat 32 (bitNat x.active + field (bitNat x.lost) 1 + field (bitNat staged) 2 + field (bitNat complete) 3
      + field (bitNat x.cue.isSome) 4 + field x.controller.val 8 + field x.steadySends 16 + field x.stagedSends 24),
    BitVec.ofNat 32 (x.masterCode + field x.duckCode 16),
    BitVec.ofNat 32 (x.talkCode + field x.clips 16),
    BitVec.ofNat 32 x.fadingSends ]

/-- The 8 bytes of a live entry. -/
def Send.record (e : Send) : List Word :=
  [ BitVec.ofNat 32 (e.source.toNat + field e.code 16 + field (bitNat e.fading) 31), BitVec.ofInt 32 e.level.value ]

end Sys2Proof.Machine
end

