-- ==== Sys2Proof/Machine/Talking.lean ====
section
/-!
DEFINITION. The talk unit: inserts and their arbitration, talker records, talk groups and the outbox, buttons and lamps
(spec 07).
-/

namespace Sys2Proof.Machine

/-! ### Talk inserts (R134, R136, R137) -/

/-- A talker's position in an insert: 0 for the holder, 1 to 3 in the waiting list, none when absent (R136). -/
def Insert.position (i : Insert) (t : Fin 4) : Option Nat :=
  if i.holder.map (·.talker) = some t then some 0
  else (i.waiting.findIdx? fun p => decide (p.talker = t)).map (· + 1)

/-- A talker entered before every waiting talker of equal or lower rank (a preempted holder, R136). -/
def enterBefore (p : Present) : List Present → List Present
  | [] => [p]
  | q :: qs => if q.rank ≤ p.rank then p :: q :: qs else q :: enterBefore p qs

/-- A talker entered after every waiting talker of equal or higher rank (a contended one, R136). -/
def enterAfter (p : Present) : List Present → List Present
  | [] => [p]
  | q :: qs => if q.rank < p.rank then p :: q :: qs else q :: enterAfter p qs

/-- A talker is entered into an insert with a rank (R136). -/
def Insert.enter (i : Insert) (t : Fin 4) (rank : Nat) : Insert :=
  if (i.position t).isSome then i
  else match i.holder with
    | none => { i with holder := some ⟨t, rank⟩ }
    | some h =>
      if h.rank < rank then { holder := some ⟨t, rank⟩, waiting := enterBefore h i.waiting }
      else { i with waiting := enterAfter ⟨t, rank⟩ i.waiting }

/-- A talker is removed from an insert (R137). -/
def Insert.leave (i : Insert) (t : Fin 4) : Insert :=
  if i.position t = some 0 then { holder := i.waiting.head?, waiting := i.waiting.tail }
  else { i with waiting := i.waiting.filter fun p => !decide (p.talker = t) }

/-- The insert of a mix. -/
def State.insert (s : State) (m : Fin 32) : Insert := s.talk.inserts.get m

/-- One talker's record of a group. -/
def State.talkerGroup (s : State) (t : Fin 4) (g : Fin 8) : TalkerGroup := (s.talk.talkers.get t).groups.get g

/-- A talker's record of a group, replaced. -/
def State.setTalkerGroup (s : State) (t : Fin 4) (g : Fin 8) (x : TalkerGroup) : State :=
  { s with talk.talkers := Bank.update s.talk.talkers t fun k => { k with groups := k.groups.set g x } }

/-- A talk group. -/
def State.group (s : State) (g : Fin 8) : Group := s.talk.groups.get g

/-- A talk group, changed. -/
def State.modGroup (s : State) (g : Fin 8) (f : Group → Group) : State :=
  { s with talk.groups := Bank.update s.talk.groups g f }

/-- The duck target of a mix: its duck coefficient while its insert has a holder, unity otherwise (R139). -/
def State.duckTarget (s : State) (m : Fin 32) : Nat :=
  if (s.insert m).holder.isSome then levelCoeff (s.mixRec m).duckCode else Config.unity

/-- The duck coefficient follows its target over 256 frames (R113, R139). -/
def State.retargetDuck (s : State) (m : Fin 32) : State :=
  s.modMix m fun x => { x with duck := x.duck.retarget (s.duckTarget m) Config.duckSteps }

/-! ### Groups (R128) -/

/-- A group is open while its opener set is nonempty. -/
def Group.isOpen (x : Group) : Bool := x.lanes || x.buttons != 0

/-- The target terminals of a group, ascending. -/
def Group.terminals (x : Group) : List (Fin 4) := (indices 4).filter fun u => x.targets.any fun t => decide (t.terminal = u)

/-- The mixes a group's targets at a terminal name (R129). -/
def Group.mixSet (x : Group) (u : Fin 4) : Word :=
  setOf 32 fun m => x.targets.any fun t => decide (t.terminal = u) && t.mix.val == m

/-- The targets at a terminal take a state each. -/
def Group.setStates (x : Group) (u : Fin 4) (f : Fin 32 → TargetState) : Group :=
  { x with targets := x.targets.map fun t => if t.terminal = u then { t with state := f t.mix } else t }

/-- A target terminal is marked answered. -/
def Group.answer (x : Group) (u : Fin 4) : Group := { x with answered := setBit x.answered u.val }

/-- A target terminal is marked answered. -/
def Group.isAnswered (x : Group) (u : Fin 4) : Bool := x.answered.getLsbD u.val

/-- An outbox entry changed. -/
def Group.modOutbox (x : Group) (u : Fin 4) (f : OutboxEntry → OutboxEntry) : Group :=
  { x with outbox := Bank.update x.outbox u f }

/-- The gate target: 48 while any group is open (R127). -/
def State.gateTarget (s : State) : Nat :=
  if (indices 8).any fun g => (s.group g).isOpen then Config.fadeSteps else 0

/-! ### Talk states (R132, R138) -/

/-- The mixes of a set for which a test holds. -/
def setWhere (set : Word) (p : Fin 32 → Bool) : Word :=
  setOf 32 fun i => set.getLsbD i && match index? 32 i with
    | some m => p m
    | none => false

/-- The held set of a talker's group (R138). -/
def State.heldSet (s : State) (t : Fin 4) (g : Fin 8) : Word :=
  setWhere (s.talkerGroup t g).requested fun m => (s.insert m).position t == some 0

/-- The waiting set of a talker's group (R138). -/
def State.waitingSet (s : State) (t : Fin 4) (g : Fin 8) : Word :=
  setWhere (s.talkerGroup t g).requested fun m => match (s.insert m).position t with
    | some k => k != 0
    | none => false

/-- The state a target takes from three mix sets (R132). A mix in several sets takes the first that holds it (DEDUCED, log
entry 47). -/
def stateIn (held waiting : Word) (m : Fin 32) : TargetState :=
  if held.getLsbD m.val then .held else if waiting.getLsbD m.val then .waiting else .lost

/-- A lane's TALK step ends when its group's target terminals have answered, or when the group has closed (R151). -/
def State.endTalkStep (s : State) (l : Fin 16) : State :=
  match s.op? l with
  | some (.talkOpen g) =>
    let x := s.group g
    let heldCount := (x.targets.filter fun t => t.state == .held).length
    if !x.isOpen then s.endStep l .partly 0 (snap heldCount)
    else if x.terminals.all fun u => x.isAnswered u then
      s.endStep l (if heldCount = x.targets.length then .ok else .partly) 0 (snap heldCount)
    else s
  | _ => s

/-- The TALK steps that have what they wait for end, in ascending order of lane (DESIGN CHOICE, log entry 74). -/
def State.endTalkSteps (s : State) : State := (indices 16).foldl State.endTalkStep s

/-- The talk state of this terminal's own talker record is applied to the group (R132, R138). -/
def State.applyOwn (s : State) (g : Fin 8) : State :=
  let x := s.group g
  let u := s.cfg.id
  if x.isOpen && decide ((s.talkerGroup u g).seq = x.seq) && decide (u ∈ x.terminals) then
    s.modGroup g fun y => (y.setStates u (stateIn (s.heldSet u g) (s.waitingSet u g))).answer u
  else s

/-- A state is flagged for a talker's group (R138). -/
def State.flag (s : State) (t : Fin 4) (g : Fin 8) : State :=
  if t = s.cfg.id then s.applyOwn g
  else { s with talk.talkers := Bank.update s.talk.talkers t fun k => { k with flags := setBit k.flags g.val } }

/-- A state is flagged for every group of a talker that has a mix in its requested or lost set (R138). So a talker that leaves the
insert of a mix, be it its last insert, is told for another open group whose lost set names the mix (DESIGN CHOICE, log entry 71). -/
def State.flagMix (s : State) (t : Fin 4) (m : Fin 32) : State :=
  (indices 8).foldl (fun st g =>
    let x := st.talkerGroup t g
    if x.requested.getLsbD m.val || x.lost.getLsbD m.val then st.flag t g else st) s

/-- An insert takes its new contents: the duck target follows, and every talker whose position changed is flagged (R136 to
R139). -/
def State.setInsert (s : State) (m : Fin 32) (i : Insert) : State :=
  let old := s.insert m
  let s1 : State := { s with talk.inserts := s.talk.inserts.set m i }
  let s2 := if old.holder.isSome = i.holder.isSome then s1 else s1.retargetDuck m
  (indices 4).foldl (fun st t => if old.position t = i.position t then st else st.flagMix t m) s2

/-- The present set of a talker (R134). -/
def State.presentSet (s : State) (t : Fin 4) : Word :=
  (indices 8).foldl (fun acc g => if (s.talkerGroup t g).isOpen then acc ||| (s.talkerGroup t g).requested else acc) 0

/-- The rank the rank table gives a talker. -/
def State.rank (s : State) (t : Fin 4) : Nat := s.talk.ranks.get t

/-- The inserts follow a change of a talker's present set, in ascending order of mixes (R135). -/
def State.followPresent (s : State) (t : Fin 4) (before after : Word) : State :=
  (indices 32).foldl (fun st m =>
    if after.getLsbD m.val && !before.getLsbD m.val then st.setInsert m ((st.insert m).enter t (st.rank t))
    else if before.getLsbD m.val && !after.getLsbD m.val then st.setInsert m ((st.insert m).leave t)
    else st) s

/-- The active mixes. -/
def State.activeSet (s : State) : Word := setWhere 0xFFFFFFFF fun m => (s.mixRec m).active

/-- A TALK OPEN taken from a talker, or this terminal's own opening (R129, R135). -/
def State.takeOpen (s : State) (t : Fin 4) (g : Fin 8) (seq : Byte) (mixes : Word) : State :=
  let before := s.presentSet t
  let s1 := s.setTalkerGroup t g
    { isOpen := true, seq := seq, requested := mixes &&& s.activeSet, lost := mixes &&& ~~~ s.activeSet }
  (s1.followPresent t before (s1.presentSet t)).flag t g

/-- A TALK CLOSE taken from a talker, or this terminal's own closing (R130, R135); a flag of the group is dropped unsent
(R138). -/
def State.takeClose (s : State) (t : Fin 4) (g : Fin 8) : State :=
  let before := s.presentSet t
  let s1 := s.setTalkerGroup t g { isOpen := false, seq := (s.talkerGroup t g).seq }
  let s2 := s1.followPresent t before (s1.presentSet t)
  { s2 with talk.talkers := Bank.update s2.talk.talkers t fun k => { k with flags := clearBit k.flags g.val } }

/-- A mix made inactive loses its insert (R140). -/
def State.loseInsert (s : State) (m : Fin 32) : State :=
  let old := s.insert m
  let held := old.holder.isSome
  let s1 : State := { s with talk.inserts := s.talk.inserts.set m {} }
  let s2 := if held then s1.retargetDuck m else s1
  (indices 4).foldl (fun st t => (indices 8).foldl (fun st' g =>
    let x := st'.talkerGroup t g
    if x.requested.getLsbD m.val then
      (st'.setTalkerGroup t g
        { x with requested := clearBit x.requested m.val, lost := setBit x.lost m.val }).flag t g
    else if x.lost.getLsbD m.val && (old.position t).isSome then st'.flag t g
    else st') st) s2

/-! ### Reply records (R138) -/

/-- The lowest flagged group of a talker. -/
def State.flagged? (s : State) (t : Fin 4) : Option (Fin 8) :=
  (indices 8).find? fun g => (s.talk.talkers.get t).flags.getLsbD g.val

/-- A TALK STATE is queued for the lowest flagged group, and its flag cleared. -/
def State.sendTalkState (s : State) (t : Fin 4) : State :=
  match s.flagged? t with
  | none => s
  | some g =>
    let x := s.talkerGroup t g
    let body := [BitVec.ofNat 8 g.val, x.seq] ++ leBytes 4 (s.heldSet t g).toNat ++ leBytes 4 (s.waitingSet t g).toNat
      ++ leBytes 4 x.lost.toNat
    { s with talk.talkers := Bank.update s.talk.talkers t fun k =>
        { k with flags := clearBit k.flags g.val } }.enqueue { kind := 14, dest := t.val, body := body }

/-- A talker's reply record queues what it may. -/
def State.pumpTalkReply (s : State) (t : Fin 4) : State :=
  pump .urgent (.talkReply t) (fun st => (st.flagged? t).isSome) (fun st => st.sendTalkState t) 9 s

/-- Every reply record queues what it may. -/
def State.pumpTalkReplies (s : State) : State := (indices 4).foldl (fun st t => st.pumpTalkReply t) s

/-! ### The outbox (R131) -/

/-- The outbox entry with a pending message that is to go first: the lowest group, then the lowest terminal. -/
def State.outboxNext? (s : State) : Option (Fin 8 × Fin 4) :=
  ((indices 8).flatMap fun g => (indices 4).map fun u => (g, u)).find? fun k =>
    ((s.group k.1).outbox.get k.2).pending != .none

/-- The pending message that goes first is queued and its mark cleared (R131). The sent frame of the last OPEN (R128) and its answer
wait are none from here until the message is sent, and so they are once the terminal is unreachable (DESIGN CHOICE, log entry 61).
A CLOSE carries the mix set of the group's targets at the terminal, as R129 has an OPEN carry it (DESIGN CHOICE, log entry 66). -/
def State.sendOutbox (s : State) : State :=
  match s.outboxNext? with
  | none => s
  | some (g, u) =>
    let x := s.group g
    let body : List Byte := [BitVec.ofNat 8 g.val, x.seq] ++ leBytes 4 (x.mixSet u).toNat
    match (x.outbox.get u).pending with
    | .closing =>
      (s.modGroup g fun y => y.modOutbox u fun _ => {}).enqueue { kind := 13, dest := u.val, body := body }
    | _ =>
      (s.modGroup g fun y => y.modOutbox u fun e => { told := some x.seq, silent := e.silent }).enqueue
        { kind := 12, dest := u.val, body := body, producer := .talkOpen g u x.seq }

/-- A group has a pending message in the outbox. -/
def State.outboxHolds (s : State) (g : Fin 8) : Bool := (s.group g).outbox.toList.any fun e => e.pending != .none

/-- A button record. -/
def State.button (s : State) (b : Fin 8) : Button := s.talk.buttons.get b

/-- A button record, changed. -/
def State.modButton (s : State) (b : Fin 8) (f : Button → Button) : State :=
  { s with talk.buttons := Bank.update s.talk.buttons b f }

/-- The state a button is in, or would be in but for its pending messages (R143). -/
def ButtonState.after : ButtonState → ButtonState
  | .pending false => .talking
  | .pending true => .latched
  | st => st

/-- A PENDING button takes its after-state when the outbox holds no message of its group (R144). -/
def State.settleButtons (s : State) : State :=
  (indices 8).foldl (fun st b =>
    match (st.button b).state, (st.button b).action with
    | .pending _, .talk g _ => if st.outboxHolds g then st else st.modButton b fun x => { x with state := x.state.after }
    | _, _ => st) s

/-- The outbox queues what it may (R131, R144). -/
def State.pumpOutbox (s : State) : State :=
  (pump .urgent .outbox (fun st => st.outboxNext?.isSome) State.sendOutbox 33 s).settleButtons

/-- An outbox without a pending message leaves the room list (R131; spec 04, R73). -/
def State.restOutbox (s : State) : State :=
  if s.outboxNext?.isNone then { s with svc := s.svc.setRoom .urgent (without .outbox s.svc.urgentRoom) } else s

/-- The talk unit's producers queue what they may, the outbox first and then the reply records in ascending order of talker
(DESIGN CHOICE, log entry 30), and TALK steps that have their answers end. -/
def State.pumpTalk (s : State) : State := s.pumpOutbox.pumpTalkReplies.endTalkSteps

/-! ### Opening and closing (R129, R130) -/

/-- A group opens to one of its target terminals (R129). -/
def State.openAt (s : State) (g : Fin 8) (u : Fin 4) : State :=
  let x := s.group g
  if u = s.cfg.id then
    (s.modGroup g fun y => y.setStates u fun _ => .waiting).takeOpen u g x.seq (x.mixSet u)
  else if s.reachable u then
    s.modGroup g fun y =>
      { (y.setStates u fun _ => .waiting).modOutbox u (fun e => { e with pending := .opening, silent := false }) with
        answered := clearBit y.answered u.val }
  else s.modGroup g fun y => (y.setStates u fun _ => .lost).answer u

/-- A group opens: its sequence rises, and each target terminal is dealt with (R129). -/
def State.openGroup (s : State) (g : Fin 8) : State :=
  let s1 := s.modGroup g fun y => { y with seq := y.seq + 1 }
  ((s1.group g).terminals.foldl (fun st u => st.openAt g u) s1).pumpTalk

/-- A group closes at one of its target terminals (R130). -/
def State.closeAt (s : State) (g : Fin 8) (u : Fin 4) : State :=
  if u = s.cfg.id then s.takeClose u g
  else
    let told := ((s.group g).outbox.get u).told.isSome
    s.modGroup g fun y => y.modOutbox u fun e =>
      { e with pending := if told && s.reachable u then .closing else .none, waited := none, silent := false }

/-- A group closes (R130). -/
def State.closeGroup (s : State) (g : Fin 8) : State :=
  let s1 := s.modGroup g fun y => { y with targets := y.targets.map fun t => { t with state := .closed } }
  ((s1.group g).terminals.foldl (fun st u => st.closeAt g u) s1).pumpTalk

/-- A button, or the lanes, in an opener set. -/
inductive Opener where
  | button (button : Fin 8)
  | lanes
  deriving DecidableEq, Repr

/-- An opener joins a set. -/
def Group.join (x : Group) : Opener → Group
  | .button b => { x with buttons := setBit x.buttons b.val }
  | .lanes => { x with lanes := true }

/-- An opener leaves a set. -/
def Group.part (x : Group) : Opener → Group
  | .button b => { x with buttons := clearBit x.buttons b.val }
  | .lanes => { x with lanes := false }

/-- An opener joins a group's opener set, which opens a closed group (R128, R129). -/
def State.addOpener (s : State) (g : Fin 8) (o : Opener) : State :=
  let s1 := s.modGroup g fun y => y.join o
  if (s.group g).isOpen then s1 else s1.openGroup g

/-- An opener leaves a group's opener set, which closes the group when the set becomes empty (R128, R130). -/
def State.removeOpener (s : State) (g : Fin 8) (o : Opener) : State :=
  let s1 := s.modGroup g fun y => y.part o
  if (s.group g).isOpen && !(s1.group g).isOpen then s1.closeGroup g else s1

/-! ### Reachability (R133, R137) -/

/-- A talker's groups follow a change of reachability of a target terminal (R133). -/
def State.talkTargetReach (s : State) (u : Fin 4) (up : Bool) : State :=
  (indices 8).foldl (fun st g =>
    let x := st.group g
    let here := decide (u ∈ x.terminals)
    if up then
      if x.isOpen && here then
        st.modGroup g fun y =>
          { (y.setStates u fun _ => .waiting).modOutbox u (fun e => { e with pending := .opening, silent := false }) with
            answered := clearBit y.answered u.val }
      else st
    else
      let st1 := st.modGroup g fun y => y.modOutbox u fun _ => {}
      if x.isOpen && here then st1.modGroup g fun y => (y.setStates u fun _ => .lost).answer u else st1) s

/-- A talker that is no longer reachable is treated as closing every group (R137, R138). The record goes back to its stopped state,
open sequences among it (DESIGN CHOICE, log entry 60). -/
def State.talkerGone (s : State) (t : Fin 4) : State :=
  let before := s.presentSet t
  let s1 : State := { s with talk.talkers := s.talk.talkers.set t {} }
  let s2 := s1.followPresent t before 0
  { s2 with talk.talkers := Bank.update s2.talk.talkers t (fun k => { k with flags := 0 }),
            svc := s2.svc.unhold (.talkReply t) }

/-- The talk unit's part in a change of reachability of another origin (R133, R137). -/
def State.talkReach (s : State) (o : Fin 4) (up : Bool) : State :=
  let s1 := s.talkTargetReach o up
  (if up then s1 else s1.talkerGone o).pumpTalk

/-- The answer wait of an outbox entry has run out while no answer has come from its terminal (R132). -/
def State.answerDue (s : State) (g : Fin 8) (u : Fin 4) : Bool :=
  let x := s.group g
  x.isOpen && decide (u ∈ x.terminals) && (!x.isAnswered u || (x.outbox.get u).silent)
    && (match (x.outbox.get u).waited with
    | some n => decide (Config.requestTimeout ≤ n)
    | none => false)

/-! ### Buttons (R141 to R145) -/

/-- What a change to a level is by a detection: press, release, or neither (R142). -/
def Detection.detects (d : Detection) (level : Bool) : Option Bool :=
  match d with
  | .rising => some level
  | .levelHigh => some level
  | .falling => some (!level)
  | .levelLow => some (!level)
  | .both => some true

/-- A TALK action's press on an idle button (R143, R144). -/
def State.talkPress (s : State) (b : Fin 8) (g : Fin 8) (mode : TalkMode) : State :=
  let wasOpen := (s.group g).isOpen
  let s1 := s.addOpener g (.button b)
  let latch := mode == .latch
  let waits := !wasOpen && s1.outboxHolds g
  s1.modButton b fun x =>
    { x with state := if waits then .pending latch else if latch then .latched else .talking,
             pressFrames := if mode = .auto then 0 else x.pressFrames }

/-- A button leaves its group and is IDLE (R143). -/
def State.talkStop (s : State) (b : Fin 8) (g : Fin 8) : State :=
  (s.modButton b fun x => { x with state := .idle }).removeOpener g (.button b)

/-- A TALK action's event (R143). -/
def State.talkEvent (s : State) (b : Fin 8) (g : Fin 8) (mode : TalkMode) (press : Bool) : State :=
  match (s.button b).state.after, press with
  | .idle, true => s.talkPress b g mode
  | .latched, true => s.talkStop b g
  | .talking, false =>
    match mode with
    | .momentary => s.talkStop b g
    | .latch => s
    | .auto =>
      if (s.button b).pressFrames ≤ Config.autoLatch then
        s.modButton b fun x => { x with state := match x.state with
          | .pending _ => .pending true
          | _ => .latched }
      else s.talkStop b g
  | _, _ => s

/-- A press the button could not act on (R145). -/
def State.missPress (s : State) (b : Fin 8) : State := s.modButton b fun x => { x with missed := x.missed + 1 }

/-- A CUE action's press (R145). -/
def State.cuePress (s : State) (b : Fin 8) (mixes : Word) (fade : Nat) : State :=
  if mixes = 0 then s
  else match s.takeRecord? with
    | some k => s.cueMixes k .button { now := true, frame := 0, fade := fade } (mixesOf mixes) {}
    | none => s.missPress b

/-- The action of a button's detected event (R143 to R145). -/
def State.act (s : State) (b : Fin 8) (press : Bool) : State :=
  match (s.button b).action with
  | .none => s
  | .talk g mode => s.talkEvent b g mode press
  | .chain l a =>
    if press then (if (s.lane l).state = .idle then s.beginAt l a.toNat else s.missPress b) else s
  | .cue mixes fade => if press then s.cuePress b mixes fade else s

/-- A detected event of a button: counted if a press, acted on, then notified (R142). -/
def State.detected (s : State) (b : Fin 8) (press : Bool) : State :=
  let s1 := if press then s.modButton b fun x => { x with presses := x.presses + 1 } else s
  let s2 := s1.act b press
  if (s.button b).notify then s2.attend 19 else s2

/-- WAIT steps whose button has changed its debounced level end OK (spec 01, R19). -/
def State.endButtonWaits (s : State) (b : Fin 8) (level : Bool) : State :=
  (indices 16).foldl (fun st l =>
    match st.op? l with
    | some (.wait (.button k) _) =>
      if k = b then st.endStep l .ok (bitNat level) (snap (st.lane l).age) else st
    | _ => st) s

/-! ### Lamps (R146) -/

/-- Off, steady or flashing. -/
inductive LampState where
  | off
  | steady
  | flashing
  deriving DecidableEq, Repr

/-- The code of a lamp in the talk view (R147). -/
def LampState.code : LampState → Nat
  | .off => 0
  | .steady => 1
  | .flashing => 2

/-- A lamp's state by its source (R146). -/
def State.lamp (s : State) (i : Fin 8) : LampState :=
  match s.talk.lamps.get i with
  | .none => .off
  | .group g =>
    let x := s.group g
    if !x.isOpen then .off
    else if x.targets.any fun t => t.state == .waiting || t.state == .lost then .flashing
    else .steady
  | .button b =>
    match (s.button b).state with
    | .idle => .off
    | .pending _ => .flashing
    | _ => .steady
  | .origin o => if s.reachable o then .steady else .off

/-- The levels of the lamp pins (R146). -/
def State.lampPins (s : State) : BitVec 8 :=
  setOf 8 fun i => match index? 8 i with
    | some k => match s.lamp k with
      | .off => false
      | .steady => true
      | .flashing => s.talk.flashHigh
    | none => false

/-- The lamps that are flashing (R146). -/
def State.flashingLamps (s : State) : BitVec 8 :=
  setOf 8 fun i => match index? 8 i with
    | some k => s.lamp k == .flashing
    | none => false

/-! ### Mix values (R122; spec 07, R140) -/

/-- A mix takes the values of a SET MIX entry or of a MIX SET message, the controller apart (R120, R122). Where it also becomes
inactive, the duck is retargeted to the new code (R113) before the insert is lost and it turns to unity (R140): DESIGN CHOICE, log
entry 56. -/
def State.setMixValues (s : State) (m : Fin 32) (active : Bool) (master duck talk : Nat) : State :=
  let was := (s.mixRec m).active
  let s1 := s.modMix m fun x =>
    { x with active := active, masterCode := storeCode master,
             master := x.master.retarget (levelCoeff (storeCode master)) Config.rampSteps,
             duckCode := storeCode duck, talkCode := storeCode talk }
  let s2 := if (s1.insert m).holder.isSome then s1.retargetDuck m else s1
  if was && !active then s2.loseInsert m else s2

end Sys2Proof.Machine
end

