-- ==== Sys2Proof/Machine/Metering.lean ====
section
/-!
DEFINITION. The meter unit: sweeps, the meter queue, detectors and their windows, results, triggers (spec 09).
-/

namespace Sys2Proof.Machine

/-! ### Channels (R176) -/

/-- The kind of a channel descriptor. -/
def channelKind (c : Word) : Nat := c.toNat % 256

/-- The index of a channel descriptor. -/
def channelIndex (c : Word) : Nat := (c.toNat / 2 ^ 8) % 256

/-- The origin byte of a channel descriptor. -/
def channelOrigin (c : Word) : Nat := (c.toNat / 2 ^ 16) % 256

/-- The tracking byte of a channel descriptor. -/
def channelTracking (c : Word) : Nat := c.toNat / 2 ^ 24

/-- A channel descriptor that detail 17 refuses (R179). -/
def channelBad (c : Word) : Bool :=
  match channelKind c with
  | 0 =>
    decide (3 < channelOrigin c) || decide (63 < channelIndex c)
      || (decide (3 < channelTracking c) && channelTracking c != 255)
  | 1 => decide (31 < channelIndex c)
  | 2 => decide (63 < channelIndex c)
  | _ => true

/-- A played slot, compensated by a tracking table where the origin is 0 and a table is given (R176; spec 03, R60). -/
def State.trackedSlot (s : State) (frames : Bank 4 PlayedFrame) (o : Fin 4) (slot : Fin 64) (table : Option (Fin 4)) :
    Sample :=
  let x := slotOf frames o slot
  match table with
  | some t => if o = 0 then compensate x (s.track t slot).k else x
  | none => x

/-- The sample a channel yields in this frame (R176). -/
def State.channelSample (s : State) (frames : Bank 4 PlayedFrame) (c : Word) : Sample :=
  match channelKind c with
  | 0 =>
    match index? 4 (channelOrigin c), index? 64 (channelIndex c) with
    | some o, some slot => s.trackedSlot frames o slot (index? 4 (channelTracking c))
    | _, _ => 0
  | 1 => match index? 32 (channelIndex c) with
    | some m => s.mixOutput m
    | none => 0
  | _ => match index? 64 (channelIndex c) with
    | some n => s.localInput n
    | none => 0

/-! ### Detectors (R177) -/

/-- A sample taken by a measuring detector. -/
def Measuring.take (d : Measuring) (x : Sample) : Measuring :=
  let v := x.toInt.natAbs
  { d with left := d.left - 1, peak := max d.peak v, overs := if 8388607 ≤ v then d.overs + 1 else d.overs }

/-- Every measuring detector takes its channel's sample of this frame. -/
def State.measure (s : State) (frames : Bank 4 PlayedFrame) : State :=
  { s with meter.detectors := Bank.mapAll (fun (d : Option Measuring) =>
      d.map fun x => if x.left = 0 then x else x.take (s.channelSample frames x.channel)) s.meter.detectors }

/-- Every detector is free. -/
def Meter.allFree (v : Meter) : Bool := v.detectors.toList.all fun d => d.isNone

/-- A sweep record. -/
def State.sweep (s : State) (l : Fin 16) : Option Sweep := s.meter.sweeps.get l

/-- A sweep record, replaced. -/
def State.setSweep (s : State) (l : Fin 16) (x : Option Sweep) : State :=
  { s with meter.sweeps := s.meter.sweeps.set l x }

/-- The number of channels a pass measures. -/
def Sweep.size (x : Sweep) : Nat := x.channels.length

/-- A detector's record for a position of a sweep, measuring from a frame. -/
def Sweep.measuring (x : Sweep) (position : Nat) (start : Word) : Measuring :=
  { position := position, channel := x.channels.getD position 0, start := start, left := x.window }

/-! ### Results (R178) -/

/-- The address of the record of a position. -/
def Sweep.recordAddress (x : Sweep) (position : Nat) : Nat := if x.latest then x.address else x.address + 24 * position

/-- A result is written, word 5 first as 0xFFFFFFFF and last as the pass number (R178): its low 32 bits (DESIGN CHOICE, log entry
62). One command writes the whole record, so no host access falls inside it and the 0xFFFFFFFF of a record being written is never
read (DESIGN CHOICE, log entry 10). -/
def State.writeResult (s : State) (x : Sweep) (d : Measuring) : State :=
  let a := x.recordAddress d.position
  ((s.poke (a + 20) 0xFFFFFFFF).pokeAll a
    [snap d.position, d.channel, snap d.peak, snap d.overs, s.clock.frame]).poke (a + 20) (snap (x.passes + 1))

/-- The pass numbers of a sweep's area are written as 0 (R178). -/
def State.clearResults (s : State) (x : Sweep) : State :=
  (List.range (if x.latest then 1 else x.size)).foldl (fun st i => st.poke (x.recordAddress i + 20) 0) s

/-! ### Passes (R180, R181) -/

/-- A sweep joins the back of the meter queue (R180, R182). -/
def State.queueSweep (s : State) (l : Fin 16) (x : Sweep) : State :=
  { s.setSweep l (some { x with state := .queued }) with meter.queue := s.meter.queue ++ [l] }

/-- A METER step's missed trigger count is written into its payload (R181, R184). -/
def State.writeMissed (s : State) (l : Fin 16) (x : Sweep) : State := s.storeWords (s.join l) 20 [x.missed]

/-- A sweep ends: it leaves the queue, and its step ends OK with the pass count (R181), of which the result count shows the low 32 bits
(DESIGN CHOICE, log entry 62). -/
def State.endSweep (s : State) (l : Fin 16) (x : Sweep) : State :=
  let s1 := s.writeMissed l x
  ({ s1.setSweep l none with meter.queue := without l s1.meter.queue }).endStep l .ok 0 (snap x.passes)

/-- The pass limit has been reached. -/
def Sweep.limited (x : Sweep) : Bool := x.limit != 0 && x.passes == x.limit

/-- A pass is complete, and the sweep is dealt with by its mode (R181). -/
def State.passComplete (s : State) (l : Fin 16) (x0 : Sweep) : State :=
  let x : Sweep := { x0 with passes := x0.passes + 1, next := 0 }
  let rest := without l s.meter.queue
  match x.mode with
  | .oneShot => s.endSweep l x
  | .sweep => s.endSweep l x
  | .repeating =>
    if x.limited then s.endSweep l x
    else if rest = [] then s.setSweep l (some x)
    else { s.setSweep l (some { x with state := .queued }) with meter.queue := rest ++ [l] }
  | .triggered =>
    match x.trigger with
    | some (.button _ _) =>
      if x.limited then s.endSweep l x
      else { s.setSweep l (some { x with state := .armed }) with meter.queue := rest }
    | _ => s.endSweep l x

/-- The pass of the sweep at the head of the queue begins: the detectors take channels in order (R180). -/
def State.beginPass (s : State) : State :=
  match s.meter.queue with
  | [] => s
  | l :: _ =>
    match s.sweep l with
    | none => s
    | some x =>
      let detectors := Bank.mapNum (fun i (d : Option Measuring) =>
        if i < x.size then some (x.measuring i s.clock.frame) else d) s.meter.detectors
      { s.setSweep l (some { x with state := .measuring, next := min 8 x.size }) with
        meter.detectors := detectors, meter.passDue := false }

/-- A detector's window has ended: its result is written, and it takes the next position from the next frame on, or is free;
the pass is complete when none measures (R177, R180). The next position's start frame is fixed here as this frame's number plus 1,
whatever jump may follow (DESIGN CHOICE, log entry 64). -/
def State.windowEnd (s : State) (k : Fin 8) (d : Measuring) : State :=
  match s.meter.queue with
  | [] => s
  | l :: _ =>
    match s.sweep l with
    | none => s
    | some x =>
      let s1 := s.writeResult x d
      if x.next < x.size then
        { s1.setSweep l (some { x with next := x.next + 1 }) with
          meter.detectors := s1.meter.detectors.set k (some (x.measuring x.next (s.clock.frame + 1))) }
      else
        let s2 : State := { s1 with meter.detectors := s1.meter.detectors.set k none }
        if s2.meter.allFree then s2.passComplete l x else s2

/-! ### Triggers (R182, R183) -/

/-- A change to a level is in a trigger's direction (R182). -/
def edgeTakes (edge : Nat) (level : Bool) : Bool := edge == 0 || (edge == 1 && level) || (edge == 2 && !level)

/-- A lane's sweep meets a button's change of level (R182). The missed trigger count wraps at 2^32 (DESIGN CHOICE, log entry 63). -/
def State.buttonTrigger (s : State) (b : Fin 8) (level : Bool) (l : Fin 16) : State :=
  match s.sweep l with
  | some x =>
    match x.trigger with
    | some (.button k edge) =>
      if k = b ∧ edgeTakes edge level = true then
        match x.state with
        | .armed => s.queueSweep l x
        | _ => s.setSweep l (some { x with missed := x.missed + 1 })
      else s
    | _ => s
  | none => s

/-- A lane's ARMED sweep has a frame trigger that has been reached (R183). -/
def State.frameTriggerDue (s : State) (l : Fin 16) : Bool :=
  match s.sweep l with
  | some x => match x.trigger with
    | some (.frame f) => decide (x.state = .armed) && !later f s.clock.frame
    | _ => false
  | none => false

/-- A lane's ARMED sweep is triggered by its frame (R183). -/
def State.frameTrigger (s : State) (l : Fin 16) : State :=
  match s.sweep l with
  | some x => if s.frameTriggerDue l then s.queueSweep l x else s
  | none => s

/-- A METER step's sweep is cancelled (R184); a sweep that so comes to the head begins its pass no sooner than the next frame
(R180). -/
def State.dropSweep (s : State) (l : Fin 16) : State :=
  let busy : Bool := match s.sweep l with
    | some x => decide (x.state = .measuring)
    | none => false
  let detectors := if busy then Vector.replicate 8 none else s.meter.detectors
  { s.setSweep l none with
    meter.queue := without l s.meter.queue, meter.detectors := detectors,
    meter.passDue := s.meter.passDue && decide (s.meter.queue.head? ≠ some l) }

end Sys2Proof.Machine
end

