-- ==== Sys2Proof/Machine/Supervising.lean ====
section
/-!
DEFINITION. The clock unit (spec 02, R36 to R43), requests that end without an answer (spec 04, R77), the supervisor's paths,
reachability and closures (spec 08, R160 to R164), and a change of D (spec 03, R46, R57).
-/

namespace Sys2Proof.Machine

/-! ### Requests that end without an answer (spec 04, R77) -/

/-- A request ends without an answer: its entry is freed, and the block that owns the step is told (R77). -/
def State.requestEnds (s : State) (r : Request) (st : Status) : State :=
  let s1 := s.freeEntry r.lane r.number
  if r.kind = 1 then s1.endRequested r.lane r.number st
  else if 8 ≤ r.kind ∧ r.kind ≤ 10 then s1.partUnanswered r.lane st
  else s1.endStep r.lane st 0 0

/-- The waiting requests to an origin that has become unreachable end UNREACHABLE (R77). -/
def State.serviceReach (s : State) (o : Fin 4) : State :=
  (s.svc.requests.filter fun r => decide (r.target = o ∧ r.state ≠ .queued)).foldl
    (fun st r => st.requestEnds r .unreachable) s

/-! ### WAIT conditions (spec 01, R19) -/

/-- WAIT steps on the reachability of an origin end OK (R19). -/
def State.endReachWaits (s : State) (o : Fin 4) (up : Bool) : State :=
  (indices 16).foldl (fun st l =>
    match st.op? l with
    | some (.wait (.reachable k) _) => if k = o ∧ up = true then st.endStep l .ok 0 (snap (st.lane l).age) else st
    | some (.wait (.unreachable k) _) => if k = o ∧ up = false then st.endStep l .ok 0 (snap (st.lane l).age) else st
    | _ => st) s

/-- A WAIT's frame condition holds (R19). -/
def State.frameReached (s : State) (l : Fin 16) : Bool :=
  match s.op? l with
  | some (.wait (.frame f) _) => !later f s.clock.frame
  | _ => false

/-- A WAIT step whose frame condition holds ends OK (R19). -/
def State.endFrameWait (s : State) (l : Fin 16) : State :=
  if s.frameReached l then s.endStep l .ok 0 (snap (s.lane l).age) else s

/-! ### The clock unit (spec 02, R36 to R43) -/

/-- A skew in a record's snapshot: -2^31 while unmeasured (spec 08, R168). -/
def skewWord : Option Int → Word
  | some k => BitVec.ofInt 32 k
  | none => 0x80000000

/-- A change of clock source is recorded; `old` is the clock unit before it (R43; spec 08, R168). -/
def State.clockRecord (s : State) (old : Clock) : State :=
  if old.source = s.clock.source then s
  else
    s.fault .clockSource s.clock.port s.clock.source none
      [snap (idCode old.source), snap (idCode s.clock.source), snap old.state.code, snap s.clock.state.code,
        BitVec.ofInt 32 s.clock.lock, skewWord s.clock.skew]

/-- The source a desk is to have; none for the deputy (R37). -/
def State.candidate (s : State) : Option (Fin 4) :=
  if s.reachable 0 then some 0
  else match (indices 4).find? fun o => decide (o ≠ 0) && s.reachable o with
    | some o => if o = s.cfg.id then none else some o
    | none => none

/-- The clock port of a gained source: the port whose path is UP with the smaller hop count, East on a tie (R38). -/
def State.clockPort (s : State) (o : Fin 4) : Option Port :=
  let e := s.sup.path o .east
  let w := s.sup.path o .west
  if e.up && (!w.up || decide (e.hop ≤ w.hop)) then some .east
  else if w.up then some .west
  else none

/-- The clock unit as the deputy (R37, R43). -/
def Clock.deputize (c : Clock) : Clock :=
  { c with state := .deputy, source := none, port := none, lock := 0, skew := none, gained := false,
           arrivals := ⟨[], []⟩, rate := if c.rate = .oscillator then .oscillator else .held }

/-- The clock unit with a newly gained source (R37). -/
def Clock.gain (c : Clock) (o : Fin 4) (port : Option Port) : Clock :=
  { c with source := some o, port := port, lock := 0, skew := none, gained := true, arrivals := ⟨[], []⟩ }

/-- A desk's clock unit chooses its source at a change of reachability (R37). -/
def State.chooseSource (s : State) : State :=
  if s.isStage || decide (s.candidate = s.clock.source) then s
  else
    match s.candidate with
    | none => { s with clock := s.clock.deputize }.clockRecord s.clock
    | some o => { s with clock := s.clock.gain o (s.clockPort o) }.clockRecord s.clock

/-- The clock port moves at the loss of the source's path on it while the other path is UP (R38). -/
def State.clockPathLost (s : State) (o : Fin 4) (p : Port) : State :=
  if s.clock.source = some o ∧ s.clock.port = some p ∧ (s.sup.path o p.other).up = true then
    match s.clock.skew with
    | some k =>
      { s with clock.port := some p.other, clock.lock := s.clock.lock + k, clock.skew := some (-k) }
    | none => { s with clock.port := some p.other, clock.gained := true }
  else s

/-- The arrival difference of a burst, in 1/256 frame (R39; log entry 19). -/
def arrivalDifference (frame counter : Word) (phase : BitVec 8) : Int := 256 * (frame - counter).toInt - phase.toNat

/-- The D in use takes another value at a desk, and the gain unit tests its switch frames again (spec 03, R46, R57; spec 05,
R94). -/
def State.changeDelay (s : State) (d : Nat) : State :=
  if d = s.merge.delay then s
  else
    let s1 : State := { s with merge.delay := d }
    s1.retestSwitches (s1.playoutFrame + BitVec.ofNat 32 (bitNat s.merge.playedNow))

/-- A frame jump to a new counter value (R42; spec 03, R56; spec 05, R94). The sweeps it triggers (spec 09, R183) join the meter
queue in ascending order of lane (DESIGN CHOICE, log entry 51). -/
def State.frameJump (s : State) (frame : Word) : State :=
  let s1 : State :=
    { s with clock := { s.clock with frame := frame, state := .locked, gained := false, rate := .source },
             merge := s.merge.jump frame }
  let s2 := s1.fault .frameJump s.clock.port s.clock.source none [s.clock.frame, frame, snap s.merge.delay]
  let s3 := s2.retestSwitches s2.merge.point
  (indices 16).foldl (fun st l => (st.endFrameWait l).frameTrigger l) s3

/-- The clock state at an arrival on the clock port, by the offset d (R40, R41). -/
def State.follow40 (s : State) (d : Int) (frame : Word) : State :=
  if Config.jumpThreshold < d.natAbs then s.frameJump (frame - BitVec.ofInt 32 (roundFrames s.clock.lock))
  else
    { s with clock.state := if d = 0 then .locked else .pulling, clock.gained := false,
             clock.rate := if d = 0 then .source else if 0 < d then .faster else .slower }

/-- The arrivals kept of the source on each port: one for each cell of its merge record (R39; log entry 36). -/
def arrivalsKept : Nat := 64

/-- An arrival noted as the latest of its frame number (R39). -/
def noteArrival (frame : Word) (diff : Int) (xs : List (Word × Int)) : List (Word × Int) :=
  ((frame, diff) :: xs.filter fun x => decide (x.1 ≠ frame)).take arrivalsKept

/-- The arrival difference kept for a frame number. -/
def arrivalOf (frame : Word) (xs : List (Word × Int)) : Option Int := (xs.find? fun x => decide (x.1 = frame)).map (·.2)

/-- The port skew, from the most recent arrivals of a frame number on the other port and on the clock port; as it was where one
of them is not known (R39). -/
def Clock.measureSkew (c : Clock) (cp : Port) (frame : Word) : Option Int :=
  match arrivalOf frame (c.arrivals.get cp), arrivalOf frame (c.arrivals.get cp.other) with
  | some here, some there => some (there - here)
  | _, _ => c.skew

/-- A valid burst arrives on an UP port: the clock unit measures it if its origin is the source (R39, R40). -/
def State.clockArrival (s : State) (o : Fin 4) (p : Port) (frame : Word) (phase : BitVec 8) : State :=
  if s.clock.source ≠ some o then s
  else
    let diff := arrivalDifference frame s.clock.frame phase
    let s1 : State := { s with clock.arrivals := s.clock.arrivals.set p (noteArrival frame diff (s.clock.arrivals.get p)) }
    match s1.clock.port with
    | none => s1
    | some cp =>
      let both := (s.sup.path o .east).up && (s.sup.path o .west).up
      let s2 : State := if both then { s1 with clock.skew := s1.clock.measureSkew cp frame } else s1
      if p = cp then s2.follow40 (roundFrames (diff - s.clock.lock)) frame else s2

/-! ### Reachability (spec 08, R161) -/

/-- The frames since an origin's last summary, as a word: past it, the low 32 bits (DESIGN CHOICE, log entry 67). -/
def State.summaryAge (s : State) (o : Fin 4) : Word :=
  match s.sup.summaries.get o with
  | some (_, n) => snap n
  | none => 0xFFFFFFFF

/-- Each block acts on a change of an origin's reachability (R161). -/
def State.reachReport (s : State) (o : Fin 4) (up : Bool) : State :=
  let s1 := if up then s else s.serviceReach o
  let s2 := s1.chooseSource
  let s3 := s2.gainReach o up
  let s4 := s3.mixReach o up
  let s5 := s4.talkReach o up
  s5.endReachWaits o up

/-- An origin becomes reachable or unreachable by a path of a port: the record, the present mark, the reports (R161). No path
is this terminal's own, so its own present mark stays clear (DESIGN CHOICE, log entry 41). -/
def State.reachChange (s : State) (o : Fin 4) (p : Port) (up : Bool) : State :=
  let s1 := s.fault (if up then .originBack else .originLost) (some p) (some o) none
    (s.mergeCounters o ++ [s.summaryAge o])
  let s2 : State := if up then { s1 with sup.present := s1.sup.present.set o true } else s1
  s2.reachReport o up

/-! ### Paths (spec 08, R160) -/

/-- A path record, changed. -/
def State.modPath (s : State) (o : Fin 4) (p : Port) (f : Path → Path) : State :=
  { s with sup.paths := Bank.update s.sup.paths o fun b => b.set p (f (b.get p)) }

/-- A PATH UP or PATH LOST record (R160, R168). -/
def State.pathRecord (s : State) (o : Fin 4) (p : Port) (up : Bool) : State :=
  s.fault (if up then .pathUp else .pathLost) (some p) (some o) (s.neighbour p)
    (s.mergeCounters o ++ [snap (s.sup.path o p).hop])

/-- An UP path is lost (R160, R161). -/
def State.losePath (s : State) (o : Fin 4) (p : Port) : State :=
  let s1 := s.modPath o p fun x => { x with up := false, losses := x.losses + 1 }
  let s2 := (s1.pathRecord o p false).clockPathLost o p
  if (s.sup.path o p.other).up then s2 else s2.reachChange o p false

/-- A path arrival report (R160, R161, R165). -/
def State.pathArrival (s : State) (o : Fin 4) (p : Port) (hop : Nat) (summary : Word) : State :=
  let was := (s.sup.path o p).up
  let s1 : State := { s with sup.summaries := s.sup.summaries.set o (some (summary, 0)) }
  let s2 := s1.modPath o p fun x => { x with up := true, hop := hop, since := some 0 }
  let s3 := if was then s2
    else
      let s4 := s2.pathRecord o p true
      if (s.sup.path o p.other).up then s4 else s4.reachChange o p true
  if o = 0 ∧ s.isStage = false then s3.changeDelay (max 8 (summaryDelay summary)) else s3

/-- Every UP path of a port is lost, in ascending order of origin (R160). -/
def State.losePaths (s : State) (p : Port) : State :=
  (indices 4).foldl (fun st o => if (st.sup.path o p).up then st.losePath o p else st) s

/-! ### Closures and conflicts (spec 08, R163, R164) -/

/-- The direction whose closures arrive on a port (spec 02, R27). -/
def closureDirection : Port → Direction
  | .west => .eastward
  | .east => .westward

/-- The closure record of a direction. -/
def Supervisor.closure (v : Supervisor) : Direction → Closure
  | .eastward => v.eastward
  | .westward => v.westward

/-- A closure record, replaced. -/
def State.setClosure (s : State) (d : Direction) (c : Closure) : State :=
  match d with
  | .eastward => { s with sup.eastward := c }
  | .westward => { s with sup.westward := c }

/-- A closure report; a reflection is not taken (R163). -/
def State.closureReport (s : State) (p : Port) (hop : Nat) (frame : Word) : State :=
  if hop = 0 then s
  else s.setClosure (closureDirection p) { closed := true, hop := hop, roundTrip := some (s.clock.frame - frame), since := 0 }

/-- A closed direction becomes open (R163). -/
def State.openClosure (s : State) (d : Direction) : State :=
  s.setClosure d { s.sup.closure d with closed := false }

/-- An ID conflict report (R164; spec 02, R28). -/
def State.conflict (s : State) (p : Port) (mark : BitVec 16) : State :=
  let s1 := s.attend 22
  let r := s1.port p
  let s2 := s1.setPort p { r with conflictReported := true, conflictQuiet := 0 }
  if r.conflictReported then s2
  else s2.fault .idConflict (some p) (some s.cfg.id) none [mark.setWidth 32, s.mark.setWidth 32]

end Sys2Proof.Machine
end

