-- ==== Sys2Proof/Machine/Porting.lean ====
section
/-!
DEFINITION. The ring ports: states, flaps, qualification, error storms, loop tests, and what a port sends (spec 08, R152 to
R159, R169 to R174; spec 02, R22, R26).
-/

namespace Sys2Proof.Machine

/-! ### Changes of state (R152, R154, R160) -/

/-- A port record entered into a state: the state timer and the absent count restart, and the forward buffer is emptied on
entering DARK or LOOP (R152, R154, R159; spec 02, R26). -/
def PortRec.enter (r : PortRec) (st : PortState) : PortRec :=
  { r with state := st, timer := 0, absent := 0, forward := if st = .dark ∨ st = .loop then [] else r.forward }

/-- A port that has left UP: its conflict flag clears, its closure opens, its paths are lost (R160, R163, R164). -/
def State.leftUp (s : State) (p : Port) : State :=
  let r := s.port p
  let s1 := s.setPort p { r with conflictReported := false, conflictQuiet := 0 }
  (s1.openClosure (closureDirection p)).losePaths p

/-- The snapshot of a port record, with its last word (R168); `left` is the frames in the state left. -/
def PortRec.snapshot (r : PortRec) (left : Nat) (word7 : Nat) : List Word := r.counters ++ [snap left, snap word7]

/-- The supervisor writes PORT DARK, unless the dark-reported flag is set (R154). -/
def State.reportDark (s : State) (p : Port) (neighbour : Option (Fin 4)) (left : Nat) : State :=
  let r := s.port p
  if r.darkReported then s
  else (s.setPort p { r with darkReported := true }).fault .portDark (some p) none neighbour (r.snapshot left r.flaps.length)

/-- A port enters DARK (R154). -/
def State.enterDark (s : State) (p : Port) : State :=
  let r := s.port p
  let s1 := (s.setPort p (r.enter .dark)).reportDark p (s.neighbour p) r.timer
  if r.state = .up then s1.leftUp p else s1

/-- A port enters ACQUIRE from DARK, QUARANTINE or LOOP. -/
def State.enterAcquire (s : State) (p : Port) : State := s.setPort p ((s.port p).enter .acquire)

/-- A port enters QUALIFY with its first clean burst from an origin (R155). -/
def PortRec.beginQualify (r : PortRec) (o : Fin 4) : PortRec :=
  { r.enter .qualify with qualify := 1, qualifyOrigin := some o }

/-- A port enters UP (R156). -/
def State.enterUp (s : State) (p : Port) : State :=
  let r := s.port p
  let r1 := { r.enter .up with errors := [], darkReported := false }
  (s.setPort p r1).fault .portUp (some p) none r.qualifyOrigin (r1.snapshot r.timer r1.flaps.length)

/-! ### Flaps (R153) -/

/-- The causes of a flap. -/
inductive FlapCause where
  | signalLost
  | errorStorm
  deriving DecidableEq, Repr

/-- A port record with a flap counted and its history brought up to date (R153). -/
def PortRec.flapped (r : PortRec) (stamp : Nat) : PortRec :=
  { r with flapCount := r.flapCount + 1, flaps := (r.flaps.filter fun f => decide (stamp < f + Config.flapFrames)) ++ [stamp] }

/-- The frames from the first failure of the error window to the last. -/
def PortRec.stormSpan (r : PortRec) : Nat := r.errors.getLast?.getD 0 - r.errors.head?.getD 0

/-- A flap of a port (R153): to QUARANTINE at the third within 480,000 frames, to DARK or ACQUIRE otherwise. -/
def State.flap (s : State) (p : Port) (cause : FlapCause) : State :=
  let r := s.port p
  let was := r.state
  let near := s.neighbour p
  let r1 := r.flapped s.passed
  let s3 :=
    if 3 ≤ r1.flaps.length then
      let r2 := { r1.enter .quarantine with flaps := [], darkReported := true }
      (s.setPort p r2).fault .quarantine (some p) none near
        (r2.snapshot r.timer (match cause with
          | .signalLost => 0
          | .errorStorm => 1))
    else
      match cause with
      | .signalLost => (s.setPort p (r1.enter .dark)).reportDark p near r.timer
      | .errorStorm =>
        (s.setPort p (r1.enter .acquire)).fault .errorStorm (some p) none near (r1.snapshot r.timer r1.stormSpan)
  if was = .up then s3.leftUp p else s3

/-! ### Check results (R155 to R159) -/

/-- A check result counted in the port counters (R159). -/
def PortRec.checked (r : PortRec) (valid : Bool) : PortRec :=
  if valid then { r with valid := r.valid + 1 } else { r with failures := r.failures + 1 }

/-- A check failure in UP: the error window, and an error storm if it holds 8 within 48 frames (R157). -/
def State.checkFailed (s : State) (p : Port) : State :=
  let r := s.port p
  let window := (r.errors ++ [s.passed]).drop ((r.errors.length + 1) - Config.stormFailures)
  let r1 := { r with errors := window }
  let s1 := s.setPort p r1
  if window.length = Config.stormFailures ∧ r1.stormSpan < Config.stormFrames then s1.flap p .errorStorm else s1

/-- A burst checked in ACQUIRE (R155). -/
def State.receiveAcquire (s : State) (p : Port) (b : Burst) (valid : Bool) : State :=
  if valid && b.hop == 0 && decide (b.origin ≠ s.cfg.id) then s.setPort p ((s.port p).beginQualify b.origin) else s

/-- A burst checked in QUALIFY (R156). -/
def State.receiveQualify (s : State) (p : Port) (b : Burst) (valid : Bool) : State :=
  let r := s.port p
  if !valid then s.setPort p { r with qualify := 0 }
  else if b.hop ≠ 0 ∨ b.origin = s.cfg.id then s
  else if r.qualifyOrigin = some b.origin ∧ 0 < r.qualify then
    if Config.qualifyBursts ≤ r.qualify + 1 then { s with ports := s.ports.set p { r with qualify := Config.qualifyBursts } }.enterUp p
    else s.setPort p { r with qualify := r.qualify + 1 }
  else s.setPort p { r with qualify := 1, qualifyOrigin := some b.origin }

/-! ### Forwarding (spec 02, R26) -/

/-- A port state that sends forwarded bursts. -/
def PortState.forwards : PortState → Bool
  | .acquire => true
  | .qualify => true
  | .up => true
  | .quarantine => true
  | .dark => false
  | .loop => false

/-- A burst received on a port is forwarded out of the other (R26). -/
def State.forward (s : State) (p : Port) (b : Burst) : State :=
  let out := p.other
  let r := s.port out
  if 2 < b.hop ∨ r.state.forwards = false then s
  else if r.forward.length < Config.forwardRoom then s.setPort out { r with forward := r.forward ++ [b.forwarded] }
  else s.setPort out { r with drops := r.drops + 1 }

/-! ### Loop tests (R169 to R174) -/

/-- The role in a LOOP END record (R168). -/
def LoopRole.code : LoopRole → Nat
  | .testerNear => 0
  | .testerFar => 1
  | .returner => 2

/-- How a loop ended (R168). -/
inductive LoopOutcome where
  | completed
  | broken
  | cancelled
  deriving DecidableEq, Repr

/-- The outcome in a LOOP END record. -/
def LoopOutcome.code : LoopOutcome → Nat
  | .completed => 0
  | .broken => 1
  | .cancelled => 2

/-- The round trip of a loop, 0xFFFFFFFF for none. -/
def LoopRec.trip (x : LoopRec) : Word := x.roundTrip.getD 0xFFFFFFFF

/-- The snapshot of a LOOP END record (R168). -/
def LoopRec.snapshot (x : LoopRec) (outcome : LoopOutcome) : List Word :=
  match x.role with
  | .returner => [snap x.role.code, snap outcome.code, x.sent, 0, 0, 0xFFFFFFFF]
  | _ => [snap x.role.code, snap outcome.code, x.sent, x.returned, x.errors, x.trip]

/-- A port enters LOOP: its UP paths are lost and its forward buffer is emptied (R170 to R172). -/
def State.enterLoop (s : State) (p : Port) (role : LoopRole) (duration : Nat) (lane : Option (Fin 16)) : State :=
  let r := s.port p
  let x : LoopRec := { role := role, duration := duration, lane := lane, neighbour := s.neighbour p }
  let s1 := s.setPort p { r.enter .loop with loop := some x, returning := [] }
  if r.state = .up then s1.leftUp p else s1

/-- The port carries the only UP path of a reachable origin (R169, check 4). -/
def State.soleWay (s : State) (p : Port) : Bool :=
  (indices 4).any fun o => decide (o ≠ s.cfg.id) && (s.sup.path o p).up && !(s.sup.path o p.other).up

/-- A tester's counts are written into its step's payload (R173). -/
def State.writeLoop (s : State) (x : LoopRec) : State :=
  match x.lane with
  | some l => s.storeWords (s.join l) 8 [x.sent, x.returned, x.errors, x.trip]
  | none => s

/-- A tester's step ends (R173, R174). -/
def State.endTester (s : State) (x : LoopRec) (outcome : LoopOutcome) : State :=
  match x.lane, outcome with
  | some l, .completed => s.endStep l .ok 0 x.returned
  | some l, .broken => s.endStep l .broken 0 x.returned
  | _, _ => s

/-- A loop ends: a tester's counts are written, the port enters DARK if its signal is lost and ACQUIRE otherwise, the record
is written, and a tester's step ends (R172 to R174). -/
def State.endLoop (s : State) (p : Port) (outcome : LoopOutcome) : State :=
  match (s.port p).loop with
  | none => s
  | some x =>
    let s1 := s.writeLoop x
    let s2 := if outcome = .broken then s1.enterDark p else s1.enterAcquire p
    let s3 := s2.setPort p { s2.port p with loop := none, returning := [] }
    (s3.fault .loopEnd (some p) none x.neighbour (x.snapshot outcome)).endTester x outcome

/-- A burst that comes back to a tester (R173). -/
def LoopRec.take (x : LoopRec) (id : Fin 4) (mark : BitVec 16) (frame : Word) (b : Burst) (valid : Bool) : LoopRec :=
  if !valid then { x with errors := x.errors + 1 }
  else
    match x.firstTest with
    | none => x
    | some f =>
      if b.origin = id ∧ b.mark = mark ∧ earlier b.frame f = false then
        { x with returned := x.returned + 1,
                 roundTrip := match x.roundTrip with
                   | some t => some t
                   | none => some (frame - b.frame) }
      else x

/-- A test burst sent by a tester; a NEAR test's internal loop returns it within the frame (R170, R173). -/
def LoopRec.give (x : LoopRec) (id : Fin 4) (mark : BitVec 16) (frame : Word) (b : Burst) : LoopRec :=
  let x1 := { x with sent := x.sent + 1, firstTest := match x.firstTest with
    | some f => some f
    | none => some b.frame }
  match x.role with
  | .testerNear => x1.take id mark frame b (b.valid true)
  | _ => x1

/-- A port's measuring window or loop time has passed (R172, R173). -/
def PortRec.loopOver (r : PortRec) : Bool :=
  match r.loop with
  | some x => decide ((x.duration + match x.role with
      | .returner => Config.requestTimeout
      | _ => 0) ≤ r.timer)
  | none => false

/-- The role of a port in LOOP is a tester's. -/
def PortRec.testing (r : PortRec) : Bool :=
  match r.loop with
  | some x => decide (x.role ≠ .returner)
  | none => false

/-- The role of a port in LOOP is RETURN. -/
def PortRec.returns (r : PortRec) : Bool :=
  match r.loop with
  | some x => decide (x.role = .returner)
  | none => false

/-! ### Bursts as a port sends them (spec 02, R22, R26; spec 08, R170, R172) -/

/-- The burst built is given to a port (R22, R170, R172). -/
def State.giveBurst (s : State) (p : Port) (b : Burst) : State :=
  let r := s.port p
  match r.state with
  | .dark => s
  | .loop =>
    match r.loop with
    | some x =>
      if x.role = .returner then s
      else s.setPort p { r with sent := r.sent ++ [b], loop := some (x.give s.cfg.id s.mark s.clock.frame b) }
    | none => s
  | _ => s.setPort p { r with sent := r.sent ++ [b] }

/-- A port sends what its forward buffer holds, or what it is to return (R26, R172). -/
def State.sendForward (s : State) (p : Port) : State :=
  let r := s.port p
  if r.state.forwards then s.setPort p { r with sent := r.sent ++ r.forward, forward := [] }
  else match r.loop with
    | some x =>
      if x.role = .returner then
        s.setPort p { r with sent := r.sent ++ r.returning, returning := [],
                             loop := some { x with sent := x.sent + BitVec.ofNat 32 r.returning.length } }
      else s
    | none => s

end Sys2Proof.Machine
end

