-- ==== Sys2Proof/Machine/Playing.lean ====
section
/-!
DEFINITION. One frame of audio: the playout and its consumers (spec 03; spec 04, R64 to R70), and the burst of the frame
(spec 02, R22, R31, R32; spec 04, R72; spec 07, R127).
-/

namespace Sys2Proof.Machine

/-! ### Messages as commands (spec 04, R66, R70) -/

/-- The command a usable message is, taken from a sender; `frame` is the local frame of the playout that completed it. -/
def messageCommand (sender : Fin 4) (frame : Word) (kind : Nat) (b : List Byte) : Option Instr :=
  let at_ := byteAt b
  let half : Nat → BitVec 16 := fun i => BitVec.ofNat 16 (numAt b i 2)
  let set64 : Nat → BitVec 64 := fun i => BitVec.ofNat 64 (numAt b i 8)
  match kind with
  | 1 => some (.gainRequest sender (tagAt b 0) (at_ 3) (at_ 4) (at_ 5) (at_ 6))
  | 2 => some (.gainAnnounce (at_ 0) (at_ 1) (at_ 2) (at_ 3) (at_ 4) (at_ 5) (at_ 6) (wordAt b 7) (tagAt b 11) (at_ 14))
  | 3 => some (.gainRefused (tagAt b 0) (at_ 3) (at_ 4))
  | 4 => some (.claim sender (tagAt b 0) (set64 3))
  | 5 => some (.release sender (tagAt b 0) (set64 3))
  | 6 => some (.ownerAnnounce (set64 0) (at_ 8) (tagAt b 9) (set64 12))
  | 7 => some (.reference sender (at_ 0) (at_ 1) (wordAt b 2))
  | 8 => some (.mixSends sender (tagAt b 0) ((at_ 3).getLsbD 0) ((at_ 3).getLsbD 1)
      ((chunks 4 (b.drop 4)).map fun r => wordAt r 0))
  | 9 => some (.mixSet sender (tagAt b 0) (at_ 3) (at_ 4) (half 5) (half 7) (half 9))
  | 10 => some (.mixCue sender (tagAt b 0) (wordAt b 3) (at_ 7) (wordAt b 8) (wordAt b 12))
  | 11 => some (.mixAck (tagAt b 0) (at_ 3) (at_ 4) (at_ 5))
  | 12 => some (.talkOpen sender (at_ 0) (at_ 1) (wordAt b 2))
  | 13 => some (.talkClose sender (at_ 0) (at_ 1) (wordAt b 2))
  | 14 => some (.talkState sender (at_ 0) (at_ 1) (wordAt b 2) (wordAt b 6) (wordAt b 10))
  | 15 => some (.loopRequest sender (tagAt b 0) (at_ 3) (wordAt b 4))
  | 16 => some (.loopReply (tagAt b 0) (at_ 3) (at_ 4))
  | 17 => some (.note sender frame b)
  | _ => none

/-- A completed message is taken or found unusable (spec 04, R70). -/
def State.completeMessage (s : State) (o : Fin 4) (m : Nat × List Byte) : State :=
  if usable s.isStage o m.1 m.2.length then
    { s with svc.taken := Bank.update s.svc.taken o (· + 1),
             inbox := s.inbox ++ (messageCommand o s.clock.frame m.1 m.2).toList }
  else { s with svc.unusable := Bank.update s.svc.unusable o (· + 1) }

/-- An origin's service stream of one playout (spec 04, R64, R68, R69). -/
def State.takeStream (s : State) (p : Word) (frames : Bank 4 PlayedFrame) (o : Fin 4) : State :=
  if o = s.cfg.id then s
  else
    let items := streamItems (s.svc.lastFrame.get o) p (frames.get o)
    let got := (s.svc.assemblers.get o).takeAll s.cfg.id.val items
    let s1 : State :=
      { s with svc.assemblers := s.svc.assemblers.set o got.1,
               svc.framing := Bank.update s.svc.framing o (· + BitVec.ofNat 32 got.2.1),
               svc.lastFrame := s.svc.lastFrame.set o (some p) }
    got.2.2.foldl (fun st m => st.completeMessage o m) s1

/-! ### Switches due at a playout (spec 05, R84, R91, R92, R97, R98) -/

/-- SET REFERENCE steps that have queued every message end OK when the playout has reached every switch frame (R104). -/
def State.endReferences (s : State) : State :=
  (indices 16).foldl (fun st l =>
    match st.op? l with
    | some (.setReference [] count frames) =>
      if frames.all fun f => !later f st.playoutFrame then st.endStep l .ok 0 (snap count) else st
    | _ => st) s

/-- The changes of gain due at the playout about to be made are applied (R84, R91). -/
def State.applyGains (s : State) : State :=
  (indices 64).foldl (fun st n =>
    if st.isStage then (if st.pendingDue n then st.applyPending n else st)
    else if st.scheduledDue n then st.applyScheduled n else st) s

/-- The references due at the playout about to be made are applied (R98). -/
def State.applyReferences (s : State) : State :=
  (indices 4).foldl (fun st u => (indices 64).foldl (fun st' n =>
    if st'.referenceDue u n then st'.applyReference u n else st') st) s

/-- The mutes that end at the playout about to be made end (R92). -/
def State.endMutes (s : State) : State :=
  (indices 64).foldl (fun st n => if st.muteDue n then st.endMute n else st) s

/-- Every compensation ramp advances by one step (R97). -/
def State.advanceRamps (s : State) : State :=
  let effective : Bank 64 Int := Bank.mapNum (fun i _ => match index? 64 i with
    | some n => (s.setting n).effective
    | none => 0) (Vector.replicate 64 (0 : Int))
  { s with gain.tracking := Bank.mapAll (fun table : Bank 64 TrackEntry =>
      Bank.zipAll (fun (t : TrackEntry) e => t.advance e) table effective) s.gain.tracking }

/-- The cues due at the frame computation about to be made, in ascending order of mix (spec 06, R119; the order is a DESIGN CHOICE,
log entry 58). -/
def State.takeCues (s : State) : State :=
  (indices 32).foldl (fun st m => if st.cueIsDue m then st.takeCue m else st) s

/-! ### Delivery (spec 03, R59, R60) -/

/-- The sample of an output's source in this frame (R59). -/
def State.outputSample (s : State) (frames : Bank 4 PlayedFrame) : OutputSource → Sample
  | .none => 0
  | .slot o slot tracking => s.trackedSlot frames o slot tracking
  | .mix m => s.mixOutput m
  | .localInput n => s.localInput n

/-- The delivery map steps its fades, and every output takes its sample (R59, R61). -/
def State.deliver (s : State) (frames : Bank 4 PlayedFrame) : State :=
  let map := Bank.mapAll Fade.step s.delivery
  { s with
    delivery := map
    conv.delivered := Bank.mapAll (fun f : Fade OutputSource =>
      scaleSample (s.outputSample frames f.current) f.gain Config.fadeSteps) map }

/-! ### The playout (spec 03, R45, R49, R53) -/

/-- The samples of a TDM frame; a position the list lacks carries 0. -/
def tdmSamples (tdm : List Sample) : Bank 64 Sample :=
  Bank.mapNum (fun i _ => tdm.getD i 0) (Vector.replicate 64 (0 : Sample))

/-- The part of the playout that comes before the merge records play: switches, ramps, cues. -/
def State.beforePlayout (s : State) (tdm : List Sample) : State :=
  let s1 : State := { s with conv.tdmIn := tdmSamples tdm }
  s1.applyReferences.applyGains.endMutes.advanceRamps.takeCues

/-- What every record yields at the playout of frame p (R49). -/
def Merge.playAll (m : Merge) (p : Word) : Bank 4 (MergeRec × PlayedFrame) := Bank.mapAll (fun r => r.play p) m.records

/-- The playout of this frame and its consumers (R45, R49, R53). Messages of several origins that it completes are taken in
ascending order of origin (spec 04, R81; DESIGN CHOICE, log entry 40). -/
def State.playout (s : State) (tdm : List Sample) : State :=
  let s1 := s.beforePlayout tdm
  let p := s1.playoutFrame
  let played := s1.merge.playAll p
  let frames := Bank.mapAll (fun r : MergeRec × PlayedFrame => r.2) played
  let s2 : State := { s1 with merge.records := Bank.mapAll (fun r : MergeRec × PlayedFrame => r.1) played }
  let s3 := ((s2.computeMixes frames).deliver frames).measure frames
  let s4 := (indices 4).foldl (fun st o => st.takeStream p frames o) s3
  { s4.endReferences with merge.playedNow := true, merge.point := p + 1, gain.switched := [] }

/-! ### The burst (spec 02, R22, R29, R31, R32; spec 07, R127) -/

/-- The sample of a slot's source in this frame (R31). -/
def State.sourceSample (s : State) : SlotSource → Sample
  | .silent => 0
  | .localInput n => s.localInput n
  | .mix m => s.mixOutput m

/-- The gate level moved one step toward its target (spec 07, R127). -/
def gateStep (level target : Nat) : Nat := if level < target then level + 1 else if target < level then level - 1 else level

/-- The slots of the burst, from a map and a gate level that have stepped (R31; spec 07, R127). -/
def State.burstSlots (s : State) (map : Bank 64 (Fade SlotSource)) (gate : Nat) : List Sample :=
  (map.toList.take s.cfg.slotCount).mapIdx fun i f =>
    let v := scaleSample (s.sourceSample f.current) f.gain Config.fadeSteps
    if s.cfg.talkSlot = some i then scaleSample v gate Config.fadeSteps else v

/-- The reachable terminals (R161). -/
def State.reachList (s : State) : List Nat := ((indices 4).filter fun o => s.reachable o).map (·.val)

/-- A message's last byte has been placed: its producer is told (spec 04, R72, R76, R80; spec 07, R131; spec 08, R172). A request
starts the count of its own entry. -/
def State.messageSent (s : State) (m : Message) : State :=
  match m.producer with
  | .block => s
  | .request l number =>
    match s.entryOf l number with
    | none => s
    | some r =>
      if s.reachable r.target then
        { s with svc.requests := s.svc.requests.map fun x =>
            if x.lane = l ∧ x.number = number then { x with state := .waiting 0 } else x }
      else s.requestEnds r .unreachable
  | .note l =>
    match s.op? l with
    | some (.sendNote length) => s.endStep l .ok 0 (snap length)
    | _ => s
  | .talkOpen g u seq =>
    s.modGroup g fun y => y.modOutbox u fun e =>
      if e.told = some seq then { e with sent := some s.clock.frame, waited := some 0 } else e
  | .loopReply facing _ duration =>
    if (s.port facing).state = .up ∧ (s.port facing.other).state ≠ .loop then
      s.enterLoop facing .returner duration none
    else s

/-- A message was discarded at the head: its producer is told (spec 04, R74, R77, R80). -/
def State.messageDiscarded (s : State) (m : Message) : State :=
  match m.producer with
  | .request l number =>
    match s.entryOf l number with
    | some r => s.requestEnds r .unreachable
    | none => s
  | .note l =>
    match s.op? l with
    | some (.sendNote _) => s.endStep l .unreachable 0 0
    | _ => s
  | _ => s

/-- What the filling of the service bytes tells. -/
def State.serviceEvent (s : State) : ServiceEvent → State
  | .sent m => s.messageSent m
  | .discarded m => s.messageDiscarded m

/-- The burst of this frame, from the state as it stands with its maps stepped (R22, R23, R29). -/
def State.theBurst (s : State) (slots : List Sample) (service : List ServiceByte) : Burst :=
  ({ head := originByte s.cfg.id 0, mark := s.mark, frame := s.clock.frame,
     slotCount := BitVec.ofNat 8 s.cfg.slotCount,
     talkSlot := match s.cfg.talkSlot with
       | some k => BitVec.ofNat 8 k
       | none => 255
     summary := s.summary, slots := slots, service := service, check := 0 } : Burst).sealed

/-- The burst of this frame is built, given to both ports and offered to this terminal's own merge record (R22). -/
def State.build (s : State) : State :=
  let map := Bank.mapAll Fade.step s.xmit
  let gate := gateStep s.talk.gate s.gateTarget
  let slots := s.burstSlots map gate
  let filled := s.svc.fill s.reachList 8
  let b := s.theBurst slots filled.2.1
  let s1 : State := { s with xmit := map, talk.gate := gate, svc := filled.1, built := true, lastBurst := some b }
  let s2 := (s1.giveBurst .east b).giveBurst .west b
  let s3 : State := { s2 with merge := s2.merge.arrive s.cfg.id b.stored }
  filled.2.2.foldl State.serviceEvent s3

end Sys2Proof.Machine
end

