-- ==== Sys2Proof/Machine/Views.lean ====
section
/-!
DEFINITION. The three views: their bodies, what causes a rewrite, and the rewrite (spec 01, R21; spec 05, R100; spec 07, R147;
spec 08, R165, R166).
-/

namespace Sys2Proof.Machine

/-! ### The input view (spec 05, R100) -/

/-- An input's words 0 and 1 from the stage's table. -/
def InputEntry.viewWords (e : InputEntry) : Word × Word :=
  let present := bitNat e.pending.isSome
  let switch : Word := match e.pending with
    | some c => c.switch.getD 0
    | none => 0
  (BitVec.ofNat 32
    (e.setting.gain + field (bitNat e.setting.pad) 8 + field (bitNat e.setting.phantom) 9 + field e.state.code 10
      + field (bitNat e.orphaned) 12 + field (idCode e.owner) 13 + field present 16 + field (bitNat e.waiting.isSome) 17),
   switch)

/-- An input's words 0 and 1 from a desk's mirror. -/
def MirrorEntry.viewWords (e : MirrorEntry) : Word × Word :=
  let switch : Word := match e.scheduled with
    | some c => c.switch
    | none => 0
  (BitVec.ofNat 32
    (e.setting.gain + field (bitNat e.setting.pad) 8 + field (bitNat e.setting.phantom) 9 + field e.state.code 10
      + field (bitNat e.orphaned) 12 + field (idCode e.owner) 13 + field (bitNat e.scheduled.isSome) 16
      + field (bitNat e.fresh) 18),
   switch)

/-- An input's word 2: the own reference, the own c, and the ramp and reference flags. -/
def TrackEntry.viewWord (t : TrackEntry) (e : Int) : Word :=
  BitVec.ofNat 32
    ((refByte t.reference).toNat + field (BitVec.ofInt 8 (compOf t.reference e)).toNat 8 + field (bitNat t.limited) 16
      + field (bitNat t.ramp.isSome) 17 + field (bitNat t.scheduled.isSome) 18)

/-- The three words of an input. -/
def State.inputWords (s : State) (n : Fin 64) : List Word :=
  let w := if s.isStage then (s.gain.table.get n).viewWords else (s.gain.mirror.get n).viewWords
  [w.1, w.2, (s.track s.cfg.id n).viewWord (s.setting n).effective]

/-- The fresh entries of a desk's mirror; 64 at the stage. -/
def State.freshCount (s : State) : Nat :=
  if s.isStage then 64 else (s.gain.mirror.toList.filter fun m => m.fresh).length

/-- The body of the input view, from offset 0x04. -/
def State.inputBody (s : State) : List Word :=
  [ BitVec.ofNat 32 (bitNat (!s.isStage && s.gain.stale) + field (bitNat s.isStage) 1 + field s.freshCount 8),
    s.gain.lateGains, 0 ] ++ (indices 64).flatMap s.inputWords

/-! ### The ring view (spec 08, R165, R166) -/

/-- A round trip in 16 bits, 0xFFFF for none (R166). Of one that does not fit, the low 16 bits (DESIGN CHOICE, log entry 49). -/
def tripField : Option Word → Nat
  | some w => w.toNat % 2 ^ 16
  | none => 0xFFFF

/-- The word at 0x04. -/
def State.ringWord1 (s : State) : Word :=
  BitVec.ofNat 32
    (s.ports.east.state.code + field s.ports.west.state.code 4 + field (bitNat s.sup.eastward.closed) 8
      + field (bitNat s.sup.westward.closed) 9 + field s.ringSize 12 + field s.reachSet 16
      + field (idCode (s.neighbour .east)) 20 + field (idCode (s.neighbour .west)) 24
      + field (bitNat s.ports.east.conflictReported) 28 + field (bitNat s.ports.west.conflictReported) 29)

/-- The word at 0x08. -/
def State.ringWord2 (s : State) : Word :=
  BitVec.ofNat 32 (tripField s.sup.eastward.roundTrip + field (tripField s.sup.westward.roundTrip) 16)

/-- The word at 0x0C, less the stamps in the flap histories. -/
def State.ringWord3 (s : State) : Nat :=
  idCode (s.eastOrder 1) + field (idCode (s.eastOrder 2)) 4 + field (idCode (s.eastOrder 3)) 8
    + field s.clock.state.code 16 + field (idCode s.clock.source) 20

/-- Word 0 of a row. -/
def State.rowWord0 (s : State) (o : Fin 4) : Word :=
  let e := s.sup.path o .east
  let w := s.sup.path o .west
  let paths := bitNat e.up * 4 + field (bitNat w.up) 3 + field e.hop 4 + field w.hop 6
  BitVec.ofNat 32 (bitNat (s.sup.present.get o) + field (bitNat (s.reachable o)) 1 + if o = s.cfg.id then 0 else paths)

/-- A count of frames, 0xFFFFFFFF for none (R166). Of a count past its word, the low 32 bits (DESIGN CHOICE, log entry 67). -/
def sinceWord : Option Nat → Word
  | some n => snap n
  | none => 0xFFFFFFFF

/-- The 15 words of a row. Word 1 of an origin from which no summary has come shows 0 (DESIGN CHOICE, log entry 68). -/
def State.rowWords (s : State) (o : Fin 4) : List Word :=
  let e := s.sup.path o .east
  let w := s.sup.path o .west
  let last : Word := match s.sup.summaries.get o with
    | some (x, _) => x
    | none => 0
  if o = s.cfg.id then
    [s.rowWord0 o, 0, 0] ++ s.mergeCounters o
      ++ [s.svc.sent, s.svc.discards, s.svc.replyDrops, s.ports.east.failures, s.ports.west.failures,
          s.ports.east.drops, s.ports.west.drops]
  else
    [s.rowWord0 o, last, s.summaryAge o] ++ s.mergeCounters o
      ++ [s.svc.taken.get o, s.svc.framing.get o, s.svc.unusable.get o, sinceWord e.since, sinceWord w.since,
          e.losses.setWidth 32, w.losses.setWidth 32]

/-- The body of the ring view, from offset 0x04. -/
def State.ringBody (s : State) : List Word :=
  [ s.ringWord1, s.ringWord2,
    BitVec.ofNat 32 (s.ringWord3 + field s.ports.east.flaps.length 24 + field s.ports.west.flaps.length 26) ]
    ++ (indices 4).flatMap s.rowWords

/-- What a change of which rewrites the ring view (R165). -/
def State.ringTrigger (s : State) : List Word :=
  [s.ringWord1, BitVec.ofNat 32 s.ringWord3] ++ (indices 4).map s.rowWord0

/-! ### The talk view (spec 07, R147) -/

/-- The code of a target state. -/
def TargetState.code : TargetState → Nat
  | .closed => 0
  | .held => 1
  | .waiting => 2
  | .lost => 3

/-- The code of a button state. -/
def ButtonState.code : ButtonState → Nat
  | .idle => 0
  | .talking => 1
  | .latched => 2
  | .pending _ => 3

/-- The two words of a group. -/
def Group.viewWords (x : Group) : List Word :=
  [ BitVec.ofNat 32
      (bitNat x.isOpen + field x.buttons.toNat 8 + field (bitNat x.lanes) 16 + field x.targets.length 17
        + field x.seq.toNat 24),
    BitVec.ofNat 32 ((x.targets.mapIdx fun i t => field t.state.code (2 * i)).foldl (· + ·) 0) ]

/-- The word of an insert. -/
def Insert.viewWord (i : Insert) : Word :=
  let at_ : Nat → Nat := fun k => idCode ((i.waiting[k]?).map (·.talker))
  BitVec.ofNat 32 (idCode (i.holder.map (·.talker)) + field (at_ 0) 4 + field (at_ 1) 8 + field (at_ 2) 12)

/-- The two words of a button. -/
def Button.viewWords (b : Button) : List Word :=
  [ BitVec.ofNat 32 (b.state.code + field (bitNat b.level) 4 + field b.presses.toNat 16), b.missed.setWidth 32 ]

/-- The body of the talk view, from offset 0x04. -/
def State.talkBody (s : State) : List Word :=
  [ BitVec.ofNat 32 (bitNat (s.gateTarget != 0)),
    BitVec.ofNat 32 (s.rank 0 + field (s.rank 1) 4 + field (s.rank 2) 8 + field (s.rank 3) 12),
    BitVec.ofNat 32 (((indices 8).map fun i => field (s.lamp i).code (2 * i.val)).foldl (· + ·) 0) ]
    ++ s.talk.groups.toList.flatMap Group.viewWords ++ s.talk.inserts.toList.map Insert.viewWord
    ++ s.talk.buttons.toList.flatMap Button.viewWords

/-! ### Rewrites (spec 01, R21) -/

/-- A view's record. -/
def State.view (s : State) : View → ViewRec
  | .input => s.inputView
  | .ring => s.ringView
  | .talk => s.talkView

/-- A view's record, replaced. -/
def State.setView (s : State) (v : View) (r : ViewRec) : State :=
  match v with
  | .input => { s with inputView := r }
  | .ring => { s with ringView := r, sup.refreshAge := if r.rewriting then 0 else s.sup.refreshAge }
  | .talk => { s with talkView := r }

/-- A view's area. -/
def State.viewBase (s : State) : View → Nat
  | .input => s.cfg.inputView
  | .ring => s.cfg.ringView
  | .talk => s.cfg.talkView

/-- A view's body. -/
def State.viewBody (s : State) : View → List Word
  | .input => s.inputBody
  | .ring => s.ringBody
  | .talk => s.talkBody

/-- What a change of which rewrites a view. -/
def State.viewTrigger (s : State) : View → List Word
  | .input => s.inputBody
  | .ring => s.ringTrigger
  | .talk => s.talkBody

/-- A view's ATTENTION bit (R5). -/
def viewBit : View → Nat
  | .input => 21
  | .ring => 18
  | .talk => 20

/-- A rewrite's writes: the change count to an odd value, the body, the count to an even value (R21). -/
def State.writeView (s : State) (v : View) : State :=
  let c := (s.view v).count
  let base := s.viewBase v
  let s1 := s.poke base (c + 1)
  let s2 := s1.pokeAll (base + 4) (s.viewBody v)
  (s2.poke base (c + 2)).setView v { count := c + 2, rewriting := true, again := false }

/-- A view is rewritten, and its ATTENTION bit set (R21). -/
def State.rewrite (s : State) (v : View) : State := (s.writeView v).attend (viewBit v)

/-- A change to what a view shows: a rewrite, or a further rewrite owed while one is in progress (R21). -/
def State.viewChanged (s : State) (v : View) : State :=
  if (s.view v).rewriting then s.setView v { s.view v with again := true } else s.rewrite v

/-- A view follows a change from an earlier state (R21). -/
def State.followView (s before : State) (v : View) : State :=
  if s.isRunning && s.viewTrigger v != before.viewTrigger v then s.viewChanged v else s

/-- A state with the rewrites of the views whose shown state differs from an earlier state's (R21). -/
def State.withViews (t before : State) : State :=
  ((t.followView before .input).followView before .ring).followView before .talk

/-- A command's effect on a running terminal, with the rewrites of the views whose state it changed (R21). -/
def viewing (f : State → State) (s : State) : State := (f s).withViews s

/-- A command that acts while the run state is RUNNING and has no effect otherwise (log entry 15). -/
def running (f : State → State) (s : State) : State := if s.isRunning then viewing f s else s

end Sys2Proof.Machine
end

