-- ==== Sys2Proof/Machine/Starting.lean ====
section
/-!
DEFINITION. Resets, stops and starts: the stopped state of every block, the writes to CONTROL, the anchor check and the
preparation of a run (spec 01, R3, R6 to R11; spec 10, R186 to R191).
-/

namespace Sys2Proof.Machine

/-! ### The stopped state (R6, R7) -/

/-- The ports in the stopped state, each with its receiver's signal as last reported (spec 08, R152; DESIGN CHOICE, log entry 8). -/
def State.portsAtRest (s : State) : Both PortRec :=
  ⟨{ signal := s.ports.east.signal }, { signal := s.ports.west.signal }⟩

/-- The stopped state of every block. Kept: the queue, the reset pin, the origin mark, the exchange RAM, the local frame
counter, each receiver's signal, the last-word records and the levels on the button pins; `tdm` is the output frame under way
(R186). -/
def State.stopped (s : State) (regs : Regs) (tdm : Bank 64 Sample) : State :=
  { pending := s.pending, resetLow := s.resetLow, mark := s.mark, ram := s.ram, regs := regs,
    ports := s.portsAtRest,
    clock := { frame := s.clock.frame },
    conv := { schedule := resetWords s.clock.frame, lastWords := s.conv.lastWords, gpi := s.conv.gpi, tdmOut := tdm } }

/-- The power-on state: every register 0, FRAME 0, with RAM contents, the port records and the preamp word schedule given (R6). -/
def State.poweredOn (s : State) (resetLow : Bool) (ram : List Host.Cell) (ports : Both PortRec) (schedule : List PreampWord) :
    State :=
  { pending := s.pending, resetLow := resetLow, mark := s.mark, ram := ram, ports := ports,
    conv := { schedule := schedule, gpi := s.conv.gpi } }

/-- A SOFT RESET (R6). -/
def State.softReset (s : State) : State := s.stopped {} (Vector.replicate 64 0)

/-- A stop (R7). -/
def State.stop (s : State) : State := s.stopped { s.regs with run := false, runState := .stopped } s.conv.tdmOut

/-- A start: STARTING, with no anchor word read (R8). -/
def State.start (s : State) : State :=
  { s with regs := { s.regs with run := true, runState := .starting, verdict := .none }, anchorRead := [] }

/-- A write to CONTROL (R3). -/
def State.controlWrite (s : State) (w : Word) : State :=
  if w.getLsbD 1 then s.softReset
  else
    let s1 : State := { s with regs.mask := w.extractLsb' 8 24 }
    match w.getLsbD 0, s.regs.runState with
    | true, .stopped => s1.start
    | true, _ => s1
    | false, .stopped => s1
    | false, _ => s1.stop

/-! ### The anchor (R8, R9) -/

/-- The next anchor word is read (R8). -/
def State.readAnchorWord (s : State) : State :=
  if s.anchorRead.length < Config.anchorWords then
    { s with anchorRead := s.anchorRead ++ [s.peek (4 * s.anchorRead.length)] }
  else s

/-- Every anchor word: those already read, and the rest as they stand in RAM. -/
def State.anchor (s : State) : List Word :=
  s.anchorRead ++ ((List.range Config.anchorWords).drop s.anchorRead.length).map fun i => s.peek (4 * i)

/-- A field of an anchor word. -/
def anchorField (words : List Word) (word low width : Nat) : Nat := ((words.getD word 0).toNat / 2 ^ low) % 2 ^ width

/-- The fault log capacity as clamped (R9). -/
def faultCapacityOf (words : List Word) : Nat := clampNat 8 256 (anchorField words 10 0 16)

/-- The note list capacity as clamped (R9). -/
def noteCapacityOf (words : List Word) : Nat := clampNat 4 64 (anchorField words 10 16 16)

/-- The six areas: offset and size (R8). -/
def areasOf (words : List Word) : List (Nat × Nat) :=
  let at_ : Nat → Nat := fun i => anchorField words (4 + i) 0 32
  [ (at_ 0, 512), (at_ 1, 1024), (at_ 2, 256), (at_ 3, 512), (at_ 4, 16 + 32 * faultCapacityOf words),
    (at_ 5, 16 + 64 * noteCapacityOf words) ]

/-- An area is misplaced by itself (R8, check 4). -/
def areaBad (a : Nat × Nat) : Bool :=
  a.1 % 4 != 0 || decide (a.1 < Config.anchorSize) || decide (Config.ramSize < a.1 + a.2)

/-- Two areas share a byte. -/
def areasMeet (a b : Nat × Nat) : Bool := decide (a.1 < b.1 + b.2) && decide (b.1 < a.1 + a.2)

/-- Some two areas share a byte. -/
def anyMeet : List (Nat × Nat) → Bool
  | [] => false
  | a :: rest => rest.any (areasMeet a) || anyMeet rest

/-- The verdict of the anchor check (R8). -/
def verdictOf (words : List Word) : Verdict :=
  let slots := anchorField words 2 8 8
  let talk := anchorField words 2 16 8
  if words.getD 0 0 ≠ Config.signature ∨ anchorField words 1 0 16 ≠ 1 then .badSignature
  else if 3 < anchorField words 2 0 8 then .badId
  else if 64 < slots ∨ (talk ≠ 255 ∧ slots ≤ talk) then .badCount
  else if (areasOf words).any areaBad || anyMeet (areasOf words) then .badLayout
  else .anchorOk

/-- The values in use for the run (R8, R9). -/
def configOf (words : List Word) : RunConfig :=
  let talk := anchorField words 2 16 8
  let at_ : Nat → Nat := fun i => anchorField words (4 + i) 0 32
  { id := (index? 4 (anchorField words 2 0 8)).getD 0
    slotCount := anchorField words 2 8 8
    talkSlot := if talk = 255 then none else some talk
    identity := anchorField words 2 24 1 == 1
    delay := clampNat 8 63 (anchorField words 3 0 8)
    latency := clampNat 0 63 (anchorField words 3 8 8)
    laneTable := at_ 0, inputView := at_ 1, ringView := at_ 2, talkView := at_ 3, faultLog := at_ 4, noteList := at_ 5,
    faultCapacity := faultCapacityOf words, noteCapacity := noteCapacityOf words }

/-- A failed check: the verdict, STOPPED, RUN cleared (R8). -/
def State.reject (s : State) (v : Verdict) : State :=
  { s with regs := { s.regs with run := false, runState := .stopped, verdict := v }, anchorRead := [] }

/-! ### Preparing a run (R9 to R11, R20, R21) -/

/-- The in-use words are written (R9). -/
def State.writeInUse (s : State) : State :=
  s.pokeAll 0x30
    [BitVec.ofNat 32 (s.cfg.delay + field s.cfg.latency 8), BitVec.ofNat 32 (s.cfg.faultCapacity + field s.cfg.noteCapacity 16)]

/-- A lane context and its entry at the start of a run (R11). -/
def State.initLane (s : State) (l : Fin 16) : State :=
  let s1 : State := { s with lanes := s.lanes.set l { lastSeen := s.postCount l } }
  (s1.pokeAll (s.entry l + 16) [0, 0, 0, 0]).poke (s.entry l + 8) 0

/-- The blocks as a run begins (R10; spec 06, R105). The next edge opens the first local frame, and with it the first scan
(spec 10, R185): till then no playout and no burst is owed. The reset words a desk has not sent yet stay in its schedule and are not sent (spec 10,
R187; DESIGN CHOICE, log entry 52). -/
def State.prepareBlocks (s : State) (c : RunConfig) : State :=
  { s with
    cfg := c
    merge := { s.merge with delay := c.delay, point := minusFrames s.clock.frame c.delay + 1, playedNow := true }
    built := true
    mix.mixes := Bank.mapAll (fun x : Mix => { x with controller := c.id }) s.mix.mixes
    xmit := startMap c.identity c.slotCount
    ports := ⟨{ s.ports.east with state := .acquire }, { s.ports.west with state := .acquire }⟩
    clock := { s.clock with state := if c.id = 0 then .master else .deputy }
    conv := { s.conv with schedule := if c.id = 0 then resetWords s.clock.frame else s.conv.schedule,
                          wordClock := false, edges := .oscillator }
    anchorRead := [], scanPhase := Config.scanInterval - 1, scanDue := false }

/-- The lanes, lists and views as a run begins, each in RAM (R9, R11, R20, R21). -/
def State.prepareRam (s : State) : State :=
  let s1 := (indices 16).foldl (fun st l => st.initLane l) s.writeInUse
  let s2 := (s1.initList s.cfg.faultLog s.cfg.faultCapacity).initList s.cfg.noteList s.cfg.noteCapacity
  ((s2.writeView .input).writeView .ring).writeView .talk

/-- RUNNING, with the views' ATTENTION bits set (R10, R21; log entry 16). -/
def State.enterRunning (s : State) : State :=
  let s1 : State := { s with regs := { s.regs with runState := .running, verdict := .anchorOk } }
  ((s1.attend 21).attend 18).attend 20

/-- A run begins after a good check (R9, R10). -/
def State.beginRun (s : State) (c : RunConfig) : State :=
  (s.prepareBlocks c).prepareRam.enterRunning

/-- The anchor read ends and its checks are made (R8). -/
def State.checkAnchor (s : State) : State :=
  match verdictOf s.anchor with
  | .anchorOk => s.beginRun (configOf s.anchor)
  | v => s.reject v

end Sys2Proof.Machine
end

