-- ==== Sys2Proof/Machine/Bus.lean ====
section
/-!
DEFINITION. The meanings of the supply, reset pin and host bus commands (spec 01, R1 to R11; spec 10, R191).
-/

namespace Sys2Proof.Machine

/-- POWER_ON (R6): the reset pin keeps its level; while it is low the preamp words are not yet added (spec 10, R191). No receiver has
reported a signal (DESIGN CHOICE, log entry 8). -/
def execPowerOn (contents : List (BitVec 16 × Word)) (s : State) : Host.Outcome State Fault Refusal :=
  .next (s.poweredOn s.resetLow (ramOf contents) ⟨{}, {}⟩ (if s.resetLow then [] else resetWords 0))

/-- RESET_PIN_LOW: the power-on state, and no bus access served (spec 10, R191). No receiver has reported a signal (DESIGN CHOICE, log
entry 8). -/
def execResetPinLow (s : State) : Host.Outcome State Fault Refusal := .next (s.poweredOn true s.ram ⟨{}, {}⟩ [])

/-- RESET_PIN_RELEASE: the reset takes effect as the pin rises, and the 64 preamp words are added (spec 10, R191, R187). A signal that
a receiver reported while the pin was low stands (spec 08, R152; DESIGN CHOICE, log entry 8). -/
def execResetPinRelease (contents : List (BitVec 16 × Word)) (s : State) : Host.Outcome State Fault Refusal :=
  .next (if s.resetLow then s.poweredOn false (ramOf contents) s.portsAtRest (resetWords 0) else s)

/-- HOST_RAM_WRITE (R1). -/
def execHostRamWrite (word : BitVec 16) (value : Word) (s : State) : Host.Outcome State Fault Refusal :=
  .next (s.hostWrite (4 * word.toNat) value)

/-- A write to CONTROL, which no block serves while the reset pin is low (R3; spec 10, R191). -/
def State.hostControl (s : State) (value : Word) : State := if s.resetLow then s else s.controlWrite value

/-- SOFT_RESET: a write to CONTROL (R3, R6). -/
def execSoftReset (value : Word) (s : State) : Host.Outcome State Fault Refusal := .next (s.hostControl value)

/-- RUN_START: a write to CONTROL (R3, R8). -/
def execRunStart (value : Word) (s : State) : Host.Outcome State Fault Refusal := .next (s.hostControl value)

/-- RUN_STOP: a write to CONTROL (R3, R7). -/
def execRunStop (value : Word) (s : State) : Host.Outcome State Fault Refusal := .next (s.hostControl value)

/-- ATTENTION_MASK_WRITE: a write to CONTROL (R3). -/
def execAttentionMaskWrite (value : Word) (s : State) : Host.Outcome State Fault Refusal := .next (s.hostControl value)

/-- ATTENTION_CLEAR: a written 1 makes a bit 0 (R5). -/
def execAttentionClear (value : Word) (s : State) : Host.Outcome State Fault Refusal :=
  .next (if s.resetLow then s else { s with regs.attention := s.regs.attention &&& ~~~ value.extractLsb' 0 23 })

/-- IGNORED_REGISTER_WRITE: a write to a read-only register or to an offset that holds no register (R1, R2). -/
def execIgnoredRegisterWrite (_word : BitVec 17) (_value : Word) (s : State) : Host.Outcome State Fault Refusal := .next s

/-- ANCHOR_CHECK: the anchor read ends and the checks are made (R8 to R11). -/
def execAnchorCheck (s : State) : Host.Outcome State Fault Refusal :=
  .next (if s.regs.runState = .starting then s.checkAnchor else s)

end Sys2Proof.Machine
end

