-- ==== Sys2Proof/Machine/Sending.lean ====
section
/-!
DEFINITION. Steps that send several messages, and what a producer does when it is given room (spec 04, R73, R76; spec 05, R101,
R103, R104).
-/

namespace Sys2Proof.Machine

/-! ### SET INPUT at a desk (spec 05, R101) -/

/-- The body of a GAIN REQUEST, less its tag: the gain clamped, pad and phantom as 0 or 1 (DESIGN CHOICE, log entry 57). -/
def requestBody (n : Fin 64) (x : Setting) : List Byte :=
  [BitVec.ofNat 8 n.val, BitVec.ofNat 8 x.gain, BitVec.ofNat 8 (bitNat x.pad), BitVec.ofNat 8 (bitNat x.phantom)]

/-- A lane's step waits for room or for an entry of the pending request table. -/
def State.waits (s : State) (l : Fin 16) : Bool := (s.lane l).held.isSome || (s.lane l).want.isSome

/-- The entries of a SET INPUT step that are not yet sent are requested in payload order, until the step is held (R101). -/
def State.sendInputs (l : Fin 16) : Nat → State → State
  | 0, s => s
  | fuel + 1, s =>
    match s.op? l with
    | some (.setInput es) =>
      if s.waits l then s
      else
        match es.findIdx? fun e => e.state == .unsent with
        | none => s
        | some i =>
          match es[i]? with
          | none => s
          | some e =>
            let sent := es.set i { e with state := .requested ((s.lane l).given + 1) }
            let s1 := (s.putOp l (.setInput sent)).request l
              { target := 0, kind := 1, body := requestBody e.input e.setting }
            State.sendInputs l fuel s1
    | _ => s

/-- A lane's SET INPUT step goes on to its next entries. -/
def State.moreInputs (s : State) (l : Fin 16) : State :=
  match s.op? l with
  | some (.setInput es) => State.sendInputs l es.length s
  | _ => s

/-! ### SET REFERENCE (spec 05, R104) -/

/-- The reference an entry's mode stands for, as the step reaches it (R104). -/
def State.fixReference (s : State) (n : Fin 64) : RefMode → Option Int
  | .trackNow => some (s.setting n).effective
  | .fixed v => v

/-- The head of a SET REFERENCE step's list is queued (R98, R104). -/
def State.sendHeadReference (s : State) (l : Fin 16) : State :=
  match s.op? l with
  | some (.setReference ((n, mode) :: rest) count frames) =>
    let f := plusFrames s.clock.frame (s.merge.delay + Config.switchLead)
    (s.putOp l (.setReference rest count (frames ++ [f]))).sendReference n (s.fixReference n mode)
  | _ => s

/-- The entries of a SET REFERENCE step are queued in payload order, until the step is held (R104). -/
def State.sendReferences (l : Fin 16) : Nat → State → State
  | 0, s => s
  | fuel + 1, s =>
    match s.op? l with
    | some (.setReference ((n, mode) :: rest) count frames) =>
      if s.svc.mayPlace .urgent then State.sendReferences l fuel (s.sendHeadReference l)
      else
        let kept := (n, RefMode.fixed (s.fixReference n mode)) :: rest
        { s.putOp l (.setReference kept count frames) with svc := s.svc.hold .urgent (.lane l) }
    | _ => s

/-- A lane's SET REFERENCE step goes on to its next entries. -/
def State.moreReferences (s : State) (l : Fin 16) : State :=
  match s.op? l with
  | some (.setReference todo _ _) => State.sendReferences l (todo.length + 1) s
  | _ => s

/-! ### CLAIM INPUTS and RELEASE INPUTS (spec 05, R103) -/

/-- The status a CLAIM INPUTS or RELEASE INPUTS step ends with (R103). -/
def claimStatus (release : Bool) (inputs result : BitVec 64) : Status :=
  if inputs &&& ~~~ result = 0 then .ok
  else if !release && decide (inputs &&& result = 0) then .held
  else .partly

/-- The result set is written into the payload, and the step ends (R103). -/
def State.endClaim (s : State) (l : Fin 16) (result : BitVec 64) : State :=
  match s.op? l with
  | some (.claim release inputs _) =>
    (s.storeJoined (s.join l) 8 (leBytes 8 result.toNat)).endStep l (claimStatus release inputs result) 0
      (snap (popCount result))
  | _ => s

/-! ### Room and entries (spec 04, R73, R76) -/

/-- A lane's step goes on when its message has been placed. -/
def State.afterPlaced (s : State) (l : Fin 16) : State :=
  match s.op? l with
  | some (.setInput _) => s.moreInputs l
  | some (.claim _ _ (some result)) => s.endClaim l result
  | _ => s

/-- A held lane places its message (R73). -/
def State.placeHeld (s : State) (l : Fin 16) : State :=
  match s.op? l with
  | some (.setReference _ _ _) => (s.sendHeadReference l).moreReferences l
  | _ =>
    match (s.lane l).held with
    | some m => ((s.modLane l fun x => { x with held := none }).enqueue m).afterPlaced l
    | none => s

/-- The first held reply of a class is queued (R75). -/
def State.placeReply (s : State) (q : QueueClass) : State :=
  match s.svc.replies.find? fun m => decide (kindClass m.kind = q) with
  | none => s
  | some m => { s with svc := { s.svc with replies := s.svc.replies.erase m } }.enqueue m

/-- A held producer that has been given room places a message, and asks again while it has more (R73). -/
def State.place (s : State) (q : QueueClass) : Held → State
  | .lane l => s.placeHeld l
  | .pendingGain n => if s.unannounced n then s.announce n else s
  | .faultAnnounce n => s.sendFaultAnnounce n
  | .gainRefresh => s.sendGainRefresh.pumpGainRefresh
  | .refRefresh => s.sendRefRefresh.pumpRefRefresh
  | .outbox => s.sendOutbox.pumpOutbox
  | .talkReply t => (s.sendTalkState t).pumpTalkReply t
  | .reply => s.placeReply q

/-- A producer's message goes into a queue: a lane's SET REFERENCE step and the blocks of their own queue urgent messages, a held
message and a held reply go into the queue of their class (section 4.1). -/
def State.placesIn (s : State) (q : QueueClass) : Held → Bool
  | .lane l =>
    match s.op? l with
    | some (.setReference _ _ _) => decide (q = .urgent)
    | _ => match (s.lane l).held with
      | some m => decide (kindClass m.kind = q)
      | none => true
  | .reply => true
  | _ => decide (q = .urgent)

/-- Room in a queue is given to the first producer in its room list (R73). A producer waits only for the queue its message goes
into. -/
def State.grantRoom (s : State) (q : QueueClass) : State :=
  match s.svc.room q with
  | [] => s
  | h :: rest =>
    if s.svc.hasRoom q then
      let s1 : State := { s with svc := s.svc.setRoom q rest }
      if s1.placesIn q h then s1.place q h else s1
    else s

/-- A free entry of the pending request table is given to the first step held for one (R76). -/
def State.grantEntry (s : State) : State :=
  match s.svc.entryWait with
  | [] => s
  | l :: rest =>
    if s.svc.requests.length < Config.requestRoom then
      let s1 : State := { s with svc.entryWait := rest }
      match (s1.lane l).want with
      | some w => (s1.give l w).moreInputs l
      | none => s1
    else s

end Sys2Proof.Machine
end

