-- ==== Sys2Proof/Machine/GainSteps.lean ====
section
/-!
DEFINITION. The meanings of the gain unit's commands (spec 05; spec 10, R187, R188).
-/

namespace Sys2Proof.Machine

/-! ### Requests taken at the stage (R85, R86, R89) -/

/-- A setting as it is asked for: a gain above 60 is taken as 60, a nonzero pad or phantom as on (R84, R89, R101). -/
def askedSetting (gain pad phantom : Byte) : Setting :=
  { gain := min gain.toNat 60, pad := pad != 0, phantom := phantom != 0 }

/-- A GAIN REQUEST taken at the stage (R89). -/
def State.takeRequest (s : State) (sender : Fin 4) (tag : Tag) (input gain pad phantom : Byte) : State :=
  match index? 64 input.toNat with
  | none => s
  | some n => s.takeGain n (askedSetting gain pad phantom) (.remote sender tag)

/-- GAIN_REQUEST (R89). -/
def execGainRequest (sender : Fin 4) (tag : Tag) (input gain pad phantom : Byte) (s : State) :
    Host.Outcome State Fault Refusal :=
  .next (running (fun st => if st.isStage then st.takeRequest sender tag input gain pad phantom else st) s)

/-- A CLAIM taken at the stage: decided, answered, and an empty one starts a gain refresh (R85). -/
def State.takeClaim (s : State) (q : Fin 4) (tag : Tag) (inputs : BitVec 64) : State :=
  let s1 := (s.claimTable q inputs).reply (ownerMessage inputs (ownerByte (some q)) tag (s.granted q inputs))
  if inputs = 0 then s1.startGainRefresh else s1

/-- CLAIM (R85). -/
def execClaim (sender : Fin 4) (tag : Tag) (inputs : BitVec 64) (s : State) : Host.Outcome State Fault Refusal :=
  .next (running (fun st => if st.isStage then st.takeClaim sender tag inputs else st) s)

/-- A RELEASE taken at the stage: acted on and answered (R86). -/
def State.takeRelease (s : State) (q : Fin 4) (tag : Tag) (inputs : BitVec 64) : State :=
  (s.releaseTable q inputs).reply (ownerMessage inputs 255 tag (s.released q inputs))

/-- RELEASE (R86). -/
def execRelease (sender : Fin 4) (tag : Tag) (inputs : BitVec 64) (s : State) : Host.Outcome State Fault Refusal :=
  .next (running (fun st => if st.isStage then st.takeRelease sender tag inputs else st) s)

/-! ### Announcements taken at a desk (R84, R87, R102) -/

/-- A GAIN ANNOUNCE that answers a request: the entry of the step waits for its switch (R76, R102). -/
def State.answerGain (s : State) (tag : Tag) (switch : Word) : State :=
  match s.answered? tag 2 with
  | none => s
  | some r =>
    (s.freeEntry r.lane r.number).settleEntries r.lane fun _ e =>
      if e.state = .requested r.number then { e with state := .switching r.seq switch } else e

/-- A replaced scheduled change that carried this desk's tag ends its request's wait as SUPERSEDED (R84, R102). -/
def State.supersede (s : State) (old : Option Scheduled) (switch : Word) : State :=
  match old with
  | none => s
  | some c =>
    if c.tag.requester.toNat = s.cfg.id.val ∧ c.switch ≠ switch then
      match index? 16 c.tag.lane.toNat with
      | some l => s.settleEntries l fun _ e =>
          if e.state = .switching c.tag.seq c.switch then e.endWith .superseded else e
      | none => s
    else s

/-- A fresh mark is set while stale is; the last one clears stale (R83, R84). -/
def State.freshen (s : State) (n : Fin 64) : State :=
  if s.gain.stale then
    let s1 := s.modMirror n fun m => { m with fresh := true }
    if s1.gain.mirror.toList.all fun m => m.fresh then { s1 with gain.stale := false } else s1
  else s

/-- An owner byte as a GAIN ANNOUNCE carries it. -/
def plainOwner (b : Byte) : Option (Fin 4) := index? 4 b.toNat

/-- The state an announcement names; none where it is above 2. -/
def stateOf (b : Byte) : Option InputState :=
  if b = 0 then some .normal else if b = 1 then some .phantomMute else if b = 2 then some .phantomFault else none

/-- A GAIN ANNOUNCE acts on the mirror entry of its input (R84). -/
def State.announced (s : State) (n : Fin 64) (x : Setting) (owner : Option (Fin 4)) (st : InputState) (orphaned : Bool)
    (switch : Word) (tag : Tag) (refresh : Bool) : State :=
  let old := (s.gain.mirror.get n).scheduled
  let c : Scheduled :=
    { setting := x, state := st, switch := switch, tag := tag, deferred := earlier switch s.merge.point, counts := !refresh }
  let s1 := (s.modMirror n fun m => { m with owner := owner, orphaned := orphaned, scheduled := some c }).freshen n
  s1.supersede old switch

/-- A GAIN ANNOUNCE taken at a desk; fields out of range discard it (R84). -/
def State.takeAnnounce (s : State) (input gain pad phantom owner state orphaned : Byte) (switch : Word) (tag : Tag)
    (refresh : Byte) : State :=
  match index? 64 input.toNat, stateOf state with
  | some n, some st =>
    if 3 < owner.toNat ∧ owner ≠ 255 then s
    else s.announced n (askedSetting gain pad phantom) (plainOwner owner) st (orphaned != 0) switch tag (refresh != 0)
  | _, _ => s

/-- GAIN_ANNOUNCE (R84). -/
def execGainAnnounce (input gain pad phantom owner state orphaned : Byte) (switch : Word) (tag : Tag) (refresh : Byte)
    (s : State) : Host.Outcome State Fault Refusal :=
  .next (running (fun st =>
    if st.isStage then st
    else (st.answerGain tag switch).takeAnnounce input gain pad phantom owner state orphaned switch tag refresh) s)

/-- The outcome a GAIN REFUSED brings; a reason R66 does not list gives REFUSED (log entry 29). -/
def refusedStatus (reason : Byte) : Status :=
  if reason = 2 then .notOwner else if reason = 10 then .superseded else .refused

/-- GAIN REFUSED taken at a desk (R76, R102). -/
def State.takeRefused (s : State) (tag : Tag) (reason : Byte) : State :=
  match s.answered? tag 3 with
  | none => s
  | some r => (s.freeEntry r.lane r.number).endRequested r.lane r.number (refusedStatus reason)

/-- GAIN_REFUSED (R102). -/
def execGainRefused (tag : Tag) (_input reason : Byte) (s : State) : Host.Outcome State Fault Refusal :=
  .next (running (fun st => st.takeRefused tag reason) s)

/-- An OWNER ANNOUNCE that answers a request ends its step (R76, R103). -/
def State.answerOwner (s : State) (tag : Tag) (result : BitVec 64) : State :=
  match s.answered? tag 6 with
  | none => s
  | some r => (s.freeEntry r.lane r.number).endClaim r.lane result

/-- An OWNER ANNOUNCE acts on the mirror entries of its result set (R87). -/
def State.takeOwners (s : State) (owner : Byte) (result : BitVec 64) : State :=
  match announcedOwner owner with
  | none => s
  | some (o, lost) =>
    let mirror := Bank.mapNum (fun i (m : MirrorEntry) =>
      if result.getLsbD i then { m with owner := o, orphaned := lost } else m) s.gain.mirror
    { s with gain.mirror := mirror }

/-- OWNER_ANNOUNCE (R87, R103); the claimed input set is not used. -/
def execOwnerAnnounce (_inputs : BitVec 64) (owner : Byte) (tag : Tag) (result : BitVec 64) (s : State) :
    Host.Outcome State Fault Refusal :=
  .next (running (fun st => if st.isStage then st else (st.answerOwner tag result).takeOwners owner result) s)

/-- A REFERENCE taken from another terminal (R98). -/
def State.takeReference (s : State) (sender : Fin 4) (input value : Byte) (switch : Word) : State :=
  match index? 64 input.toNat with
  | none => s
  | some n =>
    let r : ScheduledRef := { value := refOfByte value, switch := switch, deferred := earlier switch s.merge.point }
    s.modTrack sender n fun t => { t with scheduled := some r }

/-- REFERENCE (R98). -/
def execReference (sender : Fin 4) (input value : Byte) (switch : Word) (s : State) : Host.Outcome State Fault Refusal :=
  .next (running (fun st => st.takeReference sender input value switch) s)

/-! ### Switches (R84, R91, R92, R98) -/

/-- SCHEDULED_CHANGE_APPLY (R84). -/
def execScheduledChangeApply (input : Fin 64) (s : State) : Host.Outcome State Fault Refusal :=
  .next (running (fun st => if !st.isStage && st.scheduledDue input then st.applyScheduled input else st) s)

/-- PENDING_CHANGE_APPLY (R91). -/
def execPendingChangeApply (input : Fin 64) (s : State) : Host.Outcome State Fault Refusal :=
  .next (running (fun st => if st.isStage && st.pendingDue input then st.applyPending input else st) s)

/-- PHANTOM_MUTE_END (R92). -/
def execPhantomMuteEnd (input : Fin 64) (s : State) : Host.Outcome State Fault Refusal :=
  .next (running (fun st => if st.muteDue input then st.endMute input else st) s)

/-- SCHEDULED_REFERENCE_APPLY (R98). -/
def execScheduledReferenceApply (table : Fin 4) (input : Fin 64) (s : State) : Host.Outcome State Fault Refusal :=
  .next (running (fun st =>
    if st.referenceDue table input then (st.applyReference table input).endReferences else st) s)

/-! ### The preamp control line (R93; spec 10, R187, R188) -/

/-- A report is a phantom short with good parity (spec 10, R188). -/
def shortReport (report : BitVec 16) : Option (Fin 64) :=
  if popCount report % 2 = 1 ∧ report.extractLsb' 8 2 = 1 then index? 64 (report.extractLsb' 10 6).toNat else none

/-- A phantom short of an input acts: its last word carried phantom on, and it is not already in PHANTOM FAULT with phantom
off (R93). -/
def State.shortActs (s : State) (n : Fin 64) : Bool :=
  let e := s.gain.table.get n
  (s.conv.lastWords.get n).phantom && !(decide (e.state = .phantomFault) && !e.setting.phantom)

/-- A report is taken at the stage (R93; spec 10, R188). -/
def State.takeReport (s : State) (report : BitVec 16) : State :=
  match shortReport report with
  | some n => if s.isStage && s.shortActs n then s.phantomShort n else s
  | none => s

/-- PHANTOM_SHORT_REPORT (R93; spec 10, R188). -/
def execPhantomShortReport (report : BitVec 16) (s : State) : Host.Outcome State Fault Refusal :=
  .next (running (fun st => st.takeReport report) s)

/-- The words of a frame edge: those due, in schedule order, up to 32 (spec 10, R187). -/
def dueWords (frame : Word) (schedule : List PreampWord) : List PreampWord :=
  (schedule.filter fun w => !later w.due frame).take 32

/-- The schedule once the words due have been sent: those beyond the 32 stay (spec 10, R187). -/
def keptWords (frame : Word) : Nat → List PreampWord → List PreampWord
  | _, [] => []
  | room, w :: rest =>
    if later w.due frame then w :: keptWords frame room rest
    else match room with
      | 0 => w :: keptWords frame 0 rest
      | room' + 1 => keptWords frame room' rest

/-- The word line of a desk carries idle word times from the start of a run to its end (spec 10, R187). -/
def State.wordLineIdle (s : State) : Bool := s.isRunning && !s.isStage

/-- The preamp line sends the words of a frame edge (spec 10, R187). -/
def State.sendWords (s : State) : State :=
  let words := dueWords s.clock.frame s.conv.schedule
  let last := words.foldl (fun (v : Bank 64 Setting) w => v.set w.input w.setting) s.conv.lastWords
  { s with conv := { s.conv with schedule := keptWords s.clock.frame 32 s.conv.schedule, lastWords := last,
                                 wordLine := words.map PreampWord.bits, wordsSent := true } }

/-- PREAMP_WORD_SEND: once at each frame edge, the reset pin being high, in every run state but at a desk in a run (spec 10, R187). -/
def execPreampWordSend (s : State) : Host.Outcome State Fault Refusal :=
  .next (if s.resetLow || s.conv.wordsSent || s.wordLineIdle then s else s.sendWords)

/-! ### SET INPUT (R101, R102) -/

/-- An entry of a SET INPUT payload: its input if it is a good one, and what it asks for. -/
def inputAsked (b : List Byte) : Option (Fin 64) × Setting :=
  (index? 64 (byteAt b 0).toNat, askedSetting (byteAt b 1) (byteAt b 2) (byteAt b 3))

/-- The entries of a checked SET INPUT payload. -/
def inputSteps (j : Join) (initial : EntryState) : List InputStep :=
  ((chunks 8 j.payload).mapIdx fun i b => (i, inputAsked b)).filterMap fun e =>
    e.2.1.map fun n => { input := n, setting := e.2.2, outcome := j.address (8 * e.1 + 4), state := initial }

/-- The outcome bytes of a step are written as 255 (R101). -/
def State.openOutcomes (s : State) (es : List InputStep) : State := es.foldl (fun st e => st.store e.outcome [255]) s

/-- The owner of an entry's input refuses the whole step (R101): at the stage any owner other than 0, none included; at a desk
one other than none and other than this terminal. -/
def State.foreign (s : State) (n : Fin 64) : Bool :=
  if s.isStage then decide ((s.gain.table.get n).owner ≠ some 0)
  else match (s.gain.mirror.get n).owner with
    | none => false
    | some o => decide (o ≠ s.cfg.id)

/-- The entries of a stage's step are taken in payload order (R89, R101). -/
def State.takeEntries (s : State) (l : Fin 16) (es : List InputStep) : State :=
  (es.mapIdx fun i e => (i, e)).foldl (fun st e => st.takeGain e.2.input e.2.setting (.lane l e.1)) s

/-- A SET INPUT step begins (R101). -/
def State.beginInputs (s : State) (l : Fin 16) (j : Join) : State :=
  let asked := (chunks 8 j.payload).map inputAsked
  let es := inputSteps j (if s.isStage then .taken else .unsent)
  if asked.any fun e => e.1.isNone then s.finish l j .badStep 16 0
  else if es.isEmpty then s.finish l j .ok 0 0
  else if !s.isStage && (s.gain.stale || !s.reachable 0) then s.finish l j .unreachable 0 0
  else if es.any fun e => s.foreign e.input then s.finish l j .notOwner 0 0
  else
    let s1 := (s.openOutcomes es).setOp l j (.setInput es)
    if s.isStage then s1.takeEntries l es else s1.moreInputs l

/-- SET_INPUT (R101). -/
def execSetInput (lane : Fin 16) (s : State) : Host.Outcome State Fault Refusal :=
  .next (running (fun st => st.startStep lane 6 fun j t => t.beginInputs lane j) s)

/-! ### CLAIM INPUTS, RELEASE INPUTS (R103) -/

/-- A desk's CLAIM INPUTS or RELEASE INPUTS step sends its request (R103). -/
def State.remoteClaim (s : State) (l : Fin 16) (j : Join) (release : Bool) (inputs : BitVec 64) : State :=
  (s.setOp l j (.claim release inputs none)).remoteRequest l
    { target := 0, kind := if release then 5 else 4, body := leBytes 8 inputs.toNat }

/-- A stage's step has acted on the table: its OWNER ANNOUNCE is queued and the step ends, or it is held for room (R103). -/
def State.stageClaim (s : State) (l : Fin 16) (j : Join) (release : Bool) (inputs result : BitVec 64) : State :=
  let s1 := (s.setOp l j (.claim release inputs (some result))).submit l
    (ownerMessage inputs (if release then 255 else ownerByte (some 0)) noTag result)
  if s1.isHeld l then s1 else s1.endClaim l result

/-- The input set of a payload. -/
def inputSet (payload : List Byte) : BitVec 64 := BitVec.ofNat 64 (numAt payload 0 8)

/-- A CLAIM INPUTS step begins (R103). -/
def State.beginClaim (s : State) (l : Fin 16) (j : Join) : State :=
  let inputs := inputSet j.payload
  if s.isStage then
    let s1 := (s.claimTable 0 inputs).stageClaim l j false inputs (s.granted 0 inputs)
    if inputs = 0 then s1.startGainRefresh else s1
  else s.remoteClaim l j false inputs

/-- CLAIM_INPUTS (R103). -/
def execClaimInputs (lane : Fin 16) (s : State) : Host.Outcome State Fault Refusal :=
  .next (running (fun st => st.startStep lane 7 fun j t => t.beginClaim lane j) s)

/-- A RELEASE INPUTS step begins (R103). -/
def State.beginRelease (s : State) (l : Fin 16) (j : Join) : State :=
  let inputs := inputSet j.payload
  if s.isStage then (s.releaseTable 0 inputs).stageClaim l j true inputs (s.released 0 inputs)
  else s.remoteClaim l j true inputs

/-- RELEASE_INPUTS (R103). -/
def execReleaseInputs (lane : Fin 16) (s : State) : Host.Outcome State Fault Refusal :=
  .next (running (fun st => st.startStep lane 8 fun j t => t.beginRelease lane j) s)

/-! ### SET REFERENCE (R104) -/

/-- The mode of an entry; none for detail 17. -/
def refMode (mode value : Byte) : Option RefMode :=
  if mode = 0 then some .trackNow
  else if mode = 1 then some (.fixed (some (clampInt (-20) 60 (signedByte value))))
  else if mode = 2 then some (.fixed none)
  else none

/-- An entry of a SET REFERENCE payload. -/
def referenceAsked (b : List Byte) : Option (Fin 64) × Option RefMode :=
  (index? 64 (byteAt b 0).toNat, refMode (byteAt b 1) (byteAt b 2))

/-- The entries of a checked SET REFERENCE payload. -/
def goodReferences (es : List (Option (Fin 64) × Option RefMode)) : List (Fin 64 × RefMode) :=
  es.filterMap fun e => match e.1, e.2 with
    | some n, some m => some (n, m)
    | _, _ => none

/-- A SET REFERENCE step begins (R104). -/
def State.beginReferences (s : State) (l : Fin 16) (j : Join) : State :=
  let es := (chunks 4 j.payload).map referenceAsked
  if es.any fun e => e.1.isNone then s.finish l j .badStep 16 0
  else if es.any fun e => e.2.isNone then s.finish l j .badStep 17 0
  else if es.isEmpty then s.finish l j .ok 0 0
  else (s.setOp l j (.setReference (goodReferences es) es.length [])).moreReferences l

/-- SET_REFERENCE (R104). -/
def execSetReference (lane : Fin 16) (s : State) : Host.Outcome State Fault Refusal :=
  .next (running (fun st => st.startStep lane 9 fun j t => t.beginReferences lane j) s)

end Sys2Proof.Machine
end

