-- ==== Sys2Proof/Machine/LaneSteps.lean ====
section
/-!
DEFINITION. The meanings of the lane engine's commands: scans and cancels, MARK, WAIT (spec 01, R12 to R19), and the view
follow-up (R21).
-/

namespace Sys2Proof.Machine

/-! ### Cancels (R16) -/

/-- The result count of a cancelled step at its block that its chapter does not give otherwise: 0 (log entry 11). -/
def noCount : Word := 0

/-- A SET INPUT step's open outcomes become CANCELLED (spec 05, R102). -/
def State.cancelInputs (s : State) (es : List InputStep) : State :=
  s.writeOutcomes es (es.map fun e => if e.ended?.isSome then e else e.endWith .cancelled)

/-- A cue request's waits and cues are withdrawn (spec 06, R125). -/
def State.cancelCue (s : State) (l : Fin 16) : Option (Fin 16) → State
  | some k => s.dropRecord k
  | none => { s with mix.cueWait := without l s.mix.cueWait }

/-- The totals of a cue request record so far, as a result count. -/
def State.cueCount (s : State) : Option (Fin 16) → Word
  | some k => match s.mix.records.get k with
    | some r => r.answer.count
    | none => noCount
  | none => noCount

/-- A port under a lane's loop test leaves LOOP at a cancel (spec 08, R174). -/
def State.cancelLoop (s : State) (l : Fin 16) (p : Port) : State :=
  match (s.port p).loop with
  | some x => if x.lane = some l then s.endLoop p .cancelled else s
  | none => s

/-- A block stops working on a cancelled step: the state after, and the result count (R16, and each kind's chapter). Of a sweep's
passes the count shows the low 32 bits (DESIGN CHOICE, log entry 62). -/
def State.cancelOp (s : State) (l : Fin 16) : Op → State × Word
  | .wait _ _ => (s, snap (s.lane l).age)
  | .mapSlots _ _ => (s, noCount)
  | .patchOutputs _ _ => (s, noCount)
  | .sendNote _ => (s.withdraw l, noCount)
  | .setInput es => (((s.cancelInputs es).withdraw l).forgetLane l, snap (inputsOk es))
  | .claim _ _ _ => (s.withdraw l, noCount)
  | .setReference _ _ _ => (s.withdraw l, noCount)
  | .mixRemote r => (s.withdraw l, r.answer.count)
  | .cueScene _ _ record => (s.cancelCue l record, s.cueCount record)
  | .talkOpen _ => (s, noCount)
  | .loopTest p _ =>
    ((s.withdraw l).cancelLoop l p, match (s.port p).loop with
      | some x => if x.lane = some l then x.returned else noCount
      | none => noCount)
  | .meter =>
    match s.sweep l with
    | some x => ((s.writeMissed l x).dropSweep l, snap x.passes)
    | none => (s, noCount)

/-- The steps that finish with a cancelled join that its block has not taken: those its links join, as they stand at the cancel; of
links that never close it, the step at which it stands (R15, R16; DESIGN CHOICE, log entry 25). -/
def State.joinInProgress (s : State) (j : Join) (a : Nat) : Join :=
  match s.joinFrom joinFuel j a with
  | .ready j' => j'
  | .gathered j' => j'
  | .failed j' _ => j'
  | .badLink j' _ => j'
  | .endless => j.add s.ram a (s.header a)

/-- A cancel of a lane, by its state (R16). A WAIT step counts its frames also where its block has not taken it (R19). The entry's current step address stays as it was (DESIGN CHOICE, log entry 65). -/
def State.cancelLane (s : State) (l : Fin 16) : State :=
  let x := s.lane l
  match x.activity with
  | .working j op =>
    let done := s.cancelOp l op
    done.1.finishCancelled l j done.2
  | .joining j a => s.finishCancelled l (s.joinInProgress j a) (s.brokenCount l (s.joinInProgress j a))
  | .gathered j => s.finishCancelled l j (s.brokenCount l j)
  | .none => if x.state = .idle then s else s.setLane l { x with state := .idle, parked := none }

/-! ### Scans (R12) -/

/-- A join parked inside a GATHER is continued at a nonzero link (R15). -/
def State.continueJoin (s : State) (l : Fin 16) (j : Join) (link : Nat) : State :=
  if linkBad link then (s.closeJoin l j .badStep 5 (s.brokenCount l j)).haltAt l link
  else s.setLane l { s.lane l with state := .running, activity := .joining j link, parked := none }

/-- A parked lane re-reads the link of the step it is parked on (R12, R15). -/
def State.reread (s : State) (l : Fin 16) : State :=
  match (s.lane l).parked with
  | none => s
  | some a =>
    let link := (s.peek a).toNat
    if link = 0 then s
    else match (s.lane l).activity with
      | .gathered j => s.continueJoin l j link
      | _ => s.beginAt l link

/-- The post count of a lane is compared with the last seen (R12). -/
def State.takePost (s : State) (l : Fin 16) : State :=
  let x := s.lane l
  if s.postCount l = x.lastSeen then s
  else
    match x.state with
    | .running => s
    | .parked => (s.setLane l { x with lastSeen := s.postCount l }).reread l
    | _ => (s.setLane l { x with lastSeen := s.postCount l }).beginAt l (s.peek (s.entry l)).toNat

/-- One lane is scanned: the cancel word first, then the post count (R12, R16). -/
def State.scanLane (s : State) (l : Fin 16) : State :=
  let s1 := if s.peek (s.entry l + 8) = 0 then s else (s.poke (s.entry l + 8) 0).cancelLane l
  s1.takePost l

/-- Every lane is scanned. -/
def State.scanLanes (s : State) : State :=
  (indices 16).foldl (fun st l => st.scanLane l) { s with scanDue := false }

/-- LANE_SCAN (R12, R16). It acts when the scan interval has passed. -/
def execLaneScan (s : State) : Host.Outcome State Fault Refusal :=
  .next (running (fun st => if st.scanDue then st.scanLanes else st) s)

/-! ### Bad kinds, MARK and WAIT (R13, R18, R19) -/

/-- A lane's begun step of a kind outside the table is refused (R13). -/
def State.refuseKind (s : State) (l : Fin 16) : State :=
  match s.begunKind? l with
  | some k => if k = 0 ∨ 20 < k then s.startStep l k fun _ st => st else s
  | none => s

/-- STEP_BAD_KIND (R13). -/
def execStepBadKind (lane : Fin 16) (s : State) : Host.Outcome State Fault Refusal :=
  .next (running (fun st => st.refuseKind lane) s)

/-- MARK (R18). -/
def execMark (lane : Fin 16) (s : State) : Host.Outcome State Fault Refusal :=
  .next (running (fun st => st.startStep lane 1 fun j t => t.finish lane j .ok 0 0) s)

/-- The condition a WAIT step's param and value name; none for detail 6 (R19). -/
def waitCond (param : BitVec 16) (value : Word) : Option WaitCond :=
  if param = 1 then some (.elapsed value)
  else if param = 2 then some (.frame value)
  else if param = 3 then (index? 8 value.toNat).map .button
  else if param = 4 then (index? 4 value.toNat).map .reachable
  else if param = 5 then (index? 4 value.toNat).map .unreachable
  else none

/-- The first change of a button's debounced level since the lane's step began, if one came before its block takes it. -/
def State.changed? (s : State) (l : Fin 16) (b : Fin 8) : Option ButtonChange := (s.lane l).firstChange.get b

/-- A condition of a lane's WAIT step that holds as the step is taken (R19): a button's has been met by a change since the step began,
as while its join was parked. -/
def State.holdsAtOnce (s : State) (l : Fin 16) : WaitCond → Bool
  | .elapsed n => decide (n.toNat ≤ (s.lane l).age)
  | .frame f => !later f s.clock.frame
  | .button b => (s.changed? l b).isSome
  | .reachable o => s.reachable o
  | .unreachable o => !s.reachable o

/-- The frames passed since the step began when a condition that holds as the step is taken was met, where the part knows them: N
frames, or the frame of the first change; none for a condition it looks at as the step is taken. -/
def State.metAfter (s : State) (l : Fin 16) : WaitCond → Option Nat
  | .elapsed n => some n.toNat
  | .button b => (s.changed? l b).map ButtonChange.age
  | _ => none

/-- The detail of a WAIT step whose condition holds as the step is taken: for a button the level of its first change (R19). -/
def State.metDetail (s : State) (l : Fin 16) : WaitCond → Nat
  | .button b => match s.changed? l b with
    | some x => bitNat x.level
    | none => 0
  | _ => 0

/-- A timeout of a lane's WAIT step has run out; 0 is none (R19). -/
def State.timeoutOver (s : State) (l : Fin 16) (timeout : Word) : Bool :=
  timeout != 0 && decide (timeout.toNat ≤ (s.lane l).age)

/-- A timeout ran out in a frame before the one in which a condition that holds was met (R19). -/
def State.timeoutFirst (s : State) (l : Fin 16) (timeout : Word) (c : WaitCond) : Bool :=
  timeout != 0 && match s.metAfter l c with
    | some n => decide (timeout.toNat < n)
    | none => false

/-- A WAIT step is taken (R19): a bad condition ends it, and so does a condition that holds, or a timeout that ran out before it was
taken, as while its join was parked. Of the two the earlier ends it; where they fall due together, or the part does not know when the
condition was met, the condition does (DESIGN CHOICE, log entry 53). The count of each end is the frames passed since the step
began. -/
def State.beginWait (s : State) (l : Fin 16) (j : Join) : State :=
  let passed := snap (s.lane l).age
  let timeout := wordAt j.payload 4
  match waitCond j.param (wordAt j.payload 0) with
  | none => s.finish l j .badStep 6 passed
  | some c =>
    if s.holdsAtOnce l c then
      if s.timeoutFirst l timeout c then s.finish l j .timeout 0 passed else s.finish l j .ok (s.metDetail l c) passed
    else if s.timeoutOver l timeout then s.finish l j .timeout 0 passed
    else s.setOp l j (.wait c timeout)

/-- WAIT (R19). -/
def execWait (lane : Fin 16) (s : State) : Host.Outcome State Fault Refusal :=
  .next (running (fun st => st.startStep lane 2 fun j t => t.beginWait lane j) s)

/-- The frames of an elapsed condition have passed. -/
def State.elapsedDue (s : State) (l : Fin 16) : Bool :=
  match s.op? l with
  | some (.wait (.elapsed n) _) => decide (n.toNat ≤ (s.lane l).age)
  | _ => false

/-- WAIT_ELAPSED (R19). -/
def execWaitElapsed (lane : Fin 16) (s : State) : Host.Outcome State Fault Refusal :=
  .next (running (fun st => if st.elapsedDue lane then st.endStep lane .ok 0 (snap (st.lane lane).age) else st) s)

/-- WAIT_FRAME_REACHED (R19). -/
def execWaitFrameReached (lane : Fin 16) (s : State) : Host.Outcome State Fault Refusal :=
  .next (running (fun st => st.endFrameWait lane) s)

/-- A WAIT step's timeout has run out. -/
def State.timeoutDue (s : State) (l : Fin 16) : Bool :=
  match s.op? l with
  | some (.wait _ t) => s.timeoutOver l t
  | _ => false

/-- WAIT_TIMEOUT (R19). -/
def execWaitTimeout (lane : Fin 16) (s : State) : Host.Outcome State Fault Refusal :=
  .next (running (fun st => if st.timeoutDue lane then st.endStep lane .timeout 0 (snap (st.lane lane).age) else st) s)

/-- VIEW_REWRITE_FOLLOWUP: the one further rewrite that changes during a rewrite lead to, when that rewrite has ended (R21). -/
def execViewRewriteFollowup (view : View) (s : State) : Host.Outcome State Fault Refusal :=
  .next (running (fun st => if (st.view view).again && !(st.view view).rewriting then st.rewrite view else st) s)

end Sys2Proof.Machine
end

