-- ==== Sys2Proof/Machine/MapSteps.lean ====
section
/-!
DEFINITION. The meanings of the burst, playout and map commands (spec 02, R22 to R35; spec 03, R45 to R63).
-/

namespace Sys2Proof.Machine

/-! ### Bursts (spec 02) -/

/-- BURST_BUILD: once in each frame, after the frame's playout (R22, R53; log entry 2). -/
def execBurstBuild (s : State) : Host.Outcome State Fault Refusal :=
  .next (running (fun st => if st.merge.playedNow && !st.built then st.build else st) s)

/-- A valid burst on an UP port is dealt with by origin and mark (R24, R27, R28). -/
def State.dealWith (s : State) (p : Port) (phase : BitVec 8) (b : Burst) : State :=
  if b.origin = s.cfg.id then
    if b.mark = s.mark then s.closureReport p b.hop b.frame else s.conflict p b.mark
  else
    let s1 := s.clockArrival b.origin p b.frame phase
    let s2 : State := { s1 with merge := s1.merge.arrive b.origin b.stored }
    (s2.pathArrival b.origin p b.hop b.summary).forward p b

/-- A check result is counted in the port's counters (spec 08, R159). -/
def State.countCheck (s : State) (p : Port) (valid : Bool) : State := s.setPort p ((s.port p).checked valid)

/-- A burst received on a port in LOOP (spec 08, R170 to R173). A FAR tester counts what it receives for as long as it counts what it
sends: its window is its stay in LOOP, which TESTER_WINDOW_END ends (R173; log entry 73). -/
def State.receiveLoop (s : State) (p : Port) (whole : Bool) (b : Burst) : State :=
  let r := s.port p
  match r.loop with
  | some x =>
    match x.role with
    | .testerNear => s
    | .testerFar => s.setPort p { r with loop := some (x.take s.cfg.id s.mark s.clock.frame b (b.valid whole)) }
    | .returner => s.setPort p { r with returning := r.returning ++ [b] }
  | none => s

/-- A burst received on a port, by the port's state (R23; spec 08, R152). -/
def State.receive (s : State) (p : Port) (phase : BitVec 8) (whole : Bool) (b : Burst) : State :=
  let valid := b.valid whole
  match (s.port p).state with
  | .dark => s
  | .acquire => (s.countCheck p valid).receiveAcquire p b valid
  | .qualify => (s.countCheck p valid).receiveQualify p b valid
  | .up => if valid then (s.countCheck p true).dealWith p phase b else (s.countCheck p false).checkFailed p
  | .quarantine => s.countCheck p valid
  | .loop => s.receiveLoop p whole b

/-- BURST_RECEIVE (R23, R24). -/
def execBurstReceive (port : Port) (phase : BitVec 8) (whole : Bool) (burst : Burst) (s : State) :
    Host.Outcome State Fault Refusal :=
  .next (running (fun st => st.receive port phase whole burst) s)

/-- FORWARD_BUFFER_SEND (R26; spec 08, R172). A frame edge queues it behind the frame's BURST_BUILD; given before that from outside,
it sends at once, ahead of the own burst (DESIGN CHOICE, log entry 72). -/
def execForwardBufferSend (port : Port) (s : State) : Host.Outcome State Fault Refusal :=
  .next (running (fun st => st.sendForward port) s)

/-! ### MAP SLOTS (spec 02, R34, R35) -/

/-- The source of an entry's kind and index; none for detail 17. -/
def slotSource (kind index : Nat) : Option SlotSource :=
  if kind = 0 then some .silent
  else if kind = 1 then (index? 64 index).map .localInput
  else if kind = 2 then (index? 32 index).map .mix
  else none

/-- A MAP SLOTS entry: slot, and source if it is a good one. -/
def slotEntry (b : List Byte) : Nat × Option SlotSource :=
  ((byteAt b 0).toNat, slotSource (byteAt b 1).toNat (byteAt b 2).toNat)

/-- The detail that refuses a MAP SLOTS payload (R34). -/
def slotsFault (slotCount : Nat) (es : List (Nat × Option SlotSource)) : Option Nat :=
  if es.any fun e => decide (slotCount ≤ e.1) then some 16
  else if es.any fun e => e.2.isNone then some 17
  else none

/-- The entries of a checked MAP SLOTS payload. -/
def goodSlots (es : List (Nat × Option SlotSource)) : List (Fin 64 × SlotSource) :=
  es.filterMap fun e => match index? 64 e.1, e.2 with
    | some i, some source => some (i, source)
    | _, _ => none

/-- Slots of the transmit map are all steady (R35). -/
def State.slotsSteady (s : State) (slots : List (Fin 64)) : Bool := slots.all fun i => (s.xmit.get i).steady

/-- A MAP SLOTS step whose slots are all steady ends OK (R35). -/
def State.settleSlots (s : State) (l : Fin 16) : State :=
  match s.op? l with
  | some (.mapSlots slots count) =>
    if s.slotsSteady slots then s.endStep l .ok 0 (snap count) else s
  | _ => s

/-- A MAP SLOTS step begins: checked whole, then applied in payload order (R34, R35). -/
def State.beginSlots (s : State) (l : Fin 16) (j : Join) : State :=
  let es := (chunks 4 j.payload).map slotEntry
  match slotsFault s.cfg.slotCount es with
  | some d => s.finish l j .badStep d 0
  | none =>
    let good := goodSlots es
    let applied := changeAll s.xmit good
    let s1 : State := { s with xmit := applied.1 }
    (s1.setOp l j (.mapSlots (good.map fun e => e.1) applied.2)).settleSlots l

/-- MAP_SLOTS (R34). -/
def execMapSlots (lane : Fin 16) (s : State) : Host.Outcome State Fault Refusal :=
  .next (running (fun st => st.startStep lane 3 fun j t => t.beginSlots lane j) s)

/-- MAP_SLOTS_SETTLED (R35). -/
def execMapSlotsSettled (lane : Fin 16) (s : State) : Host.Outcome State Fault Refusal :=
  .next (running (fun st => st.settleSlots lane) s)

/-! ### Playout (spec 03) -/

/-- PLAYOUT: once in each frame (R45). -/
def execPlayout (tdm : List Sample) (s : State) : Host.Outcome State Fault Refusal :=
  .next (running (fun st => if st.merge.playedNow then st else st.playout tdm) s)

/-! ### PATCH OUTPUTS (spec 03, R62, R63) -/

/-- A PATCH OUTPUTS entry, or the detail of its first fault (R62). -/
def outputEntry (b : List Byte) : Except Nat (Fin 64 × OutputSource) :=
  let kind := (byteAt b 1).toNat
  let two := (byteAt b 2).toNat
  let tracking := (byteAt b 4).toNat
  match index? 64 (byteAt b 0).toNat with
  | none => .error 16
  | some out =>
    if kind = 0 then .ok (out, .none)
    else if kind = 1 then
      match index? 4 two, index? 64 (byteAt b 3).toNat with
      | some o, some slot =>
        if tracking = 255 then .ok (out, .slot o slot none)
        else match index? 4 tracking with
          | some t => .ok (out, .slot o slot (some t))
          | none => .error 18
      | _, _ => .error 17
    else if kind = 2 then
      match index? 32 two with
      | some m => .ok (out, .mix m)
      | none => .error 17
    else if kind = 3 then
      match index? 64 two with
      | some n => .ok (out, .localInput n)
      | none => .error 17
    else .error 17

/-- The entries of a payload, or the detail of the first fault in payload order (R62). -/
def outputEntries : List (List Byte) → Except Nat (List (Fin 64 × OutputSource))
  | [] => .ok []
  | b :: rest =>
    match outputEntry b with
    | .error d => .error d
    | .ok e => match outputEntries rest with
      | .error d => .error d
      | .ok es => .ok (e :: es)

/-- Outputs of the delivery map are all steady (R63). -/
def State.outputsSteady (s : State) (outputs : List (Fin 64)) : Bool := outputs.all fun i => (s.delivery.get i).steady

/-- A PATCH OUTPUTS step whose outputs are all steady ends OK (R63). -/
def State.settleOutputs (s : State) (l : Fin 16) : State :=
  match s.op? l with
  | some (.patchOutputs outputs count) =>
    if s.outputsSteady outputs then s.endStep l .ok 0 (snap count) else s
  | _ => s

/-- A PATCH OUTPUTS step begins: checked whole, then applied in payload order (R62, R63). -/
def State.beginOutputs (s : State) (l : Fin 16) (j : Join) : State :=
  match outputEntries (chunks 8 j.payload) with
  | .error d => s.finish l j .badStep d 0
  | .ok es =>
    let applied := changeAll s.delivery es
    let s1 : State := { s with delivery := applied.1 }
    (s1.setOp l j (.patchOutputs (es.map fun e => e.1) applied.2)).settleOutputs l

/-- PATCH_OUTPUTS (R62). -/
def execPatchOutputs (lane : Fin 16) (s : State) : Host.Outcome State Fault Refusal :=
  .next (running (fun st => st.startStep lane 4 fun j t => t.beginOutputs lane j) s)

/-- PATCH_OUTPUTS_SETTLED (R63). -/
def execPatchOutputsSettled (lane : Fin 16) (s : State) : Host.Outcome State Fault Refusal :=
  .next (running (fun st => st.settleOutputs lane) s)

end Sys2Proof.Machine
end

