-- ==== Sys2Proof/Machine/MeterSteps.lean ====
section
/-!
DEFINITION. The meanings of the meter unit's commands (spec 09), and of the word clock's (spec 10, R189).
-/

namespace Sys2Proof.Machine

/-! ### METER (R179) -/

/-- The channel count of a METER payload: 1 for a ONE-SHOT (R179). -/
def meterCount (b : List Byte) : Nat := if byteAt b 0 = 0 then 1 else (byteAt b 2).toNat

/-- The channel list of a METER payload. -/
def meterChannels (b : List Byte) : List Word := (List.range (meterCount b)).map fun i => wordAt b (24 + 4 * i)

/-- The size of the result area (R179). A placement above 1, which a later check refuses, takes the 24 bytes of LATEST here
(DESIGN CHOICE, log entry 50). -/
def meterArea (b : List Byte) : Nat := if byteAt b 0 ≠ 0 ∧ byteAt b 1 = 0 then 24 * meterCount b else 24

/-- The mode of a METER payload. -/
def meterMode (b : List Byte) : Option SweepMode :=
  match (byteAt b 0).toNat with
  | 0 => some .oneShot
  | 1 => some .sweep
  | 2 => some .repeating
  | 3 => some .triggered
  | _ => none

/-- The trigger of a TRIGGERED SWEEP's payload; none for detail 19. -/
def meterTrigger (b : List Byte) : Option Trigger :=
  match (byteAt b 3).toNat with
  | 0 => if 2 < (byteAt b 13).toNat then none else (index? 8 (byteAt b 12).toNat).map fun k => .button k (byteAt b 13).toNat
  | 1 => some (.frame (wordAt b 12))
  | _ => none

/-- The detail that refuses a METER payload of sufficient length (R179). -/
def meterFault (b : List Byte) : Option Nat :=
  let n := meterCount b
  let address := numAt b 8 4
  if n = 0 ∨ 64 < n then some 16
  else if (meterChannels b).any channelBad then some 17
  else if address % 4 ≠ 0 ∨ address < Config.anchorSize ∨ Config.ramSize < address + meterArea b then some 18
  else if (meterMode b).isNone ∨ 1 < (byteAt b 1).toNat ∨ (byteAt b 0 = 3 ∧ (meterTrigger b).isNone) then some 19
  else none

/-- The sweep a METER payload asks for (R179). -/
def meterSweep (b : List Byte) (mode : SweepMode) : Sweep :=
  { mode := mode, latest := byteAt b 1 == 1, window := clampNat 48 48000 (numAt b 4 4), address := numAt b 8 4,
    channels := meterChannels b, limit := numAt b 16 4, state := .armed,
    trigger := if mode = .triggered then meterTrigger b else none }

/-- A sweep is created: it joins the queue, or is ARMED until its trigger (R179, R180, R183). -/
def State.createSweep (s : State) (l : Fin 16) (j : Join) (x : Sweep) : State :=
  let s1 := ((s.storeWords j 20 [0]).clearResults x).setOp l j .meter
  if x.mode = .triggered then (s1.setSweep l (some x)).frameTrigger l else s1.queueSweep l x

/-- A METER step begins (R179). -/
def State.beginMeter (s : State) (l : Fin 16) (j : Join) : State :=
  if j.payload.length < 24 + 4 * meterCount j.payload then s.finish l j .badStep 2 0
  else match meterFault j.payload, meterMode j.payload with
    | some d, _ => s.finish l j .badStep d 0
    | none, some mode => s.createSweep l j (meterSweep j.payload mode)
    | none, none => s.finish l j .badStep 19 0

/-- METER (R179). -/
def execMeter (lane : Fin 16) (s : State) : Host.Outcome State Fault Refusal :=
  .next (running (fun st => st.startStep lane 20 fun j t => t.beginMeter lane j) s)

/-! ### Passes, windows, triggers (R177, R180, R183) -/

/-- METER_PASS_BEGIN: the head and the free detectors have stood for a frame (R180). -/
def execMeterPassBegin (s : State) : Host.Outcome State Fault Refusal :=
  .next (running (fun st => if st.meter.passDue && st.meter.allFree then st.beginPass else st) s)

/-- A detector's window that has taken all its samples ends (R177). -/
def State.detectorDone (s : State) (k : Fin 8) : State :=
  match s.meter.detectors.get k with
  | some d => if d.left = 0 then s.windowEnd k d else s
  | none => s

/-- DETECTOR_WINDOW_END (R177). -/
def execDetectorWindowEnd (detector : Fin 8) (s : State) : Host.Outcome State Fault Refusal :=
  .next (running (fun st => st.detectorDone detector) s)

/-- METER_FRAME_TRIGGER (R183). -/
def execMeterFrameTrigger (lane : Fin 16) (s : State) : Host.Outcome State Fault Refusal :=
  .next (running (fun st => st.frameTrigger lane) s)

/-! ### The word clock monitor (spec 10, R189) -/

/-- The monitor governs this terminal's frame edges: the stage, while RUNNING (R189). -/
def State.governs (s : State) : Bool := s.isRunning && s.isStage

/-- WORD_CLOCK_PRESENT: 48 good edges have been seen (R189). -/
def execWordClockPresent (s : State) : Host.Outcome State Fault Refusal :=
  .next (if s.resetLow || s.conv.wordClock then s
    else { s with conv := { s.conv with wordClock := true, edges := if s.governs then .pulling else s.conv.edges } })

/-- WORD_CLOCK_ABSENT: the edges go on at the rate last followed (R189). -/
def execWordClockAbsent (s : State) : Host.Outcome State Fault Refusal :=
  .next (if s.resetLow || !s.conv.wordClock then s
    else { s with conv := { s.conv with wordClock := false, edges := if s.governs then .held else s.conv.edges } })

/-- WORD_CLOCK_PHASE_LOCK: the edges follow the input's rising edges (R189). -/
def execWordClockPhaseLock (s : State) : Host.Outcome State Fault Refusal :=
  .next (if s.governs && s.conv.wordClock && decide (s.conv.edges = .pulling) then
    { s with conv.edges := .wordClock } else s)

end Sys2Proof.Machine
end

