-- ==== Sys2Proof/Machine/MixSteps.lean ====
section
/-!
DEFINITION. The meanings of the mix engine's commands (spec 06).
-/

namespace Sys2Proof.Machine

/-! ### Messages taken at the mix terminal (R120) -/

/-- A MIX SENDS is acted on and answered (R117, R120). -/
def State.takeSends (s : State) (sender : Fin 4) (tag : Tag) (staged last : Bool) (records : List Word) : State :=
  let rs := records.map sendRecord
  let done := if staged then s.takeStaged sender last rs else s.applySends (some sender) {} rs
  done.1.mixAck sender tag done.2

/-- MIX_SENDS (R120). -/
def execMixSends (sender : Fin 4) (tag : Tag) (staged last : Bool) (records : List Word) (s : State) :
    Host.Outcome State Fault Refusal :=
  .next (running (fun st => st.takeSends sender tag staged last records) s)

/-- A MIX SET is acted on and answered (R120, R122). -/
def State.takeMixSet (s : State) (sender : Fin 4) (tag : Tag) (mix active : Byte) (master duck talk : BitVec 16) : State :=
  match index? 32 mix.toNat with
  | none => s.mixAck sender tag (({} : MixAnswer).refuse 1 reasonBadField)
  | some m =>
    if (s.mixRec m).controller ≠ sender then s.mixAck sender tag (({} : MixAnswer).refuse 1 reasonNotController)
    else
      (s.setMixValues m (active != 0) master.toNat duck.toNat talk.toNat).pumpTalk.mixAck sender tag ({} : MixAnswer).apply

/-- MIX_SET (R120). -/
def execMixSet (sender : Fin 4) (tag : Tag) (mix active : Byte) (master duck talk : BitVec 16) (s : State) :
    Host.Outcome State Fault Refusal :=
  .next (running (fun st => st.takeMixSet sender tag mix active master duck talk) s)

/-- A cue frame is later than the local frame by more than 4,800 frames (R120). -/
def tooFar (now frame : Word) : Bool := decide ((Config.cueLead : Int) < (frame - now).toInt)

/-- A MIX CUE is refused, or cues the mixes it may (R119, R120). -/
def State.takeMixCue (s : State) (sender : Fin 4) (tag : Tag) (mixes : Word) (now : Byte) (frame fade : Word) : State :=
  let named := mixesOf mixes
  if now == 0 && tooFar s.clock.frame frame then
    s.mixAck sender tag (({} : MixAnswer).refuse named.length reasonBadField)
  else
    let mine := named.filter fun m => decide ((s.mixRec m).controller = sender)
    let a := ({} : MixAnswer).refuse (named.length - mine.length) reasonNotController
    if mine.isEmpty then s.mixAck sender tag a
    else match s.takeRecord? with
      | none => s.mixAck sender tag (a.refuse mine.length reasonNoRoom)
      | some k =>
        s.cueMixes k (.remote sender tag) { now := now != 0, frame := frame, fade := clampFade fade.toNat } mine a

/-- MIX_CUE (R120). -/
def execMixCue (sender : Fin 4) (tag : Tag) (mixes : Word) (now : Byte) (frame fade : Word) (s : State) :
    Host.Outcome State Fault Refusal :=
  .next (running (fun st => st.takeMixCue sender tag mixes now frame fade) s)

/-- A MIX ACK taken at the controller (R76, R121). -/
def State.takeMixAck (s : State) (tag : Tag) (applied refused reason : Byte) : State :=
  match s.answered? tag 11 with
  | none => s
  | some r => (s.freeEntry r.lane r.number).partAnswered r.lane applied.toNat refused.toNat reason.toNat

/-- MIX_ACK (R121). -/
def execMixAck (tag : Tag) (applied refused reason : Byte) (s : State) : Host.Outcome State Fault Refusal :=
  .next (running (fun st => st.takeMixAck tag applied refused reason) s)

/-! ### Cues (R119, R125) -/

/-- CUE_DUE (R119). -/
def execCueDue (mix : Fin 32) (s : State) : Host.Outcome State Fault Refusal :=
  .next (running (fun st => if st.cueIsDue mix then st.takeCue mix else st) s)

/-- A lane's cue takes a record. -/
def State.cueLane (s : State) (l : Fin 16) (mixes : Word) (cue : CueSpec) (k : Fin 16) : State :=
  (s.putOp l (.cueScene mixes cue (some k))).cueMixes k (.lane l) cue (mixesOf mixes) {}

/-- A free record is given to the first step that waits for one (R125). -/
def State.grantRecord (s : State) : State :=
  match s.mix.cueWait, s.freeRecord? with
  | l :: rest, some k =>
    let s1 : State := { s with mix.cueWait := rest }
    match s1.op? l with
    | some (.cueScene mixes cue none) => s1.cueLane l mixes cue k
    | _ => s1
  | _, _ => s

/-- CUE_RECORD_GRANT (R125). -/
def execCueRecordGrant (s : State) : Host.Outcome State Fault Refusal :=
  .next (running (fun st => st.grantRecord) s)

/-! ### SET MIX (R122) -/

/-- The detail that refuses a SET MIX payload (R122). -/
def mixesFault (es : List (List Byte)) : Option Nat :=
  if es.any fun b => decide (31 < (byteAt b 0).toNat) then some 16
  else if es.any fun b => decide (3 < (byteAt b 2).toNat) && byteAt b 2 != 255 then some 17
  else none

/-- A SET MIX entry applied here (R122). -/
def State.applyMixEntry (s : State) (b : List Byte) : State :=
  match index? 32 (byteAt b 0).toNat with
  | none => s
  | some m =>
    let s1 := match index? 4 (byteAt b 2).toNat with
      | some c => s.setController m c
      | none => s
    s1.setMixValues m (byteAt b 1 != 0) (numAt b 4 2) (numAt b 6 2) (numAt b 8 2)

/-- A SET MIX step begins (R121, R122). A faulty payload ends it whether or not the target is reachable (DEDUCED, log entry 24). Its MIX
SETs carry the active byte and the level codes as the payload holds them (DESIGN CHOICE, log entry 57). -/
def State.beginSetMix (s : State) (l : Fin 16) (j : Join) : State :=
  let es := chunks 12 j.payload
  match mixesFault es with
  | some d => s.finish l j .badStep d 0
  | none =>
    if j.target = s.cfg.id.val then
      (es.foldl State.applyMixEntry s).pumpTalk.finish l j .ok 0 (snap es.length)
    else match index? 4 j.target with
      | some u => s.startParts l j u 9 false (es.map fun b => [byteAt b 0, byteAt b 1] ++ (b.drop 4).take 6)
      | none => s

/-- SET_MIX (R122). -/
def execSetMix (lane : Fin 16) (s : State) : Host.Outcome State Fault Refusal :=
  .next (running (fun st => st.startStep lane 10 fun j t => t.beginSetMix lane j) s)

/-! ### LOAD SENDS (R123) and STAGE SCENE (R124) -/

/-- The flags byte of a MIX SENDS: staged in bit 0, last part in bit 1 (spec 04, R66; log entry 12). -/
def sendsFlags (staged last : Bool) : Byte := BitVec.ofNat 8 (bitNat staged + 2 * bitNat last)

/-- The bodies of the MIX SENDS parts that records go in, 12 at a time, less their tags (R123, R124). -/
def sendParts (staged : Bool) : Nat → List (List Byte) → List (List Byte)
  | 0, _ => []
  | fuel + 1, rs =>
    if rs.isEmpty then []
    else (sendsFlags staged (decide (rs.length ≤ 12)) :: (rs.take 12).flatten) :: sendParts staged fuel (rs.drop 12)

/-- The status of a local LOAD SENDS step (R123). -/
def loadStatus (a : MixAnswer) : Status := if a.refused = 0 then .ok else if a.applied = 0 then .noRoom else .partly

/-- A LOAD SENDS step begins (R121, R123). A faulty payload ends it whether or not the target is reachable (DEDUCED, log entry 24). Its
MIX SENDS carry the records as the payload holds them (DESIGN CHOICE, log entry 57). -/
def State.beginLoad (s : State) (l : Fin 16) (j : Join) : State :=
  let raw := chunks 4 j.payload
  let rs := raw.map fun b => sendRecord (wordAt b 0)
  if rs.any fun r => r.mix?.isNone then s.finish l j .badStep 16 0
  else if j.target = s.cfg.id.val then
    let done := s.applySends none {} rs
    done.1.finish l j (loadStatus done.2) 0 done.2.count
  else match index? 4 j.target with
    | some u => s.startParts l j u 8 false (sendParts false raw.length raw)
    | none => s

/-- LOAD_SENDS (R123). -/
def execLoadSends (lane : Fin 16) (s : State) : Host.Outcome State Fault Refusal :=
  .next (running (fun st => st.startStep lane 11 fun j t => t.beginLoad lane j) s)

/-- The mix of a good STAGE SCENE payload (R124). -/
def sceneMix : List SendRecord → Option (Fin 32)
  | [] => none
  | first :: rest =>
    match first.master? with
    | none => none
    | some m => if rest.all fun r => r.mixByte == m.val then some m else none

/-- The staged list of a scene's send records; a later record of a source replaces its level (R116, R124). -/
def sceneSends (rs : List SendRecord) : List (Byte × Nat) := rs.foldl (fun acc r => stageInsert r.source r.code acc) []

/-- A STAGE SCENE step acts here (R116, R124). -/
def State.stageHere (s : State) (l : Fin 16) (j : Join) (m : Fin 32) (rs : List SendRecord) : State :=
  let sends := sceneSends rs.tail
  if Config.mixSends < sends.length then s.finish l j .noRoom 18 0
  else if Config.poolSize < s.mix.poolUsed - (s.mixRec m).stagedSends + sends.length then s.finish l j .noRoom 0 0
  else
    let master := match rs with
      | r :: _ => r.code
      | [] => 0
    let scene : Scene := { sends := sends, master := master, complete := true, source := s.cfg.id }
    (s.modMix m fun x => { x with staged := some scene }).finish l j .ok 0 (snap sends.length)

/-- A STAGE SCENE step begins (R121, R124). A faulty payload ends it whether or not the target is reachable (DEDUCED, log entry 24). Its
MIX SENDS carry the records as the payload holds them (DESIGN CHOICE, log entry 57). -/
def State.beginScene (s : State) (l : Fin 16) (j : Join) : State :=
  let raw := chunks 4 j.payload
  let rs := raw.map fun b => sendRecord (wordAt b 0)
  match sceneMix rs with
  | none => s.finish l j .badStep 17 0
  | some m =>
    if j.target = s.cfg.id.val then s.stageHere l j m rs
    else match index? 4 j.target with
      | some u => s.startParts l j u 8 true (sendParts true raw.length raw)
      | none => s

/-- STAGE_SCENE (R124). -/
def execStageScene (lane : Fin 16) (s : State) : Host.Outcome State Fault Refusal :=
  .next (running (fun st => st.startStep lane 12 fun j t => t.beginScene lane j) s)

/-! ### CUE SCENE (R125) -/

/-- The cue a CUE SCENE payload asks for. -/
def cueAsked (b : List Byte) : CueSpec :=
  { now := byteAt b 4 != 0, frame := wordAt b 8, fade := clampFade (wordAt b 12).toNat }

/-- A CUE SCENE step begins (R121, R125). An empty mix set ends it OK whether or not the target is reachable (DEDUCED, log entry 24). The
MIX CUE of a remote one carries the now byte and the fade length as the payload holds them, and the mix terminal clamps the length
(DESIGN CHOICE, log entry 57). -/
def State.beginCue (s : State) (l : Fin 16) (j : Join) : State :=
  let mixes := wordAt j.payload 0
  let cue := cueAsked j.payload
  if mixes = 0 then s.finish l j .ok 0 0
  else if j.target = s.cfg.id.val then
    let s1 := s.setOp l j (.cueScene mixes cue none)
    match s.takeRecord? with
    | some k => s1.cueLane l mixes cue k
    | none => { s1 with mix.cueWait := s1.mix.cueWait ++ [l] }
  else match index? 4 j.target with
    | some u =>
      s.startParts l j u 10 false [(j.payload.take 5) ++ (j.payload.drop 8).take 8]
    | none => s

/-- CUE_SCENE (R125). -/
def execCueScene (lane : Fin 16) (s : State) : Host.Outcome State Fault Refusal :=
  .next (running (fun st => st.startStep lane 13 fun j t => t.beginCue lane j) s)

/-! ### READ MIXES (R126) -/

/-- The live list of the mix that param bits 12:8 name, if param bit 1 asks for it, as much as fits (R126). -/
def State.sendsRead (s : State) (j : Join) : List Word :=
  if j.param.getLsbD 1 then
    let m : Fin 32 := (j.param.extractLsb' 8 5).toFin
    ((s.mixRec m).sends.take ((j.payload.length - 512) / 8)).flatMap Send.record
  else []

/-- A READ MIXES step (R126). -/
def State.beginRead (s : State) (l : Fin 16) (j : Join) : State :=
  let s1 := s.storeWords j 0 (s.mix.mixes.toList.flatMap Mix.record ++ s.sendsRead j)
  let s2 : State := if j.param.getLsbD 0 then
      { s1 with mix.mixes := Bank.mapAll (fun x : Mix => { x with clips := 0 }) s1.mix.mixes }
    else s1
  s2.finish l j .ok 0 (snap s.mix.poolUsed)

/-- READ_MIXES (R126). -/
def execReadMixes (lane : Fin 16) (s : State) : Host.Outcome State Fault Refusal :=
  .next (running (fun st => st.startStep lane 14 fun j t => t.beginRead lane j) s)

end Sys2Proof.Machine
end

