-- ==== Sys2Proof/Machine/PortSteps.lean ====
section
/-!
DEFINITION. The meanings of the commands of the ring ports and the supervisor (spec 08).
-/

namespace Sys2Proof.Machine

/-! ### Receiver signals (R153, R154, R172, R174) -/

/-- The signal a receiver reports. -/
def State.setSignal (s : State) (p : Port) (present : Bool) : State :=
  s.setPort p { s.port p with signal := present, absent := if present then 0 else (s.port p).absent }

/-- A signal becomes absent (R153, R158, R170, R172, R174). -/
def State.loseSignal (s : State) (p : Port) : State :=
  match (s.port p).state with
  | .qualify => s.flap p .signalLost
  | .up => s.flap p .signalLost
  | .loop =>
    match (s.port p).loop with
    | some x => match x.role with
      | .testerNear => s
      | .testerFar => s.endLoop p .broken
      | .returner => s.endLoop p .broken
    | none => s
  | .dark => s
  | .acquire => s
  | .quarantine => s

/-- SIGNAL_LOSS (R153, R174). The report stands while the reset pin is low, and over its release (DESIGN CHOICE, log entry 8). -/
def execSignalLoss (port : Port) (s : State) : Host.Outcome State Fault Refusal :=
  .next (running (fun st => st.loseSignal port) (s.setSignal port false))

/-- SIGNAL_PRESENT: a DARK port enters ACQUIRE (R154). A report that comes while the reset pin is held low is taken into the port
record all the same, and stands over the release (DESIGN CHOICE, log entry 8). -/
def execSignalPresent (port : Port) (s : State) : Host.Outcome State Fault Refusal :=
  .next (running (fun st => if (st.port port).state = .dark then st.enterAcquire port else st) (s.setSignal port true))

/-! ### Port timers (R154, R155, R158) -/

/-- A port has been in a state for a number of frames. -/
def State.stood (s : State) (p : Port) (st : PortState) (frames : Nat) : Bool :=
  decide ((s.port p).state = st) && decide (frames ≤ (s.port p).timer)

/-- DARK_PROBE (R154). -/
def execDarkProbe (port : Port) (s : State) : Host.Outcome State Fault Refusal :=
  .next (running (fun st => if st.stood port .dark Config.probeFrames then st.enterAcquire port else st) s)

/-- The signal of an ACQUIRE port has been absent for 4,800 frames (R155). -/
def State.acquireOver (s : State) (p : Port) : Bool :=
  decide ((s.port p).state = .acquire) && decide (Config.acquireFrames ≤ (s.port p).absent)

/-- ACQUIRE_TIMEOUT (R155). -/
def execAcquireTimeout (port : Port) (s : State) : Host.Outcome State Fault Refusal :=
  .next (running (fun st => if st.acquireOver port then st.enterDark port else st) s)

/-- QUARANTINE_END (R158). -/
def execQuarantineEnd (port : Port) (s : State) : Host.Outcome State Fault Refusal :=
  .next (running (fun st => if st.stood port .quarantine Config.quarantineFrames then st.enterAcquire port else st) s)

/-! ### Paths, closures, conflicts, the ring view (R160, R163 to R165) -/

/-- An UP path has gone 32 frames without an arrival (R160). -/
def State.pathOver (s : State) (o : Fin 4) (p : Port) : Bool :=
  let x := s.sup.path o p
  x.up && (match x.since with
    | some n => decide (Config.pathFrames ≤ n)
    | none => false)

/-- PATH_TIMEOUT (R160). -/
def execPathTimeout (origin : Fin 4) (port : Port) (s : State) : Host.Outcome State Fault Refusal :=
  .next (running (fun st => if st.pathOver origin port then st.losePath origin port else st) s)

/-- A closed direction has gone 32 frames without a closure report (R163). -/
def State.closureOver (s : State) (d : Direction) : Bool :=
  (s.sup.closure d).closed && decide (Config.pathFrames ≤ (s.sup.closure d).since)

/-- CLOSURE_TIMEOUT (R163). -/
def execClosureTimeout (direction : Direction) (s : State) : Host.Outcome State Fault Refusal :=
  .next (running (fun st => if st.closureOver direction then st.openClosure direction else st) s)

/-- A port's conflict flag has stood for 48,000 frames without a report (R164). -/
def State.conflictOver (s : State) (p : Port) : Bool :=
  (s.port p).conflictReported && decide (Config.quietFrames ≤ (s.port p).conflictQuiet)

/-- A port's conflict flag is cleared (R164). -/
def State.clearConflict (s : State) (p : Port) : State :=
  s.setPort p { s.port p with conflictReported := false, conflictQuiet := 0 }

/-- CONFLICT_FLAG_CLEAR (R164). -/
def execConflictFlagClear (port : Port) (s : State) : Host.Outcome State Fault Refusal :=
  .next (running (fun st => if st.conflictOver port then st.clearConflict port else st) s)

/-- RING_VIEW_REFRESH (R165). -/
def execRingViewRefresh (s : State) : Host.Outcome State Fault Refusal :=
  .next (running (fun st => if Config.quietFrames ≤ st.sup.refreshAge then st.viewChanged .ring else st) s)

/-! ### Loop tests (R169 to R173) -/

/-- A port by its byte. -/
def portOf (b : Byte) : Option Port := if b = 0 then some .east else if b = 1 then some .west else none

/-- The byte of a port. -/
def portByte : Port → Byte
  | .east => 0
  | .west => 1

/-- A duration as clamped (R169, R172). -/
def clampDuration (w : Word) : Nat := clampNat 48 480000 w.toNat

/-- The first check of R169 that fails for a good port and mode: status and detail. -/
def State.loopFault (s : State) (p : Port) (far : Bool) : Option (Status × Nat) :=
  let r := s.port p
  if r.state = .loop ∨ r.state = .quarantine then some (.busy, 0)
  else if s.soleWay p then some (.busy, 0)
  else if far && (decide (r.state ≠ .up) || (s.neighbour p).isNone) then some (.unreachable, 0)
  else none

/-- A LOOP TEST step that has passed its checks (R169 to R171). -/
def State.startLoop (s : State) (l : Fin 16) (j : Join) (p : Port) (far : Bool) (duration : Nat) : State :=
  let s1 := (s.storeWords j 8 [0, 0, 0, 0, snap duration]).setOp l j (.loopTest p duration)
  if far then
    match s.neighbour p with
    | some n => s1.remoteRequest l { target := n, kind := 15, body := portByte p :: leBytes 4 duration }
    | none => s1
  else s1.enterLoop p .testerNear duration (some l)

/-- A LOOP TEST step begins (R169). -/
def State.beginLoop (s : State) (l : Fin 16) (j : Join) : State :=
  let mode := (byteAt j.payload 1).toNat
  match portOf (byteAt j.payload 0) with
  | none => s.finish l j .badStep 16 0
  | some p =>
    if 1 < mode then s.finish l j .badStep 17 0
    else match s.loopFault p (mode == 1) with
      | some f => s.finish l j f.1 f.2 0
      | none => s.startLoop l j p (mode == 1) (clampDuration (wordAt j.payload 4))

/-- LOOP_TEST (R169). -/
def execLoopTest (lane : Fin 16) (s : State) : Host.Outcome State Fault Refusal :=
  .next (running (fun st => st.startStep lane 19 fun j t => t.beginLoop lane j) s)

/-- This terminal accepts a loop on a facing port for a tester (R172). -/
def State.acceptsLoop (s : State) (q : Fin 4) (f : Port) : Bool :=
  decide ((s.port f).state = .up) && decide (s.neighbour f = some q) && decide (s.ports.east.state ≠ .loop)
    && decide (s.ports.west.state ≠ .loop) && !s.soleWay f

/-- A LOOP REPLY (R172). -/
def State.replyLoop (s : State) (q : Fin 4) (tag : Tag) (port answer : Byte) (producer : Producer) : State :=
  s.reply { kind := 16, dest := q.val, body := tagBytes tag ++ [port, answer], producer := producer }

/-- A LOOP REQUEST taken from a terminal (R172). -/
def State.takeLoopRequest (s : State) (q : Fin 4) (tag : Tag) (port : Byte) (duration : Word) : State :=
  match portOf port with
  | none => s.replyLoop q tag port 8 .block
  | some p =>
    if s.acceptsLoop q p.other then s.replyLoop q tag port 0 (.loopReply p.other q (clampDuration duration))
    else s.replyLoop q tag port 8 .block

/-- LOOP_REQUEST (R172). -/
def execLoopRequest (sender : Fin 4) (tag : Tag) (port : Byte) (duration : Word) (s : State) :
    Host.Outcome State Fault Refusal :=
  .next (running (fun st => st.takeLoopRequest sender tag port duration) s)

/-- An answer to a lane's LOOP REQUEST (R171). -/
def State.answerLoop (s : State) (l : Fin 16) (answer : Byte) : State :=
  match s.op? l with
  | some (.loopTest p duration) =>
    if answer ≠ 0 then s.endStep l .busy 20 0
    else if (s.port p).state = .up then s.enterLoop p .testerFar duration (some l)
    else s.endStep l .broken 0 0
  | _ => s

/-- A LOOP REPLY taken at the tester (R76, R171). -/
def State.takeLoopReply (s : State) (tag : Tag) (answer : Byte) : State :=
  match s.answered? tag 16 with
  | none => s
  | some r => (s.freeEntry r.lane r.number).answerLoop r.lane answer

/-- LOOP_REPLY (R171); the port byte repeats the request's and is not used. -/
def execLoopReply (tag : Tag) (_port answer : Byte) (s : State) : Host.Outcome State Fault Refusal :=
  .next (running (fun st => st.takeLoopReply tag answer) s)

/-- RETURN_LOOP_END (R172). -/
def execReturnLoopEnd (port : Port) (s : State) : Host.Outcome State Fault Refusal :=
  .next (running (fun st =>
    if (st.port port).returns && (st.port port).loopOver then st.endLoop port .completed else st) s)

/-- TESTER_WINDOW_END (R173). -/
def execTesterWindowEnd (port : Port) (s : State) : Host.Outcome State Fault Refusal :=
  .next (running (fun st =>
    if (st.port port).testing && (st.port port).loopOver then st.endLoop port .completed else st) s)

end Sys2Proof.Machine
end

