-- ==== Sys2Proof/Machine/ServiceSteps.lean ====
section
/-!
DEFINITION. The meanings of the service unit's commands (spec 04, R73, R76, R77, R80, R81).
-/

namespace Sys2Proof.Machine

/-- ROOM_GRANT (R73). -/
def execRoomGrant (queue : QueueClass) (s : State) : Host.Outcome State Fault Refusal :=
  .next (running (fun st => st.grantRoom queue) s)

/-- PENDING_ENTRY_GRANT (R76). -/
def execPendingEntryGrant (s : State) : Host.Outcome State Fault Refusal :=
  .next (running (fun st => st.grantEntry) s)

/-- A request has waited 9,600 frames (R77). -/
def Request.late (r : Request) : Bool :=
  match r.state with
  | .waiting n => decide (Config.requestTimeout ≤ n)
  | .queued => false

/-- A lane's request of a sequence that has waited its time ends TIMEOUT, and that one alone (R77). -/
def State.timeOut (s : State) (l : Fin 16) (seq : Byte) : State :=
  match s.svc.requests.find? fun r => decide (r.lane = l ∧ r.seq = seq) && r.late with
  | some r => s.requestEnds r .timeout
  | none => s

/-- REQUEST_TIMEOUT (R77). -/
def execRequestTimeout (lane : Fin 16) (seq : Byte) (s : State) : Host.Outcome State Fault Refusal :=
  .next (running (fun st => st.timeOut lane seq) s)

/-- The note list has room for an entry (spec 01, R20). -/
def State.noteRoom (s : State) : Bool := listRoom s.ram s.cfg.noteList s.cfg.noteCapacity s.noteList

/-- A note to this terminal itself (R80). -/
def State.noteHere (s : State) (l : Fin 16) (j : Join) : State :=
  let s1 := s.addNote s.cfg.id s.clock.frame j.payload
  if s.noteRoom then s1.finish l j .ok 0 (snap j.payload.length) else s1.finish l j .noRoom 0 0

/-- A SEND NOTE step begins (R80). -/
def State.beginNote (s : State) (l : Fin 16) (j : Join) : State :=
  if 56 < j.payload.length then s.finish l j .badStep 16 0
  else if j.target = s.cfg.id.val then s.noteHere l j
  else if (match index? 4 j.target with
      | some o => !s.reachable o
      | none => false) then s.finish l j .unreachable 0 0
  else
    (s.setOp l j (.sendNote j.payload.length)).submit l
      { kind := 17, dest := j.target, body := j.payload, producer := .note l }

/-- SEND_NOTE (R80). -/
def execSendNote (lane : Fin 16) (s : State) : Host.Outcome State Fault Refusal :=
  .next (running (fun st => st.startStep lane 5 fun j t => t.beginNote lane j) s)

/-- NOTE (R81). -/
def execNote (sender : Fin 4) (frame : Word) (text : List Byte) (s : State) : Host.Outcome State Fault Refusal :=
  .next (running (fun st => st.addNote sender frame text) s)

end Sys2Proof.Machine
end

