-- ==== Sys2Proof/Machine/TalkSteps.lean ====
section
/-!
DEFINITION. The meanings of the talk unit's commands (spec 07).
-/

namespace Sys2Proof.Machine

/-! ### Messages (R132, R135) -/

/-- A TALK OPEN from a talker; a group above 7 discards it (R135). -/
def State.talkerOpens (s : State) (sender : Fin 4) (group seq : Byte) (mixes : Word) : State :=
  match index? 8 group.toNat with
  | some g => (s.takeOpen sender g seq mixes).pumpTalk
  | none => s

/-- TALK_OPEN (R135). -/
def execTalkOpen (sender : Fin 4) (group seq : Byte) (mixes : Word) (s : State) : Host.Outcome State Fault Refusal :=
  .next (running (fun st => st.talkerOpens sender group seq mixes) s)

/-- A TALK CLOSE from a talker; a group above 7 discards it, and its sequence and mix set are not used (R135). -/
def State.talkerCloses (s : State) (sender : Fin 4) (group : Byte) : State :=
  match index? 8 group.toNat with
  | some g => (s.takeClose sender g).pumpTalk
  | none => s

/-- TALK_CLOSE (R135). -/
def execTalkClose (sender : Fin 4) (group _seq : Byte) (_mixes : Word) (s : State) : Host.Outcome State Fault Refusal :=
  .next (running (fun st => st.talkerCloses sender group) s)

/-- A TALK STATE acts on an open group of its sequence, one of whose target terminals the sender is (R132). -/
def State.takeState (s : State) (sender : Fin 4) (group seq : Byte) (held waiting : Word) : State :=
  match index? 8 group.toNat with
  | none => s
  | some g =>
    let x := s.group g
    if x.isOpen && decide (x.seq = seq) && decide (sender ∈ x.terminals) then
      (s.modGroup g fun y => ((y.setStates sender (stateIn held waiting)).answer sender).modOutbox sender fun e =>
        { e with silent := false }).endTalkSteps
    else s

/-- TALK_STATE (R132): a mix in the lost set, or in none of the three, is LOST. -/
def execTalkState (sender : Fin 4) (group seq : Byte) (held waiting _lost : Word) (s : State) :
    Host.Outcome State Fault Refusal :=
  .next (running (fun st => st.takeState sender group seq held waiting) s)

/-- The answer wait of a target terminal runs out: its targets are LOST, it is answered, and an OPEN is pending again
(R132). -/
def State.answerTimeout (s : State) (g : Fin 8) (u : Fin 4) : State :=
  (s.modGroup g fun y =>
    ((y.setStates u fun _ => .lost).answer u).modOutbox u fun e =>
      { e with pending := .opening, waited := none, silent := true }).pumpTalk

/-- TALK_ANSWER_TIMEOUT (R132). -/
def execTalkAnswerTimeout (group : Fin 8) (target : Fin 4) (s : State) : Host.Outcome State Fault Refusal :=
  .next (running (fun st => if st.answerDue group target then st.answerTimeout group target else st) s)

/-! ### Buttons and lamps (R141 to R146) -/

/-- A lane whose step is not yet at its block keeps the first change of a button since the step began (spec 01, R15, R19). -/
def Lane.noteChange (b : Fin 8) (level : Bool) (x : Lane) : Lane :=
  match x.activity with
  | .joining _ _ | .gathered _ =>
    if (x.firstChange.get b).isSome then x else { x with firstChange := x.firstChange.set b (some { level := level, age := x.age }) }
  | _ => x

/-- A debounced level changes (R141, R142): the lanes whose WAIT may begin later keep the change, then the detected event, the WAIT
steps, the sweeps (spec 01, R19; spec 09, R182), these in ascending order of lane (DESIGN CHOICE, log entry 51). A lane that the event
begins has begun after the change. -/
def State.levelChanged (s : State) (b : Fin 8) (level : Bool) : State :=
  let s0 := { s with lanes := Bank.mapAll (Lane.noteChange b level) s.lanes }
  let s1 := s0.modButton b fun x => { x with level := level, count := 0 }
  let s2 := match (s.button b).detection.detects level with
    | some press => s1.detected b press
    | none => s1
  (indices 16).foldl (fun st l => st.buttonTrigger b level l) (s2.endButtonWaits b level)

/-- This frame's sample of a pin is taken; at the first frame of a run the debounced level takes it without an event (R141). -/
def State.debounce (s : State) (b : Fin 8) (level : Bool) : State :=
  let x := s.button b
  let s1 := s.modButton b fun y => { y with sampled := true }
  if x.sampled then s
  else if s.passed ≤ 1 then s1.modButton b fun y => { y with level := level, count := 0 }
  else if level = x.level then s1.modButton b fun y => { y with count := 0 }
  else if x.count + 1 < Config.debounceFrames then s1.modButton b fun y => { y with count := y.count + 1 }
  else s1.levelChanged b level

/-- The level that stands on a pin. -/
def setPin (pins : BitVec 8) (b : Fin 8) (level : Bool) : BitVec 8 := if level then setBit pins b.val else clearBit pins b.val

/-- BUTTON_DEBOUNCE: the pin is sampled at a level; pins are sampled while RUNNING (R141; spec 10, R190). -/
def execButtonDebounce (button : Fin 8) (level : Bool) (s : State) : Host.Outcome State Fault Refusal :=
  .next (running (fun st => st.debounce button level) { s with conv.gpi := setPin s.conv.gpi button level })

/-- The flash of the lamps changes halves, at the pins whose lamps were flashing at the last frame edge; a lamp changed since
reaches its pin at the next one (R146; spec 10, R190). -/
def State.toggleFlash (s : State) : State :=
  let high := !s.talk.flashHigh
  let still := s.conv.gpo &&& ~~~ s.conv.flashing
  { s with talk.flashHigh := high, talk.flashAge := 0,
           conv.gpo := if high then still ||| s.conv.flashing else still }

/-- LAMP_FLASH_TOGGLE: after 12,000 frames of a half (R146). -/
def execLampFlashToggle (s : State) : Host.Outcome State Fault Refusal :=
  .next (running (fun st => if Config.flashFrames ≤ st.talk.flashAge then st.toggleFlash else st) s)

/-! ### SET TALK GROUP (R148) -/

/-- The pairs of a SET TALK GROUP payload; none where a terminal or a mix is out of range. -/
def pairsOf : List (List Byte) → Option (List Target)
  | [] => some []
  | b :: rest =>
    match index? 4 (byteAt b 0).toNat, index? 32 (byteAt b 1).toNat, pairsOf rest with
    | some u, some m, some ts => some ({ terminal := u, mix := m } :: ts)
    | _, _, _ => none

/-- Two pairs of a list are equal. -/
def hasTwins : List Target → Bool
  | [] => false
  | t :: rest => (rest.any fun x => decide (x.terminal = t.terminal ∧ x.mix = t.mix)) || hasTwins rest

/-- A SET TALK GROUP step (R148). -/
def State.beginGroup (s : State) (l : Fin 16) (j : Join) : State :=
  let n := (byteAt j.payload 1).toNat
  match index? 8 (byteAt j.payload 0).toNat with
  | none => s.finish l j .badStep 16 0
  | some g =>
    if 16 < n ∨ j.payload.length < 2 + 2 * n then s.finish l j .badStep 17 0
    else match pairsOf (chunks 2 ((j.payload.drop 2).take (2 * n))) with
      | none => s.finish l j .badStep 17 0
      | some ts =>
        if hasTwins ts then s.finish l j .badStep 18 0
        else if (s.group g).isOpen then s.finish l j .busy 0 0
        else
          (s.modGroup g fun y => { y with targets := ts, outbox := Vector.replicate 4 {}, answered := 0 }).restOutbox.finish
            l j .ok 0 (snap n)

/-- SET_TALK_GROUP (R148). -/
def execSetTalkGroup (lane : Fin 16) (s : State) : Host.Outcome State Fault Refusal :=
  .next (running (fun st => st.startStep lane 15 fun j t => t.beginGroup lane j) s)

/-! ### SET RANKS (R149) -/

/-- A rank table with the bytes of a payload; 255 leaves a rank as it is (R149). -/
def newRanks (ranks : Bank 4 Nat) (payload : List Byte) : Bank 4 Nat :=
  Bank.mapNum (fun i r => if byteAt payload i = 255 then r else min (byteAt payload i).toNat 7) ranks

/-- A SET RANKS step (R149). -/
def State.beginRanks (s : State) (l : Fin 16) (j : Join) : State :=
  { s with talk.ranks := newRanks s.talk.ranks j.payload }.finish l j .ok 0 4

/-- SET_RANKS (R149). -/
def execSetRanks (lane : Fin 16) (s : State) : Host.Outcome State Fault Refusal :=
  .next (running (fun st => st.startStep lane 16 fun j t => t.beginRanks lane j) s)

/-! ### SET BUTTON (R150) -/

/-- A detection by its code. -/
def detectionOf (b : Byte) : Option Detection :=
  match b.toNat with
  | 0 => some .rising
  | 1 => some .falling
  | 2 => some .both
  | 3 => some .levelHigh
  | 4 => some .levelLow
  | _ => none

/-- A TALK mode by its code. -/
def modeOf (b : Byte) : Option TalkMode :=
  match b.toNat with
  | 0 => some .momentary
  | 1 => some .latch
  | 2 => some .auto
  | _ => none

/-- An action by an entry's fields. -/
def actionOf (e : List Byte) : Option Action :=
  match (byteAt e 2).toNat with
  | 0 => some .none
  | 1 => match index? 8 (byteAt e 4).toNat, modeOf (byteAt e 5) with
    | some g, some m => some (.talk g m)
    | _, _ => none
  | 2 => (index? 16 (byteAt e 4).toNat).map fun l => .chain l (wordAt e 8)
  | 3 => some (.cue (wordAt e 8) (clampFade (wordAt e 12).toNat))
  | _ => none

/-- A lamp source by an entry's fields. -/
def lampOf (e : List Byte) : Option LampSource :=
  match (byteAt e 1).toNat with
  | 0 => some .none
  | 1 => (index? 8 (byteAt e 2).toNat).map .group
  | 2 => (index? 8 (byteAt e 2).toNat).map .button
  | 3 => (index? 4 (byteAt e 2).toNat).map .origin
  | _ => none

/-- A SET BUTTON entry that can be applied. -/
inductive ButtonEntry where
  | button (index : Fin 8) (detection : Detection) (action : Action) (notify : Bool)
  | lamp (index : Fin 8) (source : LampSource)
  deriving DecidableEq, Repr

/-- A MOMENTARY or AUTO action needs a release, which BOTH does not give (R150). -/
def needsRelease : Action → Bool
  | .talk _ .momentary => true
  | .talk _ .auto => true
  | _ => false

/-- A SET BUTTON entry, or the detail that refuses it (R150). -/
def buttonEntry (e : List Byte) : Except Nat ButtonEntry :=
  let i : Fin 8 := ((byteAt e 0).extractLsb' 0 3).toFin
  if (byteAt e 0).extractLsb' 3 4 ≠ 0 then .error 16
  else if (byteAt e 0).getLsbD 7 then
    match lampOf e with
    | some x => .ok (.lamp i x)
    | none => .error 17
  else
    match detectionOf (byteAt e 1), actionOf e with
    | some d, some a => if d = .both ∧ needsRelease a = true then .error 18 else .ok (.button i d a ((byteAt e 3).getLsbD 0))
    | _, _ => .error 17

/-- The entries of a payload, or the detail that refuses it: the lowest detail any entry brings (R150). -/
def buttonEntries (es : List (List Byte)) : Except Nat (List ButtonEntry) :=
  let results := es.map buttonEntry
  let has : Nat → Bool := fun d => results.any fun r => match r with
    | .error x => x == d
    | .ok _ => false
  if has 16 then .error 16
  else if has 17 then .error 17
  else if has 18 then .error 18
  else .ok (results.filterMap fun r => match r with
    | .ok x => some x
    | .error _ => none)

/-- A button's old action is ended: the button leaves every opener set, and is IDLE (R150). -/
def State.endAction (s : State) (b : Fin 8) : State :=
  let s1 := s.modButton b fun x => { x with state := .idle }
  (indices 8).foldl (fun st g =>
    if (st.group g).buttons.getLsbD b.val then st.removeOpener g (.button b) else st) s1

/-- A level detection that stands at its pressed level gives a press at once (R142). -/
def standsPressed (d : Detection) (level : Bool) : Bool :=
  match d with
  | .levelHigh => level
  | .levelLow => !level
  | _ => false

/-- A SET BUTTON entry is applied (R150). -/
def State.applyButton (s : State) : ButtonEntry → State
  | .lamp i source => { s with talk.lamps := s.talk.lamps.set i source }
  | .button i d a notify =>
    let s1 := (s.endAction i).modButton i fun x => { x with detection := d, action := a, notify := notify }
    if standsPressed d (s1.button i).level then s1.detected i true else s1

/-- A SET BUTTON step (R150). -/
def State.beginButtons (s : State) (l : Fin 16) (j : Join) : State :=
  match buttonEntries (chunks 16 j.payload) with
  | .error d => s.finish l j .badStep d 0
  | .ok es => (es.foldl State.applyButton s).finish l j .ok 0 (snap es.length)

/-- SET_BUTTON (R150). -/
def execSetButton (lane : Fin 16) (s : State) : Host.Outcome State Fault Refusal :=
  .next (running (fun st => st.startStep lane 17 fun j t => t.beginButtons lane j) s)

/-! ### TALK (R151) -/

/-- A TALK step begins: close ends at once, open waits for every target terminal (R151). -/
def State.beginTalk (s : State) (l : Fin 16) (j : Join) : State :=
  match index? 8 (j.param.extractLsb' 0 8).toNat with
  | none => s.finish l j .badStep 16 0
  | some g =>
    if j.param.getLsbD 8 then ((s.setOp l j (.talkOpen g)).addOpener g .lanes).endTalkSteps
    else (s.removeOpener g .lanes).finish l j .ok 0 0

/-- TALK (R151). -/
def execTalk (lane : Fin 16) (s : State) : Host.Outcome State Fault Refusal :=
  .next (running (fun st => st.startStep lane 18 fun j t => t.beginTalk lane j) s)

end Sys2Proof.Machine
end

