-- ==== Sys2Proof/Machine/Dispatch.lean ====
section
/-!
DEFINITION. One arm per command, each a direct call of the command's meaning.
-/

namespace Sys2Proof.Machine

def exec (i : Instr) (s : State) : Host.Outcome State Fault Refusal :=
  match i with
  | .powerOn contents => Sys2Proof.Machine.execPowerOn contents s
  | .resetPinLow => Sys2Proof.Machine.execResetPinLow s
  | .resetPinRelease contents => Sys2Proof.Machine.execResetPinRelease contents s
  | .hostRamWrite word value => Sys2Proof.Machine.execHostRamWrite word value s
  | .softReset value => Sys2Proof.Machine.execSoftReset value s
  | .runStart value => Sys2Proof.Machine.execRunStart value s
  | .runStop value => Sys2Proof.Machine.execRunStop value s
  | .attentionMaskWrite value => Sys2Proof.Machine.execAttentionMaskWrite value s
  | .attentionClear value => Sys2Proof.Machine.execAttentionClear value s
  | .ignoredRegisterWrite word value => Sys2Proof.Machine.execIgnoredRegisterWrite word value s
  | .anchorCheck => Sys2Proof.Machine.execAnchorCheck s
  | .laneScan => Sys2Proof.Machine.execLaneScan s
  | .stepBadKind lane => Sys2Proof.Machine.execStepBadKind lane s
  | .mark lane => Sys2Proof.Machine.execMark lane s
  | .wait lane => Sys2Proof.Machine.execWait lane s
  | .waitElapsed lane => Sys2Proof.Machine.execWaitElapsed lane s
  | .waitFrameReached lane => Sys2Proof.Machine.execWaitFrameReached lane s
  | .waitTimeout lane => Sys2Proof.Machine.execWaitTimeout lane s
  | .viewRewriteFollowup view => Sys2Proof.Machine.execViewRewriteFollowup view s
  | .burstBuild => Sys2Proof.Machine.execBurstBuild s
  | .burstReceive port phase whole burst => Sys2Proof.Machine.execBurstReceive port phase whole burst s
  | .forwardBufferSend port => Sys2Proof.Machine.execForwardBufferSend port s
  | .mapSlots lane => Sys2Proof.Machine.execMapSlots lane s
  | .mapSlotsSettled lane => Sys2Proof.Machine.execMapSlotsSettled lane s
  | .playout tdm => Sys2Proof.Machine.execPlayout tdm s
  | .patchOutputs lane => Sys2Proof.Machine.execPatchOutputs lane s
  | .patchOutputsSettled lane => Sys2Proof.Machine.execPatchOutputsSettled lane s
  | .gainRequest sender tag input gain pad phantom => Sys2Proof.Machine.execGainRequest sender tag input gain pad phantom s
  | .gainAnnounce input gain pad phantom owner st orphaned switch tag refresh => Sys2Proof.Machine.execGainAnnounce input gain pad phantom owner st orphaned switch tag refresh s
  | .gainRefused tag input reason => Sys2Proof.Machine.execGainRefused tag input reason s
  | .claim sender tag inputs => Sys2Proof.Machine.execClaim sender tag inputs s
  | .release sender tag inputs => Sys2Proof.Machine.execRelease sender tag inputs s
  | .ownerAnnounce inputs owner tag result => Sys2Proof.Machine.execOwnerAnnounce inputs owner tag result s
  | .reference sender input value switch => Sys2Proof.Machine.execReference sender input value switch s
  | .mixSends sender tag staged last records => Sys2Proof.Machine.execMixSends sender tag staged last records s
  | .mixSet sender tag mix active master duck talk => Sys2Proof.Machine.execMixSet sender tag mix active master duck talk s
  | .mixCue sender tag mixes now frame fade => Sys2Proof.Machine.execMixCue sender tag mixes now frame fade s
  | .mixAck tag applied refused reason => Sys2Proof.Machine.execMixAck tag applied refused reason s
  | .talkOpen sender group seq mixes => Sys2Proof.Machine.execTalkOpen sender group seq mixes s
  | .talkClose sender group seq mixes => Sys2Proof.Machine.execTalkClose sender group seq mixes s
  | .talkState sender group seq held waiting lost => Sys2Proof.Machine.execTalkState sender group seq held waiting lost s
  | .loopRequest sender tag port duration => Sys2Proof.Machine.execLoopRequest sender tag port duration s
  | .loopReply tag port answer => Sys2Proof.Machine.execLoopReply tag port answer s
  | .note sender frame text => Sys2Proof.Machine.execNote sender frame text s
  | .roomGrant queue => Sys2Proof.Machine.execRoomGrant queue s
  | .pendingEntryGrant => Sys2Proof.Machine.execPendingEntryGrant s
  | .requestTimeout lane seq => Sys2Proof.Machine.execRequestTimeout lane seq s
  | .sendNote lane => Sys2Proof.Machine.execSendNote lane s
  | .scheduledChangeApply input => Sys2Proof.Machine.execScheduledChangeApply input s
  | .pendingChangeApply input => Sys2Proof.Machine.execPendingChangeApply input s
  | .phantomMuteEnd input => Sys2Proof.Machine.execPhantomMuteEnd input s
  | .phantomShortReport report => Sys2Proof.Machine.execPhantomShortReport report s
  | .scheduledReferenceApply table input => Sys2Proof.Machine.execScheduledReferenceApply table input s
  | .setInput lane => Sys2Proof.Machine.execSetInput lane s
  | .claimInputs lane => Sys2Proof.Machine.execClaimInputs lane s
  | .releaseInputs lane => Sys2Proof.Machine.execReleaseInputs lane s
  | .setReference lane => Sys2Proof.Machine.execSetReference lane s
  | .preampWordSend => Sys2Proof.Machine.execPreampWordSend s
  | .cueDue mix => Sys2Proof.Machine.execCueDue mix s
  | .cueRecordGrant => Sys2Proof.Machine.execCueRecordGrant s
  | .setMix lane => Sys2Proof.Machine.execSetMix lane s
  | .loadSends lane => Sys2Proof.Machine.execLoadSends lane s
  | .stageScene lane => Sys2Proof.Machine.execStageScene lane s
  | .cueScene lane => Sys2Proof.Machine.execCueScene lane s
  | .readMixes lane => Sys2Proof.Machine.execReadMixes lane s
  | .talkAnswerTimeout group target => Sys2Proof.Machine.execTalkAnswerTimeout group target s
  | .buttonDebounce button level => Sys2Proof.Machine.execButtonDebounce button level s
  | .lampFlashToggle => Sys2Proof.Machine.execLampFlashToggle s
  | .setTalkGroup lane => Sys2Proof.Machine.execSetTalkGroup lane s
  | .setRanks lane => Sys2Proof.Machine.execSetRanks lane s
  | .setButton lane => Sys2Proof.Machine.execSetButton lane s
  | .talk lane => Sys2Proof.Machine.execTalk lane s
  | .signalLoss port => Sys2Proof.Machine.execSignalLoss port s
  | .signalPresent port => Sys2Proof.Machine.execSignalPresent port s
  | .darkProbe port => Sys2Proof.Machine.execDarkProbe port s
  | .acquireTimeout port => Sys2Proof.Machine.execAcquireTimeout port s
  | .quarantineEnd port => Sys2Proof.Machine.execQuarantineEnd port s
  | .pathTimeout origin port => Sys2Proof.Machine.execPathTimeout origin port s
  | .closureTimeout direction => Sys2Proof.Machine.execClosureTimeout direction s
  | .conflictFlagClear port => Sys2Proof.Machine.execConflictFlagClear port s
  | .ringViewRefresh => Sys2Proof.Machine.execRingViewRefresh s
  | .loopTest lane => Sys2Proof.Machine.execLoopTest lane s
  | .returnLoopEnd port => Sys2Proof.Machine.execReturnLoopEnd port s
  | .testerWindowEnd port => Sys2Proof.Machine.execTesterWindowEnd port s
  | .meter lane => Sys2Proof.Machine.execMeter lane s
  | .meterPassBegin => Sys2Proof.Machine.execMeterPassBegin s
  | .detectorWindowEnd detector => Sys2Proof.Machine.execDetectorWindowEnd detector s
  | .meterFrameTrigger lane => Sys2Proof.Machine.execMeterFrameTrigger lane s
  | .wordClockPresent => Sys2Proof.Machine.execWordClockPresent s
  | .wordClockAbsent => Sys2Proof.Machine.execWordClockAbsent s
  | .wordClockPhaseLock => Sys2Proof.Machine.execWordClockPhaseLock s

end Sys2Proof.Machine
end

