-- ==== Sys2Proof/Machine/Ticking.lean ====
section
/-!
DEFINITION. The frame edge, which is what a step does on an empty queue: the counts of frames passed advance, and the commands
that fall due in the frame join the queue (spec 10, R185; log entries 1 to 3).
-/

namespace Sys2Proof.Machine

/-! ### Counts of frames passed -/

/-- A port record after a frame passed (spec 08, R155, R158, R159, R164). -/
def PortRec.age (r : PortRec) : PortRec :=
  { r with
    timer := min (r.timer + 1) 4294967295
    absent := if r.state = .acquire ∧ r.signal = false then r.absent + 1 else 0
    conflictQuiet := if r.conflictReported then r.conflictQuiet + 1 else r.conflictQuiet
    sent := [] }

/-- A lane context after a frame passed: a step counts frames from its beginning to its end (spec 01, R19). -/
def Lane.age1 (x : Lane) : Lane :=
  match x.activity with
  | .none => x
  | _ => { x with age := x.age + 1 }

/-- A request after a frame passed (spec 04, R76). -/
def Request.age (r : Request) : Request :=
  match r.state with
  | .waiting n => { r with state := .waiting (n + 1) }
  | .queued => r

/-- A path record after a frame passed (spec 08, R160). -/
def Path.age (x : Path) : Path := { x with since := x.since.map (· + 1) }

/-- A closure record after a frame passed: the frames since the last closure count on once its direction is open (spec 08,
R163). -/
def Closure.age (c : Closure) : Closure := if c.roundTrip.isSome then { c with since := c.since + 1 } else c

/-- The supervisor after a frame passed (spec 08, R160, R163, R165). -/
def Supervisor.age (v : Supervisor) : Supervisor :=
  { v with
    paths := Bank.mapAll (fun b : Both Path => ⟨b.east.age, b.west.age⟩) v.paths
    summaries := Bank.mapAll (fun x : Option (Word × Nat) => x.map fun y => (y.1, y.2 + 1)) v.summaries
    eastward := v.eastward.age
    westward := v.westward.age
    refreshAge := v.refreshAge + 1 }

/-- A talk group after a frame passed (spec 07, R131, R132). -/
def Group.age (x : Group) : Group :=
  { x with outbox := Bank.mapAll (fun e : OutboxEntry => { e with waited := e.waited.map (· + 1) }) x.outbox }

/-- A button record as a frame opens (spec 07, R141, R143). -/
def Button.age (b : Button) : Button := { b with pressFrames := b.pressFrames + 1, sampled := false }

/-- The talk unit after a frame passed (spec 07, R131, R143, R146). -/
def Talk.age (v : Talk) : Talk :=
  { v with groups := Bank.mapAll Group.age v.groups, buttons := Bank.mapAll Button.age v.buttons, flashAge := v.flashAge + 1 }

/-- The pass of the head of the meter queue is due in the frame after one that ends with all detectors free (spec 09, R180). -/
def Meter.due (v : Meter) : Bool := !v.queue.isEmpty && v.allFree

/-- The merge unit as frame `frame` opens; a D changed in the frame before moves the point here, before the frame's playout
(spec 03, R45, R57; DESIGN CHOICE, log entry 39). -/
def Merge.open (m : Merge) (frame : Word) : Merge := { m with playedNow := false, point := minusFrames frame m.delay }

/-- The end of a rewrite in progress (spec 01, R21; log entry 10). -/
def ViewRec.endRewrite (v : ViewRec) : ViewRec := { v with rewriting := false }

/-- The edge that opens the next local frame of a run (spec 10, R185). -/
def State.openFrame (s : State) : State :=
  let frame := s.clock.frame + 1
  { s with
    clock := { s.clock with frame := frame }
    passed := s.passed + 1
    merge := s.merge.open frame
    built := false
    ports := ⟨s.ports.east.age, s.ports.west.age⟩
    lanes := Bank.mapAll Lane.age1 s.lanes
    scanPhase := (s.scanPhase + 1) % Config.scanInterval
    scanDue := s.scanDue || s.scanPhase + 1 == Config.scanInterval
    rounds := 0
    svc.requests := s.svc.requests.map Request.age
    sup := s.sup.age
    talk := s.talk.age
    meter := { s.meter with passDue := s.meter.due }
    inputView := s.inputView.endRewrite
    ringView := s.ringView.endRewrite
    talkView := s.talkView.endRewrite
    conv := { s.conv with tdmOut := s.conv.delivered, gpo := s.lampPins, flashing := s.flashingLamps, wordLine := [],
                          wordsSent := false } }

/-- A frame edge of the oscillator while the run state is other than RUNNING (spec 10, R185, R186, R190). -/
def State.idleEdge (s : State) : State :=
  { s with conv := { s.conv with tdmOut := Vector.replicate 64 0, gpo := 0, flashing := 0, wordLine := [], wordsSent := false } }

/-! ### What falls due in a frame (log entry 2) -/

/-- A command for each index that a test accepts, in ascending order (DESIGN CHOICE where no rule orders them, log entry 74). -/
def dueAll (n : Nat) (test : Fin n → Bool) (command : Fin n → Instr) : List Instr :=
  ((indices n).filter test).map command

/-- A command that a test makes due. -/
def dueIf (test : Bool) (command : Instr) : List Instr := if test then [command] else []

/-- The samples of the button pins (spec 10, R190), in ascending order of button, so that of two CHAIN presses of one frame on one IDLE
lane the lower button's starts it and the other is missed (spec 07, R145; DESIGN CHOICE, log entry 74). -/
def State.dueSamples (s : State) : List Instr := (indices 8).map fun b => .buttonDebounce b (s.conv.gpi.getLsbD b.val)

/-- Times that have run out at a port (spec 08, R154, R155, R158, R164). -/
def State.duePort (s : State) (p : Port) : List Instr :=
  dueIf (s.stood p .dark Config.probeFrames) (.darkProbe p) ++ dueIf (s.acquireOver p) (.acquireTimeout p)
    ++ dueIf (s.stood p .quarantine Config.quarantineFrames) (.quarantineEnd p)
    ++ dueIf (s.conflictOver p) (.conflictFlagClear p)

/-- Times that have run out at the supervisor (spec 08, R160, R163). -/
def State.dueRing (s : State) : List Instr :=
  dueAll 4 (fun o => s.pathOver o .east) (fun o => .pathTimeout o .east)
    ++ dueAll 4 (fun o => s.pathOver o .west) (fun o => .pathTimeout o .west)
    ++ dueIf (s.closureOver .eastward) (.closureTimeout .eastward)
    ++ dueIf (s.closureOver .westward) (.closureTimeout .westward)

/-- Waits that have run out (spec 01, R19; spec 04, R77; spec 07, R132; spec 09, R183). -/
def State.dueWaits (s : State) : List Instr :=
  dueAll 16 s.elapsedDue .waitElapsed ++ dueAll 16 s.frameReached .waitFrameReached ++ dueAll 16 s.timeoutDue .waitTimeout
    ++ dueAll 16 s.frameTriggerDue .meterFrameTrigger
    ++ (s.svc.requests.filter Request.late).map (fun r => .requestTimeout r.lane r.seq)
    ++ (indices 8).flatMap fun g => dueAll 4 (fun u => s.answerDue g u) (fun u => .talkAnswerTimeout g u)

/-- The command that hands a begun step of a kind to its block (spec 01, section 1.9). -/
def stepCommand (kind : Nat) (l : Fin 16) : Instr :=
  match kind with
  | 1 => .mark l
  | 2 => .wait l
  | 3 => .mapSlots l
  | 4 => .patchOutputs l
  | 5 => .sendNote l
  | 6 => .setInput l
  | 7 => .claimInputs l
  | 8 => .releaseInputs l
  | 9 => .setReference l
  | 10 => .setMix l
  | 11 => .loadSends l
  | 12 => .stageScene l
  | 13 => .cueScene l
  | 14 => .readMixes l
  | 15 => .setTalkGroup l
  | 16 => .setRanks l
  | 17 => .setButton l
  | 18 => .talk l
  | 19 => .loopTest l
  | 20 => .meter l
  | _ => .stepBadKind l

/-- The steps the lanes have begun (spec 01, R13). -/
def State.dueSteps (s : State) : List Instr :=
  (indices 16).flatMap fun l => match s.begunKind? l with
    | some k => [stepCommand k l]
    | none => []

/-- The grants of room (spec 04, R73), of entries (R76) and of cue request records (spec 06, R125), by their numbers. -/
def grants (room : QueueClass → Nat) (entries records : Nat) : List Instr :=
  List.replicate (room .urgent) (.roomGrant .urgent) ++ List.replicate (room .normal) (.roomGrant .normal)
    ++ List.replicate entries .pendingEntryGrant ++ List.replicate records .cueRecordGrant

/-- The free places of a queue go to the producers that wait for them, freed entries to the steps that wait for one, freed records to
the cues that wait for one: as many as there are places and as there are waiting. -/
def State.dueGrants (s : State) : List Instr :=
  grants (fun q => min (Config.queueRoom - (s.svc.queue q).length) (s.svc.room q).length)
    (min (Config.requestRoom - s.svc.requests.length) s.svc.entryWait.length) (min s.freeRecords.length s.mix.cueWait.length)

/-- The grants a frame edge queues behind the lane scan, since the commands before them can free every place that someone waits for as
the frame opens; a grant with nothing to give does nothing (DESIGN CHOICE, log entry 31). -/
def State.edgeGrants (s : State) : List Instr :=
  grants (fun q => if (s.svc.room q).isEmpty then 0 else Config.queueRoom)
    (if s.svc.entryWait.isEmpty then 0 else Config.requestRoom) (if s.mix.cueWait.isEmpty then 0 else 16)

/-- The switches due at the frame's playout (spec 05, R84, R91, R92, R98; spec 06, R119). -/
def State.dueSwitches (s : State) : List Instr :=
  (indices 4).flatMap (fun u => dueAll 64 (fun n => s.referenceDue u n) (fun n => .scheduledReferenceApply u n))
    ++ dueAll 64 (fun n => !s.isStage && s.scheduledDue n) .scheduledChangeApply
    ++ dueAll 64 (fun n => s.isStage && s.pendingDue n) .pendingChangeApply
    ++ dueAll 64 s.muteDue .phantomMuteEnd ++ dueAll 32 s.cueIsDue .cueDue

/-- A detector takes its last sample at this frame's playout (spec 09, R177). -/
def State.windowEnds (s : State) (k : Fin 8) : Bool :=
  match s.meter.detectors.get k with
  | some d => decide (d.left ≤ 1)
  | none => false

/-- A tester's window has passed: it ends after the frame's burst. A port enters LOOP by a step or an answer, which is taken once the
frame's burst has gone (log entries 3 and 35), so a window of W frames holds the W bursts of the frames after its entry (spec 08, R173;
DESIGN CHOICE, log entry 73). -/
def State.dueTest (s : State) (p : Port) : List Instr :=
  dueIf ((s.port p).testing && (s.port p).loopOver) (.testerWindowEnd p)

/-- A return loop is over: it ends after the bursts that arrived in the frame before have been sent back (spec 08, R172). -/
def State.dueReturn (s : State) (p : Port) : List Instr :=
  dueIf ((s.port p).returns && (s.port p).loopOver) (.returnLoopEnd p)

/-- A lane's step is one of map fades under way: whether they have settled is looked at when the frame's playout and burst have been
made (spec 02, R35; spec 03, R63). -/
def State.fades (s : State) (l : Fin 16) : List Instr :=
  match s.op? l with
  | some (.mapSlots _ _) => [.mapSlotsSettled l]
  | some (.patchOutputs _ _) => [.patchOutputsSettled l]
  | _ => []

/-- A view is owed a further rewrite (spec 01, R21). -/
def State.dueViews (s : State) : List Instr :=
  dueIf (decide (Config.quietFrames ≤ s.sup.refreshAge)) .ringViewRefresh
    ++ dueIf s.inputView.again (.viewRewriteFollowup .input) ++ dueIf s.ringView.again (.viewRewriteFollowup .ring)
    ++ dueIf s.talkView.again (.viewRewriteFollowup .talk)

/-- The audio of a frame: the meter's pass, the playout with the TDM samples as they stand, the burst, the forwarded bursts
(spec 03, R45; spec 02, R22, R26; spec 09, R177, R180). -/
def State.dueAudio (s : State) : List Instr :=
  dueIf s.meter.passDue .meterPassBegin ++ [.playout s.conv.tdmIn.toList]
    ++ dueAll 8 s.windowEnds .detectorWindowEnd
    ++ [.burstBuild, .forwardBufferSend .east, .forwardBufferSend .west]

/-- Everything due in a frame of a run, in the order of log entry 2. -/
def State.dueRunning (s : State) : List Instr :=
  s.dueSteps ++ s.dueSamples ++ s.duePort .east ++ s.duePort .west ++ s.dueRing ++ s.dueWaits
    ++ dueIf s.scanDue .laneScan ++ s.edgeGrants ++ s.dueSwitches ++ s.dueAudio
    ++ s.dueTest .east ++ s.dueTest .west ++ s.dueReturn .east ++ s.dueReturn .west ++ (indices 16).flatMap s.fades
    ++ dueIf (decide (Config.flashFrames ≤ s.talk.flashAge)) .lampFlashToggle ++ s.dueViews

/-- The words of the preamp line that are due (spec 10, R187). -/
def State.dueWords (s : State) : List Instr :=
  dueIf (!s.wordLineIdle && s.conv.schedule.any fun w => !later w.due s.clock.frame) .preampWordSend

/-- The check of an anchor that has been read (spec 01, R8; log entry 16). -/
def State.dueStart (s : State) : List Instr := dueIf (decide (Config.anchorWords ≤ s.anchorRead.length)) .anchorCheck

/-- One frame edge: nothing happens while the reset pin is low (spec 10, R191). -/
def State.tick (s : State) : State :=
  if s.resetLow then s
  else
    match s.regs.runState with
    | .running =>
      let t := s.openFrame
      { t with pending := t.dueWords ++ t.dueRunning }
    | .starting =>
      let t := s.idleEdge.readAnchorWord
      { t with pending := t.dueWords ++ t.dueStart }
    | .stopped =>
      let t := s.idleEdge
      { t with pending := t.dueWords }

/-- The messages taken at this frame's playout become waiting commands (spec 04, R70; log entry 3). -/
def State.takeInbox (s : State) : State := { s with pending := s.inbox, inbox := [] }

/-! ### What comes about inside a frame -/

/-- A lane's step of map fades has nothing left to settle (spec 02, R35; spec 03, R63). -/
def State.settled (s : State) (l : Fin 16) : Bool :=
  match s.op? l with
  | some (.mapSlots slots _) => s.slotsSteady slots
  | some (.patchOutputs outputs _) => s.outputsSteady outputs
  | _ => false

/-- The work that the commands of a frame have brought about in it: grants of the room, entries and records that have come free (spec
04, R73, R76; spec 06, R125; log entry 31), steps begun and not yet taken (spec 01, R13), and map steps whose entries are steady (spec
02, R35; spec 03, R63). At most one round for each word of the RAM is queued in one frame, so that a
circle of steps that end at once does not hold the frame up (DESIGN CHOICE, log entry 35). -/
def State.roundWork (s : State) : List Instr :=
  if !s.resetLow && s.isRunning && decide (s.rounds < joinFuel) then
    s.dueGrants ++ s.dueSteps ++ ((indices 16).filter s.settled).flatMap s.fades
  else []

/-- One round of that work becomes waiting commands. -/
def State.takeRound (s : State) : State := { s with pending := s.roundWork, rounds := s.rounds + 1 }

/-- What a step does with nothing waiting: the messages taken in this frame, then the work that has come about in it, and then the
next frame edge (log entries 1, 3 and 35). -/
def State.idle (s : State) : State :=
  if !s.inbox.isEmpty then s.takeInbox
  else if !s.roundWork.isEmpty then s.takeRound
  else s.tick

end Sys2Proof.Machine
end

