-- ==== Sys2Proof/Machine/Pins.lean ====
section
/-!
DEFINITION. What stands on the pins of the converter and control ports: the TDM frames of the 8 lanes, and the word clock output
(spec 10, R185, R186, R189).
-/

namespace Sys2Proof.Machine

/-! ### TDM frames (R186) -/

/-- A TDM frame: 8 lanes of 8 positions of 32 bits. -/
abbrev TdmFrame := Bank 8 (Bank 8 Word)

/-- The lane of a local channel. -/
def tdmLane (c : Fin 64) : Fin 8 := ⟨c.val / 8, by omega⟩

/-- The position of a local channel in its lane. -/
def tdmPosition (c : Fin 64) : Fin 8 := ⟨c.val % 8, by omega⟩

/-- The local channel of a lane and a position. -/
def tdmChannel (lane position : Nat) : Nat := 8 * lane + position

/-- A sample in its position: the most significant bit first, the last 8 bits sent as 0. -/
def tdmWord (x : Sample) : Word := x ++ (0 : Byte)

/-- The sample a position carries; its last 8 bits are ignored. -/
def tdmSample (w : Word) : Sample := w.extractLsb' 8 24

/-- The 64 samples of a frame, laid out. -/
def tdmLayOut (samples : Bank 64 Sample) : TdmFrame :=
  Bank.mapNum (fun lane _ => Bank.mapNum (fun position _ => tdmWord (samples.toList.getD (tdmChannel lane position) 0))
    (Vector.replicate 8 (0 : Word))) (Vector.replicate 8 (Vector.replicate 8 (0 : Word)))

/-- The samples of local inputs 0 to 63 in a received frame: the operand of its PLAYOUT. -/
def tdmReceived (frame : TdmFrame) : List Sample := (indices 64).map fun c => tdmSample ((frame.get (tdmLane c)).get (tdmPosition c))

/-- The frame the output lanes carry. -/
def State.tdmSent (s : State) : TdmFrame := tdmLayOut s.conv.tdmOut

/-- The 256 bits of a lane, in the order of the bit clock. -/
def tdmBits (lane : Bank 8 Word) : List Bool := lane.toList.flatMap fun w => (List.range 32).map fun i => w.getMsbD i

/-- The frame sync at a bit clock of a frame. -/
def frameSync (bitClock : Nat) : Bool := bitClock == 0

/-! ### The word clock output (R189) -/

/-- What the word clock output follows. -/
inductive OutputClock where
  /-- Low while the reset pin is low: the oscillator clocks start when it rises (R191). -/
  | low
  | oscillator
  /-- The stage's frame edges. -/
  | edges (source : EdgeSource)
  /-- A desk's frame edges, at the rate of its clock unit. -/
  | rate (rate : ClockRate)
  deriving DecidableEq, Repr

/-- The word clock output follows the local frame counter while RUNNING, and the oscillator otherwise. -/
def State.outputClock (s : State) : OutputClock :=
  if s.resetLow then .low
  else if !s.isRunning then .oscillator
  else if s.isStage then .edges s.conv.edges
  else .rate s.clock.rate

/-- The level of the word clock output: high for the first half of each frame. -/
def State.wordClockOut (s : State) (firstHalf : Bool) : Bool := firstHalf && decide (s.outputClock ≠ .low)

end Sys2Proof.Machine
end

