-- ==== Sys2Proof/WellFormed.lean ====
section
/-!
DEFINITION. Well-formed commands: the operands a row of the table can carry (spec 01, R2, R3; spec 02, R22; spec 04, R66, R70;
spec 10, R186). The meanings of the commands do not rest on it: an ill-formed command has a meaning too.
-/

namespace Sys2Proof

/-- What makes a command ill-formed. -/
inductive IllFormed where
  /-- The value written to CONTROL does not do what the row says (spec 01, R3). -/
  | controlValue
  /-- The offset holds exchange RAM, CONTROL or ATTENTION (spec 01, R1, R2). -/
  | registerOffset
  /-- A burst that arrived whole has other lengths than its header says (spec 02, R22). -/
  | burstLengths
  /-- A TDM frame has other than 64 samples (spec 10, R186). -/
  | tdmLength
  /-- A message body has a length its kind does not allow (spec 04, R66). -/
  | messageLength
  deriving DecidableEq, Repr

/-- The lengths of a burst agree with its header (spec 02, R22). -/
def Burst.lengthsAgree (b : Burst) : Bool := b.slots.length == b.slotCount.toNat && b.service.length == 8

/-- A word offset holds neither exchange RAM nor a register a write acts on (spec 01, R1, R2). -/
def ignoredOffset (word : BitVec 17) : Bool :=
  decide (0x10000 ≤ word.toNat) && word != 0x10001 && word != 0x10003

/-- The first thing that makes a command ill-formed. -/
def Instr.illFormed? (i : Instr) : Option IllFormed :=
  match i with
  | .powerOn .. => none
  | .resetPinLow .. => none
  | .resetPinRelease .. => none
  | .hostRamWrite .. => none
  | .softReset value => if value.getLsbD 1 then none else some .controlValue
  | .runStart value => if value.getLsbD 0 && !value.getLsbD 1 then none else some .controlValue
  | .runStop value => if !value.getLsbD 0 && !value.getLsbD 1 then none else some .controlValue
  | .attentionMaskWrite value => if !value.getLsbD 1 then none else some .controlValue
  | .attentionClear .. => none
  | .ignoredRegisterWrite word _ => if ignoredOffset word then none else some .registerOffset
  | .anchorCheck .. => none
  | .laneScan .. => none
  | .stepBadKind .. => none
  | .mark .. => none
  | .wait .. => none
  | .waitElapsed .. => none
  | .waitFrameReached .. => none
  | .waitTimeout .. => none
  | .viewRewriteFollowup .. => none
  | .burstBuild .. => none
  | .burstReceive _ _ whole burst => if whole && !burst.lengthsAgree then some .burstLengths else none
  | .forwardBufferSend .. => none
  | .mapSlots .. => none
  | .mapSlotsSettled .. => none
  | .playout tdm => if tdm.length = 64 then none else some .tdmLength
  | .patchOutputs .. => none
  | .patchOutputsSettled .. => none
  | .gainRequest .. => none
  | .gainAnnounce .. => none
  | .gainRefused .. => none
  | .claim .. => none
  | .release .. => none
  | .ownerAnnounce .. => none
  | .reference .. => none
  | .mixSends _ _ _ _ records => if records.length ≤ 12 then none else some .messageLength
  | .mixSet .. => none
  | .mixCue .. => none
  | .mixAck .. => none
  | .talkOpen .. => none
  | .talkClose .. => none
  | .talkState .. => none
  | .loopRequest .. => none
  | .loopReply .. => none
  | .note _ _ text => if text.length ≤ 56 then none else some .messageLength
  | .roomGrant .. => none
  | .pendingEntryGrant .. => none
  | .requestTimeout .. => none
  | .sendNote .. => none
  | .scheduledChangeApply .. => none
  | .pendingChangeApply .. => none
  | .phantomMuteEnd .. => none
  | .phantomShortReport .. => none
  | .scheduledReferenceApply .. => none
  | .setInput .. => none
  | .claimInputs .. => none
  | .releaseInputs .. => none
  | .setReference .. => none
  | .preampWordSend .. => none
  | .cueDue .. => none
  | .cueRecordGrant .. => none
  | .setMix .. => none
  | .loadSends .. => none
  | .stageScene .. => none
  | .cueScene .. => none
  | .readMixes .. => none
  | .talkAnswerTimeout .. => none
  | .buttonDebounce .. => none
  | .lampFlashToggle .. => none
  | .setTalkGroup .. => none
  | .setRanks .. => none
  | .setButton .. => none
  | .talk .. => none
  | .signalLoss .. => none
  | .signalPresent .. => none
  | .darkProbe .. => none
  | .acquireTimeout .. => none
  | .quarantineEnd .. => none
  | .pathTimeout .. => none
  | .closureTimeout .. => none
  | .conflictFlagClear .. => none
  | .ringViewRefresh .. => none
  | .loopTest .. => none
  | .returnLoopEnd .. => none
  | .testerWindowEnd .. => none
  | .meter .. => none
  | .meterPassBegin .. => none
  | .detectorWindowEnd .. => none
  | .meterFrameTrigger .. => none
  | .wordClockPresent .. => none
  | .wordClockAbsent .. => none
  | .wordClockPhaseLock .. => none

/-- A well-formed command. -/
def Instr.wellFormed (i : Instr) : Bool := i.illFormed?.isNone

end Sys2Proof
end

