-- ==== Sys2Proof/Safety.lean ====
section
/-!
DEFINITION. The terms the claims are stated in: what a safe state is, the steps a lane can have in hand, and what a command
leaves as it was.
-/

namespace Sys2Proof.Machine

/-! ### Safe states -/

/-- The exchange RAM is in its canonical form. -/
def State.canonical (s : State) : Bool := Memory.wf s.ram

/-- What holds of a part whose reset pin is low: it is STOPPED with every register 0 (spec 10, R191; spec 01, R6). -/
def State.heldInReset (s : State) : Bool := !s.resetLow || decide (s.regs = {})

/-! ### Steps in hand (spec 01, R13, R15) -/

/-- A lane of a running terminal has begun the step at an address. -/
def State.hasBegun (s : State) (l : Fin 16) (a : Nat) : Bool :=
  s.isRunning && decide ((s.lane l).activity = .joining {} a)

/-- The step at an address as a join of its own. -/
def State.stepAt (s : State) (a : Nat) : Join := ({} : Join).add s.ram a (s.header a)

/-- A lane of a running terminal has begun the step at an address: it is of a kind, alone, and passes the checks of R13. -/
def State.hasStep (s : State) (l : Fin 16) (kind a : Nat) : Bool :=
  s.hasBegun l a && (s.header a).kind == kind && (s.header a).fault.isNone && !(s.header a).gather
    && decide (lengthNeeded kind ≤ (s.stepAt a).payload.length)

/-- A lane of a running terminal has a step in progress. -/
def State.works (s : State) (l : Fin 16) (j : Join) (op : Op) : Bool :=
  s.isRunning && decide ((s.lane l).activity = .working j op)

/-! ### The talk unit at rest -/

/-- The talk unit owes nothing: no message in the outbox, no flagged state, no button PENDING, no TALK step waiting. -/
def State.talkQuiet (s : State) : Bool :=
  s.outboxNext?.isNone && ((indices 4).all fun t => (s.flagged? t).isNone)
    && ((indices 8).all fun b => match (s.button b).state with
      | .pending _ => false
      | _ => true)
    && (indices 16).all fun l => match s.op? l with
      | some (.talkOpen _) => false
      | _ => true

/-! ### Requests and inserts -/

/-- A command frees a request's entry and ends its lane's step: the state before the end differs from s in this lane's
operation and the pending request table only. -/
def endsRequest (c : Instr) (s : State) (l : Fin 16) (j : Join) (r : Request) (status : Status) (detail : Nat)
    (count : Word) : Prop :=
  ∃ u : State, exec c s = .next (u.finish l j status detail count)
    ∧ u = { s with lanes := u.lanes, svc := u.svc }
    ∧ u.svc = { s.svc with requests := s.svc.requests.filter fun q => !decide (q.lane = l ∧ q.number = r.number) }
    ∧ (u.lane l).done = (s.lane l).done ∧ ∀ k : Fin 16, k ≠ l → u.lane k = s.lane k

/-- What holds of every talk insert: without a holder no one waits, the waiting list is in descending order of rank, and no
talker stands twice in it (spec 07, R136). -/
def Insert.ordered (i : Insert) : Prop :=
  (i.holder = none → i.waiting = []) ∧ i.waiting.Pairwise (fun a b => b.rank ≤ a.rank)
    ∧ ((i.holder.toList ++ i.waiting).map fun p => p.talker).Nodup

/-- What holds of every mix: its live list and its staged list stand in ascending order of source, each source once, with at most 48
live entries that are not fading out and at most 48 staged ones (spec 06, R108, R116). -/
def Mix.ordered (x : Mix) : Prop :=
  x.sends.Pairwise (fun a b => a.source.toNat < b.source.toNat) ∧ x.steadySends ≤ 48
    ∧ ∀ c : Scene, x.staged = some c → c.sends.Pairwise (fun a b => a.1.toNat < b.1.toNat) ∧ c.sends.length ≤ 48

/-- What holds of the mix engine: every mix is ordered, and the live, staged and fading entries of all mixes number at most 1,024
(spec 06, R108). -/
def State.mixesBounded (s : State) : Prop := (∀ m : Fin 32, (s.mixRec m).ordered) ∧ s.mix.poolUsed ≤ 1024

/-- What holds of the service unit: at most 16 messages in each queue, 32 held replies and 64 requests, and a fault announce that is
held is one of an urgent kind, as the queue it waits for (spec 04, R71, R75, R76; spec 05, R93). -/
def State.queuesBounded (s : State) : Prop :=
  s.svc.urgent.length ≤ 16 ∧ s.svc.normal.length ≤ 16 ∧ s.svc.replies.length ≤ 32 ∧ s.svc.requests.length ≤ 64
    ∧ ∀ (n : Fin 64) (m : Message), s.gain.heldFaults.get n = some m → kindClass m.kind = .urgent

/-- A MIX ACK to a terminal (spec 04, R66). -/
def ackMessage (asker : Fin 4) (tag : Tag) (applied refused reason : Byte) : Message :=
  { kind := 11, dest := asker.val, body := [tag.requester, tag.lane, tag.seq, applied, refused, reason] }

/-- The i-th request that a lane's step gives from here on, with its tag (spec 04, R66, R67, R76). -/
def State.requestMessage (s : State) (l : Fin 16) (i : Nat) (o : Fin 4) (kind : Nat) (body : List Byte) : Message :=
  { kind := kind, dest := o.val, producer := .request l ((s.lane l).given + i)
    body := [BitVec.ofNat 8 s.cfg.id.val, BitVec.ofNat 8 l.val, (s.lane l).seq + BitVec.ofNat 8 i] ++ body }

/-- The first state is the second after a lane's step has asked terminal o with a message of a queue: with an entry and room the
message is queued, without room it is held, and without an entry the request waits for one (spec 04, R71, R73, R76). -/
def State.asked (t s : State) (l : Fin 16) (q : QueueClass) (o : Fin 4) (kind : Nat) (body : List Byte) : Prop :=
  (∀ k : Fin 16, k ≠ l → t.lane k = s.lane k)
    ∧ (s.entryFree = true → (t.lane l).given = (s.lane l).given + 1
      ∧ t.svc.requests = s.svc.requests ++ [{
          lane := l, number := (s.lane l).given + 1, target := o, kind := kind, state := .queued }]
      ∧ (s.svc.mayPlace q = true → t.svc.queue q = s.svc.queue q ++ [s.requestMessage l 1 o kind body]
        ∧ t.svc = { s.svc with
            urgent := if q = .urgent then t.svc.urgent else s.svc.urgent
            normal := if q = .normal then t.svc.normal else s.svc.normal, requests := t.svc.requests })
      ∧ (s.svc.mayPlace q = false → (t.lane l).held = some (s.requestMessage l 1 o kind body)
        ∧ t.svc = { s.svc.hold q (.lane l) with requests := t.svc.requests }))
    ∧ (s.entryFree = false → (t.lane l).given = (s.lane l).given
      ∧ (t.lane l).want = some { target := o, kind := kind, body := body }
      ∧ t.svc = { s.svc with entryWait := s.svc.entryWait ++ [l] })

/-- What the entry at offset k of a SET INPUT payload asks for (spec 05, R101). -/
def settingAsked (b : List Byte) (k : Nat) : Setting :=
  { gain := min (byteAt b (k + 1)).toNat 60, pad := decide (byteAt b (k + 2) ≠ 0), phantom := decide (byteAt b (k + 3) ≠ 0) }

/-- The body of its GAIN REQUEST, less the tag (spec 04, R66). -/
def gainAsk (n : Fin 64) (b : List Byte) (k : Nat) : List Byte :=
  [BitVec.ofNat 8 n.val, BitVec.ofNat 8 (min (byteAt b (k + 1)).toNat 60), if byteAt b (k + 2) = 0 then 0 else 1,
    if byteAt b (k + 3) = 0 then 0 else 1]

/-- A set of mixes holds one mix. -/
def onlyMix (mixes : Word) (m : Fin 32) : Prop := ∀ k : Fin 32, mixes.getLsbD k.val = decide (k = m)

/-- The fault log has taken a record or counted a dropped one (spec 01, R20). -/
def State.logged (t s : State) : Prop :=
  t.faultLog = { s.faultLog with written := s.faultLog.written + 1 }
    ∨ t.faultLog = { s.faultLog with dropped := s.faultLog.dropped + 1 }

/-! ### What a command leaves as it was -/

/-- The first state has the second's everything but lane contexts, exchange RAM and ATTENTION. -/
def State.lanesOnly (t s : State) : Prop :=
  t = { s with lanes := t.lanes, ram := t.ram, regs := { s.regs with attention := t.regs.attention } }

/-- A byte of the RAM lies outside an area. -/
def outsideArea (a base size : Nat) : Bool := decide (a < base) || decide (base + size ≤ a)

/-- The state a command leaves before the views follow it (spec 01, R21). -/
def leaves (c : Instr) (s u : State) : Prop := exec c s = .next (u.withViews s)

end Sys2Proof.Machine
end

