-- ==== Sys2Proof/Certificates/Slice0/Obligations.lean ====
section
/-!
DEFINITION. The statements for the provers, in the order of OBLIGATIONS.json. `leaves c s u` says that command c, in state s,
answers next with u once the views have followed it.
-/

open Sys2Proof Sys2Proof.Machine

/-! ### Queue, resets, bus (spec 01, R1 to R11; spec 10, R185, R191) -/

/-- A step with a command waiting runs the front command with the rest of the queue waiting (log entry 1), and no command stops
the part: each answers a next state (log entry 33). -/
def Obligations.StepRunsFrontCommand : Prop :=
  ∀ (c : Instr) (rest : List Instr) (s : State),
    step { s with pending := c :: rest } = exec c { s with pending := rest } ∧ ∃ t : State, exec c s = .next t

/-- A step with nothing waiting (log entries 1 to 3 and 35; R185, R186, R190, R45, R12): the messages taken become waiting commands;
then, in a running terminal, the work that has come about in the frame: a grant for each free place, entry or record that a producer,
a step or a cue waits for (R73, R76, R125; log entry 31), the steps that lanes have begun and the map steps whose entries are steady,
in rounds up to the bound of log entry 35; else a running terminal's counter takes the next value, the outputs
computed in the last frame are sent, the lamps reach their pins, a scan is due every 24 frames, and the frame's playout and burst
are queued; a stopped one sends zeros and its outputs are low, and so does a starting one, which reads one anchor word more at each
edge and, once it has read all 11, queues ANCHOR_CHECK (R8; log entries 16 and 17); both queue the preamp words due (R187); with the
reset pin low nothing happens. Channel c lies in lane c / 8 at position c mod 8, its 24 bits before 8 of 0, and is so received. -/
def Obligations.IdleStepOpensFrame : Prop :=
  (∀ s : State, s.resetLow = false → s.isRunning = true → s.pending = [] → s.inbox = [] → s.roundWork = [] →
    ∃ t : State, step s = .next t ∧ t.clock.frame = s.clock.frame + 1 ∧ t.passed = s.passed + 1 ∧ t.rounds = 0
      ∧ (∀ (l : Fin 16) (k : Nat), s.begunKind? l = some k → stepCommand k l ∈ t.pending)
      ∧ t.merge.point = t.clock.frame - BitVec.ofNat 32 s.merge.delay ∧ t.merge.playedNow = false
      ∧ t.conv.tdmOut = s.conv.delivered ∧ t.ram = s.ram ∧ t.regs = s.regs
      ∧ Instr.playout s.conv.tdmIn.toList ∈ t.pending ∧ Instr.burstBuild ∈ t.pending)
  ∧ (∀ s : State, s.resetLow = false → s.isRunning = true → s.pending = [] → s.inbox = [] → s.roundWork = [] →
      ∃ t : State, step s = .next t ∧ t.conv.gpo = s.lampPins ∧ t.conv.gpi = s.conv.gpi ∧ t.built = false
        ∧ t.scanDue = (s.scanDue || decide (s.scanPhase = 23)) ∧ t.scanPhase = (s.scanPhase + 1) % 24
        ∧ (t.scanDue = true → Instr.laneScan ∈ t.pending))
  ∧ (∀ s : State, s.pending = [] → s.inbox ≠ [] → step s = .next { s with pending := s.inbox, inbox := [] })
  ∧ (∀ s : State, s.pending = [] → s.inbox = [] → s.roundWork ≠ [] →
      step s = .next { s with pending := s.roundWork, rounds := s.rounds + 1 })
  ∧ (∀ s : State, ((s.resetLow = true ∨ s.isRunning = false ∨ 65536 ≤ s.rounds) → s.roundWork = [])
      ∧ (s.resetLow = false → s.isRunning = true → s.rounds < 65536 → ∀ c : Instr, c ∈ s.roundWork ↔
        (∃ q : QueueClass, c = .roomGrant q ∧ s.svc.room q ≠ [] ∧ (s.svc.queue q).length < 16)
        ∨ (c = .pendingEntryGrant ∧ s.svc.entryWait ≠ [] ∧ s.svc.requests.length < 64)
        ∨ (c = .cueRecordGrant ∧ s.mix.cueWait ≠ [] ∧ ∃ k : Fin 16, s.mix.records.get k = none)
        ∨ ∃ (l : Fin 16) (j : Join),
        (∃ (a k : Nat), (s.lane l).activity = .joining j a ∧ k = (if j.steps = [] then (s.header a).kind else j.kind)
          ∧ c = stepCommand k l)
        ∨ (∃ (slots : List (Fin 64)) (n : Nat), (s.lane l).activity = .working j (.mapSlots slots n)
          ∧ (∀ i ∈ slots, (s.xmit.get i).next = none ∧ (s.xmit.get i).gain = 48) ∧ c = .mapSlotsSettled l)
        ∨ (∃ (outputs : List (Fin 64)) (n : Nat), (s.lane l).activity = .working j (.patchOutputs outputs n)
          ∧ (∀ i ∈ outputs, (s.delivery.get i).next = none ∧ (s.delivery.get i).gain = 48) ∧ c = .patchOutputsSettled l)))
  ∧ (∀ s : State, s.resetLow = true → s.pending = [] → s.inbox = [] → step s = .next s)
  ∧ (∀ s : State, s.resetLow = false → s.regs.runState = .stopped → s.pending = [] → s.inbox = [] →
      ∃ t : State, step s = .next t ∧ t.conv.tdmOut = Vector.replicate 64 0 ∧ t.conv.gpo = 0
        ∧ t = { s with pending := t.pending
                       conv := { s.conv with tdmOut := t.conv.tdmOut, gpo := t.conv.gpo, flashing := 0, wordLine := []
                                             wordsSent := false } }
        ∧ (Instr.preampWordSend ∈ t.pending ↔ ∃ w ∈ s.conv.schedule, (w.due - s.clock.frame).toInt ≤ 0))
  ∧ (∀ s : State, s.resetLow = false → s.regs.runState = .starting → s.pending = [] → s.inbox = [] →
      ∃ t : State, step s = .next t
        ∧ t = { s with pending := t.pending, anchorRead := t.anchorRead
                       conv := { s.conv with tdmOut := Vector.replicate 64 0, gpo := 0, flashing := 0, wordLine := []
                                             wordsSent := false } }
        ∧ (s.anchorRead.length < 11 → t.anchorRead = s.anchorRead ++ [s.peek (4 * s.anchorRead.length)])
        ∧ (11 ≤ s.anchorRead.length → t.anchorRead = s.anchorRead)
        ∧ (Instr.anchorCheck ∈ t.pending ↔ 11 ≤ t.anchorRead.length)
        ∧ (Instr.preampWordSend ∈ t.pending ↔ ∃ w ∈ s.conv.schedule, (w.due - s.clock.frame).toInt ≤ 0))
  ∧ (∀ (c : Fin 64) (l p : Fin 8), c.val = 8 * l.val + p.val →
      (∀ s : State, (s.tdmSent.get l).get p = s.conv.tdmOut.get c ++ (0 : Byte))
      ∧ ∀ f : TdmFrame, (tdmReceived f).getD c.val 0 = ((f.get l).get p).extractLsb' 8 24)

/-- What reset leaves (R2, R4, R6, R152, R191).
The signals start absent (log entry 8). -/
def Obligations.ResetShowsStopped : Prop :=
  State.reset.busRead 0x40000 = 0x04800001 ∧ State.reset.busRead 0x40004 = 0 ∧ State.reset.busRead 0x40008 = 0x7000
    ∧ State.reset.busRead 0x4000C = 0 ∧ State.reset.busRead 0x40010 = 0
    ∧ State.reset.interrupt = false ∧ State.reset.ready = true
    ∧ (∀ p : Port, (State.reset.port p).state = .dark ∧ State.reset.lit p = false)
    ∧ (∀ l : Fin 16, (State.reset.lane l).state = .idle)
    ∧ State.reset.conv.schedule.map (fun w => w.input.val) = List.range 64

/-- POWER_ON, RESET_PIN_LOW and RESET_PIN_RELEASE give the reset state; the queue, the mark, the RAM contents given and the
levels on the button pins stand apart from it, and at the release so do the signals that the receivers have reported while the pin was
low (R6, R152, R187, R191).
What the spec leaves open there is the model's choice (log entries 4 to 9 and 27), the signals that stand over the release among it
(log entry 8). -/
def Obligations.PowerAndPinGiveReset : Prop :=
  ∀ (contents : List (BitVec 16 × Word)) (s : State),
    (s.resetLow = false → exec (.powerOn contents) s = .next
      { State.reset with pending := s.pending, mark := s.mark, ram := ramOf contents,
                         conv := { schedule := resetWords 0, gpi := s.conv.gpi } })
    ∧ (s.resetLow = true → exec (.powerOn contents) s = .next
      { State.reset with pending := s.pending, mark := s.mark, resetLow := true, ram := ramOf contents,
                         conv := { gpi := s.conv.gpi } })
    ∧ exec .resetPinLow s = .next
      { State.reset with pending := s.pending, mark := s.mark, resetLow := true, ram := s.ram,
                         conv := { gpi := s.conv.gpi } }
    ∧ (s.resetLow = true → exec (.resetPinRelease contents) s = .next
      { State.reset with pending := s.pending, mark := s.mark, ram := ramOf contents,
                         ports := ⟨{ signal := s.ports.east.signal }, { signal := s.ports.west.signal }⟩,
                         conv := { schedule := resetWords 0, gpi := s.conv.gpi } })
    ∧ (s.resetLow = false → exec (.resetPinRelease contents) s = .next s)

/-- HOST_RAM_WRITE stores one whole word and nothing else, and a read then drives it; no access is served while the reset pin is
low, and a read then drives no data (R1, R191). -/
def Obligations.HostWriteReadsBack : Prop :=
  (∀ (s : State) (w : BitVec 16) (v : Word),
    (s.resetLow = false → ∃ t : State, exec (.hostRamWrite w v) s = .next t ∧ t = { s with ram := t.ram }
      ∧ t.busRead (4 * w.toNat) = v
      ∧ ∀ a : Nat, outsideArea a (4 * w.toNat) 4 = true → readByte t.ram a = readByte s.ram a)
    ∧ (s.resetLow = true → exec (.hostRamWrite w v) s = .next s))
  ∧ (∀ (s : State) (w : BitVec 16) (v : Word) (t : State), s.resetLow = false → exec (.hostRamWrite w v) s = .next t →
      t.busData (4 * w.toNat) = some v)
  ∧ (∀ s : State, (s.resetLow = true → ∀ offset : Nat, s.busData offset = none)
      ∧ (s.resetLow = false → ∀ offset : Nat, s.busData offset = some (s.busRead offset)))

/-- R2: IDENT and FRAME are read-only, IDENT is constant, FRAME is the local frame counter and keeps its value but while
RUNNING.
The frame edge is the model's own step (log entry 1). -/
def Obligations.IdentAndFrameReadOnly : Prop :=
  (∀ (s : State) (w : BitVec 17) (v : Word), exec (.ignoredRegisterWrite w v) s = .next s)
    ∧ (∀ s : State, s.busRead 0x40000 = 0x04800001 ∧ s.busRead 0x40010 = s.clock.frame)
    ∧ (∀ (contents : List (BitVec 16 × Word)) (s t : State),
        exec (.powerOn contents) s = .next t → t.busRead 0x40010 = 0)
    ∧ (∀ s : State, s.softReset.clock.frame = s.clock.frame ∧ s.stop.clock.frame = s.clock.frame)
    ∧ (∀ s : State, s.isRunning = false → s.tick.clock.frame = s.clock.frame)
    ∧ (∀ (s : State) (c : RunConfig), (s.beginRun c).clock.frame = s.clock.frame)
    ∧ ∀ s : State, s.resetLow = false → s.isRunning = true → s.tick.clock.frame = s.clock.frame + 1

/-- The rows of R3's table: SOFT_RESET, RUN_START, RUN_STOP and ATTENTION_MASK_WRITE (R3, R6, R7, R8); and ATTENTION_CLEAR makes
the written bits 0 and leaves every other bit and all else as it was (R5).
What a reset or a stop keeps beyond the spec's words is the model's choice (log entries 5 to 9 and 27). -/
def Obligations.RegisterWritesAct : Prop :=
  (∀ (s : State) (v : Word), s.resetLow = false →
     (v.getLsbD 1 = true → exec (.softReset v) s = .next
       { State.reset with
         pending := s.pending, mark := s.mark, ram := s.ram, clock := { frame := s.clock.frame }
         ports := ⟨{ signal := s.ports.east.signal }, { signal := s.ports.west.signal }⟩
         conv := { schedule := resetWords s.clock.frame, lastWords := s.conv.lastWords, gpi := s.conv.gpi } })
     ∧ (v.getLsbD 1 = false → v.getLsbD 0 = true → s.regs.runState = .stopped → exec (.runStart v) s = .next
       { s with regs := { s.regs with run := true, mask := v.extractLsb' 8 24, runState := .starting, verdict := .none },
                anchorRead := [] })
     ∧ (v.getLsbD 1 = false → v.getLsbD 0 = false → s.regs.runState ≠ .stopped → exec (.runStop v) s = .next
       { State.reset with
         pending := s.pending, mark := s.mark, ram := s.ram, clock := { frame := s.clock.frame }
         regs := { s.regs with run := false, mask := v.extractLsb' 8 24, runState := .stopped }
         ports := ⟨{ signal := s.ports.east.signal }, { signal := s.ports.west.signal }⟩
         conv := { schedule := resetWords s.clock.frame, lastWords := s.conv.lastWords, gpi := s.conv.gpi,
                   tdmOut := s.conv.tdmOut } })
     ∧ (v.getLsbD 1 = false → v.getLsbD 0 = decide (s.regs.runState ≠ .stopped) → exec (.attentionMaskWrite v) s = .next
       { s with regs := { s.regs with mask := v.extractLsb' 8 24 } }))
  ∧ (∀ (s : State) (v : Word), s.resetLow = false →
       ∃ t : State, exec (.attentionClear v) s = .next t
         ∧ t = { s with regs := { s.regs with attention := t.regs.attention } }
         ∧ ∀ i : Nat, i < 23 → t.regs.attention.getLsbD i = (s.regs.attention.getLsbD i && !v.getLsbD i))

/-- A failed anchor check: the first of R8's checks that fails gives the verdict: signature or version, id, slot count or talk
slot, then the six areas, each on a word, behind the anchor, inside the RAM and apart from the others; the run state returns to
STOPPED, RUN is cleared, and no block is touched (R8).
When the anchor words are read is the model's choice (log entry 17). -/
def Obligations.BadAnchorIsRejected : Prop :=
  (∀ s : State, s.regs.runState = .starting →
    ((∀ words : List Word, (words.getD 0 0 ≠ 0x04805A17 ∨ (words.getD 1 0).toNat % 65536 ≠ 1) →
        verdictOf words = .badSignature)
     ∧ (∀ words : List Word, words.getD 0 0 = 0x04805A17 → (words.getD 1 0).toNat % 65536 = 1 →
        3 < (words.getD 2 0).toNat % 256 → verdictOf words = .badId)
     ∧ (∀ words : List Word, words.getD 0 0 = 0x04805A17 → (words.getD 1 0).toNat % 65536 = 1 →
        (words.getD 2 0).toNat % 256 ≤ 3 → 64 < (words.getD 2 0).toNat / 256 % 256 → verdictOf words = .badCount))
    ∧ (verdictOf s.anchor ≠ .anchorOk → exec .anchorCheck s = .next
        { s with regs := { s.regs with run := false, runState := .stopped, verdict := verdictOf s.anchor }, anchorRead := [] }))
  ∧ (∀ words : List Word, words.getD 0 0 = 0x04805A17 → (words.getD 1 0).toNat % 65536 = 1 →
      (words.getD 2 0).toNat % 256 ≤ 3 → (words.getD 2 0).toNat / 65536 % 256 ≠ 255 →
      (words.getD 2 0).toNat / 256 % 256 ≤ (words.getD 2 0).toNat / 65536 % 256 → verdictOf words = .badCount)
  ∧ (∀ (words : List Word) (off size : Nat → Nat), words.getD 0 0 = 0x04805A17 → (words.getD 1 0).toNat % 65536 = 1 →
      (words.getD 2 0).toNat % 256 ≤ 3 → (words.getD 2 0).toNat / 256 % 256 ≤ 64 →
      ((words.getD 2 0).toNat / 65536 % 256 = 255
        ∨ (words.getD 2 0).toNat / 65536 % 256 < (words.getD 2 0).toNat / 256 % 256) →
      (∀ i : Nat, off i = (words.getD (4 + i) 0).toNat) →
      size 0 = 512 → size 1 = 1024 → size 2 = 256 → size 3 = 512 →
      size 4 = 16 + 32 * max 8 (min ((words.getD 10 0).toNat % 65536) 256) →
      size 5 = 16 + 64 * max 4 (min ((words.getD 10 0).toNat / 65536) 64) →
      ((∃ i : Nat, i < 6 ∧ (off i % 4 ≠ 0 ∨ off i < 256 ∨ 262144 < off i + size i)) → verdictOf words = .badLayout)
      ∧ ((∃ i k : Nat, i < 6 ∧ k < 6 ∧ i ≠ k ∧ off i < off k + size k ∧ off k < off i + size i) →
        verdictOf words = .badLayout)
      ∧ ((∀ i : Nat, i < 6 → off i % 4 = 0 ∧ 256 ≤ off i ∧ off i + size i ≤ 262144) →
        (∀ i k : Nat, i < 6 → k < 6 → i ≠ k → off i + size i ≤ off k ∨ off k + size k ≤ off i) →
        verdictOf words = .anchorOk))

/-- A good anchor check: the values in use are written to the anchor, the blocks are prepared, and the terminal is RUNNING (R8 to
R11, R21, R105). The next frame edge opens the first local frame (R185): till then no scan, playout or burst is owed, and the
playout point stands where that frame's playout finds it.
When the anchor words are read is the model's choice (log entries 16 and 17).
That a desk's schedule keeps the reset words it has not sent yet, which it does not send in the run (R187), is the model's choice too
(log entry 52).
The values in use are the anchor's, with the delay, the latency and the two capacities clamped; each lane entry reads 0 in its
part-written words and its cancel word; both list headers hold the capacity and three counts of 0; the transmit map is the identity
below the slot count, or silent; each view reads change count 2 and its body; no other byte of the RAM changes (R8 to R11, R20,
R21). -/
def Obligations.GoodAnchorStartsRun : Prop :=
  ((∀ s : State, s.regs.runState = .starting → verdictOf s.anchor = .anchorOk →
    ∃ t : State, exec .anchorCheck s = .next t
      ∧ t.regs.runState = .running ∧ t.regs.verdict = .anchorOk ∧ t.regs.run = s.regs.run ∧ t.regs.mask = s.regs.mask
      ∧ t.cfg = configOf s.anchor ∧ t.clock.frame = s.clock.frame
      ∧ t.clock.state = (if t.cfg.id = 0 then .master else .deputy)
      ∧ (t.port .east).state = .acquire ∧ (t.port .west).state = .acquire
      ∧ t.peek 0x30 = BitVec.ofNat 32 (t.cfg.delay + 256 * t.cfg.latency)
      ∧ t.peek 0x34 = BitVec.ofNat 32 (t.cfg.faultCapacity + 65536 * t.cfg.noteCapacity)
      ∧ (∀ l : Fin 16, t.lane l = { lastSeen := s.peek (t.cfg.laneTable + 32 * l.val + 4) })
      ∧ t.regs.attention.getLsbD 18 = true ∧ t.regs.attention.getLsbD 20 = true ∧ t.regs.attention.getLsbD 21 = true
      ∧ (∀ a : Nat, a < 256 → outsideArea a 0x30 8 = true → readByte t.ram a = readByte s.ram a))
  ∧ (∀ s : State, s.regs.runState = .starting → verdictOf s.anchor = .anchorOk →
      ∃ t : State, exec .anchorCheck s = .next t
        ∧ (∀ m : Fin 32, t.mixRec m = { s.mixRec m with controller := t.cfg.id })
        ∧ t.merge.delay = t.cfg.delay ∧ t.merge.point = t.clock.frame - BitVec.ofNat 32 t.cfg.delay + 1
        ∧ t.merge.playedNow = true ∧ t.built = true ∧ t.scanDue = false ∧ t.scanPhase = 23
        ∧ t.conv.schedule = (if t.cfg.id = 0 then resetWords s.clock.frame else s.conv.schedule)))
  ∧ (∀ (s : State) (w : Nat → Nat), s.regs.runState = .starting → verdictOf s.anchor = .anchorOk →
      (∀ i : Nat, w i = (s.anchor.getD i 0).toNat) →
      ∃ (t : State) (c : RunConfig), exec .anchorCheck s = .next t ∧ t.cfg = c
        ∧ c.id.val = w 2 % 256 ∧ c.slotCount = w 2 / 256 % 256
        ∧ c.talkSlot = (if w 2 / 65536 % 256 = 255 then none else some (w 2 / 65536 % 256))
        ∧ c.identity = decide (w 2 / 2 ^ 24 % 2 = 1) ∧ c.delay = max 8 (min (w 3 % 256) 63)
        ∧ c.latency = min (w 3 / 256 % 256) 63 ∧ c.laneTable = w 4 ∧ c.inputView = w 5 ∧ c.ringView = w 6 ∧ c.talkView = w 7
        ∧ c.faultLog = w 8 ∧ c.noteList = w 9 ∧ c.faultCapacity = max 8 (min (w 10 % 65536) 256)
        ∧ c.noteCapacity = max 4 (min (w 10 / 65536) 64)
        ∧ (∀ (l : Fin 16) (entry : Nat), entry = w 4 + 32 * l.val → t.peek (entry + 8) = 0 ∧ t.peek (entry + 16) = 0
          ∧ t.peek (entry + 20) = 0 ∧ t.peek (entry + 24) = 0 ∧ t.peek (entry + 28) = 0)
        ∧ (∀ a n : Nat, (a = w 8 ∧ n = c.faultCapacity ∨ a = w 9 ∧ n = c.noteCapacity) →
          t.peek a = BitVec.ofNat 32 n ∧ t.peek (a + 4) = 0 ∧ t.peek (a + 8) = 0 ∧ t.peek (a + 12) = 0)
        ∧ (∀ i : Fin 64, t.xmit.get i = if c.identity = true ∧ i.val < c.slotCount
          then { current := .localInput i, next := none, gain := 48 } else { current := .silent, next := none, gain := 48 })
        ∧ (∀ (v : View) (a : Nat), (v = .input ∧ a = w 5 ∨ v = .ring ∧ a = w 6 ∨ v = .talk ∧ a = w 7) → (s.view v).count = 0 →
          t.peek a = 2 ∧ (t.view v).count = 2
          ∧ ∀ i : Nat, i < (t.viewBody v).length → t.peek (a + 4 + 4 * i) = (t.viewBody v).getD i 0)
        ∧ ∀ a : Nat, outsideArea a 0x30 8 = true →
          (∀ l : Fin 16, outsideArea a (w 4 + 32 * l.val + 8) 4 = true ∧ outsideArea a (w 4 + 32 * l.val + 16) 16 = true) →
          outsideArea a (w 5) 784 = true → outsideArea a (w 6) 256 = true → outsideArea a (w 7) 272 = true →
          outsideArea a (w 8) 16 = true → outsideArea a (w 9) 16 = true → readByte t.ram a = readByte s.ram a)

/-! ### Lanes (spec 01, R12 to R19) -/

/-- LANE_SCAN begins a step: with no cancel word set and one lane posted, that lane, IDLE or HALTED with nothing in hand, takes
the post count and begins at its start address; every other lane stands (R12, R13). A PARKED lane so posted takes the post count and
re-reads the link of the step it is parked on: 0 leaves it PARKED; a good link is begun, or continues the join where it parked
inside a GATHER; a faulty one halts the lane at it, the join finished BAD STEP with detail 5 (R12, R13, R15).
The step's frames and the changes of the buttons count from its beginning (R19). That the step is read by its kind's command is the
model's choice (log entry 35), and so are the address shown at a faulty link inside a join (log entry 25) and its count: 0, but for a
WAIT the frames passed (log entries 11 and 53), the same in every joined step (log entry 69). -/
def Obligations.ScanBeginsPostedLane : Prop :=
  (∀ (s : State) (l : Fin 16), s.isRunning = true → s.scanDue = true →
    (∀ k : Fin 16, s.peek (s.entry k + 8) = 0) → (∀ k : Fin 16, k ≠ l → s.postCount k = (s.lane k).lastSeen) →
    s.postCount l ≠ (s.lane l).lastSeen → ((s.lane l).state = .idle ∨ (s.lane l).state = .halted) →
    linkBad (s.peek (s.entry l)).toNat = false →
    ∃ t : State, exec .laneScan s = .next t
      ∧ t = { s with scanDue := false, lanes := t.lanes, ram := t.ram }
      ∧ t.lane l = { s.lane l with state := .running, activity := .joining {} (s.peek (s.entry l)).toNat, parked := none, age := 0
                                   firstChange := Vector.replicate 8 none
                                   current := (s.peek (s.entry l)).toNat, lastSeen := s.postCount l }
      ∧ (∀ k : Fin 16, k ≠ l → t.lane k = s.lane k)
      ∧ ∀ a : Nat, outsideArea a (s.entry l + 16) 16 = true → readByte t.ram a = readByte s.ram a)
  ∧ (∀ (s : State) (l : Fin 16) (a : Nat), s.isRunning = true → s.scanDue = true →
      (∀ k : Fin 16, s.peek (s.entry k + 8) = 0) → (∀ k : Fin 16, k ≠ l → s.postCount k = (s.lane k).lastSeen) →
      s.postCount l ≠ (s.lane l).lastSeen → (s.lane l).state = .parked → (s.lane l).parked = some a →
      (s.peek a = 0 → exec .laneScan s = .next { s with
        scanDue := false, lanes := s.lanes.set l { s.lane l with lastSeen := s.postCount l } })
      ∧ (s.peek a ≠ 0 → linkBad (s.peek a).toNat = false → ∃ t : State, exec .laneScan s = .next t
        ∧ t = { s with scanDue := false, lanes := t.lanes, ram := t.ram }
        ∧ (∀ k : Fin 16, k ≠ l → t.lane k = s.lane k)
        ∧ (∀ b : Nat, outsideArea b (s.entry l + 16) 16 = true → readByte t.ram b = readByte s.ram b)
        ∧ ((∀ j : Join, (s.lane l).activity ≠ .gathered j) →
          t.lane l = { s.lane l with state := .running, activity := .joining {} (s.peek a).toNat, parked := none, age := 0
                                     firstChange := Vector.replicate 8 none
                                     current := (s.peek a).toNat, lastSeen := s.postCount l }
          ∧ (s.cfg.laneTable + 512 ≤ Config.ramSize → t.peek (s.entry l + 20) = 1 ∧ t.peek (s.entry l + 24) = s.peek a))
        ∧ ∀ j : Join, (s.lane l).activity = .gathered j →
          t.lane l = { s.lane l with state := .running, activity := .joining j (s.peek a).toNat, parked := none
                                     lastSeen := s.postCount l })
      ∧ (linkBad (s.peek a).toNat = true → s.peek a ≠ 0 →
        ((∀ j : Join, (s.lane l).activity ≠ .gathered j) → ∃ t : State, exec .laneScan s = .next t
          ∧ t = { s with scanDue := false, lanes := t.lanes, ram := t.ram
                         regs := { s.regs with attention := t.regs.attention } }
          ∧ t.lane l = { s.lane l with state := .halted, activity := .none, current := (s.peek a).toNat
                                       lastSeen := s.postCount l, lastStatus := .badStep, lastDetail := 5 }
          ∧ (∀ k : Fin 16, k ≠ l → t.lane k = s.lane k) ∧ t.regs.attention.getLsbD l.val = true
          ∧ ∀ b : Nat, outsideArea b (s.entry l + 16) 16 = true → readByte t.ram b = readByte s.ram b)
        ∧ ∀ j : Join, (s.lane l).activity = .gathered j →
          (∀ i ∈ j.steps, i + 32 ≤ s.cfg.laneTable ∨ s.cfg.laneTable + 512 ≤ i) →
          ∃ t : State, exec .laneScan s = .next t
            ∧ t = { s with scanDue := false, lanes := t.lanes, ram := t.ram
                           regs := { s.regs with attention := t.regs.attention } }
            ∧ (t.lane l).state = .halted ∧ (t.lane l).activity = .none ∧ (t.lane l).current = (s.peek a).toNat
            ∧ (t.lane l).done = (s.lane l).done + BitVec.ofNat 32 j.steps.length
            ∧ (t.lane l).lastStatus = .badStep ∧ (t.lane l).lastDetail = 5 ∧ (t.lane l).lastSeen = s.postCount l
            ∧ (∀ k : Fin 16, k ≠ l → t.lane k = s.lane k) ∧ t.regs.attention.getLsbD l.val = true
            ∧ (j.steps.Pairwise (fun i k => i + 32 ≤ k ∨ k + 32 ≤ i) → ∀ i ∈ j.steps, i + 32 ≤ Config.ramSize →
              t.peek (i + 16) = 7 + 5 * 65536 ∧ t.peek (i + 20) = (if j.kind = 2 then BitVec.ofNat 32 (s.lane l).age else 0)
              ∧ t.peek (i + 24) = s.clock.frame)))

/-- A scan with a nonzero cancel word (R12, R16): LANE_SCAN takes the lanes in ascending order, each one's cancel word before its
post count. The step in progress ends CANCELLED with detail 0 and its lane's ATTENTION bit set, the lane becomes IDLE whatever
it was doing, 0 is written back, and only then is the post count compared: a lane posted as well begins at once. So end the steps of
a join parked inside a GATHER, and those of a step begun and not yet taken, each with its result fields. No scan is made where none
is due.
A step begun and not yet taken counts as in progress, with all that its links join to it, and of links that never close the join
only the step at which it stands (log entry 25). That the lane keeps the address of the last step begun as its current one is the
model's choice (log entry 65). A cancelled WAIT's count is the frames passed since it began (R19), also where its
block has not taken it (log entry 53); where the rule gives no count, the result count is 0 (log entry 11). Every joined step gets the
one count (log entry 69). -/
def Obligations.CancelLeavesLaneIdle : Prop :=
  ((∀ (s : State) (l : Fin 16),
    ((s.lane l).state ≠ .idle ∨ (s.lane l).activity ≠ .none → ((s.cancelLane l).lane l).state = .idle)
    ∧ ((s.cancelLane l).lane l).activity = .none
    ∧ (∀ (j : Join) (op : Op), (s.lane l).activity = .working j op →
        ((s.cancelLane l).lane l).done = (s.lane l).done + BitVec.ofNat 32 j.steps.length
        ∧ ((s.cancelLane l).lane l).lastStatus = .cancelled ∧ ((s.cancelLane l).lane l).lastDetail = 0
        ∧ (s.isRunning = true → (s.cancelLane l).regs.attention.getLsbD l.val = true)))
  ∧ (∀ s : State, s.isRunning = true →
      (s.scanDue = true → leaves .laneScan s ((indices 16).foldl State.scanLane { s with scanDue := false }))
      ∧ (s.scanDue = false → exec .laneScan s = .next s))
  ∧ (∀ (s : State) (l : Fin 16),
      (s.peek (s.entry l + 8) = 0 → s.scanLane l = s.takePost l)
      ∧ (s.peek (s.entry l + 8) ≠ 0 → s.scanLane l = ((s.poke (s.entry l + 8) 0).cancelLane l).takePost l))
  ∧ (∀ (s : State) (l : Fin 16), s.isRunning = true → s.scanDue = true → s.cfg.laneTable + 512 ≤ Config.ramSize →
      s.peek (s.entry l + 8) ≠ 0 → (∀ k : Fin 16, k ≠ l → s.peek (s.entry k + 8) = 0) →
      (∀ k : Fin 16, k ≠ l → s.postCount k = (s.lane k).lastSeen) →
      ((s.lane l).activity = .none → (s.lane l).state ≠ .idle → s.postCount l = (s.lane l).lastSeen →
        ∃ u : State, leaves .laneScan s u ∧ u = { s with scanDue := false, lanes := u.lanes, ram := u.ram }
          ∧ u.lane l = { s.lane l with state := .idle, parked := none }
          ∧ (∀ k : Fin 16, k ≠ l → u.lane k = s.lane k) ∧ u.peek (s.entry l + 8) = 0
          ∧ ∀ b : Nat, outsideArea b (s.entry l + 8) 4 = true → outsideArea b (s.entry l + 16) 16 = true →
              readByte u.ram b = readByte s.ram b)
      ∧ ((s.lane l).activity = .none → s.postCount l ≠ (s.lane l).lastSeen → (s.lane l).state ≠ .running →
        linkBad (s.peek (s.entry l)).toNat = false →
        ∃ u : State, leaves .laneScan s u
          ∧ u = { s with scanDue := false, lanes := u.lanes, ram := u.ram }
          ∧ (u.lane l).state = .running ∧ (u.lane l).activity = .joining {} (s.peek (s.entry l)).toNat
          ∧ (u.lane l).lastSeen = s.postCount l ∧ (∀ k : Fin 16, k ≠ l → u.lane k = s.lane k)
          ∧ u.peek (s.entry l + 8) = 0)
      ∧ (∀ (j : Join) (a : Nat) (c : WaitCond) (timeout : Word), s.works l j (.wait c timeout) = true → j.steps = [a] →
        a + 32 ≤ Config.ramSize → (a + 32 ≤ s.cfg.laneTable ∨ s.cfg.laneTable + 512 ≤ a) →
        s.postCount l = (s.lane l).lastSeen →
        ∃ u : State, leaves .laneScan s u
          ∧ u = { s with scanDue := false, lanes := u.lanes, ram := u.ram
                         regs := { s.regs with attention := u.regs.attention } }
          ∧ (u.lane l).state = .idle ∧ (u.lane l).activity = .none ∧ (u.lane l).done = (s.lane l).done + 1
          ∧ (u.lane l).lastStatus = .cancelled ∧ (u.lane l).lastDetail = 0
          ∧ u.regs.attention.getLsbD l.val = true ∧ u.peek (s.entry l + 8) = 0
          ∧ u.peek (a + 16) = 9 ∧ u.peek (a + 20) = BitVec.ofNat 32 (s.lane l).age ∧ u.peek (a + 24) = s.clock.frame
          ∧ ∀ k : Fin 16, k ≠ l → u.lane k = s.lane k)))
  ∧ (∀ (s : State) (l : Fin 16) (j : Join), s.isRunning = true →
      ((s.lane l).activity = .gathered j
        ∨ ∃ (k : Join) (a : Nat), (s.lane l).activity = .joining k a
          ∧ (s.joinFrom joinFuel k a = .ready j ∨ s.joinFrom joinFuel k a = .gathered j
            ∨ (∃ d : Nat, s.joinFrom joinFuel k a = .failed j d) ∨ (∃ b : Nat, s.joinFrom joinFuel k a = .badLink j b)
            ∨ s.joinFrom joinFuel k a = .endless ∧ j = k.add s.ram a (s.header a))) →
      ∃ t : State, s.cancelLane l = t
        ∧ t = { s with lanes := t.lanes, ram := t.ram, regs := { s.regs with attention := t.regs.attention } }
        ∧ t.lane l = { s.lane l with state := .idle, activity := .none, parked := none, held := none, want := none
                                     done := (s.lane l).done + BitVec.ofNat 32 j.steps.length
                                     lastStatus := .cancelled, lastDetail := 0 }
        ∧ (∀ k : Fin 16, k ≠ l → t.lane k = s.lane k) ∧ t.regs.attention.getLsbD l.val = true
        ∧ (s.cfg.laneTable + 512 ≤ Config.ramSize →
            (∀ i ∈ j.steps, i + 32 ≤ s.cfg.laneTable ∨ s.cfg.laneTable + 512 ≤ i) →
            t.peek (s.entry l + 16) = (s.lane l).done + BitVec.ofNat 32 j.steps.length ∧ t.peek (s.entry l + 28) = 9
            ∧ ((s.lane l).state ≠ .idle → t.peek (s.entry l + 20) = 0)
            ∧ (j.steps.Pairwise (fun i k => i + 32 ≤ k ∨ k + 32 ≤ i) → ∀ i ∈ j.steps, i + 32 ≤ Config.ramSize →
              t.peek (i + 16) = 9 ∧ t.peek (i + 20) = (if j.kind = 2 then BitVec.ofNat 32 (s.lane l).age else 0)
              ∧ t.peek (i + 24) = s.clock.frame)
            ∧ ∀ b : Nat, outsideArea b (s.entry l + 16) 16 = true → (∀ i ∈ j.steps, outsideArea b (i + 16) 12 = true) →
              readByte t.ram b = readByte s.ram b))

/-- A step refused by R13's checks before it acts finishes BAD STEP with the check's detail and has no other effect, whatever
its kind; STEP_BAD_KIND is the command of every kind outside the table (R13). A GATHER is read on through its links (R15): a
linked step of another kind ends the join BAD STEP with detail 3, a faulty linked step ends it with its own detail, a faulty
link finishes it with detail 5 and halts the lane, and a link of 0 parks the lane with the join in hand. A payload shorter than its
kind requires ends the step BAD STEP with detail 2 (R13; R19, R103, R125, R126, R149, R169, R179).
The model's choices: the order of the checks, the length after the others (log entry 24), the result count of a BAD STEP, which is 0
(log entry 11) but for a WAIT the frames passed (R19; log entry 53), that the entry of a lane halted inside a join shows the faulty
link's address (log entry 25), and the park's reading of the post count (log entry 42). -/
def Obligations.FaultyStepFinishesBadStep : Prop :=
  (∀ (s : State) (l : Fin 16) (a d : Nat) (n : Word), s.hasBegun l a = true → (s.header a).fault = some d →
    n = (if (s.header a).kind = 2 then BitVec.ofNat 32 (s.lane l).age else 0) →
    exec (stepCommand (s.header a).kind l) s = .next (s.finish l (s.stepAt a) .badStep d n)
    ∧ ((s.header a).kind = 0 ∨ 20 < (s.header a).kind →
        d = 1 ∧ exec (.stepBadKind l) s = .next (s.finish l (s.stepAt a) .badStep 1 0)))
  ∧ (∀ (s : State) (l : Fin 16) (a kind need : Nat) (n : Word),
      (kind, need) ∈ [(2, 8), (7, 16), (8, 16), (13, 16), (14, 512), (16, 4), (19, 28), (20, 24)] → s.hasBegun l a = true →
      (s.header a).kind = kind → (s.header a).fault = none → (s.header a).gather = false →
      (s.stepAt a).payload.length < need → n = (if kind = 2 then BitVec.ofNat 32 (s.lane l).age else 0) →
      exec (stepCommand kind l) s = .next (s.finish l (s.stepAt a) .badStep 2 n))
  ∧ (∀ (s : State) (l : Fin 16) (a : Nat) (n : Word), s.hasBegun l a = true → (s.header a).fault = none →
      (s.header a).gather = true → n = (if (s.header a).kind = 2 then BitVec.ofNat 32 (s.lane l).age else 0) →
      ((s.header a).link = 0 → ∃ t : State, exec (stepCommand (s.header a).kind l) s = .next t
        ∧ t = { s with lanes := t.lanes, ram := t.ram }
        ∧ t.lane l = { s.lane l with state := .parked, activity := .gathered (s.stepAt a), parked := some a }
        ∧ (∀ k : Fin 16, k ≠ l → t.lane k = s.lane k)
        ∧ ∀ b : Nat, outsideArea b (s.entry l + 16) 16 = true → readByte t.ram b = readByte s.ram b)
      ∧ ((s.header a).link ≠ 0 → linkBad (s.header a).link = true →
        exec (stepCommand (s.header a).kind l) s
          = .next ((s.closeJoin l (s.stepAt a) .badStep 5 n).haltAt l (s.header a).link))
      ∧ (∀ b : Nat, (s.header a).link = b → b ≠ 0 → linkBad b = false →
        ((s.header b).kind ≠ (s.header a).kind →
          exec (stepCommand (s.header a).kind l) s = .next (s.finish l (s.stepAt a) .badStep 3 n))
        ∧ (∀ d : Nat, (s.header b).kind = (s.header a).kind → (s.header b).fault = some d →
          exec (stepCommand (s.header a).kind l) s
            = .next (s.finish l ((s.stepAt a).add s.ram b (s.header b)) .badStep d n))))
  ∧ (∀ (s : State) (l : Fin 16) (a : Nat),
      (s.haltAt l a).lane l
        = { s.lane l with state := .halted, activity := .none, current := a, lastStatus := .badStep, lastDetail := 5 }
      ∧ (s.isRunning = true → (s.haltAt l a).regs.attention.getLsbD l.val = true)
      ∧ (s.entry l + 32 ≤ Config.ramSize → (s.haltAt l a).peek (s.entry l + 20) = 3
        ∧ (s.haltAt l a).peek (s.entry l + 24) = BitVec.ofNat 32 a ∧ (s.haltAt l a).peek (s.entry l + 28) = 0x50007))

/-- R18: MARK ends OK at once, whatever its payload length; NOTIFY raises the lane's ATTENTION bit; last in a chain, its lane
parks on it. Two MARKs that a GATHER joins finish together (R15). -/
def Obligations.MarkEndsOk : Prop :=
  (∀ (s : State) (l : Fin 16) (a : Nat), s.hasBegun l a = true → (s.header a).kind = 1 → (s.header a).gather = false →
    exec (.mark l) s = .next (s.finish l (s.stepAt a) .ok 0 0)
    ∧ (s.stepAt a).payload = []
    ∧ ((s.header a).notify = true → (s.finish l (s.stepAt a) .ok 0 0).regs.attention.getLsbD l.val = true)
    ∧ ((s.closeJoin l (s.stepAt a) .ok 0 0).peek a = 0 →
        (s.closeJoin l (s.stepAt a) .ok 0 0).postCount l = (s.lane l).lastSeen →
        ((s.finish l (s.stepAt a) .ok 0 0).lane l).state = .parked
        ∧ ((s.finish l (s.stepAt a) .ok 0 0).lane l).parked = some a))
  ∧ (∀ (s : State) (l : Fin 16) (a b : Nat), s.hasBegun l a = true → (s.header a).kind = 1 → (s.header a).gather = true →
      (s.header a).link = b → b ≠ 0 → linkBad b = false → (s.header b).kind = 1 → (s.header b).gather = false →
      ∃ j : Join, exec (.mark l) s = .next (s.finish l j .ok 0 0) ∧ j.steps = [a, b] ∧ j.payload = []
        ∧ j.notify = (s.header a).notify ∧ j.haltOnError = (s.header a).haltOnError
        ∧ ((s.finish l j .ok 0 0).lane l).done = (s.lane l).done + 2)

/-- WAIT: a bad condition ends it BAD STEP with detail 6, a condition that holds ends it OK at once, any other waits, unless its
timeout has run out; WAIT_ELAPSED, WAIT_FRAME_REACHED and WAIT_TIMEOUT end it. Each end's count is the frames passed since the step
began, which every frame edge raises by 1, a jump not; an edge at which the frames or the timeout have passed, or the frame is
reached, queues that end. A change of its button's debounced level ends it with the new level as its detail, and its origin's becoming
reachable or unreachable with detail 0 (R19).
R19's table row by row: which params and value words are bad, which condition each names, and which conditions hold as the step is
taken; N frames that have passed by then hold too, with N = 0 at once, and so does a change of its button's level since the step
began, the first of which the lane keeps, with its frame, while the step is not yet at its block. The own origin is reachable at all
times. A timeout that ran out in an earlier frame than those N frames or that change ends the step TIMEOUT.
A join counts from its first step, a condition is taken before a timeout that has run out with it, and of a condition looked at only as
the step is taken, a frame or an origin, before one that ran out earlier too (log entry 53). -/
def Obligations.WaitBeginsAndEnds : Prop :=
  ((∀ (s : State) (l : Fin 16) (a : Nat) (passed timeout : Word), s.hasStep l 2 a = true →
     passed = BitVec.ofNat 32 (s.lane l).age → timeout = wordAt (s.stepAt a).payload 4 →
     (waitCond (s.stepAt a).param (wordAt (s.stepAt a).payload 0) = none →
       exec (.wait l) s = .next (s.finish l (s.stepAt a) .badStep 6 passed))
     ∧ (∀ c : WaitCond, waitCond (s.stepAt a).param (wordAt (s.stepAt a).payload 0) = some c →
       (s.holdsAtOnce l c = true → s.timeoutFirst l timeout c = false →
         exec (.wait l) s = .next (s.finish l (s.stepAt a) .ok (s.metDetail l c) passed))
       ∧ (s.holdsAtOnce l c = true → s.timeoutFirst l timeout c = true →
         exec (.wait l) s = .next (s.finish l (s.stepAt a) .timeout 0 passed))
       ∧ (s.holdsAtOnce l c = false → timeout ≠ 0 → timeout.toNat ≤ (s.lane l).age →
         exec (.wait l) s = .next (s.finish l (s.stepAt a) .timeout 0 passed))
       ∧ (s.holdsAtOnce l c = false → (timeout = 0 ∨ (s.lane l).age < timeout.toNat) → ∃ t : State, exec (.wait l) s = .next t
           ∧ t = { s with lanes := t.lanes }
           ∧ t.lane l = { s.lane l with activity := .working (s.stepAt a) (.wait c timeout) }
           ∧ ∀ k : Fin 16, k ≠ l → t.lane k = s.lane k)))
  ∧ (∀ (p : BitVec 16) (v : Word),
      (waitCond p v = none ↔ p.toNat = 0 ∨ 5 < p.toNat ∨ (p.toNat = 3 ∧ 7 < v.toNat) ∨ ((p.toNat = 4 ∨ p.toNat = 5) ∧ 3 < v.toNat))
      ∧ waitCond 1 v = some (.elapsed v) ∧ waitCond 2 v = some (.frame v)
      ∧ (∀ b : Fin 8, v.toNat = b.val → waitCond 3 v = some (.button b))
      ∧ ∀ o : Fin 4, v.toNat = o.val → waitCond 4 v = some (.reachable o) ∧ waitCond 5 v = some (.unreachable o))
  ∧ (∀ (s : State) (l : Fin 16),
      (∀ n : Word, s.holdsAtOnce l (.elapsed n) = decide (n.toNat ≤ (s.lane l).age))
      ∧ (∀ f : Word, s.holdsAtOnce l (.frame f) = decide ((f - s.clock.frame).toInt ≤ 0))
      ∧ (∀ b : Fin 8, (s.lane l).firstChange.get b = none → s.holdsAtOnce l (.button b) = false)
      ∧ (∀ (b : Fin 8) (x : ButtonChange) (timeout : Word), (s.lane l).firstChange.get b = some x →
        s.holdsAtOnce l (.button b) = true ∧ s.metDetail l (.button b) = (if x.level then 1 else 0)
        ∧ s.timeoutFirst l timeout (.button b) = decide (timeout ≠ 0 ∧ timeout.toNat < x.age))
      ∧ (∀ n timeout : Word, s.metDetail l (.elapsed n) = 0
        ∧ s.timeoutFirst l timeout (.elapsed n) = decide (timeout ≠ 0 ∧ timeout.toNat < n.toNat))
      ∧ (∀ (f timeout : Word) (o : Fin 4), s.metDetail l (.frame f) = 0 ∧ s.metDetail l (.reachable o) = 0
        ∧ s.metDetail l (.unreachable o) = 0 ∧ s.timeoutFirst l timeout (.frame f) = false
        ∧ s.timeoutFirst l timeout (.reachable o) = false ∧ s.timeoutFirst l timeout (.unreachable o) = false)
      ∧ (∀ o : Fin 4, s.holdsAtOnce l (.reachable o) = s.reachable o ∧ s.holdsAtOnce l (.unreachable o) = !s.reachable o)
      ∧ s.reachable s.cfg.id = true)
  ∧ (∀ (s : State) (l : Fin 16) (b : Fin 8) (level : Bool),
      ((s.button b).action = .none ∨ ∃ (k : Fin 16) (a : Word), (s.button b).action = .chain k a ∧ k ≠ l) →
      ((∃ (j : Join) (a : Nat), (s.lane l).activity = .joining j a) ∨ ∃ j : Join, (s.lane l).activity = .gathered j) →
      ∃ x : Lane, (s.levelChanged b level).lane l = x ∧ x = { s.lane l with firstChange := x.firstChange }
        ∧ (∀ d : Fin 8, d ≠ b → x.firstChange.get d = (s.lane l).firstChange.get d)
        ∧ ((s.lane l).firstChange.get b = none → x.firstChange.get b = some { level := level, age := (s.lane l).age })
        ∧ ∀ c : ButtonChange, (s.lane l).firstChange.get b = some c → x.firstChange.get b = some c)
  ∧ (∀ (s : State) (l : Fin 16), s.resetLow = false → s.isRunning = true →
      ((s.lane l).activity ≠ .none → s.tick.lane l = { s.lane l with age := (s.lane l).age + 1 })
      ∧ ∀ (j : Join) (c : WaitCond) (timeout : Word), s.works l j (.wait c timeout) = true →
        (∀ n : Word, c = .elapsed n → n.toNat ≤ (s.lane l).age + 1 → Instr.waitElapsed l ∈ s.tick.pending)
        ∧ (∀ f : Word, c = .frame f → (f - (s.clock.frame + 1)).toInt ≤ 0 → Instr.waitFrameReached l ∈ s.tick.pending)
        ∧ (timeout ≠ 0 → timeout.toNat ≤ (s.lane l).age + 1 → Instr.waitTimeout l ∈ s.tick.pending))
  ∧ (∀ (s : State) (l : Fin 16) (j : Join) (c : WaitCond) (timeout : Word), s.works l j (.wait c timeout) = true →
       (∀ n : Word, c = .elapsed n → n.toNat ≤ (s.lane l).age →
         exec (.waitElapsed l) s = .next (s.finish l j .ok 0 (BitVec.ofNat 32 (s.lane l).age)))
       ∧ (∀ f : Word, c = .frame f → later f s.clock.frame = false →
         exec (.waitFrameReached l) s = .next (s.finish l j .ok 0 (BitVec.ofNat 32 (s.lane l).age)))
       ∧ (timeout ≠ 0 → timeout.toNat ≤ (s.lane l).age →
         exec (.waitTimeout l) s = .next (s.finish l j .timeout 0 (BitVec.ofNat 32 (s.lane l).age)))))
  ∧ (∀ (s : State) (l : Fin 16) (j : Join) (c : WaitCond) (timeout : Word), s.works l j (.wait c timeout) = true →
      (∀ k : Fin 16, k ≠ l → s.op? k = none) →
      (∀ (b : Fin 8) (level : Bool), c = .button b →
        s.endButtonWaits b level = s.finish l j .ok (if level then 1 else 0) (BitVec.ofNat 32 (s.lane l).age)
        ∧ ∀ d : Fin 8, d ≠ b → s.endButtonWaits d level = s)
      ∧ (∀ o : Fin 4, c = .reachable o →
        s.endReachWaits o true = s.finish l j .ok 0 (BitVec.ofNat 32 (s.lane l).age) ∧ s.endReachWaits o false = s
        ∧ ∀ k : Fin 4, k ≠ o → s.endReachWaits k true = s)
      ∧ (∀ o : Fin 4, c = .unreachable o →
        s.endReachWaits o false = s.finish l j .ok 0 (BitVec.ofNat 32 (s.lane l).age) ∧ s.endReachWaits o true = s
        ∧ ∀ k : Fin 4, k ≠ o → s.endReachWaits k false = s))

/-- The end of a step or of a join (R14): the done count rises by its steps, a status other than OK or PARTIAL or a NOTIFY sets
the lane's ATTENTION bit, HALT ON ERROR halts the lane where it stands, and nothing but this lane, the RAM and ATTENTION
changes. A lone step whose header lies clear of its lane's entry holds status with detail, count and end frame, and no byte
outside them and the entry's part-written words changes. Then the lane begins at the last step's link, or parks on that step
where the link is 0; a step's begin and end write their words of the lane entry, whatever these held (R13, R14). A GATHER's steps
join in link order: the payloads follow one another, and the first step gives NOTIFY, HALT ON ERROR, param and target (R15).
The park reads the post count at once: where it is the last seen the lane stays PARKED; where it differs, last seen takes it and the
link is read again, and a nonzero link is followed (R14). -/
def Obligations.FinishedStepIsReported : Prop :=
  (((∀ (s : State) (l : Fin 16) (j : Join) (st : Status) (d : Nat) (n : Word),
     ((s.finish l j st d n).lane l).done = (s.lane l).done + BitVec.ofNat 32 j.steps.length
     ∧ (∀ k : Fin 16, k ≠ l → (s.finish l j st d n).lane k = s.lane k)
     ∧ (s.finish l j st d n).lanesOnly s
     ∧ (s.isRunning = true → (j.notify = true ∨ st.good = false) →
         (s.finish l j st d n).regs.attention.getLsbD l.val = true)
     ∧ (st.good = false → j.haltOnError = true →
         (s.finish l j st d n).lane l = { s.lane l with
           state := .halted, activity := .none, done := (s.lane l).done + BitVec.ofNat 32 j.steps.length,
           lastStatus := st, lastDetail := d, held := none, want := none }))
  ∧ (∀ (s : State) (l : Fin 16) (j : Join) (a : Nat) (st : Status) (d : Nat) (n : Word),
       j.steps = [a] → a + 32 ≤ Config.ramSize → (s.entry l + 32 ≤ a + 16 ∨ a + 28 ≤ s.entry l + 16) →
       (s.finish l j st d n).peek (a + 16) = BitVec.ofNat 32 (st.code + 65536 * d)
       ∧ (s.finish l j st d n).peek (a + 20) = n
       ∧ (s.finish l j st d n).peek (a + 24) = s.clock.frame
       ∧ ∀ b : Nat, outsideArea b (a + 16) 12 = true → outsideArea b (s.entry l + 16) 16 = true →
           readByte (s.finish l j st d n).ram b = readByte s.ram b))
  ∧ (∀ (s : State) (l : Fin 16) (j : Join) (st : Status) (d : Nat) (n : Word) (link : Word),
      (st.good = true ∨ j.haltOnError = false) → (s.closeJoin l j st d n).peek (j.steps.getLast?.getD 0) = link →
      (link = 0 → s.finish l j st d n = (s.closeJoin l j st d n).park l (j.steps.getLast?.getD 0))
      ∧ (link ≠ 0 → s.finish l j st d n = (s.closeJoin l j st d n).beginAt l link.toNat))
  ∧ (∀ (s : State) (l : Fin 16) (a : Nat),
      (linkBad a = true → s.beginAt l a = s.haltAt l a)
      ∧ (linkBad a = false → (s.beginAt l a).lane l
          = { s.lane l with state := .running, activity := .joining {} a, current := a, parked := none, age := 0
                            firstChange := Vector.replicate 8 none }
        ∧ (∀ k : Fin 16, k ≠ l → (s.beginAt l a).lane k = s.lane k)
        ∧ (s.entry l + 32 ≤ Config.ramSize → (s.beginAt l a).peek (s.entry l + 20) = 1
          ∧ (s.beginAt l a).peek (s.entry l + 24) = BitVec.ofNat 32 a)))
  ∧ (∀ (s : State) (l : Fin 16) (j : Join) (st : Status) (d : Nat) (n : Word), s.entry l + 32 ≤ Config.ramSize →
      (s.closeJoin l j st d n).peek (s.entry l + 16) = (s.lane l).done + BitVec.ofNat 32 j.steps.length
      ∧ (s.closeJoin l j st d n).peek (s.entry l + 28) = BitVec.ofNat 32 (st.code + 65536 * d)
      ∧ (s.closeJoin l j st d n).lane l = { s.lane l with
          done := (s.lane l).done + BitVec.ofNat 32 j.steps.length, lastStatus := st, lastDetail := d
          held := none, want := none })
  ∧ (∀ (s : State) (a b : Nat), (s.header a).fault = none → (s.header a).gather = true → (s.header a).link = b → b ≠ 0 →
      linkBad b = false → (s.header b).kind = (s.header a).kind → (s.header b).fault = none → (s.header b).gather = false →
      ∃ j : Join, s.joinFrom joinFuel {} a = .ready j ∧ j.steps = [a, b] ∧ j.kind = (s.header a).kind
        ∧ j.payload = (s.stepAt a).payload ++ (s.stepAt b).payload ∧ j.notify = (s.header a).notify
        ∧ j.haltOnError = (s.header a).haltOnError ∧ j.param = (s.header a).param ∧ j.target = (s.header a).target))
  ∧ (∀ (s u : State) (l : Fin 16) (a : Nat) (x : Lane), s.entry l + 32 ≤ Config.ramSize →
      (a + 4 ≤ s.entry l + 16 ∨ s.entry l + 32 ≤ a) →
      x = { s.lane l with state := .parked, activity := .none, parked := some a, lastSeen := s.postCount l } →
      u = { s with lanes := s.lanes.set l x, ram := u.ram } →
      u.ram = (if (s.lane l).state = .parked then s.ram else storeBytes s.ram (s.entry l + 20) [2, 0, 0, 0]) →
      (s.postCount l = (s.lane l).lastSeen ∨ s.peek a = 0 → s.park l a = u)
      ∧ (s.postCount l ≠ (s.lane l).lastSeen → s.peek a ≠ 0 → s.park l a = u.beginAt l (s.peek a).toNat))

/-! ### Views (spec 01, R21; spec 08, R165) -/

/-- A rewrite owed is made when the last has ended (VIEW_REWRITE_FOLLOWUP), and the ring view is rewritten 48,000 frames after
its last rewrite (RING_VIEW_REFRESH). A rewrite raises the change count by two, writes the body behind it, sets the view's
ATTENTION bit, and touches no byte outside the view (R21, R165).
That one command writes the whole view is the model's choice (log entry 10).
The bodies are word by word those of the three tables: the input view shows the input table or the mirror with the own tracking
table (R100), the ring view ports, closures, order, clock and a row for each origin (R166), the talk view gate, ranks, lamps,
groups, inserts and buttons (R147). The field of a round trip that does not fit holds its low 16 bits (log entry 49), a count of
frames past its word the low 32 bits (log entry 67), and row word 1 of an origin without a summary 0 (log entry 68). -/
def Obligations.ViewIsRewritten : Prop :=
  (∀ (s : State) (v : View), s.isRunning = true → (s.view v).rewriting = false →
    ((s.view v).again = true → exec (.viewRewriteFollowup v) s = .next (s.rewrite v))
    ∧ (v = .ring → 48000 ≤ s.sup.refreshAge → exec .ringViewRefresh s = .next (s.rewrite v))
    ∧ ((s.rewrite v).view v).count = (s.view v).count + 2 ∧ ((s.rewrite v).view v).again = false
    ∧ (s.rewrite v).regs.attention.getLsbD (viewBit v) = true
    ∧ (s.viewBase v + 4 ≤ Config.ramSize → (s.rewrite v).peek (s.viewBase v) = (s.view v).count + 2)
    ∧ (∀ i : Nat, i < (s.viewBody v).length → s.viewBase v + 8 + 4 * i ≤ Config.ramSize →
        (s.rewrite v).peek (s.viewBase v + 4 + 4 * i) = (s.viewBody v).getD i 0)
    ∧ (∀ a : Nat, outsideArea a (s.viewBase v) (4 + 4 * (s.viewBody v).length) = true →
        readByte (s.rewrite v).ram a = readByte s.ram a))
  ∧ ((idCode none = 7 ∧ ∀ o : Fin 4, idCode (some o) = o.val)
    ∧ [InputState.normal, .phantomMute, .phantomFault].map InputState.code = [0, 1, 2]
    ∧ [PortState.dark, .acquire, .qualify, .up, .quarantine, .loop].map PortState.code = [0, 1, 2, 3, 4, 5]
    ∧ [ClockState.master, .locked, .pulling, .deputy].map ClockState.code = [1, 2, 3, 4]
    ∧ [TargetState.closed, .held, .waiting, .lost].map TargetState.code = [0, 1, 2, 3]
    ∧ [ButtonState.idle, .talking, .latched, .pending false, .pending true].map ButtonState.code = [0, 1, 2, 3, 3]
    ∧ [LampState.off, .steady, .flashing].map LampState.code = [0, 1, 2]
    ∧ ∀ x : Setting, x.effective = (x.gain : Int) - if x.pad = true then 20 else 0)
  ∧ (∀ (s : State) (body : List Word), body = s.viewBody .input → body.length = 195
      ∧ (s.cfg.id = 0 → body.take 3 = [BitVec.ofNat 32 (2 + 256 * 64), s.gain.lateGains, 0])
      ∧ (s.cfg.id ≠ 0 → body.take 3 = [BitVec.ofNat 32 (s.gain.stale.toNat
          + 256 * ((List.finRange 64).filter fun n => (s.gain.mirror.get n).fresh).length), s.gain.lateGains, 0])
      ∧ ∀ n : Fin 64,
        (∀ e : InputEntry, s.cfg.id = 0 → e = s.gain.table.get n →
          body.getD (3 + 3 * n.val) 0 = BitVec.ofNat 32 (e.setting.gain + 256 * e.setting.pad.toNat + 512 * e.setting.phantom.toNat
            + 1024 * e.state.code + 4096 * e.orphaned.toNat + 8192 * idCode e.owner + 65536 * e.pending.isSome.toNat
            + 131072 * e.waiting.isSome.toNat)
          ∧ (e.pending = none → body.getD (4 + 3 * n.val) 0 = 0)
          ∧ (∀ c : PendingChange, e.pending = some c → body.getD (4 + 3 * n.val) 0 = c.switch.getD 0))
        ∧ (∀ e : MirrorEntry, s.cfg.id ≠ 0 → e = s.gain.mirror.get n →
          body.getD (3 + 3 * n.val) 0 = BitVec.ofNat 32 (e.setting.gain + 256 * e.setting.pad.toNat + 512 * e.setting.phantom.toNat
            + 1024 * e.state.code + 4096 * e.orphaned.toNat + 8192 * idCode e.owner + 65536 * e.scheduled.isSome.toNat
            + 262144 * e.fresh.toNat)
          ∧ (e.scheduled = none → body.getD (4 + 3 * n.val) 0 = 0)
          ∧ (∀ c : Scheduled, e.scheduled = some c → body.getD (4 + 3 * n.val) 0 = c.switch))
        ∧ ∀ (r : TrackEntry) (e : Int) (flags : Nat), r = (s.gain.tracking.get s.cfg.id).get n →
          e = (if s.cfg.id = 0 then (s.gain.table.get n).setting else (s.gain.mirror.get n).setting).effective →
          flags = 65536 * r.limited.toNat + 131072 * r.ramp.isSome.toNat + 262144 * r.scheduled.isSome.toNat →
          (r.reference = none → body.getD (5 + 3 * n.val) 0 = BitVec.ofNat 32 (127 + flags))
          ∧ (∀ v : Int, r.reference = some v → body.getD (5 + 3 * n.val) 0 = BitVec.ofNat 32 ((BitVec.ofInt 8 v).toNat
            + 256 * (BitVec.ofInt 8 (max (-40) (min 20 (v - e)))).toNat + flags)))
  ∧ (∀ (s : State) (body : List Word), body = s.viewBody .ring → body.length = 63
      ∧ body.getD 0 0 = BitVec.ofNat 32 ((s.port .east).state.code + 2 ^ 4 * (s.port .west).state.code
          + 2 ^ 8 * s.sup.eastward.closed.toNat + 2 ^ 9 * s.sup.westward.closed.toNat + 2 ^ 12 * s.ringSize + 2 ^ 16 * s.reachSet
          + 2 ^ 20 * idCode (s.neighbour .east) + 2 ^ 24 * idCode (s.neighbour .west)
          + 2 ^ 28 * (s.port .east).conflictReported.toNat + 2 ^ 29 * (s.port .west).conflictReported.toNat)
      ∧ (∀ e w : Nat, (s.sup.eastward.roundTrip = none ∧ e = 65535
            ∨ ∃ x : Word, s.sup.eastward.roundTrip = some x ∧ e = x.toNat % 65536) →
          (s.sup.westward.roundTrip = none ∧ w = 65535
            ∨ ∃ x : Word, s.sup.westward.roundTrip = some x ∧ w = x.toNat % 65536) →
          body.getD 1 0 = BitVec.ofNat 32 (e + 2 ^ 16 * w))
      ∧ body.getD 2 0 = BitVec.ofNat 32 (idCode (s.eastOrder 1) + 2 ^ 4 * idCode (s.eastOrder 2) + 2 ^ 8 * idCode (s.eastOrder 3)
          + 2 ^ 16 * s.clock.state.code + 2 ^ 20 * idCode s.clock.source + 2 ^ 24 * (s.port .east).flaps.length
          + 2 ^ 26 * (s.port .west).flaps.length)
      ∧ ∀ (o : Fin 4) (row counters : List Word) (r : MergeRec), row = (body.drop (3 + 15 * o.val)).take 15 →
        r = s.merge.records.get o → counters = [r.duplicates, r.late, r.window, r.missing, r.overruns] →
        (o = s.cfg.id → row
          = [BitVec.ofNat 32 ((s.sup.present.get o).toNat + 2 * (s.reachable o).toNat), 0, 0] ++ counters
            ++ [s.svc.sent, s.svc.discards, s.svc.replyDrops, (s.port .east).failures, (s.port .west).failures,
                (s.port .east).drops, (s.port .west).drops])
        ∧ (∀ (e w : Path) (last age since sinceW : Word), o ≠ s.cfg.id → e = s.sup.path o .east → w = s.sup.path o .west →
          (s.sup.summaries.get o = none ∧ last = 0 ∧ age = 0xFFFFFFFF
            ∨ ∃ n : Nat, s.sup.summaries.get o = some (last, n) ∧ age = BitVec.ofNat 32 n) →
          (e.since = none ∧ since = 0xFFFFFFFF ∨ ∃ n : Nat, e.since = some n ∧ since = BitVec.ofNat 32 n) →
          (w.since = none ∧ sinceW = 0xFFFFFFFF ∨ ∃ n : Nat, w.since = some n ∧ sinceW = BitVec.ofNat 32 n) →
          row = [BitVec.ofNat 32 ((s.sup.present.get o).toNat + 2 * (s.reachable o).toNat + 4 * e.up.toNat + 8 * w.up.toNat
                + 16 * e.hop + 64 * w.hop), last, age] ++ counters
            ++ [s.svc.taken.get o, s.svc.framing.get o, s.svc.unusable.get o, since, sinceW, e.losses.setWidth 32,
                w.losses.setWidth 32]))
  ∧ (∀ (s : State) (body : List Word), body = s.viewBody .talk → body.length = 67
      ∧ body.take 3 = [BitVec.ofNat 32 (if s.gateTarget = 0 then 0 else 1),
          BitVec.ofNat 32 (s.rank 0 + 16 * s.rank 1 + 256 * s.rank 2 + 4096 * s.rank 3),
          BitVec.ofNat 32 ((List.finRange 8).map fun i => (s.lamp i).code * 4 ^ i.val).sum]
      ∧ (∀ (g : Fin 8) (x : Group), x = s.group g →
        body.getD (3 + 2 * g.val) 0 = BitVec.ofNat 32 ((decide (x.buttons ≠ 0) || x.lanes).toNat + 2 ^ 8 * x.buttons.toNat
          + 2 ^ 16 * x.lanes.toNat + 2 ^ 17 * x.targets.length + 2 ^ 24 * x.seq.toNat)
        ∧ body.getD (4 + 2 * g.val) 0 = BitVec.ofNat 32 (x.targets.mapIdx fun i t => t.state.code * 4 ^ i).sum)
      ∧ (∀ (m : Fin 32) (x : Insert), x = s.insert m → body.getD (19 + m.val) 0 = BitVec.ofNat 32
        (idCode (x.holder.map fun p => p.talker) + 16 * idCode ((x.waiting[0]?).map fun p => p.talker)
          + 256 * idCode ((x.waiting[1]?).map fun p => p.talker) + 4096 * idCode ((x.waiting[2]?).map fun p => p.talker)))
      ∧ ∀ (b : Fin 8) (x : Button), x = s.button b →
        body.getD (51 + 2 * b.val) 0 = BitVec.ofNat 32 (x.state.code + 16 * x.level.toNat + 65536 * x.presses.toNat)
        ∧ body.getD (52 + 2 * b.val) 0 = x.missed.setWidth 32)

/-- How the views follow a command: a view whose shown state is the same is not rewritten, one whose shown state differs is,
or owes a rewrite while one is in progress; all else stays (R21).
What is compared is, for the input view and the talk view, every word of the body (R100, R147); for the ring view the fields whose
change causes a rewrite, and not the round trips, flap stamps, counters, ages and summaries (R165): port states, closures, ring
size, reachability, neighbours, conflict flags, the east order, clock state and source, and each row's present mark, reachability,
paths and hop counts. A path's hop count stands while it is LOST.
How long a rewrite lasts is the model's choice (log entry 10). -/
def Obligations.ViewsFollowState : Prop :=
  (∀ s : State, s.viewTrigger .input = s.viewBody .input ∧ s.viewTrigger .talk = s.viewBody .talk
    ∧ s.viewTrigger .ring
      = [BitVec.ofNat 32 ((s.port .east).state.code + 2 ^ 4 * (s.port .west).state.code
            + 2 ^ 8 * s.sup.eastward.closed.toNat + 2 ^ 9 * s.sup.westward.closed.toNat + 2 ^ 12 * s.ringSize + 2 ^ 16 * s.reachSet
            + 2 ^ 20 * idCode (s.neighbour .east) + 2 ^ 24 * idCode (s.neighbour .west)
            + 2 ^ 28 * (s.port .east).conflictReported.toNat + 2 ^ 29 * (s.port .west).conflictReported.toNat),
          BitVec.ofNat 32 (idCode (s.eastOrder 1) + 2 ^ 4 * idCode (s.eastOrder 2) + 2 ^ 8 * idCode (s.eastOrder 3)
            + 2 ^ 16 * s.clock.state.code + 2 ^ 20 * idCode s.clock.source)]
        ++ (List.finRange 4).map fun o => BitVec.ofNat 32 ((s.sup.present.get o).toNat + 2 * (s.reachable o).toNat
            + if o = s.cfg.id then 0 else 4 * (s.sup.path o .east).up.toNat + 8 * (s.sup.path o .west).up.toNat
              + 16 * (s.sup.path o .east).hop + 64 * (s.sup.path o .west).hop))
  ∧ (∀ (f : State → State) (s : State), (s.isRunning = true → running f s = (f s).withViews s)
    ∧ (s.isRunning = false → running f s = s))
  ∧ ∀ (t before : State),
    (∃ w : State, t.withViews before = w ∧ w = { t with
        ram := w.ram, regs := { t.regs with attention := w.regs.attention }, inputView := w.inputView, ringView := w.ringView,
        talkView := w.talkView, sup := { t.sup with refreshAge := w.sup.refreshAge } })
    ∧ (∀ v : View, t.viewTrigger v = before.viewTrigger v → (t.withViews before).view v = t.view v)
    ∧ ((∀ v : View, t.viewTrigger v = before.viewTrigger v) → t.withViews before = t)
    ∧ (∀ v : View, t.isRunning = true → t.viewTrigger v ≠ before.viewTrigger v →
        ((t.view v).rewriting = false → ((t.withViews before).view v).count = (t.view v).count + 2
          ∧ (t.withViews before).regs.attention.getLsbD (viewBit v) = true)
        ∧ ((t.view v).rewriting = true → ((t.withViews before).view v) = { t.view v with again := true }))

/-! ### Bursts (spec 02, R22 to R35; spec 08, R152 to R163) -/

/-- BURST_BUILD: the burst of the frame carries this terminal's id with hop count 0, its mark, the counter, the anchor's slot
count, the summary, as many slots as it declares, eight service bytes and a good check word, so it is valid; with no message
waiting, the eight bytes are idle and only the maps' fades, the gate, the ports and the own merge record change
(R22, R23, R29, R30, R32, R72). A slot carries its source's sample at its entry's gain, the talk slot also through the gate,
which moves one step toward 48 while a group is open and toward 0 otherwise (R31, R127).
A position takes the next byte of the message in progress, else the address byte of the oldest message of the urgent queue that
passes the head test, else of the normal queue, else an idle byte; a message that fails the test is discarded and counted, and
the last byte placed tells its producer (R65, R72, R74).
That it waits for the playout of its frame is the model's choice (log entry 2).
That a mix made inactive after the frame's computation gives this burst 0 is read from R105 (log entry 46).
The summary holds the two port states, clock state and source, the reachability set, the neighbours, those of hop count 0, and at the
stage the delay D in use (R25); the neighbour is the lowest id where there are two (log entry 48). A request sent starts the count of
its own entry, and no other (R76). The result count 0 of a SEND NOTE discarded at the head test is the model's choice (log entry 11).
The burst's talk slot byte is the anchor's talk slot, 255 for none (R22, R29). -/
def Obligations.BurstIsBuilt : Prop :=
  ((∀ s : State, s.isRunning = true → s.merge.playedNow = true → s.built = false → s.cfg.slotCount ≤ 64 →
    (∀ k : Nat, s.cfg.talkSlot = some k → k < s.cfg.slotCount) →
    ∃ (t : State) (b : Burst), exec .burstBuild s = .next t ∧ t.lastBurst = some b ∧ t.built = true
      ∧ b.origin = s.cfg.id ∧ b.hop = 0 ∧ b.mark = s.mark ∧ b.frame = s.clock.frame
      ∧ b.slotCount.toNat = s.cfg.slotCount ∧ b.talkSlot = BitVec.ofNat 8 (s.cfg.talkSlot.getD 255) ∧ b.slots.length = s.cfg.slotCount ∧ b.service.length = 8
      ∧ b.summary = s.summary ∧ b.check = crc32 b.bytes ∧ b.valid true = true
      ∧ (s.svc.current = none → s.svc.urgent = [] → s.svc.normal = [] →
          b.service = List.replicate 8 0
          ∧ t = { s with
              xmit := Bank.mapAll Fade.step s.xmit, talk := { s.talk with gate := t.talk.gate }, ports := t.ports,
              merge := s.merge.arrive s.cfg.id b.stored, built := true, lastBurst := some b }
          ∧ ∀ p : Port, (s.port p).state = .up → (t.port p).sent = (s.port p).sent ++ [b]))
  ∧ (∀ (s : State) (g : Nat) (filled : Service × List ServiceByte × List ServiceEvent), s.isRunning = true →
      s.merge.playedNow = true → s.built = false → s.cfg.slotCount ≤ 64 → filled = s.svc.fill s.reachList 8 →
      g = (if s.talk.gate < s.gateTarget then s.talk.gate + 1
        else if s.gateTarget < s.talk.gate then s.talk.gate - 1 else s.talk.gate) →
      ∃ (u : State) (b : Burst), leaves .burstBuild s (filled.2.2.foldl State.serviceEvent u)
        ∧ u = { s with xmit := Bank.mapAll Fade.step s.xmit, talk := { s.talk with gate := g }, svc := filled.1
                       ports := u.ports, merge := s.merge.arrive s.cfg.id b.stored, built := true, lastBurst := some b }
        ∧ b.service = filled.2.1 ∧ b.slots.length = s.cfg.slotCount
        ∧ ∀ (i : Fin 64) (f : Fade SlotSource) (x v : Sample), i.val < s.cfg.slotCount → f = (s.xmit.get i).step →
          (f.current = .silent ∧ x = 0 ∨ (∃ n : Fin 64, f.current = .localInput n ∧ x = s.localInput n)
            ∨ ∃ m : Fin 32, f.current = .mix m ∧ x = s.mixOutput m) →
          v = toSample (Int.tdiv (x.toInt * f.gain) 48) →
          (s.cfg.talkSlot = some i.val → b.slots.getD i.val 0 = toSample (Int.tdiv (v.toInt * g) 48))
          ∧ (s.cfg.talkSlot ≠ some i.val → b.slots.getD i.val 0 = v))
  ∧ (∀ s : State, ((∃ k : Fin 8, (s.group k).isOpen = true) → s.gateTarget = 48)
      ∧ ((∀ k : Fin 8, (s.group k).isOpen = false) → s.gateTarget = 0)
      ∧ ∀ o : Fin 4, o.val ∈ s.reachList ↔ s.reachable o = true)
  ∧ (∀ (v : Service) (reach : List Nat),
      (∀ n : Nat, v.fill reach (n + 1)
        = (((v.fillOne reach).1.fill reach n).1, (v.fillOne reach).2.1 :: ((v.fillOne reach).1.fill reach n).2.1,
            (v.fillOne reach).2.2 ++ ((v.fillOne reach).1.fill reach n).2.2))
      ∧ (∀ (c : InFlight) (b : ServiceByte) (rest : List ServiceByte), v.current = some c → c.rest = b :: rest →
        (rest ≠ [] → v.fillOne reach = ({ v with current := some { c with rest := rest } }, b, []))
        ∧ (rest = [] → v.fillOne reach = ({ v with current := none, sent := v.sent + 1 }, b, [.sent c.message])))
      ∧ (∀ (m : Message) (ms : List Message), v.current = none → v.urgent = m :: ms →
        ((m.dest = 15 ∨ m.dest ∈ reach) → v.fillOne reach
          = ({ v with urgent := ms, current := some { rest := m.bytes.drop 1, message := m } }, m.bytes.headD 0, []))
        ∧ (m.dest ≠ 15 → m.dest ∉ reach → ∀ w : Service × ServiceByte × List ServiceEvent,
          w = Service.fillOne { v with urgent := ms, discards := v.discards + 1 } reach →
          v.fillOne reach = (w.1, w.2.1, .discarded m :: w.2.2)))
      ∧ (∀ (m : Message) (ms : List Message), v.current = none → v.urgent = [] → v.normal = m :: ms →
        ((m.dest = 15 ∨ m.dest ∈ reach) → v.fillOne reach
          = ({ v with normal := ms, current := some { rest := m.bytes.drop 1, message := m } }, m.bytes.headD 0, []))
        ∧ (m.dest ≠ 15 → m.dest ∉ reach → ∀ w : Service × ServiceByte × List ServiceEvent,
          w = Service.fillOne { v with normal := ms, discards := v.discards + 1 } reach →
          v.fillOne reach = (w.1, w.2.1, .discarded m :: w.2.2)))
      ∧ (v.current = none → v.urgent = [] → v.normal = [] → v.fillOne reach = (v, 0, [])))
  ∧ (∀ m : Message, ∃ check : Byte,
      m.bytes = BitVec.ofNat 9 (256 + m.dest + if m.kind ∈ [2, 7, 10, 12, 13, 14] then 16 else 0)
        :: (BitVec.ofNat 8 m.kind :: BitVec.ofNat 8 m.body.length :: (m.body ++ [check])).map (fun b => b.setWidth 9)
      ∧ BitVec.ofNat 8 m.kind + BitVec.ofNat 8 m.body.length + m.body.foldl (· + ·) 0 + check = 0)
  ∧ (∀ (s : State) (m : Message) (l : Fin 16) (number : Nat) (r : Request), m.producer = .request l number →
      s.entryOf l number = some r → r ∈ s.svc.requests ∧ r.lane = l ∧ r.number = number
      ∧ (s.reachable r.target = true → s.serviceEvent (.sent m) = { s with svc := { s.svc with
        requests := s.svc.requests.map fun x => if x.lane = l ∧ x.number = number then { x with state := .waiting 0 } else x } })
      ∧ (s.reachable r.target = false → s.serviceEvent (.sent m) = s.requestEnds r .unreachable)
      ∧ s.serviceEvent (.discarded m) = s.requestEnds r .unreachable)
  ∧ (∀ (s : State) (m : Message) (l : Fin 16) (j : Join) (n : Nat), m.producer = .note l →
      s.works l j (.sendNote n) = true →
      s.serviceEvent (.sent m) = s.finish l j .ok 0 (BitVec.ofNat 32 n)
      ∧ s.serviceEvent (.discarded m) = s.finish l j .unreachable 0 0)
  ∧ (∀ (s : State) (n : Fin 64),
      (∀ first last : Word, s.cfg.id = 0 → (s.gain.table.get n).mute = some (first, last) →
        (s.clock.frame - first).toNat < (last - first).toNat → s.localInput n = 0)
      ∧ ((s.cfg.id ≠ 0 ∨ (s.gain.table.get n).mute = none) → s.localInput n = s.conv.tdmIn.get n)))
  ∧ (∀ s : State, s.summary = BitVec.ofNat 32 ((s.port .east).state.code + 2 ^ 3 * (s.port .west).state.code
        + 2 ^ 6 * s.clock.state.code + 2 ^ 9 * idCode s.clock.source + 2 ^ 12 * s.reachSet
        + 2 ^ 16 * idCode (s.neighbour .east) + 2 ^ 19 * idCode (s.neighbour .west)
        + 2 ^ 22 * if s.cfg.id = 0 then s.merge.delay else 0)
      ∧ s.reachSet < 16
      ∧ (∀ o : Fin 4, s.reachSet.testBit o.val = s.reachable o
        ∧ (s.reachable o = true ↔ o = s.cfg.id ∨ (s.sup.path o .east).up = true ∨ (s.sup.path o .west).up = true))
      ∧ (∀ (p : Port) (hop : Nat) (heard : Fin 4 → Prop),
        (∀ o : Fin 4, heard o ↔ o ≠ s.cfg.id ∧ (s.sup.path o p).up = true ∧ (s.sup.path o p).hop = hop) →
        (s.heardAt p hop = none ↔ ∀ o : Fin 4, ¬ heard o)
        ∧ ∀ o : Fin 4, s.heardAt p hop = some o ↔ heard o ∧ ∀ k : Fin 4, k < o → ¬ heard k)
      ∧ (∀ p : Port, s.neighbour p = s.heardAt p 0)
      ∧ (s.eastOrder 1 = s.heardAt .east 0 ∧ s.eastOrder 2 = s.heardAt .east 1 ∧ s.eastOrder 3 = s.heardAt .east 2)
      ∧ (s.sup.eastward.closed = true → s.ringSize = s.sup.eastward.hop + 1)
      ∧ (s.sup.eastward.closed = false → s.sup.westward.closed = true → s.ringSize = s.sup.westward.hop + 1)
      ∧ (s.sup.eastward.closed = false → s.sup.westward.closed = false → s.ringSize = 0))

/-- BURST_RECEIVE of another origin's valid burst on an UP port: it is counted, measured by the clock unit, offered to the
merge unit, reported as a path arrival with its summary, and forwarded out of the other port or dropped when that port's buffer
holds 4; on a path that is UP with the same hop count, nothing else happens (R23, R24, R26, R160, R165).
A port in ACQUIRE, QUALIFY, UP or QUARANTINE forwards, one in DARK or LOOP does not, and counts no drop (R26, R152).
The forwarded copy has its hop count raised by 1 and its check word recomputed, and is else the same.
The clock unit, for a burst of its source: the offset at the clock port gives LOCKED, PULLING or a frame jump, the skew is the
difference of the two ports' arrivals of one frame number; a desk chooses its source and its clock port, and moves that port at
the loss of its path (R37 to R40, R42, R43).
The first path of an origin is an ORIGIN BACK behind its PATH UP, with the report to every block (R161); a desk takes D from the
stage's summary (R46).
The four ignored bits are sent as 0 (log entry 27); the phase of an arrival and the arrivals kept are log entries 19 and 36.
The order of clock unit, merge unit, path report and forwarding is the model's choice (log entry 20): R24 gives none.
A frame jump writes FRAME JUMP with the old and the new counter value and D, then tests the switch frames and, lane by lane, the
WAITs and frame triggers; a change of source writes CLOCK SOURCE, a first path PATH UP and ORIGIN BACK (R42, R43, R167, R168). The
ascending order of the lanes at a jump is log entry 51's. -/
def Obligations.ForeignBurstIsDealtWith : Prop :=
  (((∀ (s : State) (p : Port) (phase : BitVec 8) (b : Burst), s.isRunning = true → (s.port p).state = .up →
     b.valid true = true → b.origin ≠ s.cfg.id → s.clock.source ≠ some b.origin →
     (b.origin ≠ 0 ∨ s.isStage = true) → (s.sup.path b.origin p).up = true → (s.sup.path b.origin p).hop = b.hop →
     ∃ t : State, exec (.burstReceive p phase true b) s = .next t
       ∧ t = { s with ports := t.ports, merge := s.merge.arrive b.origin b.stored, sup := t.sup }
       ∧ t.sup = { s.sup with summaries := s.sup.summaries.set b.origin (some (b.summary, 0)), paths := t.sup.paths }
       ∧ t.sup.path b.origin p = { s.sup.path b.origin p with since := some 0 }
       ∧ (∀ (o : Fin 4) (q : Port), o ≠ b.origin ∨ q ≠ p → t.sup.path o q = s.sup.path o q)
       ∧ t.port p = { s.port p with valid := (s.port p).valid + 1 }
       ∧ t.port p.other = (if b.hop ≤ 2 ∧ (s.port p.other).state.forwards = true then
           (if (s.port p.other).forward.length < 4 then
             { s.port p.other with forward := (s.port p.other).forward ++ [b.forwarded] }
            else { s.port p.other with drops := (s.port p.other).drops + 1 })
          else s.port p.other))
  ∧ (∀ x : PortState, x.forwards = true ↔ x = .acquire ∨ x = .qualify ∨ x = .up ∨ x = .quarantine)
  ∧ (∀ b : Burst, b.hop ≤ 2 →
       b.forwarded.hop = b.hop + 1 ∧ b.forwarded.origin = b.origin ∧ b.forwarded.check = crc32 b.forwarded.bytes
       ∧ b.forwarded = { b with head := b.forwarded.head, check := b.forwarded.check }
       ∧ (b.valid true = true → b.forwarded.valid true = true)))
  ∧ (∀ (s v : State) (p : Port) (phase : BitVec 8) (b : Burst), s.isRunning = true → (s.port p).state = .up →
      b.valid true = true → b.origin ≠ s.cfg.id →
      v = (s.setPort p { s.port p with valid := (s.port p).valid + 1 }).clockArrival b.origin p b.frame phase →
      leaves (.burstReceive p phase true b) s
        ((({ v with merge := v.merge.arrive b.origin b.stored }).pathArrival b.origin p b.hop b.summary).forward p b))
  ∧ (∀ (s : State) (o : Fin 4) (p : Port) (frame : Word) (phase : BitVec 8) (diff d : Int) (u : State),
      diff = 256 * (frame - s.clock.frame).toInt - phase.toNat → u = s.clockArrival o p frame phase →
      d = (if 0 ≤ diff - s.clock.lock then (diff - s.clock.lock + 128) / 256 else -((128 - (diff - s.clock.lock)) / 256)) →
      (s.clock.source ≠ some o → u = s)
      ∧ (s.clock.source = some o → s.clock.port = some p →
        (d.natAbs ≤ 32 → u = { s with clock := { s.clock with
            state := if d = 0 then .locked else .pulling, gained := false
            rate := if d = 0 then .source else if 0 < d then .faster else .slower
            arrivals := s.clock.arrivals.set p (noteArrival frame diff (s.clock.arrivals.get p)), skew := u.clock.skew } }
          ∧ (∀ there : Int, (s.sup.path o .east).up = true → (s.sup.path o .west).up = true →
            arrivalOf frame (s.clock.arrivals.get p.other) = some there → u.clock.skew = some (there - diff))
          ∧ ((s.sup.path o p.other).up = false ∨ arrivalOf frame (s.clock.arrivals.get p.other) = none →
            u.clock.skew = s.clock.skew))
        ∧ (32 < d.natAbs → u.clock.state = .locked
          ∧ u.clock.frame = frame - BitVec.ofInt 32
              (if 0 ≤ s.clock.lock then (s.clock.lock + 128) / 256 else -((128 - s.clock.lock) / 256))
          ∧ u.clock.source = some o ∧ u.clock.port = some p ∧ u.clock.lock = s.clock.lock ∧ u.clock.gained = false
          ∧ u.merge.delay = s.merge.delay ∧ u.merge.playedNow = s.merge.playedNow
          ∧ u.merge.point = u.clock.frame - BitVec.ofNat 32 s.merge.delay + (if s.merge.playedNow then 1 else 0)
          ∧ (∀ k : Fin 4, u.merge.records.get k = { s.merge.records.get k with cells := Vector.replicate 64 none })
          ∧ u.logged s ∧ u.passed = s.passed ∧ u.scanPhase = s.scanPhase))
      ∧ (s.clock.source = some o → s.clock.port = some p.other →
        u = { s with clock := { s.clock with
          arrivals := s.clock.arrivals.set p (noteArrival frame diff (s.clock.arrivals.get p)), skew := u.clock.skew } }
        ∧ (∀ here : Int, (s.sup.path o .east).up = true → (s.sup.path o .west).up = true →
          arrivalOf frame (s.clock.arrivals.get p.other) = some here → u.clock.skew = some (diff - here))))
  ∧ (∀ (f : Word) (d : Int) (xs : List (Word × Int)), arrivalOf f (noteArrival f d xs) = some d
      ∧ ∀ g : Word, g ≠ f → xs.length < 64 → arrivalOf g (noteArrival f d xs) = arrivalOf g xs)
  ∧ (∀ s : State,
      (∀ o : Fin 4, s.candidate = some o ↔ (o = 0 ∧ s.reachable 0 = true) ∨ (s.reachable 0 = false ∧ o ≠ 0 ∧ o ≠ s.cfg.id
        ∧ s.reachable o = true ∧ ∀ k : Fin 4, k ≠ 0 → s.reachable k = true → o ≤ k))
      ∧ ((s.isStage = true ∨ s.candidate = s.clock.source) → s.chooseSource = s)
      ∧ (s.isStage = false → s.candidate ≠ s.clock.source → ∃ u : State, s.chooseSource = u ∧ u.logged s
        ∧ u = { s with clock := u.clock, ram := u.ram, faultLog := u.faultLog
                       regs := { s.regs with attention := u.regs.attention } }
        ∧ (s.candidate = none → u.clock = { s.clock with
            state := .deputy, source := none, port := none, lock := 0, skew := none, gained := false, arrivals := ⟨[], []⟩
            rate := if s.clock.rate = .oscillator then .oscillator else .held })
        ∧ ∀ o : Fin 4, s.candidate = some o → u.clock = { s.clock with
            source := some o, port := s.clockPort o, lock := 0, skew := none, gained := true, arrivals := ⟨[], []⟩ }))
  ∧ (∀ (s : State) (o : Fin 4),
      ((s.sup.path o .east).up = true → ((s.sup.path o .west).up = false ∨ (s.sup.path o .east).hop ≤ (s.sup.path o .west).hop) →
        s.clockPort o = some .east)
      ∧ ((s.sup.path o .west).up = true → ((s.sup.path o .east).up = false ∨ (s.sup.path o .west).hop < (s.sup.path o .east).hop) →
        s.clockPort o = some .west)
      ∧ ∀ p : Port, s.clock.source = some o → s.clock.port = some p →
        ((s.sup.path o p.other).up = false → s.clockPathLost o p = s)
        ∧ ((s.sup.path o p.other).up = true → (∀ k : Int, s.clock.skew = some k → s.clockPathLost o p = { s with
            clock := { s.clock with port := some p.other, lock := s.clock.lock + k, skew := some (-k) } })
          ∧ (s.clock.skew = none → s.clockPathLost o p = { s with
            clock := { s.clock with port := some p.other, gained := true } })))
  ∧ (∀ (s : State) (o : Fin 4) (p : Port) (hop : Nat) (summary : Word),
      ((o ≠ 0 ∨ s.isStage = true) → (s.sup.path o p).up = false → ∃ w : State,
        w = { s with sup := w.sup, ram := w.ram, faultLog := w.faultLog
                     regs := { s.regs with attention := w.regs.attention } }
        ∧ w.sup = { s.sup with
            present := w.sup.present, summaries := s.sup.summaries.set o (some (summary, 0)), paths := w.sup.paths }
        ∧ w.sup.path o p = { s.sup.path o p with up := true, hop := hop, since := some 0 }
        ∧ (∀ (k : Fin 4) (q : Port), k ≠ o ∨ q ≠ p → w.sup.path k q = s.sup.path k q)
        ∧ ((s.sup.path o p.other).up = true → s.pathArrival o p hop summary = w ∧ w.sup.present = s.sup.present ∧ w.logged s)
        ∧ ((s.sup.path o p.other).up = false → s.pathArrival o p hop summary = w.reachReport o true
          ∧ w.sup.present = s.sup.present.set o true
          ∧ w.faultLog.written + w.faultLog.dropped = s.faultLog.written + s.faultLog.dropped + 2))
      ∧ (s.isStage = false → (s.sup.path 0 p).up = true →
        (s.pathArrival 0 p hop summary).merge
          = { s.merge with delay := max 8 ((summary.extractLsb' 22 6).toNat) }
        ∧ (s.merge.delay = max 8 ((summary.extractLsb' 22 6).toNat) → (s.pathArrival 0 p hop summary).gain = s.gain))))
  ∧ (∀ (s v : State) (frame : Word), v = { s with
        clock := { s.clock with frame := frame, state := .locked, gained := false, rate := .source }, merge := s.merge.jump frame } →
      s.frameJump frame = (List.finRange 16).foldl (fun t l => (t.endFrameWait l).frameTrigger l)
        ((v.fault .frameJump s.clock.port s.clock.source none [s.clock.frame, frame, BitVec.ofNat 32 s.merge.delay]).retestSwitches
          v.merge.point))
  ∧ (∀ (s : State) (o : Fin 4) (p : Port) (frame : Word) (phase : BitVec 8) (diff d : Int),
      diff = 256 * (frame - s.clock.frame).toInt - phase.toNat →
      d = (if 0 ≤ diff - s.clock.lock then (diff - s.clock.lock + 128) / 256 else -((128 - (diff - s.clock.lock)) / 256)) →
      s.clock.source = some o → s.clock.port = some p → 32 < d.natAbs → ∃ v : State,
        v = { s with clock := { s.clock with
          arrivals := s.clock.arrivals.set p (noteArrival frame diff (s.clock.arrivals.get p)), skew := v.clock.skew } }
        ∧ s.clockArrival o p frame phase = v.frameJump (frame - BitVec.ofInt 32
            (if 0 ≤ s.clock.lock then (s.clock.lock + 128) / 256 else -((128 - s.clock.lock) / 256))))
  ∧ (∀ s : State, s.isStage = false → s.candidate ≠ s.clock.source → ∃ v : State, v = { s with clock := v.clock }
      ∧ v.clock.source = s.candidate ∧ v.clock.lock = 0 ∧ v.clock.skew = none
      ∧ v.clock.state = (if s.candidate = none then .deputy else s.clock.state)
      ∧ v.clock.port = s.candidate.bind s.clockPort
      ∧ s.chooseSource = v.fault .clockSource v.clock.port s.candidate none
        [BitVec.ofNat 32 ((s.clock.source.map fun o => o.val).getD 7), BitVec.ofNat 32 ((s.candidate.map fun o => o.val).getD 7),
          BitVec.ofNat 32 s.clock.state.code, BitVec.ofNat 32 v.clock.state.code, 0, 0x80000000])
  ∧ (∀ (s v w x : State) (o : Fin 4) (p : Port) (hop : Nat) (summary : Word) (m : MergeRec) (counts : List Word),
      m = s.merge.records.get o → counts = [m.duplicates, m.late, m.window, m.missing, m.overruns] →
      v = { s with sup := { s.sup with
        summaries := s.sup.summaries.set o (some (summary, 0))
        paths := s.sup.paths.set o ((s.sup.paths.get o).set p { s.sup.path o p with up := true, hop := hop, since := some 0 }) } } →
      ((s.sup.path o p).up = true → w = v) →
      ((s.sup.path o p).up = false → x = v.fault .pathUp (some p) (some o) (v.neighbour p) (counts ++ [BitVec.ofNat 32 hop])
        ∧ w = if (s.sup.path o p.other).up = true then x else
          ({ x.fault .originBack (some p) (some o) none (counts ++ [0]) with
            sup := { v.sup with present := s.sup.present.set o true } }).reachReport o true) →
      s.pathArrival o p hop summary
        = if o = 0 ∧ s.isStage = false then w.changeDelay (max 8 (summary.extractLsb' 22 6).toNat) else w)

/-- BURST_RECEIVE on an UP port of a burst that is not another origin's good one: the own burst of hop count 1 to 3 closes its
direction with its round trip; the own id with another mark is a conflict and sets ATTENTION bit 22; an invalid burst is
counted and discarded (R23, R24, R27, R28, R157, R163), and the eighth within 48 frames is an error storm: a flap to ACQUIRE, or
to QUARANTINE at the third, with every path of the port lost (R157, R153).
On a port in LOOP a NEAR tester takes nothing from the fibre, a FAR tester counts until its window is ended, a RETURN port keeps
the burst for its way back (R170, R172, R173); that the window ends behind the burst of its last frame is the model's choice (log entry
73).
The record of a storm is ERROR STORM, with the frames from the first failure to the last, or QUARANTINE with cause 1; a conflict
writes ID CONFLICT with the two marks unless the port has reported one (R164, R167, R168). -/
def Obligations.OwnAndInvalidBursts : Prop :=
  ((∀ (s : State) (p : Port) (phase : BitVec 8) (b : Burst), s.isRunning = true → (s.port p).state = .up →
    (b.valid true = true → b.origin = s.cfg.id → b.mark = s.mark → b.hop ≠ 0 →
      leaves (.burstReceive p phase true b) s
        ((s.setPort p { s.port p with valid := (s.port p).valid + 1 }).setClosure (closureDirection p)
          { closed := true, hop := b.hop, roundTrip := some (s.clock.frame - b.frame), since := 0 }))
    ∧ (b.valid true = true → b.origin = s.cfg.id → b.mark ≠ s.mark →
      ∃ u : State, leaves (.burstReceive p phase true b) s u ∧ u.regs.attention.getLsbD 22 = true
        ∧ (u.port p).conflictReported = true ∧ u.merge = s.merge ∧ u.port p.other = s.port p.other ∧ u.sup = s.sup)
    ∧ (∀ whole : Bool, b.valid whole = false → (s.port p).errors.length < 7 →
      exec (.burstReceive p phase whole b) s = .next
        (s.setPort p { s.port p with failures := (s.port p).failures + 1, errors := (s.port p).errors ++ [s.passed] })))
  ∧ (∀ (s : State) (p : Port) (phase : BitVec 8) (whole : Bool) (b : Burst) (before : List Nat) (first : Nat)
      (rest : List Nat), s.isRunning = true → (s.port p).state = .up → b.valid whole = false →
      (s.port p).errors = before ++ first :: rest → rest.length = 6 →
      (48 ≤ s.passed - first → exec (.burstReceive p phase whole b) s = .next (s.setPort p { s.port p with
        failures := (s.port p).failures + 1, errors := first :: rest ++ [s.passed] }))
      ∧ (s.passed - first < 48 → ∃ w u : State, leaves (.burstReceive p phase whole b) s u ∧ u = w.leftUp p ∧ w.logged s
        ∧ (u.port p).failures = (s.port p).failures + 1 ∧ (u.port p).flapCount = (s.port p).flapCount + 1
        ∧ (∀ o : Fin 4, (u.sup.path o p).up = false)
        ∧ (((s.port p).flaps.filter fun f => decide (s.passed < f + 480000)).length < 2 → (u.port p).state = .acquire)
        ∧ (2 ≤ ((s.port p).flaps.filter fun f => decide (s.passed < f + 480000)).length →
          (u.port p).state = .quarantine ∧ (u.port p).flaps = [])))
  ∧ (∀ (s : State) (p : Port) (phase : BitVec 8) (whole : Bool) (b : Burst) (x : LoopRec), s.isRunning = true →
      (s.port p).state = .loop → (s.port p).loop = some x →
      (x.role = .testerNear → exec (.burstReceive p phase whole b) s = .next s)
      ∧ (x.role = .returner → leaves (.burstReceive p phase whole b) s
        (s.setPort p { s.port p with returning := (s.port p).returning ++ [b] }))
      ∧ (x.role = .testerFar →
        (b.valid whole = false → leaves (.burstReceive p phase whole b) s (s.setPort p { s.port p with
          loop := some { x with errors := x.errors + 1 } }))
        ∧ (∀ f : Word, b.valid whole = true → x.firstTest = some f → b.origin = s.cfg.id → b.mark = s.mark →
          earlier b.frame f = false → leaves (.burstReceive p phase whole b) s (s.setPort p { s.port p with
            loop := some { x with returned := x.returned + 1
                                  roundTrip := some (x.roundTrip.getD (s.clock.frame - b.frame)) } }))
        ∧ (b.valid whole = true → (x.firstTest = none ∨ b.origin ≠ s.cfg.id ∨ b.mark ≠ s.mark
            ∨ ∃ f : Word, x.firstTest = some f ∧ earlier b.frame f = true) →
          exec (.burstReceive p phase whole b) s = .next s))))
  ∧ (∀ (s w : State) (p : Port) (phase : BitVec 8) (whole : Bool) (b : Burst) (before : List Nat) (first : Nat)
      (rest f : List Nat) (v : PortRec) (counters : List Word), s.isRunning = true → (s.port p).state = .up →
      b.valid whole = false → (s.port p).errors = before ++ first :: rest → rest.length = 6 → s.passed - first < 48 →
      f = ((s.port p).flaps.filter fun x => decide (s.passed < x + 480000)) ++ [s.passed] →
      v = { s.port p with failures := (s.port p).failures + 1, errors := first :: rest ++ [s.passed]
                          flapCount := (s.port p).flapCount + 1, timer := 0, absent := 0 } →
      counters = [v.valid, v.failures, v.flapCount, v.drops, BitVec.ofNat 32 (s.port p).timer] →
      (f.length < 3 → w = (s.setPort p { v with state := .acquire, flaps := f }).fault .errorStorm (some p) none (s.neighbour p)
          (counters ++ [BitVec.ofNat 32 (s.passed - first)]) → leaves (.burstReceive p phase whole b) s (w.leftUp p))
      ∧ (3 ≤ f.length → w = (s.setPort p { v with state := .quarantine, flaps := [], darkReported := true }).fault .quarantine
          (some p) none (s.neighbour p) (counters ++ [1]) → leaves (.burstReceive p phase whole b) s (w.leftUp p)))
  ∧ (∀ (s v : State) (p : Port) (phase : BitVec 8) (b : Burst), s.isRunning = true → (s.port p).state = .up →
      b.valid true = true → b.origin = s.cfg.id → b.mark ≠ s.mark →
      v = { s.setPort p { s.port p with valid := (s.port p).valid + 1, conflictReported := true, conflictQuiet := 0 } with
        regs := { s.regs with attention := s.regs.attention ||| 0x400000 } } →
      ((s.port p).conflictReported = true → leaves (.burstReceive p phase true b) s v)
      ∧ ((s.port p).conflictReported = false → leaves (.burstReceive p phase true b) s
        (v.fault .idConflict (some p) (some s.cfg.id) none [b.mark.setWidth 32, s.mark.setWidth 32])))

/-- BURST_RECEIVE on a port in ACQUIRE or QUARANTINE: every burst is counted; only a valid burst of hop count 0 from another
origin, in ACQUIRE, moves the port, to QUALIFY with count 1 and that origin; a DARK port takes nothing (R152, R155, R158,
R159). In QUALIFY the count follows R156's table, and the 4,800th clean burst takes the port UP with a PORT UP record.
The record names the qualify origin and carries the port's counters, the frames in QUALIFY and the stamps in its flap history
(R167, R168). -/
def Obligations.AcquiringPortQualifies : Prop :=
  ((∀ (s : State) (p : Port) (phase : BitVec 8) (whole : Bool) (b : Burst), s.isRunning = true →
    ((s.port p).state = .acquire → b.valid whole = true → b.hop = 0 → b.origin ≠ s.cfg.id →
      leaves (.burstReceive p phase whole b) s (s.setPort p { s.port p with
        state := .qualify, valid := (s.port p).valid + 1, qualify := 1, qualifyOrigin := some b.origin, timer := 0,
        absent := 0 }))
    ∧ ((s.port p).state = .acquire → b.valid whole = true → (b.hop ≠ 0 ∨ b.origin = s.cfg.id) →
      exec (.burstReceive p phase whole b) s = .next (s.setPort p { s.port p with valid := (s.port p).valid + 1 }))
    ∧ ((s.port p).state = .acquire ∨ (s.port p).state = .quarantine → b.valid whole = false →
      exec (.burstReceive p phase whole b) s = .next (s.setPort p { s.port p with failures := (s.port p).failures + 1 }))
    ∧ ((s.port p).state = .quarantine → b.valid whole = true →
      exec (.burstReceive p phase whole b) s = .next (s.setPort p { s.port p with valid := (s.port p).valid + 1 }))
    ∧ ((s.port p).state = .dark → exec (.burstReceive p phase whole b) s = .next s))
  ∧ (∀ (s : State) (p : Port) (phase : BitVec 8) (whole : Bool) (b : Burst), s.isRunning = true →
      (s.port p).state = .qualify →
      (b.valid whole = false → exec (.burstReceive p phase whole b) s = .next
        (s.setPort p { s.port p with failures := (s.port p).failures + 1, qualify := 0 }))
      ∧ (b.valid whole = true → (b.hop ≠ 0 ∨ b.origin = s.cfg.id) → exec (.burstReceive p phase whole b) s = .next
        (s.setPort p { s.port p with valid := (s.port p).valid + 1 }))
      ∧ (b.valid whole = true → b.hop = 0 → b.origin ≠ s.cfg.id →
        ((s.port p).qualifyOrigin ≠ some b.origin ∨ (s.port p).qualify = 0) →
        exec (.burstReceive p phase whole b) s = .next (s.setPort p { s.port p with
          valid := (s.port p).valid + 1, qualify := 1, qualifyOrigin := some b.origin }))
      ∧ (b.valid whole = true → b.hop = 0 → b.origin ≠ s.cfg.id → (s.port p).qualifyOrigin = some b.origin →
        0 < (s.port p).qualify →
        ((s.port p).qualify + 1 < 4800 → exec (.burstReceive p phase whole b) s = .next (s.setPort p { s.port p with
          valid := (s.port p).valid + 1, qualify := (s.port p).qualify + 1 }))
        ∧ (4800 ≤ (s.port p).qualify + 1 → ∃ u : State, leaves (.burstReceive p phase whole b) s u
          ∧ u = { s with ports := u.ports, ram := u.ram, faultLog := u.faultLog
                         regs := { s.regs with attention := u.regs.attention } }
          ∧ u.port p = { s.port p with state := .up, valid := (s.port p).valid + 1, qualify := 4800, timer := 0, absent := 0
                                       errors := [], darkReported := false }
          ∧ u.port p.other = s.port p.other ∧ u.logged s))))
  ∧ (∀ (s : State) (p : Port) (phase : BitVec 8) (whole : Bool) (b : Burst), s.isRunning = true →
      (s.port p).state = .qualify → b.valid whole = true → b.hop = 0 → b.origin ≠ s.cfg.id →
      (s.port p).qualifyOrigin = some b.origin → 0 < (s.port p).qualify → 4800 ≤ (s.port p).qualify + 1 →
      leaves (.burstReceive p phase whole b) s ((s.setPort p { s.port p with
        state := .up, valid := (s.port p).valid + 1, qualify := 4800, timer := 0, absent := 0, errors := []
        darkReported := false }).fault .portUp (some p) none (some b.origin) [(s.port p).valid + 1, (s.port p).failures,
          (s.port p).flapCount, (s.port p).drops, BitVec.ofNat 32 (s.port p).timer, BitVec.ofNat 32 (s.port p).flaps.length]))

/-- FORWARD_BUFFER_SEND: a port outside DARK and LOOP sends its forward buffer, oldest first, and empties it; a RETURN port
sends back what it has taken and counts it, and a tester's port, whose forwarding has stopped, sends nothing (R26, R170, R172). That it sends also before the port's own burst of the frame, if it is given
then, is the model's choice (log entry 72). -/
def Obligations.ForwardBufferIsSent : Prop :=
  ∀ (s : State) (p : Port), s.isRunning = true →
    ((s.port p).state ≠ .dark → (s.port p).state ≠ .loop →
      exec (.forwardBufferSend p) s = .next (s.setPort p { s.port p with
        sent := (s.port p).sent ++ (s.port p).forward, forward := [] }))
    ∧ (∀ x : LoopRec, (s.port p).state = .loop → (s.port p).loop = some x → x.role = .returner →
      exec (.forwardBufferSend p) s = .next (s.setPort p { s.port p with
        sent := (s.port p).sent ++ (s.port p).returning, returning := [],
        loop := some { x with sent := x.sent + BitVec.ofNat 32 (s.port p).returning.length } }))
    ∧ (∀ x : LoopRec, (s.port p).state = .loop → (s.port p).loop = some x → (x.role = .testerNear ∨ x.role = .testerFar) →
      exec (.forwardBufferSend p) s = .next s)
    ∧ ((s.port p).state = .dark → (s.port p).loop = none → exec (.forwardBufferSend p) s = .next s)

/-- R33: what a new source does to a map entry, row by row of its table, and that a level moves by at most one step a frame
and switches only at level 0. -/
def Obligations.MapChangeFollowsTable : Prop :=
  ∀ (f : Fade SlotSource) (source : SlotSource), f.gain ≤ 48 →
    (f.next = none → f.gain = 48 → source = f.current → f.change source = (f, false))
    ∧ (f.next = none → f.gain = 48 → source ≠ f.current → f.change source = ({ f with next := some source }, true))
    ∧ (f.next = some source → f.change source = (f, false))
    ∧ (∀ n : SlotSource, f.next = some n → source ≠ n → source ≠ f.current →
        f.change source = ({ f with next := some source }, true))
    ∧ (∀ n : SlotSource, f.next = some n → source ≠ n → source = f.current → f.change source = ({ f with next := none }, true))
    ∧ (f.next = none → f.gain < 48 → source = f.current → f.change source = (f, false))
    ∧ (f.next = none → f.gain < 48 → source ≠ f.current → f.change source = ({ f with next := some source }, true))
    ∧ (f.step.gain ≤ f.gain + 1 ∧ f.gain ≤ f.step.gain + 1 ∧ f.step.gain ≤ 48)
    ∧ (f.step.current ≠ f.current → f.step.gain = 0)

/-- MAP_SLOTS, MAP_SLOTS_SETTLED, PATCH_OUTPUTS and PATCH_OUTPUTS_SETTLED: a refused payload changes no entry; a good one is
applied in payload order and the step ends OK once every slot or output it named is steady, with the count of entries that
changed (R33 to R35, R61 to R63).
Where its rule gives no count, the result count 0 of a step refused or ended UNREACHABLE is the model's choice (log entry 11).
That MAP SLOTS looks at the slots of all entries (16) before any source (17) is the model's reading of R34, which names the two checks
in this order and gives none over the entries (DEDUCED, slotsFault, log entry 24); PATCH OUTPUTS has R62's own order.
A payload is its whole records of 4 or 8 bytes. MAP SLOTS is refused for a slot at or above the slot count (16), else for a source
out of its range (17); PATCH OUTPUTS by its first faulty entry, output (16), then source (17), then tracking id (18); the entries
stand as their bytes name them, and the count is of those that began or redirected a fade. Where every named slot or output is steady
at once the step ends OK with that count (R34, R35, R62, R63). -/
def Obligations.MapStepsApply : Prop :=
  ((∀ (s : State) (l : Fin 16) (a : Nat), s.hasStep l 3 a = true →
    (∀ d : Nat, slotsFault s.cfg.slotCount ((chunks 4 (s.stepAt a).payload).map slotEntry) = some d →
      exec (.mapSlots l) s = .next (s.finish l (s.stepAt a) .badStep d 0))
    ∧ (slotsFault s.cfg.slotCount ((chunks 4 (s.stepAt a).payload).map slotEntry) = none →
      ∃ t : State, exec (.mapSlots l) s = .next t
        ∧ t = { s with
            xmit := (changeAll s.xmit (goodSlots ((chunks 4 (s.stepAt a).payload).map slotEntry))).1
            lanes := t.lanes, ram := t.ram, regs := { s.regs with attention := t.regs.attention } }
        ∧ (∀ k : Fin 16, k ≠ l → t.lane k = s.lane k)
        ∧ ((((goodSlots ((chunks 4 (s.stepAt a).payload).map slotEntry)).all fun e => (t.xmit.get e.1).steady) = true →
            (t.lane l).done = (s.lane l).done + 1)
          ∧ (((goodSlots ((chunks 4 (s.stepAt a).payload).map slotEntry)).all fun e => (t.xmit.get e.1).steady) = false →
            (t.lane l).activity = .working (s.stepAt a)
              (.mapSlots ((goodSlots ((chunks 4 (s.stepAt a).payload).map slotEntry)).map fun e => e.1)
                (changeAll s.xmit (goodSlots ((chunks 4 (s.stepAt a).payload).map slotEntry))).2)))))
  ∧ (∀ (s : State) (l : Fin 16) (j : Join) (slots : List (Fin 64)) (count : Nat),
      s.works l j (.mapSlots slots count) = true → (slots.all fun i => (s.xmit.get i).steady) = true →
      exec (.mapSlotsSettled l) s = .next (s.finish l j .ok 0 (BitVec.ofNat 32 count)))
  ∧ (∀ (s : State) (l : Fin 16) (a : Nat), s.hasStep l 4 a = true →
    (∀ d : Nat, outputEntries (chunks 8 (s.stepAt a).payload) = .error d →
      exec (.patchOutputs l) s = .next (s.finish l (s.stepAt a) .badStep d 0))
    ∧ (∀ es : List (Fin 64 × OutputSource), outputEntries (chunks 8 (s.stepAt a).payload) = .ok es →
      ∃ t : State, exec (.patchOutputs l) s = .next t
        ∧ t = { s with
            delivery := (changeAll s.delivery es).1
            lanes := t.lanes, ram := t.ram, regs := { s.regs with attention := t.regs.attention } }
        ∧ (∀ k : Fin 16, k ≠ l → t.lane k = s.lane k)
        ∧ ((es.all fun e => (t.delivery.get e.1).steady) = true → (t.lane l).done = (s.lane l).done + 1)
        ∧ ((es.all fun e => (t.delivery.get e.1).steady) = false →
            (t.lane l).activity = .working (s.stepAt a)
              (.patchOutputs (es.map fun e => e.1) (changeAll s.delivery es).2))))
  ∧ (∀ (s : State) (l : Fin 16) (j : Join) (outputs : List (Fin 64)) (count : Nat),
      s.works l j (.patchOutputs outputs count) = true → (outputs.all fun i => (s.delivery.get i).steady) = true →
      exec (.patchOutputsSettled l) s = .next (s.finish l j .ok 0 (BitVec.ofNat 32 count))))
  ∧ (∀ (b : List Byte) (n : Nat), (n = 4 ∨ n = 8) → (chunks n b).length = b.length / n
      ∧ ∀ i : Nat, i < b.length / n → (chunks n b)[i]? = some ((b.drop (n * i)).take n))
  ∧ (∀ (count : Nat) (es : List (List Byte)) (bad : List Byte → Prop), count ≤ 64 →
      (∀ e : List Byte, bad e ↔ 2 < (byteAt e 1).toNat ∨ byteAt e 1 = 1 ∧ 63 < (byteAt e 2).toNat
        ∨ byteAt e 1 = 2 ∧ 31 < (byteAt e 2).toNat) →
      ((∃ e ∈ es, count ≤ (byteAt e 0).toNat) → slotsFault count (es.map slotEntry) = some 16)
      ∧ ((∀ e ∈ es, (byteAt e 0).toNat < count) → (∃ e ∈ es, bad e) → slotsFault count (es.map slotEntry) = some 17)
      ∧ ((∀ e ∈ es, (byteAt e 0).toNat < count ∧ ¬ bad e) → slotsFault count (es.map slotEntry) = none
        ∧ (goodSlots (es.map slotEntry)).length = es.length
        ∧ ∀ (i : Nat) (e : List Byte), es[i]? = some e → ∃ (slot : Fin 64) (source : SlotSource),
          (goodSlots (es.map slotEntry))[i]? = some (slot, source) ∧ slot.val = (byteAt e 0).toNat
          ∧ (byteAt e 1 = 0 → source = .silent)
          ∧ (∀ k : Fin 64, byteAt e 1 = 1 → (byteAt e 2).toNat = k.val → source = .localInput k)
          ∧ (∀ m : Fin 32, byteAt e 1 = 2 → (byteAt e 2).toNat = m.val → source = .mix m)))
  ∧ (∀ e : List Byte, (63 < (byteAt e 0).toNat → outputEntry e = .error 16)
      ∧ ((byteAt e 0).toNat ≤ 63 → (3 < (byteAt e 1).toNat
          ∨ byteAt e 1 = 1 ∧ (3 < (byteAt e 2).toNat ∨ 63 < (byteAt e 3).toNat)
          ∨ byteAt e 1 = 2 ∧ 31 < (byteAt e 2).toNat ∨ byteAt e 1 = 3 ∧ 63 < (byteAt e 2).toNat) → outputEntry e = .error 17)
      ∧ ((byteAt e 0).toNat ≤ 63 → byteAt e 1 = 1 → (byteAt e 2).toNat ≤ 3 → (byteAt e 3).toNat ≤ 63 →
          3 < (byteAt e 4).toNat → byteAt e 4 ≠ 255 → outputEntry e = .error 18)
      ∧ ∀ o : Fin 64, (byteAt e 0).toNat = o.val →
        (byteAt e 1 = 0 → outputEntry e = .ok (o, .none))
        ∧ (∀ (q : Fin 4) (k : Fin 64), byteAt e 1 = 1 → (byteAt e 2).toNat = q.val → (byteAt e 3).toNat = k.val →
          (byteAt e 4 = 255 → outputEntry e = .ok (o, .slot q k none))
          ∧ ∀ t : Fin 4, (byteAt e 4).toNat = t.val → outputEntry e = .ok (o, .slot q k (some t)))
        ∧ (∀ m : Fin 32, byteAt e 1 = 2 → (byteAt e 2).toNat = m.val → outputEntry e = .ok (o, .mix m))
        ∧ (∀ n : Fin 64, byteAt e 1 = 3 → (byteAt e 2).toNat = n.val → outputEntry e = .ok (o, .localInput n)))
  ∧ (outputEntries [] = .ok [] ∧ ∀ (e : List Byte) (rest : List (List Byte)),
      (∀ d : Nat, outputEntry e = .error d → outputEntries (e :: rest) = .error d)
      ∧ ∀ x : Fin 64 × OutputSource, outputEntry e = .ok x →
        (∀ d : Nat, outputEntries rest = .error d → outputEntries (e :: rest) = .error d)
        ∧ ∀ xs : List (Fin 64 × OutputSource), outputEntries rest = .ok xs → outputEntries (e :: rest) = .ok (x :: xs))
  ∧ (∀ (f : Fade OutputSource) (source : OutputSource),
      ((f.next = some source ∨ f.next = none ∧ source = f.current) → f.change source = (f, false))
      ∧ (f.next ≠ some source → f.next ≠ none → source = f.current → f.change source = ({ f with next := none }, true))
      ∧ (f.next ≠ some source → source ≠ f.current → f.change source = ({ f with next := some source }, true)))
  ∧ (∀ (σ : Type) (_ : DecidableEq σ) (map : Bank 64 (Fade σ)) (i : Fin 64) (source : σ) (rest : List (Fin 64 × σ)) (f : Fade σ)
      (moved : Bool), (map.get i).change source = (f, moved) → changeAll map [] = (map, 0)
      ∧ (changeAll map ((i, source) :: rest)).1 = (changeAll (map.set i f) rest).1
      ∧ (changeAll map ((i, source) :: rest)).2 = (changeAll (map.set i f) rest).2 + if moved = true then 1 else 0)
  ∧ (∀ (s : State) (l : Fin 16) (a : Nat) (es : List (Fin 64 × SlotSource)), s.hasStep l 3 a = true →
      slotsFault s.cfg.slotCount ((chunks 4 (s.stepAt a).payload).map slotEntry) = none →
      es = goodSlots ((chunks 4 (s.stepAt a).payload).map slotEntry) →
      (∀ e ∈ es, ((changeAll s.xmit es).1.get e.1).next = none ∧ ((changeAll s.xmit es).1.get e.1).gain = 48) →
      ∃ u : State, u = { s with xmit := (changeAll s.xmit es).1, lanes := u.lanes } ∧ (∀ k : Fin 16, k ≠ l → u.lane k = s.lane k)
        ∧ u.lane l = { s.lane l with
            activity := .working (s.stepAt a) (.mapSlots (es.map fun e => e.1) (changeAll s.xmit es).2) }
        ∧ exec (.mapSlots l) s = .next (u.finish l (s.stepAt a) .ok 0 (BitVec.ofNat 32 (changeAll s.xmit es).2)))
  ∧ (∀ (s : State) (l : Fin 16) (a : Nat) (es : List (Fin 64 × OutputSource)), s.hasStep l 4 a = true →
      outputEntries (chunks 8 (s.stepAt a).payload) = .ok es →
      (∀ e ∈ es, ((changeAll s.delivery es).1.get e.1).next = none ∧ ((changeAll s.delivery es).1.get e.1).gain = 48) →
      ∃ u : State, u = { s with delivery := (changeAll s.delivery es).1, lanes := u.lanes }
        ∧ (∀ k : Fin 16, k ≠ l → u.lane k = s.lane k)
        ∧ u.lane l = { s.lane l with
            activity := .working (s.stepAt a) (.patchOutputs (es.map fun e => e.1) (changeAll s.delivery es).2) }
        ∧ exec (.patchOutputs l) s = .next (u.finish l (s.stepAt a) .ok 0 (BitVec.ofNat 32 (changeAll s.delivery es).2)))

/-! ### Merging and playout (spec 03, R45 to R57) -/

/-- R48: an arrival is classified by the first test that applies, counted, and stored or discarded. -/
def Obligations.ArrivalIsClassified : Prop :=
  ∀ (r : MergeRec) (point : Word) (f : StoredFrame),
    (earlier f.frame point = true → r.arrive point f = { r with late := r.late + 1 })
    ∧ (earlier f.frame point = false → 64 ≤ (f.frame - point).toNat →
        r.arrive point f = { r with window := r.window + 1 })
    ∧ (earlier f.frame point = false → (f.frame - point).toNat < 64 →
        (∀ g : StoredFrame, r.cells.get (cellOf f.frame) = some g → g.frame = f.frame →
          r.arrive point f = { r with duplicates := r.duplicates + 1 })
        ∧ (∀ g : StoredFrame, r.cells.get (cellOf f.frame) = some g → later g.frame f.frame = true →
          r.arrive point f = { r with late := r.late + 1 })
        ∧ (∀ g : StoredFrame, r.cells.get (cellOf f.frame) = some g → earlier g.frame f.frame = true → g.played = false →
          r.arrive point f = { r with
            cells := r.cells.set (cellOf f.frame) (some { f with played := false }), overruns := r.overruns + 1 })
        ∧ (∀ g : StoredFrame, r.cells.get (cellOf f.frame) = some g → earlier g.frame f.frame = true → g.played = true →
          r.arrive point f = { r with cells := r.cells.set (cellOf f.frame) (some { f with played := false }) })
        ∧ (r.cells.get (cellOf f.frame) = none →
          r.arrive point f = { r with cells := r.cells.set (cellOf f.frame) (some { f with played := false }) }))

/-- R50: how a present frame is played from each concealment state; `level` is the step of 480 each state plays it at. The frame's
cell is then marked played (R49), so that a second copy is a duplicate to R48. R51: how a missing frame is concealed from each
concealment state. -/
def Obligations.FramesPlayOrAreConcealed : Prop :=
  (∀ (r : MergeRec) (f : StoredFrame) (level : Nat) (after : Conceal),
    ((r.conceal = .playing ∨ (∃ c, r.conceal = .holding c)) ∧ level = 480 ∧ after = .playing
      ∨ ((∃ k, r.conceal = .fading k) ∨ r.conceal = .silent) ∧ level = 1 ∧ after = .fadingIn 1
      ∨ (∃ k, r.conceal = .fadingIn k ∧ k + 1 < 480 ∧ level = k + 1 ∧ after = .fadingIn (k + 1))
      ∨ r.conceal = .fadingIn 479 ∧ level = 480 ∧ after = .playing) →
    (r.playPresent f).1.conceal = after
    ∧ (∀ i : Fin 64, (r.playPresent f).2.slots.get i
        = if i.val < f.slotCount then toSample (truncDiv ((f.slots.getD i.val 0).toInt * level) 480) else 0)
    ∧ (∀ x : Sample, toSample (truncDiv (x.toInt * 480) 480) = x)
    ∧ (r.playPresent f).1.last = (r.playPresent f).2.slots
    ∧ (r.playPresent f).1.cells = r.cells.set (cellOf f.frame) (some { f with played := true })
    ∧ (r.playPresent f).1.lastCount = f.slotCount ∧ (r.playPresent f).1.lastTalk = f.talkSlot)
  ∧ (∀ (r : MergeRec) (level missed : Nat) (after : Conceal),
    ((r.conceal = .playing ∨ (∃ k, r.conceal = .fadingIn k)) ∧ level = 480 ∧ after = .holding 1 ∧ missed = 1
      ∨ (∃ c, r.conceal = .holding c ∧ c < 8 ∧ level = 480 ∧ after = .holding (c + 1) ∧ missed = 1)
      ∨ r.conceal = .holding 8 ∧ level = 479 ∧ after = .fading 1 ∧ missed = 1
      ∨ (∃ k, r.conceal = .fading k ∧ k < 480 ∧ level = 480 - k - 1 ∧ after = .fading (k + 1) ∧ missed = 1)
      ∨ r.conceal = .fading 480 ∧ level = 0 ∧ after = .silent ∧ missed = 1
      ∨ r.conceal = .silent ∧ level = 0 ∧ after = .silent ∧ missed = 0) →
    r.playMissing.1 = { r with conceal := after, missing := r.missing + BitVec.ofNat 32 missed }
    ∧ (∀ i : Fin 64, r.playMissing.2.slots.get i
        = if i.val < r.lastCount then toSample (truncDiv ((r.last.get i).toInt * level) 480) else 0)
    ∧ r.playMissing.2.slotCount = r.lastCount ∧ r.playMissing.2.talkSlot = r.lastTalk)

/-- PLAYOUT: in local frame t the frame t - D of every origin is played out, present or missing, the playout point moves past
it, and the delivery map steps its fades; a second playout in one frame does nothing (R45, R49, R61, R186). A frame is present
where its cell holds it unplayed (R49). Each output carries its source's sample at its entry's gain (R59, R60), each mix its sum,
gain, talk and saturation (R111, R112), each measuring detector takes its channel's sample (R176, R177), and each other origin's
service bytes pass through its assembler to the messages taken (R64, R68 to R70). A message is usable by its kind, its length,
this terminal and its origin (R70), and each of the 17 kinds is the command of its name, field by field (R66; the two bits of the
MIX SENDS flags byte are log entry 12's).
Master, duck and every send of each mix advance by one step of their ramps first, and a fading-out send that has come to 0 leaves its
list (R107, R109). Each tracking entry takes a reference due, jumps where E changes, and else advances by one step of its ramp (R97).
That messages taken wait for their own commands is the model's choice (log entries 2 and 3), their order log entry 40's. -/
def Obligations.PlayoutPlaysEveryOrigin : Prop :=
  (∀ (s : State) (tdm : List Sample), s.isRunning = true →
    (s.merge.playedNow = false → ∃ t : State, exec (.playout tdm) s = .next t
      ∧ t.merge.playedNow = true ∧ t.merge.delay = s.merge.delay
      ∧ t.merge.point = s.clock.frame - BitVec.ofNat 32 s.merge.delay + 1
      ∧ (∀ o : Fin 4, t.merge.records.get o
          = ((s.merge.records.get o).play (s.clock.frame - BitVec.ofNat 32 s.merge.delay)).1)
      ∧ (∀ c : Fin 64, t.conv.tdmIn.get c = tdm.getD c.val 0)
      ∧ t.delivery = Bank.mapAll Fade.step s.delivery
      ∧ t.clock = s.clock ∧ t.ports = s.ports ∧ t.xmit = s.xmit ∧ t.cfg = s.cfg ∧ t.passed = s.passed
      ∧ t.noteList = s.noteList ∧ t.built = s.built ∧ t.mark = s.mark ∧ t.talk.gate = s.talk.gate)
    ∧ (s.merge.playedNow = true → exec (.playout tdm) s = .next s))
  ∧ (∀ (r : MergeRec) (p : Word),
      (∀ f : StoredFrame, r.cells.get (cellOf p) = some f → f.frame = p → f.played = false → r.play p = r.playPresent f)
      ∧ (r.cells.get (cellOf p) = none → r.play p = r.playMissing)
      ∧ ∀ f : StoredFrame, r.cells.get (cellOf p) = some f → (f.frame ≠ p ∨ f.played = true) → r.play p = r.playMissing)
  ∧ (∀ (s : State) (tdm : List Sample) (p : Word) (frames : Bank 4 PlayedFrame), s.isRunning = true →
      s.merge.playedNow = false → p = s.clock.frame - BitVec.ofNat 32 s.merge.delay →
      (∀ o : Fin 4, frames.get o = ((s.merge.records.get o).play p).2) →
      ∃ t : State, exec (.playout tdm) s = .next t
        ∧ (∀ (c : Fin 64) (e : Fade OutputSource), e = (s.delivery.get c).step →
          (e.current = .none → t.conv.delivered.get c = 0)
          ∧ (∀ (o : Fin 4) (k : Fin 64), e.current = .slot o k none →
            t.conv.delivered.get c = toSample (Int.tdiv (((frames.get o).slots.get k).toInt * e.gain) 48))
          ∧ (∀ (o : Fin 4) (k : Fin 64) (u : Fin 4) (x : Sample), e.current = .slot o k (some u) →
            x = (if o = 0 then toSample (max (-8388608)
                (min ((((frames.get o).slots.get k).toInt * (t.track u k).k + 524288) / 1048576) 8388607))
              else (frames.get o).slots.get k) →
            t.conv.delivered.get c = toSample (Int.tdiv (x.toInt * e.gain) 48))
          ∧ (∀ m : Fin 32, e.current = .mix m →
            t.conv.delivered.get c = toSample (Int.tdiv ((t.mixOutput m).toInt * e.gain) 48))
          ∧ ∀ n : Fin 64, e.current = .localInput n →
            t.conv.delivered.get c = toSample (Int.tdiv ((t.localInput n).toInt * e.gain) 48))
        ∧ (∀ m : Fin 32, (s.mixRec m).cue = none →
          t.mixRec m = (s.mixRec m).compute frames t.gain.tracking (s.insert m).holder)
        ∧ (∀ (k : Fin 8) (d : Measuring), s.meter.detectors.get k = some d →
          (d.left ≠ 0 → t.meter.detectors.get k = some { d with
            left := d.left - 1, peak := max d.peak (t.channelSample frames d.channel).toInt.natAbs
            overs := if 8388607 ≤ (t.channelSample frames d.channel).toInt.natAbs then d.overs + 1 else d.overs })
          ∧ (d.left = 0 → t.meter.detectors.get k = some d))
        ∧ (∀ k : Fin 8, s.meter.detectors.get k = none → t.meter.detectors.get k = none)
        ∧ (∀ (o : Fin 4) (got : Assembler × Nat × List (Nat × List Byte)), o ≠ s.cfg.id →
          got = (s.svc.assemblers.get o).takeAll s.cfg.id.val (streamItems (s.svc.lastFrame.get o) p (frames.get o)) →
          t.svc.lastFrame.get o = some p ∧ t.svc.assemblers.get o = got.1
          ∧ t.svc.framing.get o = s.svc.framing.get o + BitVec.ofNat 32 got.2.1
          ∧ t.svc.taken.get o = s.svc.taken.get o
            + BitVec.ofNat 32 (got.2.2.filter fun m => usable s.isStage o m.1 m.2.length).length
          ∧ t.svc.unusable.get o = s.svc.unusable.get o
            + BitVec.ofNat 32 (got.2.2.filter fun m => !usable s.isStage o m.1 m.2.length).length)
        ∧ t.inbox = s.inbox ++ (indices 4).flatMap fun o => if o = s.cfg.id then [] else
            ((((s.svc.assemblers.get o).takeAll s.cfg.id.val
                (streamItems (s.svc.lastFrame.get o) p (frames.get o))).2.2).filter fun m =>
              usable s.isStage o m.1 m.2.length).filterMap fun m => messageCommand o s.clock.frame m.1 m.2)
  ∧ (∀ (s t : State) (tdm : List Sample) (u : Fin 4) (n : Fin 64) (x : TrackEntry) (e f : Int), s.isRunning = true →
      s.merge.playedNow = false → exec (.playout tdm) s = .next t → e = (s.setting n).effective → f = (t.setting n).effective →
      (s.referenceDue u n = false ∧ x = s.track u n
        ∨ ∃ r : ScheduledRef, s.referenceDue u n = true ∧ (s.track u n).scheduled = some r
          ∧ x = (s.track u n).onReference (decide (n ∈ s.gain.switched)) e r.value) →
      (f = e → t.track u n = x.advance e) ∧ (f ≠ e → t.track u n = x.onGain f))
  ∧ (∀ (s : State) (frames : Bank 4 PlayedFrame),
      (∀ (o : Fin 4) (k : Fin 64), s.channelSample frames (BitVec.ofNat 32 (256 * k.val + 65536 * o.val + 16777216 * 255))
        = (frames.get o).slots.get k)
      ∧ (∀ (o u : Fin 4) (k : Fin 64),
        s.channelSample frames (BitVec.ofNat 32 (256 * k.val + 65536 * o.val + 16777216 * u.val))
        = if o = 0 then toSample (max (-8388608)
            (min ((((frames.get o).slots.get k).toInt * (s.track u k).k + 524288) / 1048576) 8388607))
          else (frames.get o).slots.get k)
      ∧ (∀ m : Fin 32, s.channelSample frames (BitVec.ofNat 32 (1 + 256 * m.val)) = s.mixOutput m)
      ∧ ∀ n : Fin 64, s.channelSample frames (BitVec.ofNat 32 (2 + 256 * n.val)) = s.localInput n)
  ∧ (∀ (x y : Mix) (frames : Bank 4 PlayedFrame) (tables : Bank 4 (Bank 64 TrackEntry)) (holder : Option Present),
      y = x.advance → y = { x with master := x.master.advance, duck := x.duck.advance
                                   sends := x.sends.map fun e => { e with level := e.level.advance } }
      ∧ (x.compute frames tables holder).sends
        = y.sends.filter (fun e => !(e.fading && e.level.ramp.isNone && decide (e.level.value = 0)))
      ∧ (x.active = false → (x.compute frames tables holder).output = 0 ∧ (x.compute frames tables holder).clips = x.clips)
      ∧ (∀ (acc y1 g y2 talk v : Int), x.active = true →
        acc = (y.sends.map fun e => (mixSample frames (tables.get x.controller) (sourceOrigin e.source)
          (sourceSlot e.source)).toInt * e.level.value).sum →
        y1 = (acc + 524288) / 1048576 → g = (y.master.value * y.duck.value + 524288) / 1048576 →
        y2 = (y1 * g + 524288) / 1048576 →
        (holder = none ∧ talk = 0 ∨ (∃ h : Present, holder = some h ∧ (frames.get h.talker).talkSlot = none ∧ talk = 0)
          ∨ ∃ (h : Present) (k : Fin 64), holder = some h ∧ (frames.get h.talker).talkSlot = some k.val
            ∧ talk = ((mixSample frames (tables.get x.controller) h.talker k).toInt * levelCoeff x.talkCode + 524288) / 1048576) →
        v = y2 + talk →
        (x.compute frames tables holder).output = toSample (max (-8388608) (min v 8388607))
        ∧ (x.compute frames tables holder).clips
          = if v < -8388608 ∨ 8388607 < v then min (x.clips + 1) 65535 else x.clips))
  ∧ (∀ (frames : Bank 4 PlayedFrame) (table : Bank 64 TrackEntry) (o : Fin 4) (k : Fin 64), mixSample frames table o k
      = if o = 0 then toSample (max (-8388608)
          (min ((((frames.get o).slots.get k).toInt * (table.get k).k + 524288) / 1048576) 8388607))
        else (frames.get o).slots.get k)
  ∧ (∀ b : Byte, (sourceOrigin b).val = b.toNat / 64 ∧ (sourceSlot b).val = b.toNat % 64)
  ∧ (∀ (last : Option Word) (p : Word) (f : PlayedFrame),
      (f.present = false → streamItems last p f = [.gap])
      ∧ (f.present = true → (last = none ∨ last = some (p - 1)) → streamItems last p f = f.service.map .byte)
      ∧ ∀ l : Word, f.present = true → last = some l → l ≠ p - 1 → streamItems last p f = .gap :: f.service.map .byte)
  ∧ (∀ (m : Message) (id : Nat), id < 4 → m.dest < 16 → m.kind < 256 → m.body.length ≤ 60 →
      ((m.dest = id ∨ m.dest = 15) →
        Assembler.takeAll {} id (m.bytes.map .byte) = ({}, 0, [(m.kind, m.body)]))
      ∧ (m.dest ≠ id → m.dest ≠ 15 → Assembler.takeAll {} id (m.bytes.map .byte) = ({}, 0, []))
      ∧ ∀ a : Assembler, a.state ≠ .hunt → (m.dest = id ∨ m.dest = 15) →
        a.takeAll id (m.bytes.map .byte) = ({}, 1, [(m.kind, m.body)])
        ∧ a.takeAll id [.gap] = ({}, 1, []))
  ∧ (∀ (stage : Bool) (o : Fin 4) (kind n : Nat), usable stage o kind n = true ↔
      ((kind, n) ∈ [(1, 7), (2, 15), (3, 5), (4, 11), (5, 11), (6, 20), (7, 6), (9, 11), (10, 16), (11, 6), (12, 6), (13, 6),
          (14, 14), (15, 8), (16, 5)]
        ∨ kind = 8 ∧ (∃ entries : Nat, entries ≤ 12 ∧ n = 4 + 4 * entries) ∨ kind = 17 ∧ n ≤ 56)
      ∧ ((kind = 1 ∨ kind = 4 ∨ kind = 5) → stage = true) ∧ ((kind = 2 ∨ kind = 6) → o = 0))
  ∧ (∀ (o : Fin 4) (f : Word) (r l q a b c d e g m : Byte) (v w x : Word) (set other : BitVec 64) (h i j : BitVec 16)
      (text : List Byte) (records : List Word),
      messageCommand o f 1 [r, l, q, a, b, c, d] = some (.gainRequest o ⟨r, l, q⟩ a b c d)
      ∧ messageCommand o f 2 ([a, b, c, d, e, g, m] ++ leBytes 4 w.toNat ++ [r, l, q, text.getD 0 0])
        = some (.gainAnnounce a b c d e g m w ⟨r, l, q⟩ (text.getD 0 0))
      ∧ messageCommand o f 3 [r, l, q, a, b] = some (.gainRefused ⟨r, l, q⟩ a b)
      ∧ messageCommand o f 4 ([r, l, q] ++ leBytes 8 set.toNat) = some (.claim o ⟨r, l, q⟩ set)
      ∧ messageCommand o f 5 ([r, l, q] ++ leBytes 8 set.toNat) = some (.release o ⟨r, l, q⟩ set)
      ∧ messageCommand o f 6 (leBytes 8 set.toNat ++ [a, r, l, q] ++ leBytes 8 other.toNat)
        = some (.ownerAnnounce set a ⟨r, l, q⟩ other)
      ∧ messageCommand o f 7 ([a, b] ++ leBytes 4 w.toNat) = some (.reference o a b w)
      ∧ messageCommand o f 8 ([r, l, q, a] ++ records.flatMap fun y => leBytes 4 y.toNat)
        = some (.mixSends o ⟨r, l, q⟩ (a.getLsbD 0) (a.getLsbD 1) records)
      ∧ messageCommand o f 9 ([r, l, q, a, b] ++ leBytes 2 h.toNat ++ leBytes 2 i.toNat ++ leBytes 2 j.toNat)
        = some (.mixSet o ⟨r, l, q⟩ a b h i j)
      ∧ messageCommand o f 10 ([r, l, q] ++ leBytes 4 v.toNat ++ [a] ++ leBytes 4 w.toNat ++ leBytes 4 x.toNat)
        = some (.mixCue o ⟨r, l, q⟩ v a w x)
      ∧ messageCommand o f 11 [r, l, q, a, b, c] = some (.mixAck ⟨r, l, q⟩ a b c)
      ∧ messageCommand o f 12 ([a, b] ++ leBytes 4 w.toNat) = some (.talkOpen o a b w)
      ∧ messageCommand o f 13 ([a, b] ++ leBytes 4 w.toNat) = some (.talkClose o a b w)
      ∧ messageCommand o f 14 ([a, b] ++ leBytes 4 v.toNat ++ leBytes 4 w.toNat ++ leBytes 4 x.toNat)
        = some (.talkState o a b v w x)
      ∧ messageCommand o f 15 ([r, l, q, a] ++ leBytes 4 w.toNat) = some (.loopRequest o ⟨r, l, q⟩ a w)
      ∧ messageCommand o f 16 [r, l, q, a, b] = some (.loopReply ⟨r, l, q⟩ a b)
      ∧ messageCommand o f 17 text = some (.note o f text))
  ∧ (∀ n x : Nat, leBytes n x = (List.range n).map fun k => BitVec.ofNat 8 (x / 256 ^ k))

/-! ### The gain unit (spec 05) -/

/-- GAIN_REQUEST at the stage, the cases of R89: no input, not the owner, owner with nothing pending (announced for q + D + A +
32 with its preamp word, R90, R92, or held with no switch frame where the urgent queue has no room, R73), owner with a change
pending, which makes the request the waiting change and refuses an older one SUPERSEDED: by a GAIN REFUSED to its desk, or as the
outcome of its entry in the stage lane's step (R89, R102). -/
def Obligations.GainRequestIsTaken : Prop :=
  (∀ (s : State) (q : Fin 4) (tag : Tag) (input gain pad phantom : Byte), s.isRunning = true → s.cfg.id = 0 →
    (63 < input.toNat → exec (.gainRequest q tag input gain pad phantom) s = .next s)
    ∧ ∀ (n : Fin 64) (x : Setting) (f : Word), input.toNat = n.val →
      x = { gain := min gain.toNat 60, pad := decide (pad ≠ 0), phantom := decide (phantom ≠ 0) } →
      f = s.clock.frame + BitVec.ofNat 32 (s.merge.delay + s.cfg.latency + 32) →
      ((s.gain.table.get n).owner ≠ some q →
        exec (.gainRequest q tag input gain pad phantom) s = .next (s.reply
          { kind := 3, dest := q.val, body := [tag.requester, tag.lane, tag.seq, BitVec.ofNat 8 n.val, 2] }))
      ∧ ((s.gain.table.get n).owner = some q → (s.gain.table.get n).pending = none → s.svc.mayPlace .urgent = true →
        leaves (.gainRequest q tag input gain pad phantom) s
          { (s.modInput n fun e => { e with
                pending := some { setting := x, requester := .remote q tag, switch := some f, keepsFault := false }
                mute := if x.phantom = e.setting.phantom then e.mute else muteWindow e.mute f }) with
            svc := s.svc.enqueue (announceMessage n x (some q)
              (if x.phantom = (s.gain.table.get n).setting.phantom then .normal else .phantomMute)
              (s.gain.table.get n).orphaned f tag false)
            conv := { s.conv with
              schedule := addWord s.conv.schedule { due := f - BitVec.ofNat 32 s.cfg.latency, input := n, setting := x } } })
      ∧ (∀ c : PendingChange, (s.gain.table.get n).owner = some q → (s.gain.table.get n).pending = some c →
        (s.gain.table.get n).waiting = none →
        leaves (.gainRequest q tag input gain pad phantom) s (s.modInput n fun e => { e with
          waiting := some { setting := x, requester := .remote q tag, keepsFault := false } })))
  ∧ (∀ (s : State) (q : Fin 4) (tag : Tag) (input gain pad phantom : Byte) (n : Fin 64) (x : Setting), s.isRunning = true →
      s.cfg.id = 0 → input.toNat = n.val →
      x = { gain := min gain.toNat 60, pad := decide (pad ≠ 0), phantom := decide (phantom ≠ 0) } →
      (s.gain.table.get n).owner = some q →
      ((s.gain.table.get n).pending = none → s.svc.mayPlace .urgent = false →
        leaves (.gainRequest q tag input gain pad phantom) s
          { (s.modInput n fun e => { e with
                pending := some { setting := x, requester := .remote q tag, switch := none, keepsFault := false } }) with
            svc := s.svc.hold .urgent (.pendingGain n) })
      ∧ (∀ (c : PendingChange) (w : WaitingChange) (taken : State), (s.gain.table.get n).pending = some c →
        (s.gain.table.get n).waiting = some w →
        taken = s.modInput n (fun e => { e with
          waiting := some { setting := x, requester := .remote q tag, keepsFault := false } }) →
        (∀ (o : Fin 4) (old : Tag), w.requester = .remote o old →
          leaves (.gainRequest q tag input gain pad phantom) s (taken.reply {
            kind := 3, dest := o.val, body := [old.requester, old.lane, old.seq, BitVec.ofNat 8 n.val, 10] }))
        ∧ (w.requester = .forgotten → leaves (.gainRequest q tag input gain pad phantom) s taken)
        ∧ (∀ (l : Fin 16) (i : Nat) (j : Join) (es : List InputStep) (e : InputStep), w.requester = .lane l i →
          s.works l j (.setInput es) = true → es[i]? = some e → e.ended? = none →
          ∃ (u : State) (es' : List InputStep), es' = es.set i { e with state := .ended .superseded }
            ∧ u = { taken with lanes := u.lanes, ram := u.ram }
            ∧ (e.outcome < Config.ramSize → readByte u.ram e.outcome = 10)
            ∧ (∀ b : Nat, b ≠ e.outcome → readByte u.ram b = readByte s.ram b)
            ∧ (u.lane l).activity = .working j (.setInput es') ∧ (∀ k : Fin 16, k ≠ l → u.lane k = s.lane k)
            ∧ ((∃ y ∈ es', y.ended? = none) → leaves (.gainRequest q tag input gain pad phantom) s u)
            ∧ ((∀ y ∈ es', y.ended? ≠ none) → leaves (.gainRequest q tag input gain pad phantom) s
              (u.finish l j (inputsStatus es') 0 (BitVec.ofNat 32 (inputsOk es')))))))

/-- CLAIM at the stage: exactly the claimed inputs that are free, the requester's own or orphaned are granted; they take the
requester as owner with orphaned clear; the answer carries them; an empty claim starts a gain refresh (R85, R75). RELEASE at the
stage: exactly the requester's own inputs are released, whatever change of theirs is pending (R86, R75). -/
def Obligations.ClaimAndReleaseMoveOwners : Prop :=
  (∀ (s : State) (q : Fin 4) (tag : Tag) (inputs : BitVec 64), s.isRunning = true → s.cfg.id = 0 →
    ∃ (table : Bank 64 InputEntry) (granted : BitVec 64),
      (inputs ≠ 0 → leaves (.claim q tag inputs) s
        ({ s with gain := { s.gain with table := table } }.reply (ownerMessage inputs (BitVec.ofNat 8 q.val) tag granted)))
      ∧ (inputs = 0 → leaves (.claim q tag inputs) s
        ({ s with gain := { s.gain with table := table } }.reply
          (ownerMessage 0 (BitVec.ofNat 8 q.val) tag 0)).startGainRefresh)
      ∧ ∀ n : Fin 64,
        granted.getLsbD n.val = (inputs.getLsbD n.val && (decide ((s.gain.table.get n).owner = none)
          || decide ((s.gain.table.get n).owner = some q) || (s.gain.table.get n).orphaned))
        ∧ table.get n = if granted.getLsbD n.val = true then { s.gain.table.get n with owner := some q, orphaned := false }
            else s.gain.table.get n)
  ∧ (∀ (s : State) (q : Fin 4) (tag : Tag) (inputs : BitVec 64), s.isRunning = true → s.cfg.id = 0 →
    ∃ (table : Bank 64 InputEntry) (released : BitVec 64),
      leaves (.release q tag inputs) s
        ({ s with gain := { s.gain with table := table } }.reply (ownerMessage inputs 255 tag released))
      ∧ ∀ n : Fin 64,
        released.getLsbD n.val = (inputs.getLsbD n.val && decide ((s.gain.table.get n).owner = some q))
        ∧ table.get n = (if released.getLsbD n.val = true then { s.gain.table.get n with owner := none, orphaned := false }
            else s.gain.table.get n)
        ∧ (table.get n).pending = (s.gain.table.get n).pending)

/-- GAIN_ANNOUNCE, OWNER_ANNOUNCE and REFERENCE taken at a desk, answering no request of its own: the mirror entry takes the
owner at once and the change as its scheduled one; the result set's entries take the owner; the sender's table takes the
scheduled reference (R84, R87, R98).
Whatever it answers, a GAIN_ANNOUNCE with good fields so changes its entry; while the mirror is stale it sets the entry's fresh mark,
and the last fresh mark ends the staleness; a replaced change that carried this desk's tag, with another switch frame, ends its
entry SUPERSEDED; a field out of range discards the message (R83, R84, R87, R98, R102). -/
def Obligations.DeskTakesAnnouncements : Prop :=
  (∀ (s : State), s.isRunning = true →
    (∀ (input gain pad phantom owner state orphaned : Byte) (switch : Word) (tag : Tag) (refresh : Byte) (n : Fin 64)
        (x : InputState), s.cfg.id ≠ 0 → s.answered? tag 2 = none → input.toNat = n.val → state.toNat = x.code →
        (owner.toNat ≤ 3 ∨ owner = 255) → s.gain.stale = false →
        (∀ c : Scheduled, (s.gain.mirror.get n).scheduled = some c → c.tag.requester.toNat ≠ s.cfg.id.val) →
        leaves (.gainAnnounce input gain pad phantom owner state orphaned switch tag refresh) s
          (s.modMirror n fun m => { m with
            owner := index? 4 owner.toNat, orphaned := decide (orphaned ≠ 0)
            scheduled := some {
              setting := { gain := min gain.toNat 60, pad := decide (pad ≠ 0), phantom := decide (phantom ≠ 0) }
              state := x, switch := switch, tag := tag, deferred := earlier switch s.merge.point
              counts := decide (refresh = 0) } }))
    ∧ (∀ (inputs : BitVec 64) (owner : Byte) (tag : Tag) (result : BitVec 64), s.cfg.id ≠ 0 → s.answered? tag 6 = none →
        (owner.toNat ≤ 7 ∨ owner = 255) →
        ∃ mirror : Bank 64 MirrorEntry,
          leaves (.ownerAnnounce inputs owner tag result) s { s with gain := { s.gain with mirror := mirror } }
          ∧ ∀ n : Fin 64, mirror.get n = if result.getLsbD n.val = true then
              { s.gain.mirror.get n with
                owner := if owner = 255 then none else index? 4 (owner.toNat % 4), orphaned := decide (4 ≤ owner.toNat ∧ owner ≠ 255) }
            else s.gain.mirror.get n)
    ∧ (∀ (sender : Fin 4) (input value : Byte) (switch : Word) (n : Fin 64), input.toNat = n.val →
        leaves (.reference sender input value switch) s (s.modTrack sender n fun t => { t with
          scheduled := some {
            value := if value = 127 then none else some (max (-20) (min value.toInt 60))
            switch := switch, deferred := earlier switch s.merge.point } })))
  ∧ (∀ (s v : State) (input gain pad phantom owner state orphaned : Byte) (switch : Word) (tag : Tag) (refresh : Byte) (n : Fin 64)
      (x : InputState), input.toNat = n.val → state.toNat = x.code → (owner.toNat ≤ 3 ∨ owner = 255) →
      v = { s with gain := { s.gain with mirror := v.gain.mirror, stale := v.gain.stale } } →
      (∀ k : Fin 64, k ≠ n → v.gain.mirror.get k = s.gain.mirror.get k) →
      v.gain.mirror.get n = { s.gain.mirror.get n with
        owner := index? 4 owner.toNat, orphaned := decide (orphaned ≠ 0), fresh := s.gain.stale || (s.gain.mirror.get n).fresh
        scheduled := some {
          setting := { gain := min gain.toNat 60, pad := decide (pad ≠ 0), phantom := decide (phantom ≠ 0) }
          state := x, switch := switch, tag := tag, deferred := earlier switch s.merge.point, counts := decide (refresh = 0) } } →
      (v.gain.stale = true ↔ s.gain.stale = true ∧ ∃ k : Fin 64, (v.gain.mirror.get k).fresh = false) →
      ((∀ c : Scheduled, (s.gain.mirror.get n).scheduled = some c → c.tag.requester.toNat ≠ s.cfg.id.val ∨ c.switch = switch) →
        s.takeAnnounce input gain pad phantom owner state orphaned switch tag refresh = v)
      ∧ (∀ (c : Scheduled) (l : Fin 16) (j : Join) (e : InputStep), (s.gain.mirror.get n).scheduled = some c →
        c.tag.requester.toNat = s.cfg.id.val → c.tag.lane.toNat = l.val → c.switch ≠ switch →
        s.works l j (.setInput [e]) = true → e.state = .switching c.tag.seq c.switch → ∃ u : State,
        s.takeAnnounce input gain pad phantom owner state orphaned switch tag refresh = u.finish l j .superseded 0 0
        ∧ u = { v with lanes := u.lanes, ram := storeBytes s.ram e.outcome [10] } ∧ (u.lane l).done = (s.lane l).done
        ∧ ∀ k : Fin 16, k ≠ l → u.lane k = s.lane k))
  ∧ (∀ (s : State) (input gain pad phantom owner state orphaned : Byte) (switch : Word) (tag : Tag) (refresh : Byte),
      (s.isRunning = true → s.cfg.id ≠ 0 → s.answered? tag 2 = none →
        leaves (.gainAnnounce input gain pad phantom owner state orphaned switch tag refresh) s
          (s.takeAnnounce input gain pad phantom owner state orphaned switch tag refresh))
      ∧ ((63 < input.toNat ∨ 2 < state.toNat ∨ (3 < owner.toNat ∧ owner ≠ 255)) →
        s.takeAnnounce input gain pad phantom owner state orphaned switch tag refresh = s)
      ∧ (∀ inputs result : BitVec 64, s.answered? tag 6 = none → 7 < owner.toNat → owner ≠ 255 →
        exec (.ownerAnnounce inputs owner tag result) s = .next s)
      ∧ (∀ (sender : Fin 4) (value : Byte), 63 < input.toNat → exec (.reference sender input value switch) s = .next s))

/-- SCHEDULED_CHANGE_APPLY at a desk and PENDING_CHANGE_APPLY at the stage: at the playout of the switch frame the setting is taken
and the change removed; where the effective gain changes, every table's coefficient of the input jumps to its new value with its
ramp dropped, and otherwise no coefficient moves; a change applied late that moves the effective gain is counted (R84, R91, R97). A
mirror takes the announced state, but for a NORMAL while it times a mute, and an announced PHANTOM MUTE times it to 9,600 frames
behind the switch frame (R84, R92; that a refresh does so too is DEDUCED, log entry 44); at the stage a change of phantom puts the
end of the mute window there and keeps its first frame (R92). After a frame jump or a change of D a desk tests each scheduled change
and reference against the new playout point: an earlier one is applied at the next playout, a change then counting as late, and any
other waits for the playout of its frame (R94).
When a change is due and when it counts as late are log entries 21 and 22.
A waiting change is then promoted: where its requester is the owner, it becomes the pending change and is announced for a switch
frame of its own, or held for room; else it is refused NOT OWNER, and no change is left pending (R90 to R92).
Such a change hands LATE GAIN to the fault log, with input, switch frame, playout point and the count (R167, R168). -/
def Obligations.SwitchAppliesGain : Prop :=
  (((∀ (s : State) (n : Fin 64), s.isRunning = true → s.merge.playedNow = false →
    (∀ c : Scheduled, s.cfg.id ≠ 0 → (s.gain.mirror.get n).scheduled = some c →
      (c.deferred = true ∨ later c.switch (s.clock.frame - BitVec.ofNat 32 s.merge.delay) = false) →
      ∃ u : State, leaves (.scheduledChangeApply n) s u
        ∧ u.gain.mirror.get n = { s.gain.mirror.get n with
            setting := c.setting, scheduled := none
            state := if c.state = .normal ∧ (s.gain.mirror.get n).state = .phantomMute ∧ (s.gain.mirror.get n).muteEnd ≠ none then
              .phantomMute else c.state
            muteEnd := if c.state = .phantomMute then some (c.switch + 9600) else (s.gain.mirror.get n).muteEnd }
        ∧ (∀ k : Fin 64, k ≠ n → u.gain.mirror.get k = s.gain.mirror.get k)
        ∧ (c.setting.effective = (s.gain.mirror.get n).setting.effective →
            u.gain.tracking = s.gain.tracking ∧ u.gain.lateGains = s.gain.lateGains)
        ∧ (c.setting.effective ≠ (s.gain.mirror.get n).setting.effective →
            (∀ o : Fin 4, (u.track o n).k = targetOf (s.track o n).reference c.setting.effective
              ∧ (u.track o n).ramp = none ∧ (u.track o n).reference = (s.track o n).reference)
            ∧ u.gain.lateGains = s.gain.lateGains + if c.deferred = true ∧ c.counts = true then 1 else 0)
        ∧ u.merge = s.merge ∧ u.clock = s.clock ∧ u.mix = s.mix ∧ u.svc = s.svc ∧ u.conv = s.conv)
    ∧ (∀ (c : PendingChange) (f : Word), s.cfg.id = 0 → (s.gain.table.get n).pending = some c → c.switch = some f →
      (s.gain.table.get n).waiting = none → later f (s.clock.frame - BitVec.ofNat 32 s.merge.delay) = false →
      ∃ u : State, leaves (.pendingChangeApply n) s u
        ∧ u.gain.table.get n = { s.gain.table.get n with
            setting := c.setting, pending := none
            state := if c.keepsFault then .phantomFault
              else if c.setting.phantom ≠ (s.gain.table.get n).setting.phantom then .phantomMute
              else if (s.gain.table.get n).state = .phantomMute then .phantomMute else .normal }
        ∧ (∀ k : Fin 64, k ≠ n → u.gain.table.get k = s.gain.table.get k)
        ∧ (c.setting.effective = (s.gain.table.get n).setting.effective → u.gain.tracking = s.gain.tracking)
        ∧ (c.setting.effective ≠ (s.gain.table.get n).setting.effective →
            ∀ o : Fin 4, (u.track o n).k = targetOf (s.track o n).reference c.setting.effective
              ∧ (u.track o n).ramp = none ∧ (u.track o n).reference = (s.track o n).reference)
        ∧ u.merge = s.merge ∧ u.clock = s.clock ∧ u.mix = s.mix ∧ u.svc = s.svc ∧ u.conv = s.conv))
  ∧ (∀ (s : State) (n : Fin 64) (c : Scheduled), s.isRunning = true → s.cfg.id ≠ 0 →
      (s.gain.mirror.get n).scheduled = some c → c.deferred = false →
      later c.switch (s.clock.frame - BitVec.ofNat 32 s.merge.delay) = true → exec (.scheduledChangeApply n) s = .next s)
  ∧ (∀ (s : State) (point : Word),
      (s.isStage = true → s.retestSwitches point = s)
      ∧ (s.isStage = false → s.retestSwitches point
            = { s with gain := { s.gain with mirror := (s.retestSwitches point).gain.mirror
                                             tracking := (s.retestSwitches point).gain.tracking } }
        ∧ (∀ n : Fin 64, ((s.gain.mirror.get n).scheduled = none →
              (s.retestSwitches point).gain.mirror.get n = s.gain.mirror.get n)
          ∧ ∀ c : Scheduled, (s.gain.mirror.get n).scheduled = some c →
            (earlier c.switch point = true → (s.retestSwitches point).gain.mirror.get n
              = { s.gain.mirror.get n with scheduled := some { c with deferred := true, counts := true } })
            ∧ (earlier c.switch point = false → (s.retestSwitches point).gain.mirror.get n
              = { s.gain.mirror.get n with scheduled := some { c with deferred := false } }))
        ∧ ∀ (o : Fin 4) (n : Fin 64), ((s.track o n).scheduled = none → (s.retestSwitches point).track o n = s.track o n)
          ∧ ∀ r : ScheduledRef, (s.track o n).scheduled = some r → (s.retestSwitches point).track o n
              = { s.track o n with scheduled := some { r with deferred := earlier r.switch point } })
      ∧ ∀ d : Nat, (d = s.merge.delay → s.changeDelay d = s)
        ∧ (d ≠ s.merge.delay → s.changeDelay d = State.retestSwitches { s with merge := { s.merge with delay := d } }
            (s.clock.frame - BitVec.ofNat 32 d + if s.merge.playedNow then 1 else 0))))
  ∧ (∀ (s : State) (n : Fin 64) (c : PendingChange) (w : WaitingChange) (f g : Word) (e : InputEntry) (moved : InputState),
      s.isRunning = true → s.cfg.id = 0 → s.merge.playedNow = false → e = s.gain.table.get n → e.pending = some c →
      c.switch = some f → e.waiting = some w → later f (s.clock.frame - BitVec.ofNat 32 s.merge.delay) = false →
      g = s.clock.frame + BitVec.ofNat 32 (s.merge.delay + s.cfg.latency + 32) →
      moved = (if c.keepsFault then .phantomFault else if c.setting.phantom ≠ e.setting.phantom then .phantomMute
        else if e.state = .phantomMute then .phantomMute else .normal) →
      ∃ u : State, leaves (.pendingChangeApply n) s u
        ∧ (∀ k : Fin 64, k ≠ n → u.gain.table.get k = s.gain.table.get k)
        ∧ (c.setting.effective = e.setting.effective → u.gain.tracking = s.gain.tracking)
        ∧ u.merge = s.merge ∧ u.clock = s.clock ∧ u.mix = s.mix
        ∧ (e.owner = some w.requester.id → s.svc.mayPlace .urgent = true →
          u.gain.table.get n = { e with
            setting := c.setting, state := moved, waiting := none
            pending := some { setting := w.setting, requester := w.requester, switch := some g, keepsFault := w.keepsFault }
            mute := if w.setting.phantom = c.setting.phantom then e.mute else muteWindow e.mute g }
          ∧ u.svc = s.svc.enqueue (announceMessage n w.setting e.owner
            (if w.keepsFault then .phantomFault else if w.setting.phantom = c.setting.phantom then .normal else .phantomMute)
            e.orphaned g w.requester.tag false)
          ∧ u.conv = { s.conv with schedule := addWord s.conv.schedule {
              due := g - BitVec.ofNat 32 s.cfg.latency, input := n, setting := w.setting } })
        ∧ (e.owner = some w.requester.id → s.svc.mayPlace .urgent = false →
          u.gain.table.get n = { e with
            setting := c.setting, state := moved, waiting := none
            pending := some { setting := w.setting, requester := w.requester, switch := none, keepsFault := w.keepsFault } }
          ∧ u.svc = s.svc.hold .urgent (.pendingGain n) ∧ u.conv = s.conv)
        ∧ (e.owner ≠ some w.requester.id →
          u.gain.table.get n = { e with setting := c.setting, state := moved, pending := none, waiting := none }
          ∧ u.conv = s.conv
          ∧ (∀ (o : Fin 4) (tag : Tag), w.requester = .remote o tag → u.svc = s.svc.reply {
            kind := 3, dest := o.val, body := [tag.requester, tag.lane, tag.seq, BitVec.ofNat 8 n.val, 2] })
          ∧ ((∀ (o : Fin 4) (tag : Tag), w.requester ≠ .remote o tag) → u.svc = s.svc)
          ∧ (∀ (l : Fin 16) (i : Nat) (j : Join) (es : List InputStep) (y : InputStep), w.requester = .lane l i →
            s.works l j (.setInput es) = true → es[i]? = some y → y.ended? = none →
            (∀ (k : Fin 16) (p : Nat), c.requester ≠ .lane k p) → (∃ z ∈ es.eraseIdx i, z.ended? = none) →
            (u.lane l).activity = .working j (.setInput (es.set i { y with state := .ended .notOwner }))))))
  ∧ (∀ (s : State) (n : Fin 64) (c : Scheduled), s.isRunning = true → s.cfg.id ≠ 0 → s.merge.playedNow = false →
      (s.gain.mirror.get n).scheduled = some c →
      (c.deferred = true ∨ later c.switch (s.clock.frame - BitVec.ofNat 32 s.merge.delay) = false) →
      ∃ w : State, w = { s with gain := w.gain }
        ∧ (c.setting.effective ≠ (s.gain.mirror.get n).setting.effective → c.deferred = true → c.counts = true →
          w.gain.lateGains = s.gain.lateGains + 1 ∧ leaves (.scheduledChangeApply n) s
            ((w.fault .lateGain none (some 0) none [BitVec.ofNat 32 n.val, c.switch,
              s.clock.frame - BitVec.ofNat 32 s.merge.delay, w.gain.lateGains]).endSwitched n c.switch))
        ∧ ((c.setting.effective = (s.gain.mirror.get n).setting.effective ∨ c.deferred = false ∨ c.counts = false) →
          w.gain.lateGains = s.gain.lateGains ∧ leaves (.scheduledChangeApply n) s (w.endSwitched n c.switch)))
  ∧ (∀ (first last f : Word), muteWindow none f = some (f, f + 9600)
      ∧ muteWindow (some (first, last)) f = some (first, f + 9600))

/-- PHANTOM_MUTE_END at its end frame's playout, and SCHEDULED_REFERENCE_APPLY: the mute goes and the state is NORMAL unless
in fault; a new reference starts a 64-step ramp from the present coefficient, takes it at once where the effective gain
changes at the same playout, and does nothing more where it is the one held (R92, R97, R98).
When a change is due is log entry 22. -/
def Obligations.MutesEndAndReferencesApply : Prop :=
  ∀ (s : State) (n : Fin 64), s.isRunning = true → s.merge.playedNow = false →
    (∀ (first last : Word), s.cfg.id = 0 → (s.gain.table.get n).mute = some (first, last) →
      later last (s.clock.frame - BitVec.ofNat 32 s.merge.delay) = false →
      leaves (.phantomMuteEnd n) s (s.modInput n fun e => { e with
        mute := none, state := if e.state = .phantomFault then .phantomFault else .normal }))
    ∧ (∀ last : Word, s.cfg.id ≠ 0 → (s.gain.mirror.get n).muteEnd = some last →
      later last (s.clock.frame - BitVec.ofNat 32 s.merge.delay) = false →
      leaves (.phantomMuteEnd n) s (s.modMirror n fun m => { m with
        muteEnd := none, state := if m.state = .phantomFault then .phantomFault else .normal }))
    ∧ (∀ (o : Fin 4) (r : ScheduledRef), (s.track o n).scheduled = some r →
      (r.deferred = true ∨ later r.switch (s.clock.frame - BitVec.ofNat 32 s.merge.delay) = false) →
      ∃ u : State, leaves (.scheduledReferenceApply o n) s u
        ∧ (r.value = (s.track o n).reference → u.track o n = { s.track o n with scheduled := none })
        ∧ (r.value ≠ (s.track o n).reference → n ∉ s.gain.switched → u.track o n = { s.track o n with
            reference := r.value, scheduled := none, ramp := some ((s.track o n).k, 0)
            limited := limitedOf r.value (s.setting n).effective })
        ∧ (r.value ≠ (s.track o n).reference → n ∈ s.gain.switched → u.track o n = { s.track o n with
            reference := r.value, scheduled := none, ramp := none, k := targetOf r.value (s.setting n).effective
            limited := limitedOf r.value (s.setting n).effective })
        ∧ (∀ (p : Fin 4) (k : Fin 64), p ≠ o ∨ k ≠ n → u.track p k = s.track p k)
        ∧ u.gain = { s.gain with tracking := u.gain.tracking } ∧ u.svc = s.svc ∧ u.mix = s.mix)

/-- A ramp's course and its end: step k of a coefficient ramp gives old + trunc((K(c) - old) × k / 64), and step 64 gives K(c)
with the ramp gone; a mix ramp of length N likewise; a map fade moves one step of 48 a frame, and the source switches at the
frame that reaches 0 (R32, R61, R97, R107). A level that is retargeted keeps a ramp that
runs to the same target, starts one from its present value for another, and starts none where it stands at the target (R107). A
compensation jumps to its coefficient at a change of E; a new reference starts a ramp, jumps where E changes at the same playout, and
does nothing where it is the one held (R97). The coefficient of a level code is round(2^20 × 10^((code - 900)/200)), 0 for code 0
(R106), and that of c dB round(2^20 × 10^(c/20)), c the reference less E, clamped to -40 to 20; untracked it is 2^20 (R96). -/
def Obligations.FadesAndRampsAreLinear : Prop :=
  (∀ (t : TrackEntry) (e : Int) (old step : Nat), t.ramp = some (old, step) →
    (step + 1 < 64 → t.advance e = { t with
      k := ((old : Int) + Int.tdiv (((targetOf t.reference e : Int) - old) * (step + 1)) 64).toNat
      ramp := some (old, step + 1) })
    ∧ (64 ≤ step + 1 → t.advance e = { t with k := targetOf t.reference e, ramp := none }))
  ∧ (∀ (start target : Int) (length k : Nat), k < length →
    (k + 1 < length → ∀ v : Int,
      Level.advance { value := v, ramp := some { start := start, target := target, step := k, length := length } }
      = { value := start + Int.tdiv ((target - start) * (k + 1)) length
          ramp := some { start := start, target := target, step := k + 1, length := length } })
    ∧ (k + 1 = length → ∀ v : Int,
      Level.advance { value := v, ramp := some { start := start, target := target, step := k, length := length } }
      = { value := target, ramp := none }))
  ∧ (∀ (old new : SlotSource) (k : Nat),
       (k < 48 → (Fade.step^[k]) { current := old, next := some new, gain := 48 }
         = { current := old, next := some new, gain := 48 - k })
       ∧ (48 ≤ k → k ≤ 96 → (Fade.step^[k]) { current := old, next := some new, gain := 48 }
         = { current := new, next := none, gain := k - 48 }))
  ∧ (∀ (l : Level) (target : Int) (length : Nat),
      (∀ r : Ramp, l.ramp = some r → r.target = target → l.retarget target length = l)
      ∧ (l.ramp = none → l.value = target → l.retarget target length = l)
      ∧ ((∃ r : Ramp, l.ramp = some r ∧ r.target ≠ target) ∨ (l.ramp = none ∧ l.value ≠ target) →
        l.retarget target length
          = { value := l.value, ramp := some { start := l.value, target := target, step := 0, length := length } }))
  ∧ (∀ (t : TrackEntry) (e : Int) (switched : Bool) (r : Option Int),
      t.onGain e = { t with k := targetOf t.reference e, ramp := none, limited := limitedOf t.reference e }
      ∧ (r = t.reference → t.onReference switched e r = { t with scheduled := none })
      ∧ (r ≠ t.reference → switched = true → t.onReference switched e r
          = { reference := r, k := targetOf r e, ramp := none, limited := limitedOf r e, scheduled := none })
      ∧ (r ≠ t.reference → switched = false → t.onReference switched e r
          = { reference := r, k := t.k, ramp := some (t.k, 0), limited := limitedOf r e, scheduled := none }))
  ∧ (∀ e : Int, targetOf none e = 1048576 ∧ limitedOf none e = false
      ∧ ∀ r : Int, targetOf (some r) e = gainCoeff (max (-40) (min (r - e) 20))
        ∧ limitedOf (some r) e = decide (r - e < -40 ∨ 20 < r - e))
  ∧ (levelCoeff 0 = 0 ∧ levelCoeff 780 = 263390 ∧ levelCoeff 840 = 525533 ∧ levelCoeff 900 = 1048576
      ∧ levelCoeff 1000 = 3315888 ∧ gainCoeff (-40) = 10486 ∧ gainCoeff (-12) = 263390 ∧ gainCoeff (-6) = 525533
      ∧ gainCoeff 0 = 1048576 ∧ gainCoeff 20 = 10485760)
  ∧ (∀ code k : Nat, 1 ≤ code → code ≤ 1000 → levelCoeff code = k →
      (2 * k - 1) ^ 200 * 10 ^ (900 - code) ≤ 2 ^ 4200 * 10 ^ (code - 900)
      ∧ 2 ^ 4200 * 10 ^ (code - 900) < (2 * k + 1) ^ 200 * 10 ^ (900 - code))
  ∧ (∀ (c : Int) (k : Nat), -40 ≤ c → c ≤ 20 → gainCoeff c = k →
      (2 * k - 1) ^ 200 * 10 ^ (-10 * c).toNat ≤ 2 ^ 4200 * 10 ^ (10 * c).toNat
      ∧ 2 ^ 4200 * 10 ^ (10 * c).toNat < (2 * k + 1) ^ 200 * 10 ^ (-10 * c).toNat)

/-- PHANTOM_SHORT_REPORT: a good report for an input whose last word carried phantom on sends a word with phantom off ahead of
the schedule, turns the table's phantom off with state PHANTOM FAULT, announces it by the pending change, and writes a fault
record; a report with bad parity or of another kind, one for an input whose last word carried phantom off, one already in
PHANTOM FAULT with phantom off, one at a desk and one while not RUNNING change nothing (R93, R187, R188). An announce without room is
held for its input, in place of one held before, and its input waits in the urgent room list, where an input that waits keeps its
place (R73, R93).
The two bytes behind the 255 of a tag of none are log entry 43's.
The record is PHANTOM FAULT with the input and the gain of the last word sent (R167, R168). -/
def Obligations.PhantomShortActs : Prop :=
  ((∀ (s : State) (report : BitVec 16), s.isRunning = true → s.cfg.id = 0 →
    (∀ n : Fin 64, shortReport report = some n → (s.conv.lastWords.get n).phantom = true →
      ((s.gain.table.get n).state ≠ .phantomFault ∨ (s.gain.table.get n).setting.phantom = true) →
      ∃ u : State, leaves (.phantomShortReport report) s u
        ∧ (u.gain.table.get n).setting = { (s.gain.table.get n).setting with phantom := false }
        ∧ (u.gain.table.get n).state = .phantomFault ∧ (u.gain.table.get n).owner = (s.gain.table.get n).owner
        ∧ (∀ c : PendingChange, (s.gain.table.get n).pending = some c → (u.gain.table.get n).pending
            = some { c with setting := { c.setting with phantom := false }, keepsFault := true })
        ∧ (∀ k : Fin 64, k ≠ n → u.gain.table.get k = s.gain.table.get k)
        ∧ u.conv.schedule.head? = some {
            due := s.clock.frame, input := n, setting := { s.conv.lastWords.get n with phantom := false } }
        ∧ (u.faultLog.written = s.faultLog.written + 1 ∨ u.faultLog.dropped = s.faultLog.dropped + 1)
        ∧ u.gain.tracking = s.gain.tracking ∧ u.merge = s.merge ∧ u.clock = s.clock ∧ u.mix = s.mix)
    ∧ ((popCount report % 2 = 0 ∨ report.extractLsb' 8 2 ≠ 1) → exec (.phantomShortReport report) s = .next s))
  ∧ (∀ (s : State) (report : BitVec 16) (n : Fin 64), shortReport report = some n →
      (s.conv.lastWords.get n).phantom = false
        ∨ (s.gain.table.get n).state = .phantomFault ∧ (s.gain.table.get n).setting.phantom = false →
      exec (.phantomShortReport report) s = .next s)
  ∧ (∀ (s : State) (report : BitVec 16), s.cfg.id ≠ 0 ∨ s.isRunning = false → exec (.phantomShortReport report) s = .next s)
  ∧ (∀ (report : BitVec 16) (n : Fin 64), shortReport report = some n ↔ popCount report % 2 = 1
      ∧ report.extractLsb' 8 2 = 1 ∧ (report.extractLsb' 10 6).toNat = n.val)
  ∧ (∀ (s : State) (report : BitVec 16) (n : Fin 64) (off : Setting → Setting), s.isRunning = true → s.cfg.id = 0 →
      shortReport report = some n → (s.conv.lastWords.get n).phantom = true →
      ((s.gain.table.get n).state ≠ .phantomFault ∨ (s.gain.table.get n).setting.phantom = true) →
      (∀ x : Setting, off x = { x with phantom := false }) → s.svc.mayPlace .urgent = true →
      ∃ u : State, leaves (.phantomShortReport report) s u ∧ u.logged s
        ∧ ((s.gain.table.get n).pending = none → u.svc = s.svc.enqueue (announceMessage n
            (off (s.gain.table.get n).setting) (s.gain.table.get n).owner .phantomFault (s.gain.table.get n).orphaned
            s.clock.frame noTag false))
        ∧ (∀ (c : PendingChange) (f : Word), (s.gain.table.get n).pending = some c → c.switch = some f →
          u.svc = s.svc.enqueue (announceMessage n (off c.setting) (s.gain.table.get n).owner .phantomFault
            (s.gain.table.get n).orphaned f c.requester.tag false))
        ∧ (∀ c : PendingChange, (s.gain.table.get n).pending = some c → c.switch = none → u.svc = s.svc)
        ∧ (∀ w : WaitingChange, (s.gain.table.get n).waiting = some w →
          (u.gain.table.get n).waiting = some { w with setting := off w.setting, keepsFault := true })))
  ∧ (∀ (s : State) (report : BitVec 16) (n : Fin 64) (off : Setting → Setting) (m : Message), s.isRunning = true → s.cfg.id = 0 →
      shortReport report = some n → (s.conv.lastWords.get n).phantom = true →
      ((s.gain.table.get n).state ≠ .phantomFault ∨ (s.gain.table.get n).setting.phantom = true) →
      (∀ x : Setting, off x = { x with phantom := false }) → s.svc.mayPlace .urgent = false →
      ((s.gain.table.get n).pending = none ∧ m = announceMessage n (off (s.gain.table.get n).setting)
          (s.gain.table.get n).owner .phantomFault (s.gain.table.get n).orphaned s.clock.frame noTag false
        ∨ ∃ (c : PendingChange) (f : Word), (s.gain.table.get n).pending = some c ∧ c.switch = some f
          ∧ m = announceMessage n (off c.setting) (s.gain.table.get n).owner .phantomFault
            (s.gain.table.get n).orphaned f c.requester.tag false) →
      ∃ u : State, leaves (.phantomShortReport report) s u ∧ u.logged s
        ∧ u.gain.heldFaults = s.gain.heldFaults.set n (some m)
        ∧ u.svc = { s.svc with urgentRoom := if Held.faultAnnounce n ∈ s.svc.urgentRoom then s.svc.urgentRoom
            else s.svc.urgentRoom ++ [.faultAnnounce n] })
  ∧ (∀ (s : State) (report : BitVec 16) (n : Fin 64), s.isRunning = true → s.cfg.id = 0 → shortReport report = some n →
      (s.conv.lastWords.get n).phantom = true →
      ((s.gain.table.get n).state ≠ .phantomFault ∨ (s.gain.table.get n).setting.phantom = true) →
      ∃ w : State, w = { s with gain := w.gain, svc := w.svc, conv := w.conv }
        ∧ leaves (.phantomShortReport report) s (w.fault .phantomFault none (some 0) none
          [BitVec.ofNat 32 n.val, BitVec.ofNat 32 (s.conv.lastWords.get n).gain])
        ∧ w.conv = { s.conv with schedule :=
            { due := s.clock.frame, input := n, setting := { s.conv.lastWords.get n with phantom := false } }
              :: s.conv.schedule.map fun x => if x.input = n then { x with setting := { x.setting with phantom := false } } else x })

/-- SET_INPUT: a bad input, a mirror that is stale or cut off, or an owner that refuses it for any entry's input refuses the whole
step: at the stage any owner but 0, none included, at a desk any other terminal. A desk's good entries, of inputs that are its own
or no one's, are marked open and sent to the stage in payload order, each as one tagged request, which waits where there is no entry
or no room. At the stage a single entry is taken by R89 with its outcome open: pending and announced, or held for room, or waiting
behind the pending change; of two entries for one input the second waits behind the first (R101, R102, R89, R90, R17, R76). Of any
number of good entries a desk gives as many requests as there are free entries and free places, in payload order, and then waits for
the one it lacks; the stage takes them all in payload order, and a third for one input supersedes the second (R89, R101, R102, R76).
Where its rule gives no count, the result count 0 of a refused step is the model's choice (log entry 11); the tag of none is log entry
43's, and so are log entry 57's the bytes of a GAIN REQUEST: the gain clamped to 60, pad and phantom as 0 or 1. -/
def Obligations.SetInputBegins : Prop :=
  (∀ (s : State) (l : Fin 16) (a : Nat), s.hasStep l 6 a = true →
    (((chunks 8 (s.stepAt a).payload).any fun b => decide (63 < (byteAt b 0).toNat)) = true →
      exec (.setInput l) s = .next (s.finish l (s.stepAt a) .badStep 16 0))
    ∧ ((s.stepAt a).payload.length < 8 → exec (.setInput l) s = .next (s.finish l (s.stepAt a) .ok 0 0))
    ∧ (∀ n : Fin 64, 8 ≤ (s.stepAt a).payload.length → (s.stepAt a).payload.length < 16 →
      (byteAt (s.stepAt a).payload 0).toNat = n.val → s.cfg.id ≠ 0 →
      ((s.gain.stale = true ∨ s.reachable 0 = false) →
        exec (.setInput l) s = .next (s.finish l (s.stepAt a) .unreachable 0 0))
      ∧ (s.gain.stale = false → s.reachable 0 = true → (s.gain.mirror.get n).owner ≠ none →
        (s.gain.mirror.get n).owner ≠ some s.cfg.id →
        exec (.setInput l) s = .next (s.finish l (s.stepAt a) .notOwner 0 0))
      ∧ (s.gain.stale = false → s.reachable 0 = true → ((s.gain.mirror.get n).owner = some s.cfg.id ∨ (s.gain.mirror.get n).owner = none) →
        s.entryFree = true → s.svc.mayPlace .normal = true → s.waits l = false →
        ∃ t : State, exec (.setInput l) s = .next t
          ∧ t = { s with lanes := t.lanes, ram := t.ram, svc := t.svc }
          ∧ t.svc = { s.svc with
              normal := s.svc.normal ++ [{
                kind := 1, dest := 0, producer := .request l ((s.lane l).given + 1)
                body := [BitVec.ofNat 8 s.cfg.id.val, BitVec.ofNat 8 l.val, (s.lane l).seq + 1, BitVec.ofNat 8 n.val,
                  BitVec.ofNat 8 (min (byteAt (s.stepAt a).payload 1).toNat 60),
                  if byteAt (s.stepAt a).payload 2 = 0 then 0 else 1, if byteAt (s.stepAt a).payload 3 = 0 then 0 else 1] }]
              requests := s.svc.requests ++ [{
                lane := l, number := (s.lane l).given + 1, target := 0, kind := 1, state := .queued }] }
          ∧ (t.lane l).given = (s.lane l).given + 1
          ∧ (∀ k : Fin 16, k ≠ l → t.lane k = s.lane k)
          ∧ readByte t.ram ((s.header a).payload + 4) = 255
          ∧ ∀ b : Nat, b ≠ (s.header a).payload + 4 → readByte t.ram b = readByte s.ram b)))
  ∧ (∀ (s : State) (l : Fin 16) (a : Nat) (es : List (List Byte)), s.hasStep l 6 a = true →
      es = chunks 8 (s.stepAt a).payload → es ≠ [] → (∀ b ∈ es, (byteAt b 0).toNat < 64) →
      (s.cfg.id ≠ 0 → (s.gain.stale = true ∨ s.reachable 0 = false) →
        exec (.setInput l) s = .next (s.finish l (s.stepAt a) .unreachable 0 0))
      ∧ (s.cfg.id ≠ 0 → s.gain.stale = false → s.reachable 0 = true →
        (∃ b ∈ es, ∃ (n : Fin 64) (o : Fin 4), (byteAt b 0).toNat = n.val ∧ (s.gain.mirror.get n).owner = some o
          ∧ o ≠ s.cfg.id) →
        exec (.setInput l) s = .next (s.finish l (s.stepAt a) .notOwner 0 0))
      ∧ (s.cfg.id = 0 →
        (∃ b ∈ es, ∃ n : Fin 64, (byteAt b 0).toNat = n.val ∧ (s.gain.table.get n).owner ≠ some 0) →
        exec (.setInput l) s = .next (s.finish l (s.stepAt a) .notOwner 0 0)))
  ∧ (∀ (s : State) (l : Fin 16) (a : Nat) (b : List Byte) (n : Fin 64), s.hasStep l 6 a = true →
      b = (s.stepAt a).payload → 8 ≤ b.length → b.length < 16 → (byteAt b 0).toNat = n.val → s.cfg.id ≠ 0 →
      s.gain.stale = false → s.reachable 0 = true →
      ((s.gain.mirror.get n).owner = some s.cfg.id ∨ (s.gain.mirror.get n).owner = none) → s.waits l = false →
      ∃ t : State, exec (.setInput l) s = .next t ∧ t = { s with lanes := t.lanes, ram := t.ram, svc := t.svc }
        ∧ t.asked s l .normal 0 1 (gainAsk n b 0)
        ∧ (t.lane l).activity = .working (s.stepAt a) (.setInput [{
            input := n, setting := settingAsked b 0, outcome := (s.header a).payload + 4
            state := .requested ((s.lane l).given + 1) }])
        ∧ readByte t.ram ((s.header a).payload + 4) = 255
        ∧ ∀ i : Nat, i ≠ (s.header a).payload + 4 → readByte t.ram i = readByte s.ram i)
  ∧ (∀ (s : State) (l : Fin 16) (a : Nat) (b : List Byte) (n m : Fin 64), s.hasStep l 6 a = true →
      b = (s.stepAt a).payload → 16 ≤ b.length → b.length < 24 → (byteAt b 0).toNat = n.val →
      (byteAt b 8).toNat = m.val → s.cfg.id ≠ 0 → s.gain.stale = false → s.reachable 0 = true →
      (∀ k : Fin 64, k = n ∨ k = m →
        (s.gain.mirror.get k).owner = some s.cfg.id ∨ (s.gain.mirror.get k).owner = none) → s.waits l = false →
      s.svc.entryWait = [] → s.svc.requests.length < 64 → s.svc.normalRoom = [] → s.svc.normal.length < 16 →
      ∃ t : State, exec (.setInput l) s = .next t ∧ t = { s with lanes := t.lanes, ram := t.ram, svc := t.svc }
        ∧ (∀ k : Fin 16, k ≠ l → t.lane k = s.lane k)
        ∧ (t.lane l).activity = .working (s.stepAt a) (.setInput [
            { input := n, setting := settingAsked b 0, outcome := (s.header a).payload + 4
              state := .requested ((s.lane l).given + 1) },
            { input := m, setting := settingAsked b 8, outcome := (s.header a).payload + 12
              state := .requested ((s.lane l).given + 2) }])
        ∧ readByte t.ram ((s.header a).payload + 4) = 255 ∧ readByte t.ram ((s.header a).payload + 12) = 255
        ∧ (∀ i : Nat, i ≠ (s.header a).payload + 4 → i ≠ (s.header a).payload + 12 → readByte t.ram i = readByte s.ram i)
        ∧ (s.svc.requests.length = 63 → (t.lane l).given = (s.lane l).given + 1
          ∧ (t.lane l).want = some { target := 0, kind := 1, body := gainAsk m b 8 }
          ∧ t.svc = { s.svc with
              normal := s.svc.normal ++ [s.requestMessage l 1 0 1 (gainAsk n b 0)], entryWait := [l]
              requests := s.svc.requests ++ [{
                lane := l, number := (s.lane l).given + 1, target := 0, kind := 1, state := .queued }] })
        ∧ (s.svc.requests.length < 63 → (t.lane l).given = (s.lane l).given + 2
          ∧ t.svc.requests = s.svc.requests ++ [
            { lane := l, number := (s.lane l).given + 1, target := 0, kind := 1, state := .queued },
            { lane := l, number := (s.lane l).given + 2, target := 0, kind := 1, state := .queued }]
          ∧ (s.svc.normal.length < 15 → (t.lane l).held = none ∧ t.svc = { s.svc with
              normal := s.svc.normal ++ [s.requestMessage l 1 0 1 (gainAsk n b 0), s.requestMessage l 2 0 1 (gainAsk m b 8)]
              requests := t.svc.requests })
          ∧ (s.svc.normal.length = 15 → (t.lane l).held = some (s.requestMessage l 2 0 1 (gainAsk m b 8)) ∧ t.svc = { s.svc with
              normal := s.svc.normal ++ [s.requestMessage l 1 0 1 (gainAsk n b 0)], normalRoom := [.lane l]
              requests := t.svc.requests })))
  ∧ (∀ (s : State) (l : Fin 16) (a : Nat) (b : List Byte) (n : Fin 64) (x : Setting) (f : Word), s.hasStep l 6 a = true →
      b = (s.stepAt a).payload → 8 ≤ b.length → b.length < 16 → (byteAt b 0).toNat = n.val → s.cfg.id = 0 →
      x = settingAsked b 0 → f = s.clock.frame + BitVec.ofNat 32 (s.merge.delay + s.cfg.latency + 32) →
      ∃ t : State, t = { s with lanes := t.lanes, ram := t.ram } ∧ (∀ k : Fin 16, k ≠ l → t.lane k = s.lane k)
        ∧ (∀ i : Nat, i ≠ (s.header a).payload + 4 → readByte t.ram i = readByte s.ram i)
        ∧ ((s.gain.table.get n).owner ≠ some 0 → exec (.setInput l) s = .next (s.finish l (s.stepAt a) .notOwner 0 0))
        ∧ ((s.gain.table.get n).owner = some 0 → readByte t.ram ((s.header a).payload + 4) = 255
          ∧ (t.lane l).activity = .working (s.stepAt a) (.setInput [{
              input := n, setting := x, outcome := (s.header a).payload + 4, state := .taken }])
          ∧ ((s.gain.table.get n).pending = none → s.svc.mayPlace .urgent = true → leaves (.setInput l) s
            { (t.modInput n fun e => { e with
                  pending := some { setting := x, requester := .lane l 0, switch := some f, keepsFault := false }
                  mute := if x.phantom = e.setting.phantom then e.mute else muteWindow e.mute f }) with
              svc := s.svc.enqueue (announceMessage n x (some 0)
                (if x.phantom = (s.gain.table.get n).setting.phantom then .normal else .phantomMute)
                (s.gain.table.get n).orphaned f { requester := 255, lane := 0, seq := 0 } false)
              conv := { s.conv with
                schedule := addWord s.conv.schedule { due := f - BitVec.ofNat 32 s.cfg.latency, input := n, setting := x } } })
          ∧ ((s.gain.table.get n).pending = none → s.svc.mayPlace .urgent = false → leaves (.setInput l) s
            { (t.modInput n fun e => { e with
                  pending := some { setting := x, requester := .lane l 0, switch := none, keepsFault := false } }) with
              svc := s.svc.hold .urgent (.pendingGain n) })
          ∧ ∀ c : PendingChange, (s.gain.table.get n).pending = some c → (s.gain.table.get n).waiting = none →
            leaves (.setInput l) s (t.modInput n fun e => { e with
              waiting := some { setting := x, requester := .lane l 0, keepsFault := false } })))
  ∧ (∀ (s : State) (l : Fin 16) (a : Nat) (b : List Byte) (n : Fin 64) (x : Setting) (f : Word), s.hasStep l 6 a = true →
      b = (s.stepAt a).payload → 16 ≤ b.length → b.length < 24 → (byteAt b 0).toNat = n.val → (byteAt b 8).toNat = n.val →
      s.cfg.id = 0 → x = settingAsked b 0 → f = s.clock.frame + BitVec.ofNat 32 (s.merge.delay + s.cfg.latency + 32) →
      (s.gain.table.get n).owner = some 0 → (s.gain.table.get n).pending = none → (s.gain.table.get n).waiting = none →
      s.svc.mayPlace .urgent = true →
      ∃ t : State, t = { s with lanes := t.lanes, ram := t.ram } ∧ (∀ k : Fin 16, k ≠ l → t.lane k = s.lane k)
        ∧ (t.lane l).activity = .working (s.stepAt a) (.setInput [
            { input := n, setting := x, outcome := (s.header a).payload + 4, state := .taken },
            { input := n, setting := settingAsked b 8, outcome := (s.header a).payload + 12, state := .taken }])
        ∧ leaves (.setInput l) s
          { (t.modInput n fun e => { e with
                pending := some { setting := x, requester := .lane l 0, switch := some f, keepsFault := false }
                waiting := some { setting := settingAsked b 8, requester := .lane l 1, keepsFault := false }
                mute := if x.phantom = e.setting.phantom then e.mute else muteWindow e.mute f }) with
            svc := s.svc.enqueue (announceMessage n x (some 0)
              (if x.phantom = (s.gain.table.get n).setting.phantom then .normal else .phantomMute)
              (s.gain.table.get n).orphaned f { requester := 255, lane := 0, seq := 0 } false)
            conv := { s.conv with
              schedule := addWord s.conv.schedule { due := f - BitVec.ofNat 32 s.cfg.latency, input := n, setting := x } } })
  ∧ (∀ (s : State) (l : Fin 16) (a free room k given : Nat) (b : List Byte) (inputs : List (Fin 64)) (asks : List (List Byte)),
      s.hasStep l 6 a = true → b = (s.stepAt a).payload → inputs ≠ [] → inputs.length = b.length / 8 →
      (∀ (i : Nat) (n : Fin 64), inputs[i]? = some n → (byteAt b (8 * i)).toNat = n.val) →
      s.cfg.id ≠ 0 → s.gain.stale = false → s.reachable 0 = true → s.waits l = false →
      (∀ n ∈ inputs, (s.gain.mirror.get n).owner = some s.cfg.id ∨ (s.gain.mirror.get n).owner = none) →
      asks = (List.range inputs.length).map (fun i => gainAsk (inputs.getD i 0) b (8 * i)) →
      free = (if s.svc.entryWait = [] then 64 - s.svc.requests.length else 0) →
      room = (if s.svc.normalRoom = [] then 16 - s.svc.normal.length else 0) →
      k = min inputs.length (min free room) → given = (if room < free ∧ k < inputs.length then k + 1 else k) →
      ∃ t : State, exec (.setInput l) s = .next t ∧ t = { s with lanes := t.lanes, ram := t.ram, svc := t.svc }
        ∧ (∀ i : Fin 16, i ≠ l → t.lane i = s.lane i)
        ∧ (t.lane l).given = (s.lane l).given + given
        ∧ (t.lane l).held = (if room < free ∧ k < inputs.length then some (s.requestMessage l (k + 1) 0 1 (asks.getD k [])) else none)
        ∧ (t.lane l).want
          = (if free ≤ room ∧ k < inputs.length then some { target := 0, kind := 1, body := asks.getD k [] } else none)
        ∧ (t.lane l).activity = .working (s.stepAt a) (.setInput ((List.range inputs.length).map fun i => {
            input := inputs.getD i 0, setting := settingAsked b (8 * i), outcome := (s.header a).payload + (8 * i + 4)
            state := if i ≤ k then .requested ((s.lane l).given + (i + 1)) else .unsent }))
        ∧ t.svc = { s.svc with
            normal := s.svc.normal ++ (List.range k).map fun i => s.requestMessage l (i + 1) 0 1 (asks.getD i [])
            requests := s.svc.requests ++ (List.range given).map fun i => {
              lane := l, number := (s.lane l).given + (i + 1), target := 0, kind := 1, state := .queued }
            entryWait := if free ≤ room ∧ k < inputs.length then s.svc.entryWait ++ [l] else s.svc.entryWait
            normalRoom := if room < free ∧ k < inputs.length then (s.svc.hold .normal (.lane l)).normalRoom else s.svc.normalRoom }
        ∧ (∀ i : Nat, i < inputs.length → readByte t.ram ((s.header a).payload + (8 * i + 4)) = 255)
        ∧ ∀ x : Nat, (∀ i : Nat, i < inputs.length → x ≠ (s.header a).payload + (8 * i + 4)) → readByte t.ram x = readByte s.ram x)
  ∧ (∀ (s : State) (l : Fin 16) (a : Nat) (b : List Byte) (inputs : List (Fin 64)), s.hasStep l 6 a = true →
      b = (s.stepAt a).payload → inputs ≠ [] → inputs.length = b.length / 8 →
      (∀ (i : Nat) (n : Fin 64), inputs[i]? = some n → (byteAt b (8 * i)).toNat = n.val) →
      s.cfg.id = 0 → (∀ n ∈ inputs, (s.gain.table.get n).owner = some 0) →
      ∃ t : State, t = { s with lanes := t.lanes, ram := t.ram } ∧ (∀ i : Fin 16, i ≠ l → t.lane i = s.lane i)
        ∧ (t.lane l).activity = .working (s.stepAt a) (.setInput ((List.range inputs.length).map fun i => {
            input := inputs.getD i 0, setting := settingAsked b (8 * i), outcome := (s.header a).payload + (8 * i + 4)
            state := .taken }))
        ∧ (∀ i : Nat, i < inputs.length → readByte t.ram ((s.header a).payload + (8 * i + 4)) = 255)
        ∧ (∀ x : Nat, (∀ i : Nat, i < inputs.length → x ≠ (s.header a).payload + (8 * i + 4)) → readByte t.ram x = readByte s.ram x)
        ∧ leaves (.setInput l) s ((List.range inputs.length).foldl
          (fun st i => st.takeGain (inputs.getD i 0) (settingAsked b (8 * i)) (.lane l i)) t))
  ∧ (∀ (s : State) (n : Fin 64) (x : Setting) (l : Fin 16) (i : Nat) (f : Word), (s.gain.table.get n).owner = some 0 →
      f = s.clock.frame + BitVec.ofNat 32 (s.merge.delay + s.cfg.latency + 32) →
      ((s.gain.table.get n).pending = none → s.svc.mayPlace .urgent = true → s.takeGain n x (.lane l i)
        = { (s.modInput n fun e => { e with
              pending := some { setting := x, requester := .lane l i, switch := some f, keepsFault := false }
              mute := if x.phantom = e.setting.phantom then e.mute else muteWindow e.mute f }) with
            svc := s.svc.enqueue (announceMessage n x (some 0)
              (if x.phantom = (s.gain.table.get n).setting.phantom then .normal else .phantomMute)
              (s.gain.table.get n).orphaned f { requester := 255, lane := 0, seq := 0 } false)
            conv := { s.conv with
              schedule := addWord s.conv.schedule { due := f - BitVec.ofNat 32 s.cfg.latency, input := n, setting := x } } })
      ∧ ((s.gain.table.get n).pending = none → s.svc.mayPlace .urgent = false → s.takeGain n x (.lane l i)
        = { (s.modInput n fun e => { e with
              pending := some { setting := x, requester := .lane l i, switch := none, keepsFault := false } }) with
            svc := s.svc.hold .urgent (.pendingGain n) })
      ∧ (∀ c : PendingChange, (s.gain.table.get n).pending = some c → (s.gain.table.get n).waiting = none →
        s.takeGain n x (.lane l i) = s.modInput n fun e => { e with
          waiting := some { setting := x, requester := .lane l i, keepsFault := false } })
      ∧ ∀ (c : PendingChange) (w : WaitingChange) (h : Fin 16) (j : Join) (es : List InputStep) (m : Nat) (e : InputStep),
        (s.gain.table.get n).pending = some c → (s.gain.table.get n).waiting = some w → w.requester = .lane h m →
        s.works h j (.setInput es) = true → es[m]? = some e → e.ended? = none →
        (∃ (k : Nat) (o : InputStep), k ≠ m ∧ es[k]? = some o ∧ o.ended? = none) →
        ∃ u : State, s.takeGain n x (.lane l i) = u
          ∧ u = { (s.modInput n fun y => { y with
              waiting := some { setting := x, requester := .lane l i, keepsFault := false } }) with
            lanes := s.lanes.set h { s.lane h with activity := .working j (.setInput (es.set m { e with state := .ended .superseded })) }
            ram := storeBytes s.ram e.outcome [10] })

/-- CLAIM_INPUTS and RELEASE_INPUTS: at the stage they act on the table at once, and with room broadcast the result and end with the
status the result gives; without room the broadcast is held and the step waits for it, the table having changed (R73, R103). An empty
CLAIM INPUTS at the stage grants nothing, ends OK with count 0 and starts a gain refresh (R85, R103). At a desk cut off from the stage
both end UNREACHABLE, and at a desk that reaches it each asks with its one request of the input set, which waits where there is no
entry or no room (R17, R73, R76, R103, R85, R86).
Where its rule gives no count, the result count 0 of a step refused or ended UNREACHABLE is the model's choice (log entry 11). The
two bytes behind the 255 of a tag of none are log entry 43's. -/
def Obligations.OwnershipStepsAct : Prop :=
  (∀ (s : State) (l : Fin 16) (a : Nat),
    (s.hasStep l 7 a = true → s.cfg.id = 0 → s.svc.mayPlace .normal = true → s.waits l = false →
      inputSet (s.stepAt a).payload ≠ 0 →
      ∃ (u : State) (granted : BitVec 64),
        leaves (.claimInputs l) s (u.finish l (s.stepAt a)
          (if granted = inputSet (s.stepAt a).payload then .ok else if granted = 0 then .held else .partly) 0
          (BitVec.ofNat 32 (popCount granted)))
        ∧ u = { s with lanes := u.lanes, ram := u.ram, gain := { s.gain with table := u.gain.table }
                       svc := s.svc.enqueue (ownerMessage (inputSet (s.stepAt a).payload) 0 noTag granted) }
        ∧ (u.lane l).done = (s.lane l).done ∧ (∀ k : Fin 16, k ≠ l → u.lane k = s.lane k)
        ∧ (∀ i : Nat, i < 8 → readByte u.ram ((s.header a).payload + 8 + i) = granted.extractLsb' (8 * i) 8)
        ∧ ∀ n : Fin 64,
          granted.getLsbD n.val = ((inputSet (s.stepAt a).payload).getLsbD n.val
            && (decide ((s.gain.table.get n).owner = none) || decide ((s.gain.table.get n).owner = some 0)
              || (s.gain.table.get n).orphaned))
          ∧ (u.gain.table.get n).owner = (if granted.getLsbD n.val = true then some 0 else (s.gain.table.get n).owner))
    ∧ (s.hasStep l 8 a = true → s.cfg.id = 0 → s.svc.mayPlace .normal = true → s.waits l = false →
      ∃ (u : State) (released : BitVec 64),
        leaves (.releaseInputs l) s (u.finish l (s.stepAt a)
          (if released = inputSet (s.stepAt a).payload then .ok else .partly) 0 (BitVec.ofNat 32 (popCount released)))
        ∧ u = { s with lanes := u.lanes, ram := u.ram, gain := { s.gain with table := u.gain.table }
                       svc := s.svc.enqueue (ownerMessage (inputSet (s.stepAt a).payload) 255 noTag released) }
        ∧ (u.lane l).done = (s.lane l).done ∧ (∀ k : Fin 16, k ≠ l → u.lane k = s.lane k)
        ∧ (∀ i : Nat, i < 8 → readByte u.ram ((s.header a).payload + 8 + i) = released.extractLsb' (8 * i) 8)
        ∧ ∀ n : Fin 64,
          released.getLsbD n.val = ((inputSet (s.stepAt a).payload).getLsbD n.val
            && decide ((s.gain.table.get n).owner = some 0))
          ∧ (u.gain.table.get n).owner = (if released.getLsbD n.val = true then none else (s.gain.table.get n).owner))
    ∧ (s.hasStep l 7 a = true → s.cfg.id ≠ 0 → s.reachable 0 = false →
      ∃ u : State, exec (.claimInputs l) s = .next (u.finish l (s.stepAt a) .unreachable 0 0)
        ∧ u = { s with lanes := u.lanes } ∧ (u.lane l).done = (s.lane l).done))
  ∧ (∀ (s : State) (l : Fin 16) (a : Nat), s.hasStep l 8 a = true → s.cfg.id ≠ 0 → s.reachable 0 = false →
      ∃ u : State, exec (.releaseInputs l) s = .next (u.finish l (s.stepAt a) .unreachable 0 0)
        ∧ u = { s with lanes := u.lanes } ∧ (u.lane l).done = (s.lane l).done ∧ ∀ k : Fin 16, k ≠ l → u.lane k = s.lane k)
  ∧ (∀ (s : State) (l : Fin 16) (a kind request : Nat) (release : Bool),
      (kind = 7 ∧ request = 4 ∧ release = false ∨ kind = 8 ∧ request = 5 ∧ release = true) → s.hasStep l kind a = true →
      s.cfg.id ≠ 0 → s.reachable 0 = true → s.entryFree = true → s.svc.mayPlace .normal = true → s.waits l = false →
      ∃ t : State, exec (if release then .releaseInputs l else .claimInputs l) s = .next t
        ∧ t = { s with lanes := t.lanes, svc := t.svc }
        ∧ t.svc = { s.svc with
            normal := s.svc.normal ++ [{
              kind := request, dest := 0, producer := .request l ((s.lane l).given + 1)
              body := [BitVec.ofNat 8 s.cfg.id.val, BitVec.ofNat 8 l.val, (s.lane l).seq + 1] ++ (s.stepAt a).payload.take 8 }]
            requests := s.svc.requests ++ [{
              lane := l, number := (s.lane l).given + 1, target := 0, kind := request, state := .queued }] }
        ∧ t.lane l = { s.lane l with
            given := (s.lane l).given + 1
            activity := .working (s.stepAt a) (.claim release (inputSet (s.stepAt a).payload) none) }
        ∧ ∀ k : Fin 16, k ≠ l → t.lane k = s.lane k)
  ∧ (∀ (s : State) (l : Fin 16) (a : Nat), s.hasStep l 7 a = true → s.cfg.id = 0 → s.svc.mayPlace .normal = true →
      s.waits l = false → inputSet (s.stepAt a).payload = 0 →
      ∃ u : State, leaves (.claimInputs l) s (u.finish l (s.stepAt a) .ok 0 0).startGainRefresh
        ∧ u = { s with lanes := u.lanes, ram := u.ram, svc := s.svc.enqueue (ownerMessage 0 0 noTag 0) }
        ∧ (u.lane l).done = (s.lane l).done ∧ (∀ k : Fin 16, k ≠ l → u.lane k = s.lane k)
        ∧ ∀ i : Nat, i < 8 → readByte u.ram ((s.header a).payload + 8 + i) = 0)
  ∧ (∀ (s : State) (l : Fin 16) (a kind : Nat) (release : Bool) (inputs : BitVec 64),
      (kind = 7 ∧ release = false ∨ kind = 8 ∧ release = true) → s.hasStep l kind a = true → s.cfg.id = 0 →
      s.svc.mayPlace .normal = false → s.waits l = false → inputs = inputSet (s.stepAt a).payload →
      ∃ (u : State) (result : BitVec 64),
        leaves (if release then .releaseInputs l else .claimInputs l) s
          (if release = false ∧ inputs = 0 then u.startGainRefresh else u)
        ∧ u = { s with lanes := u.lanes, gain := { s.gain with table := u.gain.table }
                       svc := { s.svc with normalRoom := if Held.lane l ∈ s.svc.normalRoom then s.svc.normalRoom
                         else s.svc.normalRoom ++ [.lane l] } }
        ∧ u.lane l = { s.lane l with
            activity := .working (s.stepAt a) (.claim release inputs (some result))
            held := some (ownerMessage inputs (if release then 255 else 0) noTag result) }
        ∧ (∀ k : Fin 16, k ≠ l → u.lane k = s.lane k)
        ∧ ∀ n : Fin 64,
          result.getLsbD n.val = (inputs.getLsbD n.val && (decide ((s.gain.table.get n).owner = some 0)
            || !release && (decide ((s.gain.table.get n).owner = none) || (s.gain.table.get n).orphaned)))
          ∧ (u.gain.table.get n) = (if result.getLsbD n.val = true then
            { s.gain.table.get n with owner := if release then none else some 0, orphaned := false } else s.gain.table.get n))
  ∧ (∀ (s : State) (l : Fin 16) (a kind request : Nat) (release : Bool),
      (kind = 7 ∧ request = 4 ∧ release = false ∨ kind = 8 ∧ request = 5 ∧ release = true) → s.hasStep l kind a = true →
      s.cfg.id ≠ 0 → s.reachable 0 = true → s.waits l = false →
      ∃ t : State, exec (if release then .releaseInputs l else .claimInputs l) s = .next t
        ∧ t = { s with lanes := t.lanes, svc := t.svc }
        ∧ t.asked s l .normal 0 request ((s.stepAt a).payload.take 8)
        ∧ (t.lane l).activity = .working (s.stepAt a) (.claim release (inputSet (s.stepAt a).payload) none))

/-- SET_REFERENCE: a bad input applies nothing and ends BAD STEP with detail 16, a mode above 2 applies nothing and ends it with
detail 17; a single good entry, with room, is queued as a REFERENCE for the frame q + D + 32 and becomes this terminal's own
scheduled reference for the same frame; the step ends OK with its count of entries once the playout has reached every switch
frame (R98, R104). Of several entries as many as there is room for are queued in payload order; the one the step has then reached is
fixed, TRACK NOW to the E of that moment, and waits in the urgent room list with those behind it; the room granted later queues the
value so fixed (R73, R104).
The order of the checks is log entry 24's.
Where its rule gives no count, the result count 0 of a step refused or ended UNREACHABLE is the model's choice (log entry 11). -/
def Obligations.SetReferenceQueues : Prop :=
  (∀ (s : State) (l : Fin 16) (a : Nat), s.hasStep l 9 a = true →
    (((chunks 4 (s.stepAt a).payload).any fun b => decide (63 < (byteAt b 0).toNat)) = true →
      exec (.setReference l) s = .next (s.finish l (s.stepAt a) .badStep 16 0))
    ∧ (∀ (n : Fin 64) (value : Option Int) (f : Word), 4 ≤ (s.stepAt a).payload.length → (s.stepAt a).payload.length < 8 →
      (byteAt (s.stepAt a).payload 0).toNat = n.val →
      (byteAt (s.stepAt a).payload 1 = 0 ∧ value = some (s.setting n).effective
        ∨ byteAt (s.stepAt a).payload 1 = 1 ∧ value = some (max (-20) (min (byteAt (s.stepAt a).payload 2).toInt 60))
        ∨ byteAt (s.stepAt a).payload 1 = 2 ∧ value = none) →
      f = s.clock.frame + BitVec.ofNat 32 (s.merge.delay + 32) → s.svc.mayPlace .urgent = true →
      ∃ u : State, leaves (.setReference l) s u
        ∧ u = { s with lanes := u.lanes, gain := { s.gain with tracking := u.gain.tracking }
                       svc := s.svc.enqueue { kind := 7, dest := 15
                                              body := [BitVec.ofNat 8 n.val, refByte value] ++ leBytes 4 f.toNat } }
        ∧ u.track s.cfg.id n = { s.track s.cfg.id n with
            scheduled := some { value := value, switch := f, deferred := false } }
        ∧ (∀ (o : Fin 4) (k : Fin 64), o ≠ s.cfg.id ∨ k ≠ n → u.track o k = s.track o k)
        ∧ (u.lane l).activity = .working (s.stepAt a) (.setReference [] 1 [f])))
  ∧ (∀ (s : State) (l : Fin 16) (a : Nat), s.hasStep l 9 a = true →
      ((((chunks 4 (s.stepAt a).payload).any fun b => decide (63 < (byteAt b 0).toNat)) = false →
        ((chunks 4 (s.stepAt a).payload).any fun b => decide (2 < (byteAt b 1).toNat)) = true →
        exec (.setReference l) s = .next (s.finish l (s.stepAt a) .badStep 17 0))
      ∧ ((s.stepAt a).payload.length < 4 → exec (.setReference l) s = .next (s.finish l (s.stepAt a) .ok 0 0))))
  ∧ (∀ (s : State) (l : Fin 16) (j : Join) (n : Nat) (frames : List Word), s.works l j (.setReference [] n frames) = true →
      (∀ k : Fin 16, k ≠ l → s.op? k = none) →
      ((∀ f ∈ frames, later f (s.clock.frame - BitVec.ofNat 32 s.merge.delay) = false) →
        s.endReferences = s.finish l j .ok 0 (BitVec.ofNat 32 n))
      ∧ ((∃ f ∈ frames, later f (s.clock.frame - BitVec.ofNat 32 s.merge.delay) = true) → s.endReferences = s))
  ∧ (∀ (s : State) (n : Fin 64) (v : Option Int),
      s.fixReference n .trackNow = some (s.setting n).effective ∧ s.fixReference n (.fixed v) = v)
  ∧ (∀ (s : State) (l : Fin 16) (a p : Nat) (f : Word) (todo : List (Fin 64 × RefMode)), s.hasStep l 9 a = true →
      todo ≠ [] → (chunks 4 (s.stepAt a).payload).length = todo.length →
      (∀ (i : Nat) (n : Fin 64) (mode : RefMode) (b : List Byte), todo[i]? = some (n, mode) →
        (chunks 4 (s.stepAt a).payload)[i]? = some b → (byteAt b 0).toNat = n.val
          ∧ (byteAt b 1 = 0 ∧ mode = .trackNow
            ∨ byteAt b 1 = 1 ∧ mode = .fixed (some (max (-20) (min (byteAt b 2).toInt 60)))
            ∨ byteAt b 1 = 2 ∧ mode = .fixed none)) →
      f = s.clock.frame + BitVec.ofNat 32 (s.merge.delay + 32) →
      p = (if s.svc.urgentRoom = [] then min todo.length (16 - s.svc.urgent.length) else 0) →
      ∃ u : State, leaves (.setReference l) s u
        ∧ u = { s with
            lanes := u.lanes, gain := { s.gain with tracking := u.gain.tracking }
            svc := { s.svc with
              urgent := s.svc.urgent ++ (todo.take p).map fun e =>
                { kind := 7, dest := 15
                  body := [BitVec.ofNat 8 e.1.val, refByte (s.fixReference e.1 e.2)] ++ leBytes 4 f.toNat }
              urgentRoom := if p < todo.length ∧ Held.lane l ∉ s.svc.urgentRoom then s.svc.urgentRoom ++ [.lane l]
                else s.svc.urgentRoom } }
        ∧ (∀ (o : Fin 4) (k : Fin 64), o ≠ s.cfg.id ∨ (∀ e ∈ todo.take p, e.1 ≠ k) → u.track o k = s.track o k)
        ∧ (∀ e : Fin 64 × RefMode, ∀ k : Fin 64, (todo.take p).reverse.find? (fun x => decide (x.1 = k)) = some e →
          u.track s.cfg.id k = { s.track s.cfg.id k with
            scheduled := some { value := s.fixReference k e.2, switch := f, deferred := false } })
        ∧ (∀ k : Fin 16, k ≠ l → u.lane k = s.lane k)
        ∧ (p = todo.length → (u.lane l).activity
          = .working (s.stepAt a) (.setReference [] todo.length (List.replicate todo.length f)))
        ∧ ∀ (n : Fin 64) (mode : RefMode) (rest : List (Fin 64 × RefMode)), todo.drop p = (n, mode) :: rest →
          (u.lane l).activity = .working (s.stepAt a)
            (.setReference ((n, .fixed (s.fixReference n mode)) :: rest) todo.length (List.replicate p f)))
  ∧ (∀ (s : State) (l : Fin 16) (j : Join) (n : Fin 64) (v : Option Int) (count : Nat) (frames : List Word) (rest : List Held)
      (f : Word), s.works l j (.setReference [(n, .fixed v)] count frames) = true → s.svc.urgentRoom = .lane l :: rest →
      s.svc.urgent.length < 16 → f = s.clock.frame + BitVec.ofNat 32 (s.merge.delay + 32) →
      ∃ u : State, leaves (.roomGrant .urgent) s u
        ∧ u = { s with
            lanes := u.lanes, gain := { s.gain with tracking := u.gain.tracking }
            svc := { s.svc with
              urgent := s.svc.urgent ++ [{
                kind := 7, dest := 15, body := [BitVec.ofNat 8 n.val, refByte v] ++ leBytes 4 f.toNat }]
              urgentRoom := rest } }
        ∧ u.track s.cfg.id n = { s.track s.cfg.id n with
            scheduled := some { value := v, switch := f, deferred := false } }
        ∧ (∀ (o : Fin 4) (k : Fin 64), o ≠ s.cfg.id ∨ k ≠ n → u.track o k = s.track o k)
        ∧ (u.lane l).activity = .working j (.setReference [] count (frames ++ [f])))

/-- PREAMP_WORD_SEND: at a frame edge the words due are sent in schedule order, at most 32; the others stay; each word sent
replaces its input's last-word record, the later of two of one input being kept; a word joins the schedule behind the words due at
or before its frame; each word's bits are its input, gain, pad and phantom with odd parity (R187, section 10.4). It acts once at an
edge, and neither while the reset pin is low nor at a desk from the start of a run to its end, whose line is idle and whose schedule
and last-word records stand (R187, section 10.8, R191; log entry 52). -/
def Obligations.PreampWordsAreSent : Prop :=
  (∀ s : State, s.resetLow = false → s.conv.wordsSent = false → (s.isRunning = false ∨ s.cfg.id = 0) →
    ∃ t : State, exec .preampWordSend s = .next t
      ∧ t = { s with conv := { s.conv with schedule := t.conv.schedule, lastWords := t.conv.lastWords
                                           wordLine := t.conv.wordLine, wordsSent := true } }
      ∧ t.conv.wordLine
        = ((s.conv.schedule.filter fun w => !later w.due s.clock.frame).take 32).map PreampWord.bits
      ∧ t.conv.schedule.length + t.conv.wordLine.length = s.conv.schedule.length
      ∧ t.conv.schedule.filter (fun w => !later w.due s.clock.frame)
        = (s.conv.schedule.filter fun w => !later w.due s.clock.frame).drop 32
      ∧ t.conv.schedule.filter (fun w => later w.due s.clock.frame)
        = s.conv.schedule.filter fun w => later w.due s.clock.frame)
  ∧ (∀ w : PreampWord, w.setting.gain ≤ 60 →
      w.bits.extractLsb' 10 6 = BitVec.ofNat 6 w.input.val ∧ w.bits.extractLsb' 4 6 = BitVec.ofNat 6 w.setting.gain
      ∧ w.bits.getLsbD 3 = w.setting.pad ∧ w.bits.getLsbD 2 = w.setting.phantom ∧ w.bits.getLsbD 1 = false
      ∧ popCount w.bits % 2 = 1)
  ∧ (∀ s : State, (s.resetLow = true ∨ s.conv.wordsSent = true ∨ (s.isRunning = true ∧ s.cfg.id ≠ 0)) →
      exec .preampWordSend s = .next s)
  ∧ (∀ s : State, s.resetLow = false → s.isRunning = true → s.tick.conv.wordLine = [] ∧ s.tick.conv.schedule = s.conv.schedule
      ∧ s.tick.conv.lastWords = s.conv.lastWords
      ∧ (s.cfg.id = 0 → (∃ w ∈ s.conv.schedule, later w.due (s.clock.frame + 1) = false) →
        Instr.preampWordSend ∈ s.tick.pending))
  ∧ (∀ (s t : State) (n : Fin 64) (words : List PreampWord), s.resetLow = false → s.conv.wordsSent = false →
      (s.isRunning = false ∨ s.cfg.id = 0) → words = (s.conv.schedule.filter fun w => !later w.due s.clock.frame).take 32 →
      exec .preampWordSend s = .next t →
      ((∀ w ∈ words, w.input ≠ n) → t.conv.lastWords.get n = s.conv.lastWords.get n)
      ∧ ∀ (before after : List PreampWord) (w : PreampWord), words = before ++ w :: after → w.input = n →
        (∀ x ∈ after, x.input ≠ n) → t.conv.lastWords.get n = w.setting)
  ∧ (∀ (schedule : List PreampWord) (w : PreampWord), ∃ before after : List PreampWord, schedule = before ++ after
      ∧ addWord schedule w = before ++ w :: after ∧ (∀ x ∈ before, later x.due w.due = false)
      ∧ ∀ x ∈ after.head?, later x.due w.due = true)

/-! ### Answers, messages, room (spec 04, R67 to R81) -/

/-- The last answer a step waits for frees its request's entry and ends it: MIX_ACK with the totals and the first reason (R121),
GAIN_REFUSED with the reason's outcome (R102), LOOP_REPLY with BUSY or, where the port has left UP, BROKEN (R171); and
REQUEST_TIMEOUT after 9,600 frames with TIMEOUT, a SET INPUT entry's outcome with it, a mix step whose parts had records or mixes
applied with PARTIAL (R76, R77, R102, R121).
The counts the spec does not state and the matching are log entries 11 and 32.
An OWNER_ANNOUNCE that answers a desk's CLAIM INPUTS or RELEASE INPUTS writes the result set into the payload and ends the step OK,
PARTIAL or, for a claim granted nothing, HELD, with the count of the set; a GAIN_ANNOUNCE that answers a SET INPUT request leaves
its entry waiting for the switch announced, and at that switch the entry ends OK; a stage's entry ends OK when its pending change is
applied. A MIX_ACK with parts left asks the next part, with the totals kept, unless it refuses a staging, which stops there (R76,
R102, R103, R117, R121). An end frees the entry of the request it ends and no other, by the request's number, whose low eight bits
are its sequence (R17, R76); of two entries of one lane and sequence the older is answered (log entry 55). That a result count of
applied and refused records shows the low 16 bits of each is the model's choice (log entry 70). -/
def Obligations.AnswersEndSteps : Prop :=
  (∀ (s : State) (l : Fin 16) (j : Join) (tag : Tag) (r : Request), s.isRunning = true → r.lane = l →
    (∀ (m : RemoteMix) (applied refused reason : Byte) (a : MixAnswer), s.works l j (.mixRemote m) = true →
      s.answered? tag 11 = some r → (m.todo = [] ∨ m.staging = true ∧ refused ≠ 0) →
      a = { applied := m.applied + applied.toNat, refused := m.refused + refused.toNat,
            reason := if m.reason = 0 then reason.toNat else m.reason } →
      (a.refused = 0 → endsRequest (.mixAck tag applied refused reason) s l j r .ok 0 a.count)
      ∧ (a.refused ≠ 0 → a.applied ≠ 0 → endsRequest (.mixAck tag applied refused reason) s l j r .partly 0 a.count)
      ∧ (∀ (st : Status) (d : Nat), a.refused ≠ 0 → a.applied = 0 →
          (a.reason = 1 ∧ st = .refused ∧ d = 0 ∨ a.reason = 2 ∧ st = .noRoom ∧ d = 0
            ∨ a.reason = 3 ∧ st = .badStep ∧ d = 19 ∨ (a.reason = 4 ∨ a.reason = 5) ∧ st = .notReady ∧ d = 0
            ∨ a.reason = 6 ∧ st = .superseded ∧ d = 0) →
          endsRequest (.mixAck tag applied refused reason) s l j r st d a.count))
    ∧ (∀ (e : InputStep) (input reason : Byte) (st : Status), s.works l j (.setInput [e]) = true →
      s.answered? tag 3 = some r → e.state = .requested r.number →
      (reason = 2 ∧ st = .notOwner ∨ reason = 10 ∧ st = .superseded) →
      ∃ u : State, exec (.gainRefused tag input reason) s = .next (u.finish l j st 0 0)
        ∧ u = { s with lanes := u.lanes, svc := u.svc, ram := storeBytes s.ram e.outcome [BitVec.ofNat 8 st.code] }
        ∧ u.svc = { s.svc with requests := s.svc.requests.filter fun q => !decide (q.lane = l ∧ q.number = r.number) }
        ∧ (u.lane l).done = (s.lane l).done ∧ ∀ k : Fin 16, k ≠ l → u.lane k = s.lane k)
    ∧ (∀ (p : Port) (d : Nat) (port answer : Byte), s.works l j (.loopTest p d) = true → s.answered? tag 16 = some r →
      (answer ≠ 0 → endsRequest (.loopReply tag port answer) s l j r .busy 20 0)
      ∧ (answer = 0 → (s.port p).state ≠ .up → endsRequest (.loopReply tag port answer) s l j r .broken 0 0))
    ∧ (∀ (op : Op) (n : Nat), s.works l j op = true → r ∈ s.svc.requests → r.state = .waiting n → 9600 ≤ n →
      (∀ q ∈ s.svc.requests, q.lane = l → q.seq = r.seq → q.late = true → q = r) →
      (r.kind = 4 ∨ r.kind = 5 ∨ r.kind = 15) → endsRequest (.requestTimeout l r.seq) s l j r .timeout 0 0))
  ∧ (∀ (s : State) (l : Fin 16) (seq : Byte), s.isRunning = true →
      (∀ q ∈ s.svc.requests, q.lane = l → q.seq = seq → ∀ n : Nat, q.state = .waiting n → n < 9600) →
      exec (.requestTimeout l seq) s = .next s)
  ∧ (∀ r : Request, (r.late = true ↔ ∃ n : Nat, r.state = .waiting n ∧ 9600 ≤ n) ∧ r.seq = BitVec.ofNat 8 r.number)
  ∧ (∀ (s : State) (l : Fin 16) (j : Join) (r : Request) (n : Nat), s.isRunning = true → r.lane = l →
      r ∈ s.svc.requests → (∀ q ∈ s.svc.requests, q.lane = l → q.seq = r.seq → q.late = true → q = r) → r.state = .waiting n →
      9600 ≤ n →
      (∀ e : InputStep, r.kind = 1 → s.works l j (.setInput [e]) = true → e.state = .requested r.number →
        ∃ u : State, exec (.requestTimeout l r.seq) s = .next (u.finish l j .timeout 0 0)
          ∧ u = { s with lanes := u.lanes, svc := u.svc, ram := storeBytes s.ram e.outcome [5] }
          ∧ u.svc = { s.svc with requests := s.svc.requests.filter fun q => !decide (q.lane = l ∧ q.number = r.number) }
          ∧ (u.lane l).done = (s.lane l).done ∧ ∀ k : Fin 16, k ≠ l → u.lane k = s.lane k)
      ∧ (∀ m : RemoteMix, (r.kind = 8 ∨ r.kind = 9 ∨ r.kind = 10) → s.works l j (.mixRemote m) = true →
        (m.applied = 0 → endsRequest (.requestTimeout l r.seq) s l j r .timeout 0 (BitVec.ofNat 32 (65536 * m.refused)))
        ∧ (m.applied ≠ 0 → endsRequest (.requestTimeout l r.seq) s l j r .partly 0
          (BitVec.ofNat 32 (m.applied % 65536 + 65536 * m.refused)))))
  ∧ (∀ (s u : State) (l : Fin 16) (j : Join) (tag : Tag) (r : Request) (release : Bool) (inputs set result : BitVec 64) (owner : Byte)
      (b n : Nat) (m : Bank 64 MirrorEntry) (st : Status), s.works l j (.claim release set none) = true → s.cfg.id ≠ 0 →
      s.answered? tag 6 = some r → r.lane = l → j.segments = [(b, n)] → 16 ≤ n → b + n ≤ Config.ramSize →
      (∀ k : Fin 64, m.get k = if result.getLsbD k.val = true ∧ (owner.toNat ≤ 7 ∨ owner = 255) then
          { s.gain.mirror.get k with
            owner := if owner = 255 then none else index? 4 (owner.toNat % 4), orphaned := decide (4 ≤ owner.toNat ∧ owner ≠ 255) }
        else s.gain.mirror.get k) →
      st = (if set &&& ~~~ result = 0 then .ok else if release = false ∧ set &&& result = 0 then .held else .partly) →
      u = { s with
        ram := storeBytes s.ram (b + 8) (leBytes 8 result.toNat)
        svc := { s.svc with requests := s.svc.requests.filter fun q => !decide (q.lane = l ∧ q.number = r.number) } } →
      ∃ t : State, t = u.finish l j st 0 (BitVec.ofNat 32 ((List.finRange 64).filter fun k => result.getLsbD k.val).length)
        ∧ leaves (.ownerAnnounce inputs owner tag result) s { t with gain := { s.gain with mirror := m } })
  ∧ (∀ (s : State) (l : Fin 16) (j : Join) (tag : Tag) (r : Request) (es : List InputStep)
      (input gain pad phantom owner state orphaned : Byte) (switch : Word) (refresh : Byte),
      s.works l j (.setInput es) = true → s.cfg.id ≠ 0 → s.answered? tag 2 = some r → r.lane = l →
      (∃ e ∈ es, e.state = .requested r.number) →
      ∃ v : State, v = { s with
          lanes := v.lanes
          svc := { s.svc with requests := s.svc.requests.filter fun q => !decide (q.lane = l ∧ q.number = r.number) } }
        ∧ v.lane l = { s.lane l with activity := .working j (.setInput (es.map fun e =>
            if e.state = .requested r.number then { e with state := .switching r.seq switch } else e)) }
        ∧ (∀ k : Fin 16, k ≠ l → v.lane k = s.lane k)
        ∧ leaves (.gainAnnounce input gain pad phantom owner state orphaned switch tag refresh) s
            (v.takeAnnounce input gain pad phantom owner state orphaned switch tag refresh))
  ∧ (∀ (s : State) (n : Fin 64) (f : Word),
      (∀ (l : Fin 16) (es : List InputStep), s.op? l ≠ some (.setInput es)) → s.endSwitched n f = s)
  ∧ (∀ (s : State) (l : Fin 16) (j : Join) (e : InputStep) (rest : List InputStep) (n : Fin 64) (f : Word) (q : Byte),
      s.works l j (.setInput (e :: rest)) = true → e.input = n → e.state = .switching q f →
      (∀ (k : Fin 16) (es : List InputStep), k ≠ l → s.op? k ≠ some (.setInput es)) →
      (∀ x ∈ rest, ∀ p : Byte, x.input = n → x.state ≠ .switching p f) →
      ∃ u : State, u = { s with lanes := u.lanes, ram := storeBytes s.ram e.outcome [0] }
        ∧ u.lane l = { s.lane l with activity := .working j (.setInput ({ e with state := .ended .ok } :: rest)) }
        ∧ (∀ k : Fin 16, k ≠ l → u.lane k = s.lane k)
        ∧ ((∃ x ∈ rest, x.ended? = none) → s.endSwitched n f = u)
        ∧ ((∀ x ∈ rest, x.ended? ≠ none) → s.endSwitched n f
          = u.finish l j (if ∀ x ∈ rest, x.ended? = some .ok then .ok else .partly) 0
            (BitVec.ofNat 32 (1 + (rest.filter fun x => decide (x.ended? = some .ok)).length))))
  ∧ (∀ (s : State) (n : Fin 64) (c : PendingChange) (f : Word) (l : Fin 16) (j : Join) (e : InputStep) (rest : List InputStep)
      (x : InputEntry), s.works l j (.setInput (e :: rest)) = true → s.cfg.id = 0 → s.merge.playedNow = false →
      x = s.gain.table.get n → x.pending = some c → c.switch = some f → c.requester = .lane l 0 → x.waiting = none →
      later f (s.clock.frame - BitVec.ofNat 32 s.merge.delay) = false → e.ended? = none →
      ∃ u : State, u = { s with lanes := u.lanes, ram := storeBytes s.ram e.outcome [0], gain := u.gain }
        ∧ (u.gain.table.get n).setting = c.setting ∧ (u.gain.table.get n).pending = none
        ∧ u.lane l = { s.lane l with activity := .working j (.setInput ({ e with state := .ended .ok } :: rest)) }
        ∧ (∀ k : Fin 16, k ≠ l → u.lane k = s.lane k)
        ∧ ((∃ y ∈ rest, y.ended? = none) → leaves (.pendingChangeApply n) s u)
        ∧ ((∀ y ∈ rest, y.ended? ≠ none) → leaves (.pendingChangeApply n) s
          (u.finish l j (if ∀ y ∈ rest, y.ended? = some .ok then .ok else .partly) 0
            (BitVec.ofNat 32 (1 + (rest.filter fun y => decide (y.ended? = some .ok)).length)))))
  ∧ (∀ (s u : State) (l : Fin 16) (j : Join) (tag : Tag) (r : Request) (m : RemoteMix) (applied refused reason : Byte) (part : List Byte)
      (rest : List (List Byte)), s.works l j (.mixRemote m) = true → s.answered? tag 11 = some r → r.lane = l →
      m.todo = part :: rest →
      u = { s with svc := { s.svc with
        requests := s.svc.requests.filter fun q => !decide (q.lane = l ∧ q.number = r.number) } } →
      (m.kind = 8 ∨ m.kind = 9) → (m.staging = false ∨ refused = 0) →
      (s.waits l = false → s.reachable m.target = true → ∃ t v : State,
        v = { u with lanes := v.lanes }
        ∧ v.lane l = { s.lane l with activity := .working j (.mixRemote { m with
            todo := rest, applied := m.applied + applied.toNat, refused := m.refused + refused.toNat
            reason := if m.reason = 0 then reason.toNat else m.reason }) }
        ∧ (∀ k : Fin 16, k ≠ l → v.lane k = s.lane k)
        ∧ exec (.mixAck tag applied refused reason) s = .next t ∧ t.asked v l .normal m.target m.kind part
        ∧ (t.lane l).activity = (v.lane l).activity ∧ t = { s with lanes := t.lanes, svc := t.svc })
      ∧ (s.reachable m.target = false → ∀ a : MixAnswer,
        a = { applied := m.applied + applied.toNat, refused := m.refused + refused.toNat,
              reason := if m.reason = 0 then reason.toNat else m.reason } →
        endsRequest (.mixAck tag applied refused reason) s l j r (if a.applied = 0 then .unreachable else .partly) 0 a.count))

/-- NOTE: an entry with room goes behind the last, with sender, length, frame and text, the written count rises, and ATTENTION
bit 17 is set; without room the dropped count rises. SEND_NOTE: too long, to this terminal itself, to one that is not
reachable, and to one that is or to all, with room in the queue (R20, R73, R80, R81).
Where its rule gives no count, the result count 0 of a step refused or ended UNREACHABLE is the model's choice (log entry 11). -/
def Obligations.NotesAreListedAndSent : Prop :=
  (∀ (s : State) (q : Fin 4) (f : Word) (text : List Byte), s.isRunning = true → text.length ≤ 56 →
    s.cfg.noteList + 16 + 64 * s.cfg.noteCapacity ≤ Config.ramSize →
    ((s.noteList.written - s.peek (s.cfg.noteList + 8)).toNat < s.cfg.noteCapacity →
      ∃ (t : State) (at_ : Nat), exec (.note q f text) s = .next t
        ∧ at_ = s.cfg.noteList + 16 + 64 * (s.noteList.written.toNat % s.cfg.noteCapacity)
        ∧ t = { s with ram := t.ram, noteList := { s.noteList with written := s.noteList.written + 1 }
                       regs := { s.regs with attention := t.regs.attention } }
        ∧ t.regs.attention.getLsbD 17 = true
        ∧ t.peek at_ = BitVec.ofNat 32 (q.val + 256 * text.length) ∧ t.peek (at_ + 4) = f
        ∧ (∀ i : Nat, i < 56 → readByte t.ram (at_ + 8 + i) = byteAt text i)
        ∧ t.peek (s.cfg.noteList + 4) = s.noteList.written + 1
        ∧ ∀ b : Nat, outsideArea b at_ 64 = true → outsideArea b (s.cfg.noteList + 4) 4 = true →
            readByte t.ram b = readByte s.ram b)
    ∧ (s.cfg.noteCapacity ≤ (s.noteList.written - s.peek (s.cfg.noteList + 8)).toNat →
      exec (.note q f text) s = .next
        ({ s with noteList := { s.noteList with dropped := s.noteList.dropped + 1 } }.poke (s.cfg.noteList + 12)
          (s.noteList.dropped + 1))))
  ∧ ∀ (s : State) (l : Fin 16) (a : Nat), s.hasStep l 5 a = true →
    (56 < (s.stepAt a).payload.length → exec (.sendNote l) s = .next (s.finish l (s.stepAt a) .badStep 16 0))
    ∧ ((s.stepAt a).payload.length ≤ 56 →
      ((s.header a).target = s.cfg.id.val → exec (.sendNote l) s = .next
        ((s.addNote s.cfg.id s.clock.frame (s.stepAt a).payload).finish l (s.stepAt a)
          (if (s.noteList.written - s.peek (s.cfg.noteList + 8)).toNat < s.cfg.noteCapacity then .ok else .noRoom) 0
          (if (s.noteList.written - s.peek (s.cfg.noteList + 8)).toNat < s.cfg.noteCapacity then
            BitVec.ofNat 32 (s.stepAt a).payload.length else 0)))
      ∧ (∀ o : Fin 4, (s.header a).target = o.val → s.reachable o = false →
        exec (.sendNote l) s = .next (s.finish l (s.stepAt a) .unreachable 0 0))
      ∧ ((s.header a).target ≠ s.cfg.id.val →
        ((s.header a).target = 15 ∨ ∃ o : Fin 4, (s.header a).target = o.val ∧ s.reachable o = true) →
        s.svc.mayPlace .normal = true →
        ∃ t : State, exec (.sendNote l) s = .next t
          ∧ t = { s with
              lanes := t.lanes
              svc := { s.svc with normal := s.svc.normal ++ [{
                kind := 17, dest := (s.header a).target, body := (s.stepAt a).payload, producer := .note l }] } }
          ∧ t.lane l = { s.lane l with
              activity := .working (s.stepAt a) (.sendNote (s.stepAt a).payload.length) }
          ∧ ∀ k : Fin 16, k ≠ l → t.lane k = s.lane k))

/-- ROOM_GRANT gives room to the first producer of the room list, which leaves the list and places its message in the queue of its
class, the only one it waits for (R73, section 4.1), and PENDING_ENTRY_GRANT a free entry to the first step that waits for one, which
gives its request; with no room, or no one waiting, neither does anything. A reply is queued, kept in the reply hold of 32, or dropped (R73, R75, R76).
In the frame in which places come free, as soon as no command waits, as many grants are queued as there are places and as there are
waiting. That they come behind the commands queued before them is the model's choice (log entry 31). -/
def Obligations.RoomIsGranted : Prop :=
  (∀ (s : State) (q : QueueClass), s.isRunning = true →
    ((s.svc.room q = [] ∨ s.svc.hasRoom q = false) → exec (.roomGrant q) s = .next s)
    ∧ (∀ (h : Held) (rest : List Held), s.svc.room q = h :: rest → s.svc.hasRoom q = true →
      (State.placesIn { s with svc := s.svc.setRoom q rest } q h = true →
        leaves (.roomGrant q) s ({ s with svc := s.svc.setRoom q rest }.place q h))
      ∧ (State.placesIn { s with svc := s.svc.setRoom q rest } q h = false →
        exec (.roomGrant q) s = .next { s with svc := s.svc.setRoom q rest }))
    ∧ (∀ (l : Fin 16) (rest : List Held) (m : Message) (j : Join) (n : Nat), s.svc.room q = .lane l :: rest →
      s.svc.hasRoom q = true → kindClass m.kind = q → (s.lane l).held = some m → s.works l j (.sendNote n) = true →
      exec (.roomGrant q) s = .next { s with
        lanes := Bank.update s.lanes l fun x => { x with held := none }
        svc := (s.svc.setRoom q rest).enqueue m })
    ∧ (∀ (rest : List Held) (m : Message), s.svc.room q = .reply :: rest → s.svc.hasRoom q = true →
      s.svc.replies.find? (fun x => decide (kindClass x.kind = q)) = some m →
      exec (.roomGrant q) s = .next { s with
        svc := { s.svc.setRoom q rest with replies := s.svc.replies.erase m }.enqueue m }))
  ∧ (∀ s : State, s.isRunning = true →
    (s.svc.entryWait = [] ∨ 64 ≤ s.svc.requests.length → exec .pendingEntryGrant s = .next s)
    ∧ (∀ (l : Fin 16) (rest : List (Fin 16)) (w : Want) (j : Join) (op : Op), s.svc.entryWait = l :: rest →
      s.svc.requests.length < 64 → (s.lane l).want = some w → s.works l j op = true →
      (∀ es : List InputStep, op ≠ .setInput es) → s.svc.mayPlace (kindClass w.kind) = true →
      exec .pendingEntryGrant s = .next { s with
        lanes := Bank.update s.lanes l fun x => { x with given := x.given + 1, want := none }
        svc := Service.enqueue { s.svc with
            entryWait := rest
            requests := s.svc.requests ++ [{
              lane := l, number := (s.lane l).given + 1, target := w.target, kind := w.kind, state := .queued }] }
          { kind := w.kind, dest := w.target.val, producer := .request l ((s.lane l).given + 1)
            body := [BitVec.ofNat 8 s.cfg.id.val, BitVec.ofNat 8 l.val, (s.lane l).seq + 1] ++ w.body } }))
  ∧ (∀ (v : Service) (m : Message),
    (v.mayPlace (kindClass m.kind) = true → v.reply m = v.enqueue m)
    ∧ (v.mayPlace (kindClass m.kind) = false → v.replies.length < 32 →
      v.reply m = { v.setRoom (kindClass m.kind) (v.room (kindClass m.kind) ++ [.reply]) with replies := v.replies ++ [m] })
    ∧ (v.mayPlace (kindClass m.kind) = false → 32 ≤ v.replies.length → v.reply m = { v with replyDrops := v.replyDrops + 1 }))
  ∧ (∀ (s : State) (q : QueueClass), s.resetLow = false → s.isRunning = true → s.rounds < 65536 →
      s.roundWork.count (.roomGrant q) = min (16 - (s.svc.queue q).length) (s.svc.room q).length
      ∧ s.roundWork.count .pendingEntryGrant = min (64 - s.svc.requests.length) s.svc.entryWait.length)
  ∧ ∀ (s : State) (q : QueueClass) (l : Fin 16),
    (∀ (j : Join) (todo : List (Fin 64 × RefMode)) (n : Nat) (fs : List Word), (s.lane l).activity = .working j (.setReference todo n fs) →
      s.placesIn q (.lane l) = decide (q = .urgent))
    ∧ (∀ m : Message, (∀ (j : Join) (todo : List (Fin 64 × RefMode)) (n : Nat) (fs : List Word),
        (s.lane l).activity ≠ .working j (.setReference todo n fs)) → (s.lane l).held = some m →
      s.placesIn q (.lane l) = decide (kindClass m.kind = q))
    ∧ s.placesIn q .reply = true ∧ s.placesIn q .gainRefresh = decide (q = .urgent)
    ∧ s.placesIn q .refRefresh = decide (q = .urgent) ∧ s.placesIn q .outbox = decide (q = .urgent)
    ∧ (∀ n : Fin 64, s.placesIn q (.pendingGain n) = decide (q = .urgent) ∧ s.placesIn q (.faultAnnounce n) = decide (q = .urgent))
    ∧ ∀ u : Fin 4, s.placesIn q (.talkReply u) = decide (q = .urgent)

/-! ### The mix engine (spec 06) -/

/-- R110: the fields of a send entry record, and each row of its table over a live list that holds no entry of the source, or
one entry of it between the others; a new entry keeps the ascending order. What the coefficient of a level code is and how a level
moves to it over 64 frames is stated by FadesAndRampsAreLinear (R106, R107). -/
def Obligations.SendRecordsFollowTable : Prop :=
  (∀ w : Word, (sendRecord w).mixByte = (w.extractLsb' 0 8).toNat ∧ (sendRecord w).source = w.extractLsb' 8 8
    ∧ (sendRecord w).code = min (w.extractLsb' 16 10).toNat 1000 ∧ (sendRecord w).remove = w.getLsbD 31
    ∧ (∀ m : Fin 32, w.extractLsb' 0 8 = BitVec.ofNat 8 m.val → (sendRecord w).mix? = some m)
    ∧ (∀ m : Fin 32, w.extractLsb' 0 8 = BitVec.ofNat 8 (128 + m.val) → (sendRecord w).master? = some m))
  ∧ ∀ (x : Mix) (free : Bool) (source : Byte) (code : Nat),
    ((∀ e ∈ x.sends, e.source ≠ source) →
      x.applySend free source code true = (x, true)
      ∧ (x.steadySends < 48 → free = true → ∃ e : Send,
          e = { source := source, code := code, level := Level.retarget { value := 0 } (levelCoeff code) 64 }
          ∧ x.applySend free source code false = ({ x with sends := insertSend e x.sends }, true)
          ∧ (∀ y : Send, y ∈ insertSend e x.sends ↔ y = e ∨ y ∈ x.sends)
          ∧ (x.sends.Pairwise (fun a b => a.source.toNat < b.source.toNat) →
              (insertSend e x.sends).Pairwise fun a b => a.source.toNat < b.source.toNat))
      ∧ (48 ≤ x.steadySends ∨ free = false → x.applySend free source code false = (x, false)))
    ∧ ∀ (before after : List Send) (e : Send), x.sends = before ++ e :: after → e.source = source →
      (∀ y ∈ before ++ after, y.source ≠ source) →
      (e.fading = false →
        x.applySend free source code false = ({ x with sends := before
          ++ { e with code := code, level := e.level.retarget (levelCoeff code) 64 } :: after }, true)
        ∧ x.applySend free source code true = ({ x with sends := before
          ++ { e with code := 0, fading := true, level := e.level.retarget 0 64 } :: after }, true))
      ∧ (e.fading = true →
        x.applySend free source code true = (x, true)
        ∧ (x.steadySends < 48 → x.applySend free source code false = ({ x with sends := before
            ++ { e with code := code, fading := false, level := e.level.retarget (levelCoeff code) 64 } :: after }, true))
        ∧ (48 ≤ x.steadySends → x.applySend free source code false = (x, false)))

/-- MIX_SENDS: with the staged flag clear each record in turn is applied by R110 where the sender is its mix's controller, is refused
BAD FIELD, NOT CONTROLLER or NO ROOM, and the answer holds the counts and the reason of the first refusal. With the staged flag set a
controller's master entry begins a new staging, and a send record continues one that it began: each further record is entered in
the order of the sources, replaces its source's level, or is refused BAD FIELD or NO ROOM; a refusal discards the staging, and the
last part completes it; without a staging of the sender's the whole message is answered NO STAGING (R108, R110, R114, R116, R117,
R120).
The answers to no record and to a first record that names no mix are log entry 28, and that the records staged beside a refused one
count as applied is log entry 54. -/
def Obligations.MixSendsAreAnswered : Prop :=
  (∀ (s : State) (q : Fin 4) (tag : Tag) (last : Bool) (w : Word), s.isRunning = true →
    (31 < (sendRecord w).mixByte →
      exec (.mixSends q tag false last [w]) s = .next (s.reply (ackMessage q tag 0 1 3)))
    ∧ exec (.mixSends q tag true last []) s = .next (s.reply (ackMessage q tag 0 0 5))
    ∧ ∀ m : Fin 32,
      ((sendRecord w).mixByte = m.val → (s.mixRec m).controller ≠ q →
        exec (.mixSends q tag false last [w]) s = .next (s.reply (ackMessage q tag 0 1 1)))
      ∧ (∀ (y : Mix) (ok : Bool), (sendRecord w).mixByte = m.val → (s.mixRec m).controller = q →
        (s.mixRec m).applySend s.poolFree (sendRecord w).source (sendRecord w).code (sendRecord w).remove = (y, ok) →
        exec (.mixSends q tag false last [w]) s
          = .next ((s.modMix m fun _ => y).reply (if ok then ackMessage q tag 1 0 0 else ackMessage q tag 0 1 2)))
      ∧ ((sendRecord w).mixByte = 128 + m.val → (s.mixRec m).controller ≠ q →
        exec (.mixSends q tag true last [w]) s = .next (s.reply (ackMessage q tag 0 1 1)))
      ∧ ((sendRecord w).mixByte = 128 + m.val → (s.mixRec m).controller = q →
        exec (.mixSends q tag true last [w]) s = .next ((s.modMix m fun x => { x with
          staged := some { sends := [], master := (sendRecord w).code, complete := last, source := q } }).reply
            (ackMessage q tag 1 0 0)))
      ∧ ((sendRecord w).mixByte = m.val → (s.mixRec m).controller = q → (s.mixRec m).staged = none →
        exec (.mixSends q tag true last [w]) s = .next (s.reply (ackMessage q tag 0 1 5))))
  ∧ (∀ (s t : State) (q : Fin 4) (tag : Tag) (last : Bool) (ws : List Word) (a : MixAnswer), s.isRunning = true →
      s.applySends (some q) {} (ws.map sendRecord) = (t, a) →
      leaves (.mixSends q tag false last ws) s
        (t.reply (ackMessage q tag (BitVec.ofNat 8 a.applied) (BitVec.ofNat 8 a.refused) (BitVec.ofNat 8 a.reason))))
  ∧ (∀ (s : State) (sender : Option (Fin 4)) (a : MixAnswer) (r : SendRecord) (rest : List SendRecord),
      s.applySends sender a [] = (s, a)
      ∧ (31 < r.mixByte → s.applySends sender a (r :: rest)
        = s.applySends sender { a with refused := a.refused + 1, reason := if a.reason = 0 then 3 else a.reason } rest)
      ∧ ∀ m : Fin 32, r.mixByte = m.val →
        ((∃ q : Fin 4, sender = some q ∧ (s.mixRec m).controller ≠ q) → s.applySends sender a (r :: rest)
          = s.applySends sender { a with refused := a.refused + 1, reason := if a.reason = 0 then 1 else a.reason } rest)
        ∧ (∀ (y : Mix) (ok : Bool), (sender = none ∨ sender = some (s.mixRec m).controller) →
          (s.mixRec m).applySend s.poolFree r.source r.code r.remove = (y, ok) →
          s.applySends sender a (r :: rest) = (s.modMix m fun _ => y).applySends sender
            (if ok = true then { a with applied := a.applied + 1 }
             else { a with refused := a.refused + 1, reason := if a.reason = 0 then 2 else a.reason }) rest))
  ∧ (∀ s : State, s.poolFree = decide (s.mix.poolUsed < 1024)
      ∧ s.mix.poolUsed = ((List.finRange 32).map fun m => (s.mixRec m).sends.length
          + match (s.mixRec m).staged with
            | some scene => scene.sends.length
            | none => 0).sum)
  ∧ (∀ (s : State) (q : Fin 4) (tag : Tag) (last : Bool) (w : Word) (ws : List Word) (n : Byte), s.isRunning = true →
      n = BitVec.ofNat 8 (ws.length + 1) →
      (31 < (sendRecord w).mixByte → ((sendRecord w).mixByte < 128 ∨ 159 < (sendRecord w).mixByte) →
        exec (.mixSends q tag true last (w :: ws)) s = .next (s.reply (ackMessage q tag 0 n 3)))
      ∧ ∀ m : Fin 32,
        (((sendRecord w).mixByte = m.val ∨ (sendRecord w).mixByte = 128 + m.val) → (s.mixRec m).controller ≠ q →
          exec (.mixSends q tag true last (w :: ws)) s = .next (s.reply (ackMessage q tag 0 n 1)))
        ∧ ((sendRecord w).mixByte = m.val → (s.mixRec m).controller = q →
          (∀ scene : Scene, (s.mixRec m).staged = some scene → scene.complete = true ∨ scene.source ≠ q) →
          exec (.mixSends q tag true last (w :: ws)) s = .next (s.reply (ackMessage q tag 0 n 5)))
        ∧ (∀ (t : State) (a : MixAnswer) (ack : Message), (s.mixRec m).controller = q →
          ((sendRecord w).mixByte = 128 + m.val ∧ State.stageRecords (s.modMix m fun x => { x with
                staged := some { sends := [], master := (sendRecord w).code, complete := false, source := q } })
              m { applied := 1, refused := 0, reason := 0 } (ws.map sendRecord) = (t, a)
            ∨ (sendRecord w).mixByte = m.val ∧ (∃ scene : Scene, (s.mixRec m).staged = some scene ∧ scene.complete = false
                ∧ scene.source = q)
              ∧ s.stageRecords m { applied := 0, refused := 0, reason := 0 } ((w :: ws).map sendRecord) = (t, a)) →
          ack = ackMessage q tag (BitVec.ofNat 8 a.applied) (BitVec.ofNat 8 a.refused) (BitVec.ofNat 8 a.reason) →
          (a.refused ≠ 0 → leaves (.mixSends q tag true last (w :: ws)) s
            ((t.modMix m fun x => { x with staged := none }).reply ack))
          ∧ (a.refused = 0 → last = false → leaves (.mixSends q tag true last (w :: ws)) s (t.reply ack))
          ∧ (∀ scene : Scene, a.refused = 0 → last = true → (t.mixRec m).staged = some scene →
            leaves (.mixSends q tag true last (w :: ws)) s
              ((t.modMix m fun x => { x with staged := some { scene with complete := true } }).reply ack))))
  ∧ (∀ (s : State) (m : Fin 32) (a : MixAnswer) (r : SendRecord) (rest : List SendRecord) (scene : Scene),
      (s.mixRec m).staged = some scene → s.stageRecords m a [] = (s, a)
      ∧ (r.mixByte ≠ m.val → s.stageRecords m a (r :: rest)
        = s.stageRecords m { a with refused := a.refused + 1, reason := if a.reason = 0 then 3 else a.reason } rest)
      ∧ (r.mixByte = m.val →
        (((∃ e ∈ scene.sends, e.1 = r.source) ∨ scene.sends.length < 48 ∧ s.mix.poolUsed < 1024) →
          s.stageRecords m a (r :: rest) = State.stageRecords (s.modMix m fun x => { x with
              staged := some { scene with sends := stageInsert r.source r.code scene.sends } })
            m { a with applied := a.applied + 1 } rest)
        ∧ ((∀ e ∈ scene.sends, e.1 ≠ r.source) → (48 ≤ scene.sends.length ∨ 1024 ≤ s.mix.poolUsed) →
          s.stageRecords m a (r :: rest)
            = s.stageRecords m { a with refused := a.refused + 1, reason := if a.reason = 0 then 2 else a.reason } rest)))
  ∧ (∀ (source : Byte) (code : Nat) (sends : List (Byte × Nat)), sends.Pairwise (fun a b => a.1.toNat < b.1.toNat) →
      (stageInsert source code sends).Pairwise (fun a b => a.1.toNat < b.1.toNat)
      ∧ ∀ (b : Byte) (c : Nat), (b, c) ∈ stageInsert source code sends
        ↔ b = source ∧ c = code ∨ b ≠ source ∧ (b, c) ∈ sends)

/-- MIX_SET from the mix's controller, and a SET_MIX of one entry here: the mix takes the active flag, the codes, the master
over 64 frames and, while its insert has a holder, the duck over 256; a mix made inactive loses its insert, and its duck then
goes to unity; SET_MIX sets the controller too, with an incomplete staged scene of a third terminal discarded; every other mix
and insert, and what else the mix holds, stands. A SET_MIX for another terminal sends its entry as a MIX SET without the
controller, or ends UNREACHABLE. Refused forms change nothing (R113, R114, R120 to R122, R140).
The order of the checks is log entry 24's.
Where its rule gives no count, the result count 0 of a step refused or ended UNREACHABLE is the model's choice (log entry 11).
Of one entry that changes the duck code and makes the mix inactive, the order of the two on the duck is the model's choice (log
entry 56). That a MIX SET carries the active byte and the level codes as the payload holds them is the model's choice too (log entry
57).
MIX SET and a SET MIX of any number of entries here, taken in payload order, change nothing but the mixes they name and what a mix made
inactive loses; then the talk unit's producers queue what they may (TalkersEnterAndLeave), and the answer or the step's end follows. -/
def Obligations.MixSetTakesValues : Prop :=
  ((∀ (s : State) (q : Fin 4) (tag : Tag) (mix active : Byte) (master duck talk : BitVec 16), s.isRunning = true →
    (31 < mix.toNat →
      exec (.mixSet q tag mix active master duck talk) s = .next (s.reply (ackMessage q tag 0 1 3)))
    ∧ ∀ m : Fin 32, mix.toNat = m.val →
      ((s.mixRec m).controller ≠ q →
        exec (.mixSet q tag mix active master duck talk) s = .next (s.reply (ackMessage q tag 0 1 1)))
      ∧ ((s.mixRec m).controller = q → ∃ u : State,
        leaves (.mixSet q tag mix active master duck talk) s (u.reply (ackMessage q tag 1 0 0))
        ∧ u = { s with mix := u.mix, talk := u.talk, svc := u.svc, lanes := u.lanes, ram := u.ram
                       regs := { s.regs with attention := u.regs.attention } }
        ∧ u.mixRec m = { s.mixRec m with
            active := decide (active ≠ 0), masterCode := min master.toNat 1000, duckCode := min duck.toNat 1000
            talkCode := min talk.toNat 1000, duck := (u.mixRec m).duck
            master := (s.mixRec m).master.retarget (levelCoeff (min master.toNat 1000)) 64 }
        ∧ (active ≠ 0 → (u.mixRec m).duck = if (s.insert m).holder.isSome = true then
            (s.mixRec m).duck.retarget (levelCoeff (min duck.toNat 1000)) 256 else (s.mixRec m).duck)
        ∧ ((s.mixRec m).active = true → active = 0 → u.insert m = {})
        ∧ (∀ k : Fin 32, k ≠ m → u.mixRec k = s.mixRec k ∧ u.insert k = s.insert k)
        ∧ u.mix = { s.mix with mixes := u.mix.mixes }))
  ∧ ∀ (s : State) (l : Fin 16) (a : Nat) (b : List Byte), s.hasStep l 10 a = true → b = (s.stepAt a).payload →
    (((chunks 12 b).any fun e => decide (31 < (byteAt e 0).toNat)) = true →
      exec (.setMix l) s = .next (s.finish l (s.stepAt a) .badStep 16 0))
    ∧ (∀ m : Fin 32, 12 ≤ b.length → b.length < 24 → (byteAt b 0).toNat = m.val →
      ((3 < (byteAt b 2).toNat ∧ byteAt b 2 ≠ 255) →
        exec (.setMix l) s = .next (s.finish l (s.stepAt a) .badStep 17 0))
      ∧ ((byteAt b 2).toNat ≤ 3 ∨ byteAt b 2 = 255 → (s.header a).target = s.cfg.id.val → ∃ u : State,
        leaves (.setMix l) s (u.finish l (s.stepAt a) .ok 0 1)
        ∧ u = { s with mix := u.mix, talk := u.talk, svc := u.svc, lanes := u.lanes, ram := u.ram
                       regs := { s.regs with attention := u.regs.attention } }
        ∧ u.lane l = s.lane l
        ∧ (u.mixRec m).active = decide (byteAt b 1 ≠ 0) ∧ (u.mixRec m).masterCode = min (numAt b 4 2) 1000
        ∧ (u.mixRec m).duckCode = min (numAt b 6 2) 1000 ∧ (u.mixRec m).talkCode = min (numAt b 8 2) 1000
        ∧ (u.mixRec m).master = (s.mixRec m).master.retarget (levelCoeff (min (numAt b 4 2) 1000)) 64
        ∧ (u.mixRec m).sends = (s.mixRec m).sends ∧ (u.mixRec m).cue = (s.mixRec m).cue
        ∧ (byteAt b 2 = 255 → (u.mixRec m).controller = (s.mixRec m).controller
            ∧ (u.mixRec m).staged = (s.mixRec m).staged)
        ∧ (∀ c : Fin 4, (byteAt b 2).toNat = c.val →
            (u.mixRec m).controller = c ∧ (u.mixRec m).lost = !s.reachable c)
        ∧ ∀ k : Fin 32, k ≠ m → u.mixRec k = s.mixRec k)))
  ∧ (∀ (s : State) (q : Fin 4) (tag : Tag) (mix active : Byte) (master duck talk : BitVec 16) (m : Fin 32),
      s.isRunning = true → mix.toNat = m.val → (s.mixRec m).controller = q → ∃ u : State,
        leaves (.mixSet q tag mix active master duck talk) s (u.reply (ackMessage q tag 1 0 0))
        ∧ (((s.mixRec m).active = false ∨ active ≠ 0) → u.insert m = s.insert m
          ∧ (u.mixRec m).duck = if (s.insert m).holder.isSome = true then
              (s.mixRec m).duck.retarget (levelCoeff (min duck.toNat 1000)) 256 else (s.mixRec m).duck)
        ∧ ((s.mixRec m).active = true → active = 0 → (u.mixRec m).duck = if (s.insert m).holder.isSome = true then
            ((s.mixRec m).duck.retarget (levelCoeff (min duck.toNat 1000)) 256).retarget 1048576 256
          else (s.mixRec m).duck))
  ∧ (∀ (s : State) (l : Fin 16) (a : Nat) (b : List Byte) (m : Fin 32), s.hasStep l 10 a = true → b = (s.stepAt a).payload →
      12 ≤ b.length → b.length < 24 → (byteAt b 0).toNat = m.val → ((byteAt b 2).toNat ≤ 3 ∨ byteAt b 2 = 255) →
      ((s.header a).target = s.cfg.id.val → ∃ u : State,
        leaves (.setMix l) s (u.finish l (s.stepAt a) .ok 0 1)
        ∧ u.mix = { s.mix with mixes := u.mix.mixes }
        ∧ u.mixRec m = { s.mixRec m with
            active := decide (byteAt b 1 ≠ 0), masterCode := min (numAt b 4 2) 1000, duckCode := min (numAt b 6 2) 1000
            talkCode := min (numAt b 8 2) 1000, controller := (u.mixRec m).controller, lost := (u.mixRec m).lost
            staged := (u.mixRec m).staged, duck := (u.mixRec m).duck
            master := (s.mixRec m).master.retarget (levelCoeff (min (numAt b 4 2) 1000)) 64 }
        ∧ (byteAt b 2 = 255 → (u.mixRec m).controller = (s.mixRec m).controller ∧ (u.mixRec m).lost = (s.mixRec m).lost
          ∧ (u.mixRec m).staged = (s.mixRec m).staged)
        ∧ (∀ c : Fin 4, (byteAt b 2).toNat = c.val →
          ((s.mixRec m).staged = none → (u.mixRec m).staged = none)
          ∧ ∀ scene : Scene, (s.mixRec m).staged = some scene →
            (scene.complete = false → scene.source ≠ c → scene.source ≠ s.cfg.id → (u.mixRec m).staged = none)
            ∧ (scene.complete = true ∨ scene.source = c ∨ scene.source = s.cfg.id → (u.mixRec m).staged = some scene))
        ∧ (((s.mixRec m).active = false ∨ byteAt b 1 ≠ 0) → u.insert m = s.insert m
          ∧ (u.mixRec m).duck = if (s.insert m).holder.isSome = true then
              (s.mixRec m).duck.retarget (levelCoeff (min (numAt b 6 2) 1000)) 256 else (s.mixRec m).duck)
        ∧ ((s.mixRec m).active = true → byteAt b 1 = 0 → u.insert m = {}
          ∧ (u.mixRec m).duck = if (s.insert m).holder.isSome = true then
              ((s.mixRec m).duck.retarget (levelCoeff (min (numAt b 6 2) 1000)) 256).retarget 1048576 256
            else (s.mixRec m).duck)
        ∧ ∀ k : Fin 32, k ≠ m → u.mixRec k = s.mixRec k ∧ u.insert k = s.insert k)
      ∧ (∀ o : Fin 4, (s.header a).target = o.val → o ≠ s.cfg.id →
        (s.reachable o = false → ∃ u : State, exec (.setMix l) s = .next (u.finish l (s.stepAt a) .unreachable 0 0)
          ∧ u = { s with lanes := u.lanes } ∧ (u.lane l).done = (s.lane l).done)
        ∧ (s.reachable o = true → s.entryFree = true → s.svc.mayPlace .normal = true → s.waits l = false →
          ∃ t : State, exec (.setMix l) s = .next t ∧ t = { s with lanes := t.lanes, svc := t.svc }
            ∧ t.svc = { s.svc with
                normal := s.svc.normal ++ [{
                  kind := 9, dest := o.val, producer := .request l ((s.lane l).given + 1)
                  body := [BitVec.ofNat 8 s.cfg.id.val, BitVec.ofNat 8 l.val, (s.lane l).seq + 1, byteAt b 0, byteAt b 1]
                    ++ (b.drop 4).take 6 }]
                requests := s.svc.requests ++ [{
                  lane := l, number := (s.lane l).given + 1, target := o, kind := 9, state := .queued }] }
            ∧ (t.lane l).activity = .working (s.stepAt a) (.mixRemote {
                target := o, kind := 9, todo := [], staging := false })
            ∧ ∀ k : Fin 16, k ≠ l → t.lane k = s.lane k)))
  ∧ (∀ (s t : State) (q : Fin 4) (tag : Tag) (mix active : Byte) (master duck talk : BitVec 16) (m : Fin 32),
      s.isRunning = true → mix.toNat = m.val → (s.mixRec m).controller = q →
      t = s.modMix m (fun x => { x with
        active := decide (active ≠ 0), masterCode := min master.toNat 1000, duckCode := min duck.toNat 1000
        talkCode := min talk.toNat 1000, master := x.master.retarget (levelCoeff (min master.toNat 1000)) 64
        duck := if (s.insert m).holder.isSome = true then x.duck.retarget (levelCoeff (min duck.toNat 1000)) 256 else x.duck }) →
      (((s.mixRec m).active = false ∨ active ≠ 0) → leaves (.mixSet q tag mix active master duck talk) s
        (t.pumpTalk.reply (ackMessage q tag 1 0 0)))
      ∧ ((s.mixRec m).active = true → active = 0 → leaves (.mixSet q tag mix active master duck talk) s
        ((t.loseInsert m).pumpTalk.reply (ackMessage q tag 1 0 0))))
  ∧ (∀ (s : State) (l : Fin 16) (a : Nat) (es : List (List Byte)), s.hasStep l 10 a = true → es = chunks 12 (s.stepAt a).payload →
      (s.header a).target = s.cfg.id.val →
      (∀ e ∈ es, (byteAt e 0).toNat ≤ 31 ∧ ((byteAt e 2).toNat ≤ 3 ∨ byteAt e 2 = 255)) →
      leaves (.setMix l) s ((es.foldl State.applyMixEntry s).pumpTalk.finish l (s.stepAt a) .ok 0 (BitVec.ofNat 32 es.length)))
  ∧ (∀ (s t : State) (e : List Byte) (m : Fin 32) (f g : Mix → Mix), (byteAt e 0).toNat = m.val →
      f = (fun x => { x with
        active := decide (byteAt e 1 ≠ 0), masterCode := min (numAt e 4 2) 1000, duckCode := min (numAt e 6 2) 1000
        talkCode := min (numAt e 8 2) 1000, master := x.master.retarget (levelCoeff (min (numAt e 4 2) 1000)) 64
        duck := if (s.insert m).holder.isSome = true then x.duck.retarget (levelCoeff (min (numAt e 6 2) 1000)) 256 else x.duck }) →
      (byteAt e 2 = 255 ∧ g = f ∨ ∃ c : Fin 4, (byteAt e 2).toNat = c.val ∧ g = fun x => { f x with
        controller := c, lost := !s.reachable c
        staged := x.staged.filter fun scene => scene.complete || decide (scene.source = c ∨ scene.source = s.cfg.id) }) →
      t = s.modMix m g →
      (((s.mixRec m).active = false ∨ byteAt e 1 ≠ 0) → s.applyMixEntry e = t)
      ∧ ((s.mixRec m).active = true → byteAt e 1 = 0 → s.applyMixEntry e = t.loseInsert m))

/-- LOAD_SENDS here applies its records by R110 in order and ends by R123's table; STAGE_SCENE here replaces the mix's staged scene
by the distinct sources of its records in ascending order, each with the level of its last record, or ends NO ROOM where these
number more than 48 or the pool has no place for them; READ_MIXES writes the 32 records of R126's table and behind
them, if asked, the live send list of one mix as far as it fits, and no other byte of its payload, clears the clip counts if asked,
and counts the pool entries in use. For another terminal LOAD_SENDS and STAGE_SCENE go in MIX SENDS parts of up to 12 records, the
first at once and each after the answer to the one before; one that cannot be reached ends them UNREACHABLE (R116, R121, R123,
R124, R126, R76).
The bits of the flags byte are log entry 12's; the result count 0 of a refused step whose rule gives none is the model's choice
(log entry 11).
A LOAD SENDS step here applies any number of records in turn by no terminal's rights, as MixSendsAreAnswered says, and ends OK, NO ROOM or PARTIAL
with both counts (R123). That the MIX SENDS carry the records as the payload holds them is the model's choice (log entry 57); that a
faulty payload ends the step BAD STEP also where its target is unreachable is read from the spec (DEDUCED, log entry 24). -/
def Obligations.MixStepsAct : Prop :=
  (((∀ (s : State) (l : Fin 16) (a : Nat) (b : List Byte), s.hasStep l 11 a = true → b = (s.stepAt a).payload →
    (((chunks 4 b).any fun r => decide (31 < (byteAt r 0).toNat)) = true →
      exec (.loadSends l) s = .next (s.finish l (s.stepAt a) .badStep 16 0))
    ∧ (∀ (m : Fin 32) (y : Mix) (ok : Bool), 4 ≤ b.length → b.length < 8 → (sendRecord (wordAt b 0)).mixByte = m.val →
      (s.header a).target = s.cfg.id.val →
      (s.mixRec m).applySend s.poolFree (sendRecord (wordAt b 0)).source (sendRecord (wordAt b 0)).code
        (sendRecord (wordAt b 0)).remove = (y, ok) →
      exec (.loadSends l) s = .next ((s.modMix m fun _ => y).finish l (s.stepAt a) (if ok then .ok else .noRoom) 0
        (if ok then 1 else 65536))))
  ∧ (∀ (s : State) (l : Fin 16) (a : Nat) (rs : List SendRecord), s.hasStep l 12 a = true →
    rs = (chunks 4 (s.stepAt a).payload).map (fun r => sendRecord (wordAt r 0)) →
    (rs = [] → exec (.stageScene l) s = .next (s.finish l (s.stepAt a) .badStep 17 0))
    ∧ ∀ (m : Fin 32) (first : SendRecord) (rest : List SendRecord), rs = first :: rest →
      (first.mixByte < 128 ∨ 159 < first.mixByte →
        exec (.stageScene l) s = .next (s.finish l (s.stepAt a) .badStep 17 0))
      ∧ (first.mixByte = 128 + m.val → (∃ r ∈ rest, r.mixByte ≠ m.val) →
        exec (.stageScene l) s = .next (s.finish l (s.stepAt a) .badStep 17 0))
      ∧ (first.mixByte = 128 + m.val → (∀ r ∈ rest, r.mixByte = m.val) → (s.header a).target = s.cfg.id.val →
        ∀ d : Nat, d = (rest.map fun r => r.source).dedup.length →
        (48 < d → exec (.stageScene l) s = .next (s.finish l (s.stepAt a) .noRoom 18 0))
        ∧ (d ≤ 48 → 1024 < s.mix.poolUsed - (s.mixRec m).stagedSends + d →
          exec (.stageScene l) s = .next (s.finish l (s.stepAt a) .noRoom 0 0))
        ∧ (d ≤ 48 → s.mix.poolUsed - (s.mixRec m).stagedSends + d ≤ 1024 →
        ∃ sends : List (Byte × Nat),
          exec (.stageScene l) s = .next ((s.modMix m fun x => { x with
            staged := some { sends := sends, master := first.code, complete := true, source := s.cfg.id } }).finish l
              (s.stepAt a) .ok 0 (BitVec.ofNat 32 sends.length)) ∧ sends.length = d
          ∧ sends.Pairwise (fun x y => x.1.toNat < y.1.toNat)
          ∧ ∀ (source : Byte) (code : Nat), (source, code) ∈ sends ↔ ∃ (before after : List SendRecord) (r : SendRecord),
              rest = before ++ r :: after ∧ r.source = source ∧ r.code = code ∧ ∀ x ∈ after, x.source ≠ source)))
  ∧ ∀ (s : State) (l : Fin 16) (a : Nat), s.hasStep l 14 a = true →
    ∃ u : State, exec (.readMixes l) s = .next (u.finish l (s.stepAt a) .ok 0 (BitVec.ofNat 32 s.mix.poolUsed))
      ∧ u = { s with ram := u.ram, mix := u.mix }
      ∧ (∀ (m : Fin 32) (i : Nat), i < 4 →
          u.peek ((s.header a).payload + 16 * m.val + 4 * i) = (s.mixRec m).record.getD i 0)
      ∧ (∀ m : Fin 32, u.mixRec m = { s.mixRec m with
          clips := if (s.stepAt a).param.getLsbD 0 then 0 else (s.mixRec m).clips })
      ∧ ∀ (m : Fin 32) (n : Nat), m.val = ((s.stepAt a).param.extractLsb' 8 5).toNat →
        n = (if (s.stepAt a).param.getLsbD 1 = true then min (s.mixRec m).sends.length (((s.header a).length - 512) / 8) else 0) →
        (∀ (i : Nat) (e : Send), i < n → (s.mixRec m).sends[i]? = some e →
          u.peek ((s.header a).payload + 512 + 8 * i)
            = BitVec.ofNat 32 (e.source.toNat + 2 ^ 16 * e.code + 2 ^ 31 * e.fading.toNat)
          ∧ u.peek ((s.header a).payload + 516 + 8 * i) = BitVec.ofInt 32 e.level.value)
        ∧ ∀ b : Nat, outsideArea b (s.header a).payload (512 + 8 * n) = true → readByte u.ram b = readByte s.ram b)
  ∧ (∀ x : Mix, x.record
      = [BitVec.ofNat 32 (x.active.toNat + 2 * x.lost.toNat + 4 * x.staged.isSome.toNat
            + 8 * ((x.staged.map fun c => c.complete).getD false).toNat + 16 * x.cue.isSome.toNat + 2 ^ 8 * x.controller.val
            + 2 ^ 16 * (x.sends.filter fun e => !e.fading).length
            + 2 ^ 24 * ((x.staged.map fun c => c.sends.length).getD 0)),
          BitVec.ofNat 32 (x.masterCode + 2 ^ 16 * x.duckCode), BitVec.ofNat 32 (x.talkCode + 2 ^ 16 * x.clips),
          BitVec.ofNat 32 (x.sends.filter fun e => e.fading).length])
  ∧ (∀ (s : State) (l : Fin 16) (a : Nat) (rs : List SendRecord) (done : State × MixAnswer), s.hasStep l 11 a = true →
      (s.header a).target = s.cfg.id.val → rs = (chunks 4 (s.stepAt a).payload).map (fun r => sendRecord (wordAt r 0)) →
      (∀ r ∈ rs, r.mixByte < 32) → done = s.applySends none {} rs →
      exec (.loadSends l) s = .next (done.1.finish l (s.stepAt a)
        (if done.2.refused = 0 then .ok else if done.2.applied = 0 then .noRoom else .partly) 0
        (BitVec.ofNat 32 (done.2.applied + 65536 * done.2.refused)))
      ∧ done.1 = { s with mix := done.1.mix } ∧ done.2.applied + done.2.refused = rs.length)
  ∧ (∀ (s : State) (n : MixAnswer) (r : SendRecord) (rest : List SendRecord) (m : Fin 32) (y : Mix) (ok : Bool),
      r.mixByte = m.val → (s.mixRec m).applySend s.poolFree r.source r.code r.remove = (y, ok) →
      s.applySends none n [] = (s, n)
      ∧ s.applySends none n (r :: rest) = (s.modMix m fun _ => y).applySends none
        (if ok = true then { n with applied := n.applied + 1 }
          else { n with refused := n.refused + 1, reason := if n.reason = 0 then 2 else n.reason }) rest)
  ∧ (∀ (s : State) (l : Fin 16) (a : Nat) (b : List Byte) (o : Fin 4) (n : Nat) (staged : Bool) (c : Instr),
      o ≠ s.cfg.id → (s.header a).target = o.val → b = (s.stepAt a).payload → n = b.length / 4 →
      (staged = false ∧ c = .loadSends l ∧ s.hasStep l 11 a = true ∧ (∀ r ∈ chunks 4 b, (byteAt r 0).toNat < 32)
        ∨ staged = true ∧ c = .stageScene l ∧ s.hasStep l 12 a = true ∧ 1 ≤ n ∧ ∃ m : Fin 32, (byteAt b 0).toNat = 128 + m.val
          ∧ ∀ r ∈ (chunks 4 b).drop 1, (byteAt r 0).toNat = m.val) →
      (s.reachable o = false → ∃ u : State, exec c s = .next (u.finish l (s.stepAt a) .unreachable 0 0)
        ∧ u = { s with lanes := u.lanes } ∧ (u.lane l).done = (s.lane l).done ∧ ∀ k : Fin 16, k ≠ l → u.lane k = s.lane k)
      ∧ (s.reachable o = true → n = 0 → ∃ u : State, exec c s = .next (u.finish l (s.stepAt a) .ok 0 0)
        ∧ u = { s with lanes := u.lanes } ∧ (u.lane l).done = (s.lane l).done ∧ ∀ k : Fin 16, k ≠ l → u.lane k = s.lane k)
      ∧ (s.reachable o = true → 1 ≤ n → ∃ (t : State) (parts : List (List Byte)) (mark : Byte), exec c s = .next t
        ∧ mark = (if staged = true then 1 else 0) ∧ t = { s with lanes := t.lanes, svc := t.svc }
        ∧ t.asked s l .normal o 8 ((if n ≤ 12 then mark + 2 else mark) :: b.take (min 48 (4 * n)))
        ∧ (t.lane l).activity = .working (s.stepAt a) (.mixRemote {
            target := o, kind := 8, todo := parts, staging := staged })
        ∧ parts.length = (n - 1) / 12
        ∧ ∀ i : Nat, i < (n - 1) / 12 → parts.getD i []
          = (if i + 1 = (n - 1) / 12 then mark + 2 else mark) :: ((b.take (4 * n)).drop (48 * (i + 1))).take 48)))
  ∧ (∀ (s t : State) (l : Fin 16) (a : Nat) (rs : List SendRecord) (z : MixAnswer), s.hasStep l 11 a = true →
      rs = (chunks 4 (s.stepAt a).payload).map (fun r => sendRecord (wordAt r 0)) → (∀ r ∈ rs, r.mixByte ≤ 31) →
      (s.header a).target = s.cfg.id.val → s.applySends none {} rs = (t, z) →
      leaves (.loadSends l) s (t.finish l (s.stepAt a)
        (if z.refused = 0 then .ok else if z.applied = 0 then .noRoom else .partly) 0
        (BitVec.ofNat 32 (z.applied % 65536 + 65536 * z.refused))))

/-- Cues: MIX_CUE of one mix is refused too far ahead, to another than its controller, or without a record, and else takes a
record and gives the mix its cue; CUE_SCENE here does so for its lane, or waits for a record, which CUE_RECORD_GRANT brings; for
another terminal it asks with one MIX CUE, or ends UNREACHABLE. An older cue of the mix is withdrawn, and its record counts the mix
as refused SUPERSEDED: a remote request that is so finished is answered, a step ended, a button's record freed. CUE_DUE crossfades a
mix with a complete staged scene and counts it, or counts it as not ready (R118, R119, R120, R121, R125). After the crossfade the live
list holds the entries it held, moved to their staged levels or fading out, and those of the scene's other sources, and no more, in
ascending order of source where both lists were; the staged scene is gone (R118, R108).
That a new cue takes no record while a step waits is the model's choice (log entry 31), and so is the count 0 of an UNREACHABLE end
(log entry 11).
The same for a request of any mixes: those of another controller are refused, the rest are cued in ascending order with one record
that counts them all (log entry 58). At its last mix, ready or not, the record is freed: a remote request is answered with the counts
and the first reason, a step ends OK, PARTIAL, NOT READY or SUPERSEDED with the counts, a button's request just ends. The MIX CUE of a
CUE SCENE for another terminal carries the fade length as the payload holds it (log entry 57). That an empty mix set ends the step OK also where its target is
unreachable is read from the spec (DEDUCED, log entry 24). -/
def Obligations.CuesAreTaken : Prop :=
  (((∀ (s : State) (q : Fin 4) (tag : Tag) (mixes frame fade : Word) (now : Byte) (m : Fin 32), s.isRunning = true →
    onlyMix mixes m →
    (now = 0 → 4800 < (frame - s.clock.frame).toInt →
      exec (.mixCue q tag mixes now frame fade) s = .next (s.reply (ackMessage q tag 0 1 3)))
    ∧ (now ≠ 0 ∨ (frame - s.clock.frame).toInt ≤ 4800 →
      ((s.mixRec m).controller ≠ q →
        exec (.mixCue q tag mixes now frame fade) s = .next (s.reply (ackMessage q tag 0 1 1)))
      ∧ ((s.mixRec m).controller = q → s.takeRecord? = none →
        exec (.mixCue q tag mixes now frame fade) s = .next (s.reply (ackMessage q tag 0 1 2)))
      ∧ (∀ k : Fin 16, (s.mixRec m).controller = q → s.takeRecord? = some k → (s.mixRec m).cue = none →
        ∃ t : State, exec (.mixCue q tag mixes now frame fade) s = .next t ∧ t = { s with mix := t.mix }
          ∧ t.mix.cueWait = s.mix.cueWait
          ∧ t.mix.records = s.mix.records.set k (some {
              requester := .remote q tag, outstanding := 1, applied := 0, refused := 0, reason := 0 })
          ∧ t.mixRec m = { s.mixRec m with cue := some {
              record := k
              spec := { now := decide (now ≠ 0), frame := frame, fade := max 64 (min fade.toNat 480000) } } }
          ∧ ∀ i : Fin 32, i ≠ m → t.mixRec i = s.mixRec i)))
  ∧ (∀ (s : State) (l : Fin 16) (a : Nat) (b : List Byte), s.hasStep l 13 a = true → b = (s.stepAt a).payload →
    (wordAt b 0 = 0 → exec (.cueScene l) s = .next (s.finish l (s.stepAt a) .ok 0 0))
    ∧ (∀ (m : Fin 32) (cue : CueSpec), (s.header a).target = s.cfg.id.val → onlyMix (wordAt b 0) m →
      cue = { now := decide (byteAt b 4 ≠ 0), frame := wordAt b 8, fade := max 64 (min (wordAt b 12).toNat 480000) } →
      (∀ k : Fin 16, s.takeRecord? = some k → (s.mixRec m).cue = none →
        ∃ t : State, exec (.cueScene l) s = .next t ∧ t = { s with mix := t.mix, lanes := t.lanes }
          ∧ t.mix.records = s.mix.records.set k (some {
              requester := .lane l, outstanding := 1, applied := 0, refused := 0, reason := 0 })
          ∧ t.mixRec m = { s.mixRec m with cue := some { spec := cue, record := k } }
          ∧ (∀ i : Fin 32, i ≠ m → t.mixRec i = s.mixRec i)
          ∧ (t.lane l).activity = .working (s.stepAt a) (.cueScene (wordAt b 0) cue (some k))
          ∧ ∀ i : Fin 16, i ≠ l → t.lane i = s.lane i)
      ∧ (s.takeRecord? = none →
        ∃ t : State, exec (.cueScene l) s = .next t
          ∧ t = { s with lanes := t.lanes, mix := { s.mix with cueWait := s.mix.cueWait ++ [l] } }
          ∧ (t.lane l).activity = .working (s.stepAt a) (.cueScene (wordAt b 0) cue none)
          ∧ ∀ i : Fin 16, i ≠ l → t.lane i = s.lane i)))
  ∧ (∀ (s : State) (l : Fin 16) (rest : List (Fin 16)) (j : Join) (mixes : Word) (m : Fin 32) (cue : CueSpec) (k : Fin 16),
    s.mix.cueWait = l :: rest → s.freeRecord? = some k → s.works l j (.cueScene mixes cue none) = true →
    onlyMix mixes m → (s.mixRec m).cue = none →
    ∃ t : State, exec .cueRecordGrant s = .next t ∧ t = { s with mix := t.mix, lanes := t.lanes }
      ∧ t.mix.cueWait = rest ∧ (t.lane l).activity = .working j (.cueScene mixes cue (some k))
      ∧ t.mix.records = s.mix.records.set k (some {
          requester := .lane l, outstanding := 1, applied := 0, refused := 0, reason := 0 })
      ∧ t.mixRec m = { s.mixRec m with cue := some { spec := cue, record := k } }
      ∧ ∀ i : Fin 32, i ≠ m → t.mixRec i = s.mixRec i)
  ∧ (∀ (s : State) (m : Fin 32) (c : Cue) (r : CueRequest), s.isRunning = true → (s.mixRec m).cue = some c →
    s.mix.records.get c.record = some r → s.merge.playedNow = false →
    (c.spec.now = true ∨ later c.spec.frame s.clock.frame = false) →
    (∀ scene : Scene, (s.mixRec m).staged = some scene → scene.complete = true → 2 ≤ r.outstanding →
      exec (.cueDue m) s = .next
        { (s.modMix m fun x => Mix.crossfade { x with cue := none } scene c.spec.fade) with
          mix.records := s.mix.records.set c.record (some { r with
            outstanding := r.outstanding - 1, applied := r.applied + 1 }) })
    ∧ ((∀ scene : Scene, (s.mixRec m).staged = some scene → scene.complete = false) →
      (2 ≤ r.outstanding → exec (.cueDue m) s = .next
        { (s.modMix m fun x => { x with cue := none }) with
          mix.records := s.mix.records.set c.record (some { r with
            outstanding := r.outstanding - 1, refused := r.refused + 1, reason := if r.reason = 0 then 4 else r.reason }) })
      ∧ (∀ (q : Fin 4) (tag : Tag), r.requester = .remote q tag → r.outstanding = 1 → r.reason = 0 →
        exec (.cueDue m) s = .next (State.reply
          { (s.modMix m fun x => { x with cue := none }) with mix.records := s.mix.records.set c.record none }
          (ackMessage q tag (BitVec.ofNat 8 r.applied) (BitVec.ofNat 8 (r.refused + 1)) 4)))))
  ∧ ∀ (x : Mix) (scene : Scene) (fade : Nat),
    (x.crossfade scene fade).staged = none ∧ (x.crossfade scene fade).masterCode = scene.master
    ∧ (x.crossfade scene fade).master = x.master.retarget (levelCoeff scene.master) fade
    ∧ (∀ e ∈ x.sends, (∀ t ∈ scene.sends, t.1 ≠ e.source) →
        { e with code := 0, fading := true, level := e.level.retarget 0 fade } ∈ (x.crossfade scene fade).sends)
    ∧ (∀ (e : Send) (code : Nat), e ∈ x.sends → (e.source, code) ∈ scene.sends →
        (∀ t ∈ scene.sends, t.1 = e.source → t.2 = code) →
        { e with code := code, fading := false, level := e.level.retarget (levelCoeff code) fade }
          ∈ (x.crossfade scene fade).sends)
    ∧ (∀ t ∈ scene.sends, (∀ e ∈ x.sends, e.source ≠ t.1) →
        ({ source := t.1, code := t.2, level := Level.retarget { value := 0 } (levelCoeff t.2) fade } : Send)
          ∈ (x.crossfade scene fade).sends)
    ∧ (∀ e ∈ (x.crossfade scene fade).sends,
        (∃ o ∈ x.sends, (∀ t ∈ scene.sends, t.1 ≠ o.source)
          ∧ e = { o with code := 0, fading := true, level := o.level.retarget 0 fade })
        ∨ (∃ o ∈ x.sends, ∃ code : Nat, (o.source, code) ∈ scene.sends
          ∧ e = { o with code := code, fading := false, level := o.level.retarget (levelCoeff code) fade })
        ∨ ∃ t ∈ scene.sends, (∀ o ∈ x.sends, o.source ≠ t.1)
          ∧ e = { source := t.1, code := t.2, level := Level.retarget { value := 0 } (levelCoeff t.2) fade })
    ∧ (x.sends.Pairwise (fun a b => a.source.toNat < b.source.toNat) →
        scene.sends.Pairwise (fun a b => a.1.toNat < b.1.toNat) →
        (x.crossfade scene fade).sends.Pairwise fun a b => a.source.toNat < b.source.toNat)
    ∧ x.crossfade scene fade = { x with
        sends := (x.crossfade scene fade).sends, masterCode := scene.master, staged := none
        master := (x.crossfade scene fade).master })
  ∧ (∀ (s : State) (m : Fin 32) (k : Fin 16) (cue : CueSpec) (old : Cue) (r r' : CueRequest) (given : State),
      (s.mixRec m).cue = some old → s.mix.records.get old.record = some r →
      given = s.modMix m (fun x => { x with cue := some { spec := cue, record := k } }) →
      r' = { r with outstanding := r.outstanding - 1, refused := r.refused + 1
                    reason := if r.reason = 0 then 6 else r.reason } →
      (2 ≤ r.outstanding → s.giveCue k cue m = { given with mix := { given.mix with
        records := s.mix.records.set old.record (some r') } })
      ∧ (r.outstanding = 1 → ∀ freed : State, freed = { given with mix := { given.mix with
          records := s.mix.records.set old.record none } } →
        (∀ (q : Fin 4) (tag : Tag), r.requester = .remote q tag → s.giveCue k cue m
          = freed.reply (ackMessage q tag (BitVec.ofNat 8 r'.applied) (BitVec.ofNat 8 r'.refused) (BitVec.ofNat 8 r'.reason)))
        ∧ (r.requester = .button → s.giveCue k cue m = freed)
        ∧ ∀ (l : Fin 16) (j : Join) (op : Op), r.requester = .lane l → (s.lane l).activity = .working j op →
          (r.applied ≠ 0 → s.giveCue k cue m = freed.finish l j .partly 0 (r'.answer.count))
          ∧ (r.applied = 0 → (r.reason = 0 ∨ r.reason = 6) →
            s.giveCue k cue m = freed.finish l j .superseded 0 (BitVec.ofNat 32 (65536 * r'.refused)))))
  ∧ (∀ (s : State) (q : Fin 4) (tag : Tag) (mixes frame fade : Word) (now : Byte) (m : Fin 32) (k : Fin 16) (cue : CueSpec)
      (taken : State), s.isRunning = true → onlyMix mixes m → (now ≠ 0 ∨ (frame - s.clock.frame).toInt ≤ 4800) →
      (s.mixRec m).controller = q → s.takeRecord? = some k →
      cue = { now := decide (now ≠ 0), frame := frame, fade := max 64 (min fade.toNat 480000) } →
      taken = { s with mix := { s.mix with records := s.mix.records.set k (some {
        requester := .remote q tag, outstanding := 1, applied := 0, refused := 0, reason := 0 }) } } →
      leaves (.mixCue q tag mixes now frame fade) s (taken.giveCue k cue m))
  ∧ (∀ (s : State) (l : Fin 16) (a : Nat) (b : List Byte) (m : Fin 32) (k : Fin 16) (cue : CueSpec),
      s.hasStep l 13 a = true → b = (s.stepAt a).payload → (s.header a).target = s.cfg.id.val →
      onlyMix (wordAt b 0) m → s.takeRecord? = some k →
      cue = { now := decide (byteAt b 4 ≠ 0), frame := wordAt b 8, fade := max 64 (min (wordAt b 12).toNat 480000) } →
      ∃ taken : State, leaves (.cueScene l) s (taken.giveCue k cue m)
        ∧ taken = { s with lanes := taken.lanes, mix := { s.mix with records := s.mix.records.set k (some {
            requester := .lane l, outstanding := 1, applied := 0, refused := 0, reason := 0 }) } }
        ∧ (taken.lane l).activity = .working (s.stepAt a) (.cueScene (wordAt b 0) cue (some k))
        ∧ ∀ i : Fin 16, i ≠ l → taken.lane i = s.lane i)
  ∧ (∀ (s : State) (l : Fin 16) (rest : List (Fin 16)) (j : Join) (mixes : Word) (m : Fin 32) (cue : CueSpec) (k : Fin 16),
      s.mix.cueWait = l :: rest → s.freeRecord? = some k → s.works l j (.cueScene mixes cue none) = true →
      onlyMix mixes m → ∃ taken : State, leaves .cueRecordGrant s (taken.giveCue k cue m)
        ∧ taken = { s with lanes := taken.lanes, mix := { s.mix with cueWait := rest, records := s.mix.records.set k (some {
            requester := .lane l, outstanding := 1, applied := 0, refused := 0, reason := 0 }) } }
        ∧ (taken.lane l).activity = .working j (.cueScene mixes cue (some k))
        ∧ ∀ i : Fin 16, i ≠ l → taken.lane i = s.lane i)
  ∧ (∀ (s : State) (l : Fin 16) (a : Nat) (b : List Byte) (o : Fin 4), s.hasStep l 13 a = true → b = (s.stepAt a).payload →
      wordAt b 0 ≠ 0 → (s.header a).target = o.val → o ≠ s.cfg.id →
      (s.reachable o = false → ∃ u : State, exec (.cueScene l) s = .next (u.finish l (s.stepAt a) .unreachable 0 0)
        ∧ u = { s with lanes := u.lanes } ∧ (u.lane l).done = (s.lane l).done ∧ ∀ k : Fin 16, k ≠ l → u.lane k = s.lane k)
      ∧ (s.reachable o = true → ∃ t : State, exec (.cueScene l) s = .next t
        ∧ t = { s with lanes := t.lanes, svc := t.svc } ∧ t.asked s l .urgent o 10 (b.take 5 ++ (b.drop 8).take 8)
        ∧ (t.lane l).activity = .working (s.stepAt a) (.mixRemote {
            target := o, kind := 10, todo := [], staging := false }))))
  ∧ (∀ (s : State) (m : Fin 32) (c : Cue) (r r' : CueRequest) (u freed : State), s.isRunning = true →
      (s.mixRec m).cue = some c → s.mix.records.get c.record = some r → s.merge.playedNow = false →
      (c.spec.now = true ∨ later c.spec.frame s.clock.frame = false) → r.outstanding = 1 →
      ((∃ scene : Scene, (s.mixRec m).staged = some scene ∧ scene.complete = true
          ∧ u = (s.modMix m fun x => Mix.crossfade { x with cue := none } scene c.spec.fade)
          ∧ r' = { r with outstanding := 0, applied := r.applied + 1 })
        ∨ (∀ scene : Scene, (s.mixRec m).staged = some scene → scene.complete = false)
          ∧ u = (s.modMix m fun x => { x with cue := none })
          ∧ r' = { r with outstanding := 0, refused := r.refused + 1, reason := if r.reason = 0 then 4 else r.reason }) →
      freed = { u with mix := { u.mix with records := s.mix.records.set c.record none } } →
      (∀ (q : Fin 4) (tag : Tag), r.requester = .remote q tag → leaves (.cueDue m) s
        (freed.reply (ackMessage q tag (BitVec.ofNat 8 r'.applied) (BitVec.ofNat 8 r'.refused) (BitVec.ofNat 8 r'.reason))))
      ∧ (r.requester = .button → leaves (.cueDue m) s freed)
      ∧ ∀ (l : Fin 16) (j : Join) (op : Op) (count : Word), r.requester = .lane l → (s.lane l).activity = .working j op →
        count = BitVec.ofNat 32 (r'.applied % 65536 + 65536 * r'.refused) →
        (r'.refused = 0 → leaves (.cueDue m) s (freed.finish l j .ok 0 count))
        ∧ (r'.refused ≠ 0 → r'.applied ≠ 0 → leaves (.cueDue m) s (freed.finish l j .partly 0 count))
        ∧ (r'.refused ≠ 0 → r'.applied = 0 → r'.reason = 4 → leaves (.cueDue m) s (freed.finish l j .notReady 0 count))
        ∧ (r'.refused ≠ 0 → r'.applied = 0 → r'.reason = 6 → leaves (.cueDue m) s (freed.finish l j .superseded 0 count)))
  ∧ (∀ (s : State) (m : Fin 32) (k : Fin 16) (cue : CueSpec), (s.mixRec m).cue = none →
      s.giveCue k cue m = s.modMix m fun x => { x with cue := some { spec := cue, record := k } })
  ∧ (∀ (s : State) (q : Fin 4) (tag : Tag) (mixes frame fade : Word) (now n : Byte) (named mine : List (Fin 32)),
      s.isRunning = true → named = (List.finRange 32).filter (fun m => mixes.getLsbD m.val) →
      mine = named.filter (fun m => decide ((s.mixRec m).controller = q)) → n = BitVec.ofNat 8 named.length → named ≠ [] →
      (now = 0 → 4800 < (frame - s.clock.frame).toInt →
        exec (.mixCue q tag mixes now frame fade) s = .next (s.reply (ackMessage q tag 0 n 3)))
      ∧ (now ≠ 0 ∨ (frame - s.clock.frame).toInt ≤ 4800 →
        (mine = [] → exec (.mixCue q tag mixes now frame fade) s = .next (s.reply (ackMessage q tag 0 n 1)))
        ∧ (mine ≠ [] → s.takeRecord? = none → exec (.mixCue q tag mixes now frame fade) s
          = .next (s.reply (ackMessage q tag 0 n (if mine.length < named.length then 1 else 2))))
        ∧ (∀ (k : Fin 16) (cue : CueSpec) (taken : State), mine ≠ [] → s.takeRecord? = some k →
          cue = { now := decide (now ≠ 0), frame := frame, fade := max 64 (min fade.toNat 480000) } →
          taken = { s with mix := { s.mix with records := s.mix.records.set k (some {
            requester := .remote q tag, outstanding := mine.length, applied := 0, refused := named.length - mine.length
            reason := if mine.length < named.length then 1 else 0 }) } } →
          leaves (.mixCue q tag mixes now frame fade) s (mine.foldl (fun t m => t.giveCue k cue m) taken))))
  ∧ (∀ (s : State) (l : Fin 16) (a : Nat) (b : List Byte) (named : List (Fin 32)) (cue : CueSpec),
      s.hasStep l 13 a = true → b = (s.stepAt a).payload → (s.header a).target = s.cfg.id.val → wordAt b 0 ≠ 0 →
      named = (List.finRange 32).filter (fun m => (wordAt b 0).getLsbD m.val) →
      cue = { now := decide (byteAt b 4 ≠ 0), frame := wordAt b 8, fade := max 64 (min (wordAt b 12).toNat 480000) } →
      (∀ k : Fin 16, s.takeRecord? = some k →
        ∃ taken : State, leaves (.cueScene l) s (named.foldl (fun t m => t.giveCue k cue m) taken)
        ∧ taken = { s with lanes := taken.lanes, mix := { s.mix with records := s.mix.records.set k (some {
            requester := .lane l, outstanding := named.length, applied := 0, refused := 0, reason := 0 }) } }
        ∧ (taken.lane l).activity = .working (s.stepAt a) (.cueScene (wordAt b 0) cue (some k))
        ∧ ∀ i : Fin 16, i ≠ l → taken.lane i = s.lane i)
      ∧ (s.takeRecord? = none → ∃ t : State, exec (.cueScene l) s = .next t
        ∧ t = { s with lanes := t.lanes, mix := { s.mix with cueWait := s.mix.cueWait ++ [l] } }
        ∧ (t.lane l).activity = .working (s.stepAt a) (.cueScene (wordAt b 0) cue none)
        ∧ ∀ i : Fin 16, i ≠ l → t.lane i = s.lane i))
  ∧ (∀ (s : State) (l : Fin 16) (rest : List (Fin 16)) (j : Join) (mixes : Word) (cue : CueSpec) (k : Fin 16)
      (named : List (Fin 32)), s.mix.cueWait = l :: rest → s.freeRecord? = some k →
      s.works l j (.cueScene mixes cue none) = true → named = (List.finRange 32).filter (fun m => mixes.getLsbD m.val) →
      ∃ taken : State, leaves .cueRecordGrant s (named.foldl (fun t m => t.giveCue k cue m) taken)
        ∧ taken = { s with lanes := taken.lanes, mix := { s.mix with cueWait := rest, records := s.mix.records.set k (some {
            requester := .lane l, outstanding := named.length, applied := 0, refused := 0, reason := 0 }) } }
        ∧ (taken.lane l).activity = .working j (.cueScene mixes cue (some k))
        ∧ ∀ i : Fin 16, i ≠ l → taken.lane i = s.lane i)

/-! ### The talk unit (spec 07) -/

/-- A talker's entry and removal keep an insert in order: it has at most one holder and at most three waiting, in descending
order of rank; a talker enters an empty insert as holder, preempts a holder of lower rank, which goes before its equals, and
else waits behind its equals; a present talker is not entered again; the head of the list follows a holder that leaves
(R136, R137). -/
def Obligations.InsertsAreArbitrated : Prop :=
  ∀ (i : Insert) (t : Fin 4) (r : Nat), i.ordered →
    (i.enter t r).ordered ∧ (i.leave t).ordered ∧ i.waiting.length ≤ 3
    ∧ (∀ p : Present, p ∈ i.holder.toList ++ i.waiting → p.talker = t → i.enter t r = i)
    ∧ ((∀ p ∈ i.holder.toList ++ i.waiting, p.talker ≠ t) →
      i.leave t = i
      ∧ (i.holder = none → i.enter t r = { holder := some ⟨t, r⟩, waiting := [] })
      ∧ (∀ h : Present, i.holder = some h → h.rank < r → ∃ before after : List Present,
          i.waiting = before ++ after ∧ i.enter t r = { holder := some ⟨t, r⟩, waiting := before ++ h :: after }
          ∧ (∀ p ∈ before, h.rank < p.rank) ∧ ∀ p ∈ after, p.rank ≤ h.rank)
      ∧ (∀ h : Present, i.holder = some h → r ≤ h.rank → ∃ before after : List Present,
          i.waiting = before ++ after ∧ i.enter t r = { holder := some h, waiting := before ++ ⟨t, r⟩ :: after }
          ∧ (∀ p ∈ before, r ≤ p.rank) ∧ ∀ p ∈ after, p.rank < r))
    ∧ (∀ h : Present, i.holder = some h → h.talker = t →
      i.leave t = { holder := i.waiting.head?, waiting := i.waiting.tail })
    ∧ (∀ (before after : List Present) (p : Present), i.waiting = before ++ p :: after → p.talker = t →
      i.leave t = { i with waiting := before ++ after })

/-- TALK_OPEN and TALK_CLOSE: the talker's group takes the sequence and its sets, or is closed and empty; exactly the mixes
that enter or leave the talker's present set have it entered or removed; an OPEN from another terminal is flagged for an
answer, which carries the group, its sequence and the three sets; groups above 7 are discarded (R135, R136, R137, R138). The duck
goes to its coefficient when an insert comes to have a holder and to unity when it comes to have none, over 256 frames (R139); a
mix made inactive loses its insert, and what was requested of it is lost (R140). Every talker whose position in an insert has changed by
such an OPEN or CLOSE has the groups flagged whose requested or lost set names the mix, and this terminal's own record is applied to its
open group of the same sequence at once (R136 to R138); that a talker's own leaving flags another of its groups is the model's choice
(log entry 71). The outbox queues the pending message of the
lowest group, and in it of the lowest terminal; an OPEN's sent frame starts its answer wait (R131).
When a reply is made is log entry 30's.
Behind the outbox each talker's reply record queues a TALK STATE for its lowest flagged group while it may, or waits in the room list of
the urgent queue, and the TALK steps whose groups have closed or been answered by all their terminals end (R138, R73, R151); that the
outbox comes first and the talkers in ascending order is log entry 30's, that the lanes come in ascending order the model's choice (log
entry 74).
That another message queued clears the sent frame of the last OPEN is the model's choice (log entry 61), and so is the mix set of a
CLOSE, that of the group's targets at the terminal as in an OPEN (log entry 66): R66 gives a CLOSE the field and no rule its value. -/
def Obligations.TalkersEnterAndLeave : Prop :=
  ((∀ (s : State) (t : Fin 4) (group seq : Byte) (mixes : Word), s.isRunning = true →
    (7 < group.toNat → exec (.talkOpen t group seq mixes) s = .next s ∧ exec (.talkClose t group seq mixes) s = .next s)
    ∧ ∀ g : Fin 8, group.toNat = g.val →
      (∃ u : State, leaves (.talkOpen t group seq mixes) s u.pumpTalk
        ∧ (u.talkerGroup t g).isOpen = true ∧ (u.talkerGroup t g).seq = seq
        ∧ (∀ m : Fin 32,
            (u.talkerGroup t g).requested.getLsbD m.val = (mixes.getLsbD m.val && (s.mixRec m).active)
            ∧ (u.talkerGroup t g).lost.getLsbD m.val = (mixes.getLsbD m.val && !(s.mixRec m).active))
        ∧ (∀ (v : Fin 4) (h : Fin 8), v ≠ t ∨ h ≠ g → u.talkerGroup v h = s.talkerGroup v h)
        ∧ (∀ m : Fin 32, u.insert m =
            if (u.presentSet t).getLsbD m.val && !(s.presentSet t).getLsbD m.val then (s.insert m).enter t (s.rank t)
            else if (s.presentSet t).getLsbD m.val && !(u.presentSet t).getLsbD m.val then (s.insert m).leave t
            else s.insert m)
        ∧ (t ≠ s.cfg.id → (u.talk.talkers.get t).flags.getLsbD g.val = true)
        ∧ u.svc = s.svc ∧ u.ram = s.ram ∧ u.lanes = s.lanes ∧ u.gain = s.gain ∧ u.ports = s.ports ∧ u.sup = s.sup)
      ∧ ∃ u : State, leaves (.talkClose t group seq mixes) s u.pumpTalk
        ∧ u.talkerGroup t g = { isOpen := false, seq := (s.talkerGroup t g).seq, requested := 0, lost := 0 }
        ∧ (∀ (v : Fin 4) (h : Fin 8), v ≠ t ∨ h ≠ g → u.talkerGroup v h = s.talkerGroup v h)
        ∧ (∀ m : Fin 32, u.insert m =
            if (s.presentSet t).getLsbD m.val && !(u.presentSet t).getLsbD m.val then (s.insert m).leave t
            else s.insert m)
        ∧ (u.talk.talkers.get t).flags.getLsbD g.val = false
        ∧ u.svc = s.svc ∧ u.ram = s.ram ∧ u.lanes = s.lanes ∧ u.gain = s.gain ∧ u.ports = s.ports ∧ u.sup = s.sup)
  ∧ ∀ (s : State) (t : Fin 4) (g : Fin 8), s.flagged? t = some g →
    (∀ m : Fin 32,
      (s.heldSet t g).getLsbD m.val
        = ((s.talkerGroup t g).requested.getLsbD m.val && decide ((s.insert m).position t = some 0))
      ∧ (s.waitingSet t g).getLsbD m.val = ((s.talkerGroup t g).requested.getLsbD m.val
        && decide ((s.insert m).position t ≠ some 0 ∧ (s.insert m).position t ≠ none)))
    ∧ (s.sendTalkState t).svc = s.svc.enqueue
        { kind := 14, dest := t.val
          body := [BitVec.ofNat 8 g.val, (s.talkerGroup t g).seq] ++ leBytes 4 (s.heldSet t g).toNat
            ++ leBytes 4 (s.waitingSet t g).toNat ++ leBytes 4 (s.talkerGroup t g).lost.toNat }
    ∧ ((s.sendTalkState t).talk.talkers.get t).flags.getLsbD g.val = false)
  ∧ (∀ (s : State) (t : Fin 4) (group seq : Byte) (mixes : Word) (g : Fin 8) (c : Instr), s.isRunning = true →
      group.toNat = g.val → (c = .talkOpen t group seq mixes ∨ c = .talkClose t group seq mixes) →
      ∃ w : State, exec c s = .next w ∧ ∀ m : Fin 32, w.mixRec m = { s.mixRec m with
        duck := if (w.insert m).holder.isSome = (s.insert m).holder.isSome then (s.mixRec m).duck
          else (s.mixRec m).duck.retarget
            (if (w.insert m).holder.isSome = true then levelCoeff (s.mixRec m).duckCode else 1048576) 256 })
  ∧ (∀ (s : State) (t : Fin 4) (group seq : Byte) (mixes : Word) (g : Fin 8), s.isRunning = true → group.toNat = g.val →
      leaves (.talkOpen t group seq mixes) s (s.takeOpen t g seq mixes).pumpTalk
      ∧ leaves (.talkClose t group seq mixes) s (s.takeClose t g).pumpTalk)
  ∧ (∀ (s : State) (m : Fin 32),
      (s.loseInsert m).insert m = {} ∧ (∀ k : Fin 32, k ≠ m → (s.loseInsert m).insert k = s.insert k
        ∧ (s.loseInsert m).mixRec k = s.mixRec k)
      ∧ (s.loseInsert m).mixRec m = { s.mixRec m with
          duck := if (s.insert m).holder.isSome = true then (s.mixRec m).duck.retarget 1048576 256 else (s.mixRec m).duck }
      ∧ (∀ (t : Fin 4) (g : Fin 8),
        ((s.talkerGroup t g).requested.getLsbD m.val = true →
          (s.loseInsert m).talkerGroup t g = { s.talkerGroup t g with
            requested := clearBit (s.talkerGroup t g).requested m.val, lost := setBit (s.talkerGroup t g).lost m.val }
          ∧ (t ≠ s.cfg.id → ((s.loseInsert m).talk.talkers.get t).flags.getLsbD g.val = true))
        ∧ ((s.talkerGroup t g).requested.getLsbD m.val = false →
          (s.loseInsert m).talkerGroup t g = s.talkerGroup t g)
        ∧ (t ≠ s.cfg.id → (((s.loseInsert m).talk.talkers.get t).flags.getLsbD g.val = true
          ↔ (s.talk.talkers.get t).flags.getLsbD g.val = true ∨ (s.talkerGroup t g).requested.getLsbD m.val = true
            ∨ (s.talkerGroup t g).lost.getLsbD m.val = true ∧ (s.insert m).position t ≠ none)))
      ∧ s.loseInsert m = { s with
          mix := { s.mix with mixes := (s.loseInsert m).mix.mixes }
          talk := { s.talk with
            inserts := (s.loseInsert m).talk.inserts, talkers := (s.loseInsert m).talk.talkers, groups := (s.loseInsert m).talk.groups } }
      ∧ ∀ (v : Fin 4) (h : Fin 8) (told : Prop), v = s.cfg.id →
        (told ↔ ((s.talkerGroup v h).requested.getLsbD m.val = true
            ∨ (s.talkerGroup v h).lost.getLsbD m.val = true ∧ (s.insert m).position v ≠ none)
          ∧ (s.group h).isOpen = true ∧ (s.talkerGroup v h).seq = (s.group h).seq ∧ v ∈ (s.group h).terminals) →
        (told → (s.loseInsert m).group h
          = ((s.group h).setStates v (stateIn ((s.loseInsert m).heldSet v h) ((s.loseInsert m).waitingSet v h))).answer v)
        ∧ (¬told → (s.loseInsert m).group h = s.group h))
  ∧ (∀ (s u : State) (t : Fin 4) (g : Fin 8) (seq : Byte) (mixes : Word),
      (u = s.takeOpen t g seq mixes ∨ u = s.takeClose t g) → ∀ (v : Fin 4) (h : Fin 8) (moved : Prop),
      (moved ↔ ∃ m : Fin 32, (s.insert m).position v ≠ (u.insert m).position v
        ∧ ((u.talkerGroup v h).requested.getLsbD m.val = true ∨ (u.talkerGroup v h).lost.getLsbD m.val = true)) →
      (v ≠ s.cfg.id → (v ≠ t ∨ h ≠ g) → ((u.talk.talkers.get v).flags.getLsbD h.val = true
        ↔ (s.talk.talkers.get v).flags.getLsbD h.val = true ∨ moved))
      ∧ (v = s.cfg.id → ∀ told : Prop,
        (told ↔ (moved ∨ v = t ∧ h = g ∧ (u.talkerGroup t g).isOpen = true) ∧ (s.group h).isOpen = true
          ∧ (u.talkerGroup v h).seq = (s.group h).seq ∧ v ∈ (s.group h).terminals) →
        (told → u.group h = ((s.group h).setStates v (stateIn (u.heldSet v h) (u.waitingSet v h))).answer v)
        ∧ (¬told → u.group h = s.group h)))
  ∧ (∀ s : State, (s.outboxNext? = none ↔ ∀ (g : Fin 8) (u : Fin 4), ((s.group g).outbox.get u).pending = .none)
      ∧ ∀ (g : Fin 8) (u : Fin 4), s.outboxNext? = some (g, u) →
        ((s.group g).outbox.get u).pending ≠ .none
        ∧ (∀ (h : Fin 8) (v : Fin 4), (h < g ∨ h = g ∧ v < u) → ((s.group h).outbox.get v).pending = .none)
        ∧ (((s.group g).outbox.get u).pending = .opening →
          s.sendOutbox.svc = s.svc.enqueue {
            kind := 12, dest := u.val, producer := .talkOpen g u (s.group g).seq
            body := [BitVec.ofNat 8 g.val, (s.group g).seq] ++ leBytes 4 ((s.group g).mixSet u).toNat }
          ∧ (s.sendOutbox.group g).outbox.get u
            = { told := some (s.group g).seq, silent := ((s.group g).outbox.get u).silent })
        ∧ (((s.group g).outbox.get u).pending = .closing →
          s.sendOutbox.svc = s.svc.enqueue {
            kind := 13, dest := u.val
            body := [BitVec.ofNat 8 g.val, (s.group g).seq] ++ leBytes 4 ((s.group g).mixSet u).toNat }
          ∧ (s.sendOutbox.group g).outbox.get u = {})
        ∧ s.sendOutbox = { s with svc := s.sendOutbox.svc, talk := { s.talk with groups := s.sendOutbox.talk.groups } }
        ∧ (∀ h : Fin 8, s.sendOutbox.group h = { s.group h with outbox := (s.sendOutbox.group h).outbox })
        ∧ ∀ (h : Fin 8) (v : Fin 4), h ≠ g ∨ v ≠ u → (s.sendOutbox.group h).outbox.get v = (s.group h).outbox.get v)
  ∧ (∀ (x : Group) (u : Fin 4) (m : Fin 32), (x.mixSet u).getLsbD m.val = true
      ↔ ∃ t ∈ x.targets, t.terminal = u ∧ t.mix = m)
  ∧ (∀ s : State,
      (s.pumpOutbox.outboxNext? = none ∧ Held.outbox ∉ s.pumpOutbox.svc.urgentRoom)
      ∨ (s.pumpOutbox.outboxNext? ≠ none ∧ s.pumpOutbox.svc.mayPlace .urgent = false
        ∧ Held.outbox ∈ s.pumpOutbox.svc.urgentRoom))
  ∧ (∀ (s : State) (m : Message) (g : Fin 8) (u : Fin 4) (seq : Byte), m.producer = .talkOpen g u seq →
      (((s.group g).outbox.get u).told = some seq → s.messageSent m = s.modGroup g fun y => y.modOutbox u fun e =>
        { e with sent := some s.clock.frame, waited := some 0 })
      ∧ (((s.group g).outbox.get u).told ≠ some seq → s.messageSent m = s))
  ∧ (∀ s : State,
      s.pumpTalk = ((((s.pumpOutbox.pumpTalkReply 0).pumpTalkReply 1).pumpTalkReply 2).pumpTalkReply 3).endTalkSteps
      ∧ (s.outboxNext? = none → s.pumpOutbox = s.restOutbox.settleButtons)
      ∧ (s.outboxNext? ≠ none → s.svc.mayPlace .urgent = true → s.pumpOutbox = s.sendOutbox.pumpOutbox)
      ∧ (s.outboxNext? ≠ none → s.svc.mayPlace .urgent = false →
        s.pumpOutbox = { s with svc := s.svc.hold .urgent .outbox }.settleButtons))
  ∧ (∀ (s : State) (t : Fin 4),
      (s.flagged? t = none ↔ ∀ g : Fin 8, (s.talk.talkers.get t).flags.getLsbD g.val = false)
      ∧ (∀ g : Fin 8, s.flagged? t = some g → (s.talk.talkers.get t).flags.getLsbD g.val = true
        ∧ (∀ h : Fin 8, h < g → (s.talk.talkers.get t).flags.getLsbD h.val = false)
        ∧ s.sendTalkState t = { s with
            svc := (s.sendTalkState t).svc
            talk := { s.talk with talkers := s.talk.talkers.set t { s.talk.talkers.get t with
              flags := clearBit (s.talk.talkers.get t).flags g.val } } })
      ∧ (s.flagged? t = none → s.pumpTalkReply t = { s with
          svc := { s.svc with urgentRoom := s.svc.urgentRoom.filter fun h => decide (h ≠ .talkReply t) } })
      ∧ (s.flagged? t ≠ none → s.svc.mayPlace .urgent = true → s.pumpTalkReply t = (s.sendTalkState t).pumpTalkReply t)
      ∧ (s.flagged? t ≠ none → s.svc.mayPlace .urgent = false →
        (Held.talkReply t ∈ s.svc.urgentRoom → s.pumpTalkReply t = s)
        ∧ (Held.talkReply t ∉ s.svc.urgentRoom →
          s.pumpTalkReply t = { s with svc := { s.svc with urgentRoom := s.svc.urgentRoom ++ [.talkReply t] } })))
  ∧ (∀ (s : State) (l : Fin 16),
      s.endTalkSteps = [(0 : Fin 16), 1, 2, 3, 4, 5, 6, 7, 8, 9, 10, 11, 12, 13, 14, 15].foldl State.endTalkStep s
      ∧ ((∀ g : Fin 8, s.op? l ≠ some (.talkOpen g)) → s.endTalkStep l = s)
      ∧ ∀ (j : Join) (g : Fin 8) (held : Nat), s.works l j (.talkOpen g) = true →
        held = ((s.group g).targets.filter fun t => decide (t.state = .held)).length →
        ((s.group g).isOpen = false → s.endTalkStep l = s.finish l j .partly 0 (BitVec.ofNat 32 held))
        ∧ ((s.group g).isOpen = true → (∀ t ∈ (s.group g).targets, (s.group g).isAnswered t.terminal = true) →
          s.endTalkStep l = s.finish l j (if held = (s.group g).targets.length then .ok else .partly) 0 (BitVec.ofNat 32 held))
        ∧ ((s.group g).isOpen = true → (∃ t ∈ (s.group g).targets, (s.group g).isAnswered t.terminal = false) →
          s.endTalkStep l = s))

/-- TALK_STATE acts on an open group of its sequence, one of whose target terminals the sender is: each target there takes
its state from the sets, and the sender is marked answered; any other is discarded. TALK_ANSWER_TIMEOUT, once the wait has
reached 9,600 frames and no answer has come, makes the targets LOST, marks the terminal answered and puts the OPEN in the outbox
again, so that the wait runs again until an answer comes (R132).
The order of the sets for a mix that stands in several is the model's choice (log entry 47). -/
def Obligations.TalkAnswersAct : Prop :=
  ((∀ (s : State) (u : Fin 4) (group seq : Byte) (held waiting lost : Word), s.isRunning = true →
    (7 < group.toNat → exec (.talkState u group seq held waiting lost) s = .next s)
    ∧ ∀ g : Fin 8, group.toNat = g.val →
      ((s.group g).isOpen = false ∨ (s.group g).seq ≠ seq ∨ (∀ x ∈ (s.group g).targets, x.terminal ≠ u) →
        exec (.talkState u group seq held waiting lost) s = .next s)
      ∧ ((s.group g).isOpen = true → (s.group g).seq = seq → (∃ x ∈ (s.group g).targets, x.terminal = u) →
        ∃ w : State, leaves (.talkState u group seq held waiting lost) s w.endTalkSteps
          ∧ w = { s with talk := { s.talk with groups := w.talk.groups } }
          ∧ w.group g = { s.group g with
              answered := (w.group g).answered, outbox := (w.group g).outbox
              targets := (s.group g).targets.map fun x => if x.terminal = u then { x with
                state := if held.getLsbD x.mix.val = true then .held
                  else if waiting.getLsbD x.mix.val = true then .waiting else .lost } else x }
          ∧ (∀ v : Fin 4, (w.group g).isAnswered v = if v = u then true else (s.group g).isAnswered v)
          ∧ (∀ v : Fin 4, (w.group g).outbox.get v = if v = u then { (s.group g).outbox.get u with silent := false }
              else (s.group g).outbox.get v)
          ∧ ∀ h : Fin 8, h ≠ g → w.group h = s.group h))
  ∧ ∀ (s : State) (g : Fin 8) (u : Fin 4), s.isRunning = true → (s.group g).isOpen = true →
    (∃ x ∈ (s.group g).targets, x.terminal = u) → ((s.group g).isAnswered u = false ∨ ((s.group g).outbox.get u).silent = true) →
    ∀ n : Nat, ((s.group g).outbox.get u).waited = some n →
      (n < 9600 → exec (.talkAnswerTimeout g u) s = .next s)
      ∧ (9600 ≤ n → ∃ w : State, leaves (.talkAnswerTimeout g u) s w.pumpTalk
        ∧ w = { s with talk := { s.talk with groups := w.talk.groups } }
        ∧ w.group g = { s.group g with
            answered := (w.group g).answered, outbox := (w.group g).outbox
            targets := (s.group g).targets.map fun x => if x.terminal = u then { x with state := .lost } else x }
        ∧ (w.group g).isAnswered u = true
        ∧ ((w.group g).outbox.get u).pending = .opening ∧ ((w.group g).outbox.get u).told = ((s.group g).outbox.get u).told
        ∧ ((w.group g).outbox.get u).waited = none ∧ ((w.group g).outbox.get u).silent = true
        ∧ (∀ v : Fin 4, v ≠ u → (w.group g).isAnswered v = (s.group g).isAnswered v
            ∧ (w.group g).outbox.get v = (s.group g).outbox.get v)
        ∧ ∀ h : Fin 8, h ≠ g → w.group h = s.group h))
  ∧ (∀ (s : State) (g : Fin 8) (u : Fin 4), s.isRunning = true →
      ((s.group g).isOpen = false ∨ (∀ x ∈ (s.group g).targets, x.terminal ≠ u)
        ∨ ((s.group g).isAnswered u = true ∧ ((s.group g).outbox.get u).silent = false)
        ∨ ((s.group g).outbox.get u).waited = none) →
      exec (.talkAnswerTimeout g u) s = .next s)

/-- SET_TALK_GROUP, SET_RANKS and TALK: the payload's checks; a closed group takes its targets closed and its outbox empty; ranks
take the bytes, clamped to 7, save where 255; TALK joins the lanes to a group and ends OK or PARTIAL when its terminals have
answered, and leaves it, which does no more while a button holds it (R148, R149, R151). An opener that makes a group open raises
its sequence, opens the gate, and makes its targets WAITING with an OPEN pending at each reachable terminal and LOST at any other;
the last to leave makes them CLOSED, with a CLOSE pending where the terminal was told (R129, R130). The mixes of this terminal's
own targets are opened and closed at its own inserts, and their states follow (R129, R130, R132, R138).
The order of the checks is log entry 24's.
Where its rule gives no count, the result count 0 of a step refused or ended UNREACHABLE is the model's choice (log entry 11).
That a CLOSE queued, or another OPEN, clears the sent frame of the last is the model's choice (log entry 61). -/
def Obligations.TalkStepsAct : Prop :=
  ((∀ (s : State) (l : Fin 16) (a : Nat) (b : List Byte), s.hasStep l 15 a = true → b = (s.stepAt a).payload →
    (7 < (byteAt b 0).toNat → exec (.setTalkGroup l) s = .next (s.finish l (s.stepAt a) .badStep 16 0))
    ∧ ∀ (g : Fin 8) (n : Nat), (byteAt b 0).toNat = g.val → (byteAt b 1).toNat = n →
      (16 < n ∨ b.length < 2 + 2 * n → exec (.setTalkGroup l) s = .next (s.finish l (s.stepAt a) .badStep 17 0))
      ∧ (n ≤ 16 → 2 + 2 * n ≤ b.length →
        (∃ i : Nat, i < n ∧ (3 < (byteAt b (2 + 2 * i)).toNat ∨ 31 < (byteAt b (3 + 2 * i)).toNat)) →
        exec (.setTalkGroup l) s = .next (s.finish l (s.stepAt a) .badStep 17 0))
      ∧ ∀ ts : List Target, n ≤ 16 → 2 + 2 * n ≤ b.length → ts.length = n →
        (∀ (i : Nat) (t : Target), ts[i]? = some t →
          t.terminal.val = (byteAt b (2 + 2 * i)).toNat ∧ t.mix.val = (byteAt b (3 + 2 * i)).toNat ∧ t.state = .closed) →
        (¬ ts.Nodup → exec (.setTalkGroup l) s = .next (s.finish l (s.stepAt a) .badStep 18 0))
        ∧ (ts.Nodup → (s.group g).isOpen = true →
          exec (.setTalkGroup l) s = .next (s.finish l (s.stepAt a) .busy 0 0))
        ∧ (ts.Nodup → (s.group g).isOpen = false → leaves (.setTalkGroup l) s
          ((s.modGroup g fun y => { y with targets := ts, answered := 0, outbox := Vector.replicate 4 {} }).restOutbox.finish l
            (s.stepAt a) .ok 0 (BitVec.ofNat 32 n))))
  ∧ (∀ (s : State) (l : Fin 16) (a : Nat), s.hasBegun l a = true → (s.header a).kind = 16 →
    (s.header a).fault = none → (s.header a).gather = false →
    ((s.stepAt a).payload.length < 4 → exec (.setRanks l) s = .next (s.finish l (s.stepAt a) .badStep 2 0))
    ∧ (4 ≤ (s.stepAt a).payload.length → ∃ u : State, leaves (.setRanks l) s (u.finish l (s.stepAt a) .ok 0 4)
      ∧ u = { s with talk := { s.talk with ranks := u.talk.ranks } }
      ∧ ∀ t : Fin 4, u.rank t = if byteAt (s.stepAt a).payload t.val = 255 then s.rank t
          else min (byteAt (s.stepAt a).payload t.val).toNat 7))
  ∧ ∀ (s : State) (l : Fin 16) (a : Nat), s.hasStep l 18 a = true →
    (7 < ((s.stepAt a).param.extractLsb' 0 8).toNat →
      exec (.talk l) s = .next (s.finish l (s.stepAt a) .badStep 16 0))
    ∧ ∀ g : Fin 8, ((s.stepAt a).param.extractLsb' 0 8).toNat = g.val →
      ((s.stepAt a).param.getLsbD 8 = false → ((s.group g).buttons ≠ 0 ∨ (s.group g).lanes = false) →
        leaves (.talk l) s ((s.modGroup g fun y => { y with lanes := false }).finish l (s.stepAt a) .ok 0 0))
      ∧ (∀ held : Nat, (s.stepAt a).param.getLsbD 8 = true → (s.group g).isOpen = true → s.talkQuiet = true →
        held = ((s.group g).targets.filter fun t => decide (t.state = .held)).length →
        ((∀ t ∈ (s.group g).targets, (s.group g).isAnswered t.terminal = true) → ∃ u : State,
          leaves (.talk l) s (u.finish l (s.stepAt a) (if held = (s.group g).targets.length then .ok else .partly) 0
            (BitVec.ofNat 32 held))
          ∧ u = { s.modGroup g (fun y => { y with lanes := true }) with lanes := u.lanes }
          ∧ (u.lane l).done = (s.lane l).done ∧ ∀ k : Fin 16, k ≠ l → u.lane k = s.lane k)
        ∧ ((∃ t ∈ (s.group g).targets, (s.group g).isAnswered t.terminal = false) → ∃ u : State,
          leaves (.talk l) s u ∧ u = { s.modGroup g (fun y => { y with lanes := true }) with lanes := u.lanes }
          ∧ u.lane l = { s.lane l with activity := .working (s.stepAt a) (.talkOpen g) }
          ∧ ∀ k : Fin 16, k ≠ l → u.lane k = s.lane k)))
  ∧ (∀ s : State, ((∀ (g : Fin 8) (u : Fin 4), ((s.group g).outbox.get u).pending = .none) →
        s.restOutbox = { s with svc := { s.svc with urgentRoom := s.svc.urgentRoom.filter fun h => decide (h ≠ .outbox) } })
      ∧ ((∃ (g : Fin 8) (u : Fin 4), ((s.group g).outbox.get u).pending ≠ .none) → s.restOutbox = s))
  ∧ (∀ (s : State) (l : Fin 16) (a : Nat) (g : Fin 8), s.hasStep l 18 a = true →
      ((s.stepAt a).param.extractLsb' 0 8).toNat = g.val →
      ((s.stepAt a).param.getLsbD 8 = true → ∃ u : State, u = { s with lanes := u.lanes }
        ∧ u.lane l = { s.lane l with activity := .working (s.stepAt a) (.talkOpen g) }
        ∧ (∀ k : Fin 16, k ≠ l → u.lane k = s.lane k)
        ∧ leaves (.talk l) s (u.addOpener g .lanes).endTalkSteps)
      ∧ ((s.stepAt a).param.getLsbD 8 = false →
        leaves (.talk l) s ((s.removeOpener g .lanes).finish l (s.stepAt a) .ok 0 0)))
  ∧ (∀ (s : State) (g : Fin 8) (x : Opener), ((s.group g).join x).isOpen = true
      ∧ ((s.group g).isOpen = true → s.addOpener g x = s.modGroup g fun y => y.join x)
      ∧ ((s.group g).isOpen = false → (∀ t ∈ (s.group g).targets, t.terminal ≠ s.cfg.id) → ∃ w : State,
        s.addOpener g x = w.pumpTalk ∧ w = { s with talk := { s.talk with groups := w.talk.groups } }
        ∧ w.gateTarget = 48 ∧ (∀ h : Fin 8, h ≠ g → w.group h = s.group h)
        ∧ w.group g = { (s.group g).join x with
            seq := (s.group g).seq + 1, answered := (w.group g).answered, outbox := (w.group g).outbox
            targets := (s.group g).targets.map fun t => { t with
              state := if s.reachable t.terminal = true then .waiting else .lost } }
        ∧ ∀ u : Fin 4,
          ((∃ t ∈ (s.group g).targets, t.terminal = u) →
            (s.reachable u = true → (w.group g).isAnswered u = false
              ∧ (w.group g).outbox.get u = { (s.group g).outbox.get u with pending := .opening, silent := false })
            ∧ (s.reachable u = false → (w.group g).isAnswered u = true
              ∧ (w.group g).outbox.get u = (s.group g).outbox.get u))
          ∧ ((∀ t ∈ (s.group g).targets, t.terminal ≠ u) → (w.group g).isAnswered u = (s.group g).isAnswered u
            ∧ (w.group g).outbox.get u = (s.group g).outbox.get u)))
  ∧ (∀ (s : State) (g : Fin 8) (x : Opener),
      (((s.group g).isOpen = false ∨ ((s.group g).part x).isOpen = true) →
        s.removeOpener g x = s.modGroup g fun y => y.part x)
      ∧ ((s.group g).isOpen = true → ((s.group g).part x).isOpen = false →
        ((∀ t ∈ (s.group g).targets, t.terminal ≠ s.cfg.id) → ∃ w : State,
          s.removeOpener g x = w.pumpTalk ∧ w = { s with talk := { s.talk with groups := w.talk.groups } }
          ∧ (∀ h : Fin 8, h ≠ g → w.group h = s.group h)
          ∧ w.group g = { (s.group g).part x with
              outbox := (w.group g).outbox, targets := (s.group g).targets.map fun t => { t with state := .closed } }
          ∧ ∀ u : Fin 4, (w.group g).outbox.get u = if (s.group g).targets.any (fun t => decide (t.terminal = u)) = true then
              { (s.group g).outbox.get u with
                pending := if ((s.group g).outbox.get u).told.isSome = true ∧ s.reachable u = true then .closing else .none
                waited := none, silent := false }
            else (s.group g).outbox.get u)))
  ∧ (∀ (s : State) (g : Fin 8) (x : Opener),
      ((s.group g).isOpen = false → s.addOpener g x = ((s.group g).terminals.foldl (fun st u => st.openAt g u)
        (s.modGroup g fun y => { y.join x with seq := y.seq + 1 })).pumpTalk)
      ∧ ((s.group g).isOpen = true → ((s.group g).part x).isOpen = false →
        s.removeOpener g x = ((s.group g).terminals.foldl (fun st u => st.closeAt g u) (s.modGroup g fun y => { y.part x with
          targets := y.targets.map fun t => { t with state := .closed } })).pumpTalk))
  ∧ (∀ (s : State) (g : Fin 8) (u : Fin 4),
      (u = s.cfg.id → s.openAt g u = ((s.modGroup g fun y => { y with
          targets := y.targets.map fun t => if t.terminal = u then { t with state := .waiting } else t }).takeOpen u g
            (s.group g).seq ((s.group g).mixSet u))
        ∧ s.closeAt g u = s.takeClose u g)
      ∧ (u ≠ s.cfg.id →
        (s.reachable u = true → s.openAt g u = s.modGroup g fun y => { y with
          answered := clearBit y.answered u.val
          outbox := y.outbox.set u { y.outbox.get u with pending := .opening, silent := false }
          targets := y.targets.map fun t => if t.terminal = u then { t with state := .waiting } else t })
        ∧ (s.reachable u = false → s.openAt g u = s.modGroup g fun y => { y with
          answered := setBit y.answered u.val
          targets := y.targets.map fun t => if t.terminal = u then { t with state := .lost } else t })
        ∧ s.closeAt g u = s.modGroup g fun y => { y with outbox := y.outbox.set u { y.outbox.get u with
            pending := if (y.outbox.get u).told.isSome = true ∧ s.reachable u = true then .closing else .none
            waited := none, silent := false } }))
  ∧ (∀ x : Group, x.terminals.Pairwise (fun u v => u < v) ∧ ∀ u : Fin 4, u ∈ x.terminals ↔ ∃ t ∈ x.targets, t.terminal = u)
  ∧ (∀ (y : Group) (b : Fin 8), y.join (.button b) = { y with buttons := setBit y.buttons b.val }
      ∧ y.part (.button b) = { y with buttons := clearBit y.buttons b.val } ∧ y.join .lanes = { y with lanes := true }
      ∧ y.part .lanes = { y with lanes := false } ∧ y.isOpen = (y.lanes || decide (y.buttons ≠ 0)))
  ∧ (∀ (s : State) (g : Fin 8),
      (∀ t : Fin 4, t ≠ s.cfg.id → s.flag t g = { s with talk := { s.talk with talkers := (s.flag t g).talk.talkers } }
        ∧ ((s.flag t g).talk.talkers.get t).flags.getLsbD g.val = true)
      ∧ s.flag s.cfg.id g = s.applyOwn g
      ∧ ((s.group g).isOpen = true → (s.talkerGroup s.cfg.id g).seq = (s.group g).seq →
        (∃ t ∈ (s.group g).targets, t.terminal = s.cfg.id) → s.applyOwn g = s.modGroup g fun y => { y with
          answered := setBit y.answered s.cfg.id.val
          targets := y.targets.map fun t => if t.terminal = s.cfg.id then { t with
            state := if (s.heldSet s.cfg.id g).getLsbD t.mix.val = true then .held
              else if (s.waitingSet s.cfg.id g).getLsbD t.mix.val = true then .waiting else .lost } else t })
      ∧ ((s.group g).isOpen = false ∨ (s.talkerGroup s.cfg.id g).seq ≠ (s.group g).seq
          ∨ (∀ t ∈ (s.group g).targets, t.terminal ≠ s.cfg.id) → s.applyOwn g = s))
  ∧ (∀ (s : State) (l : Fin 16) (j : Join) (g : Fin 8) (held : Nat), s.works l j (.talkOpen g) = true →
      (∀ k : Fin 16, k ≠ l → s.op? k = none) →
      held = ((s.group g).targets.filter fun t => decide (t.state = .held)).length →
      ((s.group g).isOpen = false → s.endTalkSteps = s.finish l j .partly 0 (BitVec.ofNat 32 held))
      ∧ ((s.group g).isOpen = true → (∀ t ∈ (s.group g).targets, (s.group g).isAnswered t.terminal = true) →
        s.endTalkSteps = s.finish l j (if held = (s.group g).targets.length then .ok else .partly) 0 (BitVec.ofNat 32 held))
      ∧ ((s.group g).isOpen = true → (∃ t ∈ (s.group g).targets, (s.group g).isAnswered t.terminal = false) →
        s.endTalkSteps = s))

/-- BUTTON_DEBOUNCE: at a run's first frame a level takes its sample without an event; later it must differ for 480 samples before
it is taken, and a sample that does not differ returns the count to 0; a change is a press or a release by the detection, which
is counted, acted on and then notified, and after it the WAITs and sweeps of the button follow; before it every lane whose step is
not yet at its block keeps the change, if it is the button's first since the step began (R141, R142, R19, R182; log entry 53). The TALK
modes' rows of R143, with PENDING while the outbox holds messages of a group just opened (R144); CHAIN and CUE act on a press or
count it missed (R145). A frame edge drives the pins by the lamps, and a LAMP_FLASH_TOGGLE turns round after 12,000 frames those
whose lamps were then flashing (R146, R190); SET_BUTTON of one entry, which presses at once where a level detection stands at its
pressed level (R142, R150). Detections, actions, modes and lamp sources are the bytes of R150's table; a SET BUTTON of any number of
entries is checked whole and then applied in payload order, with their number as its result count (R150).
The flash period is log entry 34's. The result count 0 of a refused SET BUTTON is the model's choice (log entry 11); that its checks
16, 17 and 18 each look at all entries before the next is read from R150 (DEDUCED, buttonEntries, log entry 24); that the sweeps a
change triggers are taken in ascending order of lane is the model's choice (log entry 51).
That a CUE press takes no record while waiting steps are to take the free ones, and so is missed, is the model's choice (log entry
31).
A CUE press of any mixes cues them all with one record, in ascending order (log entry 58). -/
def Obligations.ButtonsAndLampsAct : Prop :=
  (((∀ (s : State) (b : Fin 8) (level : Bool), s.isRunning = true →
    ((s.button b).sampled = true → ∃ t : State, exec (.buttonDebounce b level) s = .next t
      ∧ t = { s with conv := { s.conv with gpi := t.conv.gpi } } ∧ t.conv.gpi.getLsbD b.val = level)
    ∧ ((s.button b).sampled = false → ∃ t : State, leaves (.buttonDebounce b level) s t
      ∧ t.conv.gpi.getLsbD b.val = level ∧ (∀ i : Fin 8, i ≠ b → t.conv.gpi.getLsbD i.val = s.conv.gpi.getLsbD i.val)
      ∧ (level = (s.button b).level → t = { s.modButton b (fun x => { x with sampled := true, count := 0 }) with
          conv := { s.conv with gpi := t.conv.gpi } })
      ∧ (1 < s.passed → level ≠ (s.button b).level → (s.button b).count + 1 < 480 →
          t = { s.modButton b (fun x => { x with sampled := true, count := x.count + 1 }) with
            conv := { s.conv with gpi := t.conv.gpi } })
      ∧ (1 < s.passed → level ≠ (s.button b).level → 480 ≤ (s.button b).count + 1 → (s.button b).action = .none →
          (s.button b).notify = false →
          (∀ (l : Fin 16) (k : Fin 8) (timeout : Word), s.op? l ≠ some (.wait (.button k) timeout)) →
          (∀ l : Fin 16, s.sweep l = none) →
          t = { s.modButton b (fun x => { x with
                sampled := true, count := 0, level := level
                presses := if x.detection.detects level = some true then x.presses + 1 else x.presses }) with
              lanes := Bank.mapAll (Lane.noteChange b level) s.lanes, conv := { s.conv with gpi := t.conv.gpi } })))
  ∧ (∀ level : Bool, Detection.detects .rising level = some level ∧ Detection.detects .levelHigh level = some level
    ∧ Detection.detects .falling level = some (!level) ∧ Detection.detects .levelLow level = some (!level)
    ∧ Detection.detects .both level = some true)
  ∧ (∀ (s : State) (b g : Fin 8) (k : Fin 8), k ≠ b → (s.group g).buttons.getLsbD k.val = true →
    (∀ (mode : TalkMode) (after : ButtonState), (s.button b).state = .idle →
      (mode = .latch ∧ after = .latched ∨ mode ≠ .latch ∧ after = .talking) →
      s.talkEvent b g mode true = (s.modGroup g fun y => { y with buttons := setBit y.buttons b.val }).modButton b
        fun x => { x with state := after, pressFrames := if mode = .auto then 0 else x.pressFrames })
    ∧ (∀ (mode : TalkMode) (press : Bool),
      ((s.button b).state = .talking ∧ press = false
          ∧ (mode = .momentary ∨ mode = .auto ∧ 19200 < (s.button b).pressFrames)
        ∨ (s.button b).state = .latched ∧ press = true) →
      s.talkEvent b g mode press = (s.modButton b fun x => { x with state := .idle }).modGroup g
        fun y => { y with buttons := clearBit y.buttons b.val })
    ∧ ((s.button b).state = .talking → (s.button b).pressFrames ≤ 19200 →
      s.talkEvent b g .auto false = s.modButton b fun x => { x with state := .latched }))
  ∧ (∀ s : State, s.isRunning = true →
    (s.talk.flashAge < 12000 → exec .lampFlashToggle s = .next s)
    ∧ (12000 ≤ s.talk.flashAge → ∃ t : State, exec .lampFlashToggle s = .next t
      ∧ t = { s with talk := { s.talk with flashHigh := !s.talk.flashHigh, flashAge := 0 }
                     conv := { s.conv with gpo := t.conv.gpo } }
      ∧ ∀ i : Fin 8, t.conv.gpo.getLsbD i.val
        = if s.conv.flashing.getLsbD i.val = true then !s.talk.flashHigh else s.conv.gpo.getLsbD i.val))
  ∧ ∀ (s : State) (l : Fin 16) (a : Nat) (b : List Byte), s.hasStep l 17 a = true → b = (s.stepAt a).payload →
    16 ≤ b.length → b.length < 32 →
    ((byteAt b 0).extractLsb' 3 4 ≠ 0 → exec (.setButton l) s = .next (s.finish l (s.stepAt a) .badStep 16 0))
    ∧ (∀ (i : Fin 8) (source : LampSource), byteAt b 0 = BitVec.ofNat 8 (128 + i.val) → lampOf b = some source →
      leaves (.setButton l) s
        ({ s with talk := { s.talk with lamps := s.talk.lamps.set i source } }.finish l (s.stepAt a) .ok 0 1))
    ∧ (∀ i : Fin 8, (byteAt b 0 = BitVec.ofNat 8 (128 + i.val) ∧ lampOf b = none
          ∨ byteAt b 0 = BitVec.ofNat 8 i.val ∧ (detectionOf (byteAt b 1) = none ∨ actionOf b = none)) →
      exec (.setButton l) s = .next (s.finish l (s.stepAt a) .badStep 17 0))
    ∧ (∀ (i : Fin 8) (d : Detection) (x : Action), byteAt b 0 = BitVec.ofNat 8 i.val → detectionOf (byteAt b 1) = some d →
      actionOf b = some x →
      (d = .both → needsRelease x = true → exec (.setButton l) s = .next (s.finish l (s.stepAt a) .badStep 18 0))
      ∧ ((d = .both → needsRelease x = false) → (∀ g : Fin 8, (s.group g).buttons.getLsbD i.val = false) →
        standsPressed d (s.button i).level = false →
        leaves (.setButton l) s ((s.modButton i fun y => { y with
          state := .idle, detection := d, action := x, notify := (byteAt b 3).getLsbD 0 }).finish l (s.stepAt a) .ok 0 1))))
  ∧ (∀ (s : State) (b : Fin 8) (level : Bool), s.isRunning = true → (s.button b).sampled = false →
      ∃ pins : BitVec 8, pins.getLsbD b.val = level
      ∧ (∀ i : Fin 8, i ≠ b → pins.getLsbD i.val = s.conv.gpi.getLsbD i.val)
      ∧ (s.passed ≤ 1 → leaves (.buttonDebounce b level) s
        { s.modButton b (fun x => { x with sampled := true, level := level, count := 0 }) with
          conv := { s.conv with gpi := pins } })
      ∧ (∀ (press : Bool) (w v : State), 1 < s.passed → level ≠ (s.button b).level → 480 ≤ (s.button b).count + 1 →
        (s.button b).detection.detects level = some press →
        w = { s.modButton b (fun x => { x with sampled := true, level := level, count := 0 }) with
          lanes := Bank.mapAll (Lane.noteChange b level) s.lanes, conv := { s.conv with gpi := pins } } →
        v = (w.detected b press).endButtonWaits b level →
        leaves (.buttonDebounce b level) s ((indices 16).foldl (fun st l => st.buttonTrigger b level l) v)))
  ∧ (∀ (x : Lane) (b : Fin 8) (level : Bool),
      ((∀ (j : Join) (a : Nat), x.activity ≠ .joining j a) → (∀ j : Join, x.activity ≠ .gathered j) → x.noteChange b level = x)
      ∧ (x.firstChange.get b ≠ none → x.noteChange b level = x)
      ∧ ((∃ (j : Join) (a : Nat), x.activity = .joining j a) ∨ (∃ j : Join, x.activity = .gathered j) → x.firstChange.get b = none →
        x.noteChange b level = { x with firstChange := x.firstChange.set b (some { level := level, age := x.age }) }))
  ∧ (∀ (s w : State) (b : Fin 8) (press : Bool),
      w = (if press = true then s.modButton b fun x => { x with presses := x.presses + 1 } else s) →
      ((s.button b).notify = false → s.detected b press = w.act b press)
      ∧ ((s.button b).notify = true → s.detected b press = (w.act b press).attend 19))
  ∧ (∀ (s : State) (b : Fin 8) (press : Bool),
      ((s.button b).action = .none → s.act b press = s)
      ∧ (∀ (g : Fin 8) (mode : TalkMode), (s.button b).action = .talk g mode → s.act b press = s.talkEvent b g mode press)
      ∧ (∀ (l : Fin 16) (a : Word), (s.button b).action = .chain l a →
        (press = false → s.act b press = s)
        ∧ (press = true → (s.lane l).state = .idle → s.act b press = s.beginAt l a.toNat)
        ∧ (press = true → (s.lane l).state ≠ .idle →
          s.act b press = s.modButton b fun x => { x with missed := x.missed + 1 }))
      ∧ (∀ (mixes : Word) (fade : Nat), (s.button b).action = .cue mixes fade →
        (press = false → s.act b press = s)
        ∧ (press = true → mixes ≠ 0 → s.takeRecord? = none →
          s.act b press = s.modButton b fun x => { x with missed := x.missed + 1 })
        ∧ (∀ (k : Fin 16) (m : Fin 32), press = true → onlyMix mixes m → s.takeRecord? = some k →
          (s.mixRec m).cue = none → ∃ t : State, s.act b press = t ∧ t = { s with mix := t.mix }
          ∧ t.mix.cueWait = s.mix.cueWait
          ∧ t.mix.records = s.mix.records.set k (some {
              requester := .button, outstanding := 1, applied := 0, refused := 0, reason := 0 })
          ∧ t.mixRec m = { s.mixRec m with cue := some {
              record := k, spec := { now := true, frame := 0, fade := fade } } }
          ∧ ∀ i : Fin 32, i ≠ m → t.mixRec i = s.mixRec i)))
  ∧ (∀ (s : State) (b g : Fin 8) (mode : TalkMode),
      (∀ w : State, (s.button b).state = .idle → (s.group g).isOpen = false → w = s.addOpener g (.button b) →
        ((∀ u : Fin 4, ((w.group g).outbox.get u).pending = .none) → s.talkEvent b g mode true = w.modButton b fun x => { x with
          state := if mode = .latch then .latched else .talking, pressFrames := if mode = .auto then 0 else x.pressFrames })
        ∧ ((∃ u : Fin 4, ((w.group g).outbox.get u).pending ≠ .none) →
          s.talkEvent b g mode true = w.modButton b fun x => { x with
            state := .pending (decide (mode = .latch)), pressFrames := if mode = .auto then 0 else x.pressFrames }))
      ∧ (∀ press : Bool,
        (((s.button b).state = .talking ∨ (s.button b).state = .pending false) ∧ press = false
            ∧ (mode = .momentary ∨ mode = .auto ∧ 19200 < (s.button b).pressFrames)
          ∨ ((s.button b).state = .latched ∨ (s.button b).state = .pending true) ∧ press = true) →
        s.talkEvent b g mode press = (s.modButton b fun x => { x with state := .idle }).removeOpener g (.button b))
      ∧ ((s.button b).state = .pending false → (s.button b).pressFrames ≤ 19200 →
        s.talkEvent b g .auto false = s.modButton b fun x => { x with state := .pending true })
      ∧ ((s.button b).state = .idle → s.talkEvent b g mode false = s)
      ∧ (((s.button b).state = .talking ∨ (s.button b).state = .pending false) → s.talkEvent b g mode true = s)
      ∧ (((s.button b).state = .latched ∨ (s.button b).state = .pending true) → s.talkEvent b g mode false = s))
  ∧ (∀ (s : State) (b : Fin 8), s.settleButtons = { s with talk := { s.talk with buttons := s.settleButtons.talk.buttons } }
      ∧ (∀ (latch : Bool) (g : Fin 8) (mode : TalkMode), (s.button b).state = .pending latch →
        (s.button b).action = .talk g mode →
        ((∀ u : Fin 4, ((s.group g).outbox.get u).pending = .none) →
          s.settleButtons.button b = { s.button b with state := if latch = true then .latched else .talking })
        ∧ ((∃ u : Fin 4, ((s.group g).outbox.get u).pending ≠ .none) → s.settleButtons.button b = s.button b))
      ∧ ((∀ latch : Bool, (s.button b).state ≠ .pending latch) → s.settleButtons.button b = s.button b)
      ∧ (s.outboxNext? = none → s.pumpOutbox = s.restOutbox.settleButtons))
  ∧ (∀ (s : State) (i : Fin 8),
      s.lampPins.getLsbD i.val
        = (decide (s.lamp i = .steady) || (decide (s.lamp i = .flashing) && s.talk.flashHigh))
      ∧ (s.resetLow = false → s.isRunning = true → s.tick.conv.gpo = s.lampPins
        ∧ s.tick.conv.flashing.getLsbD i.val = decide (s.lamp i = .flashing))
      ∧ (s.talk.lamps.get i = .none → s.lamp i = .off)
      ∧ (∀ g : Fin 8, s.talk.lamps.get i = .group g →
        ((s.group g).isOpen = false → s.lamp i = .off)
        ∧ ((s.group g).isOpen = true → (∀ t ∈ (s.group g).targets, t.state = .held) → s.lamp i = .steady)
        ∧ ((s.group g).isOpen = true → (∃ t ∈ (s.group g).targets, t.state = .waiting ∨ t.state = .lost) →
          s.lamp i = .flashing))
      ∧ (∀ b : Fin 8, s.talk.lamps.get i = .button b →
        ((s.button b).state = .idle → s.lamp i = .off)
        ∧ (((s.button b).state = .talking ∨ (s.button b).state = .latched) → s.lamp i = .steady)
        ∧ ∀ latch : Bool, (s.button b).state = .pending latch → s.lamp i = .flashing)
      ∧ ∀ o : Fin 4, s.talk.lamps.get i = .origin o → s.lamp i = if s.reachable o = true then .steady else .off)
  ∧ (∀ (s : State) (l : Fin 16) (a : Nat) (b : List Byte) (i : Fin 8) (d : Detection) (x : Action),
      s.hasStep l 17 a = true → b = (s.stepAt a).payload → 16 ≤ b.length → b.length < 32 → byteAt b 0 = BitVec.ofNat 8 i.val →
      detectionOf (byteAt b 1) = some d → actionOf b = some x → (d = .both → needsRelease x = false) →
      ((∀ g : Fin 8, (s.group g).buttons.getLsbD i.val = false) →
        (d = .levelHigh ∧ (s.button i).level = true ∨ d = .levelLow ∧ (s.button i).level = false) →
        leaves (.setButton l) s (((s.modButton i fun y => { y with
          state := .idle, detection := d, action := x, notify := (byteAt b 3).getLsbD 0 }).detected i true).finish l
            (s.stepAt a) .ok 0 1))
      ∧ (∀ g : Fin 8, (s.group g).buttons.getLsbD i.val = true →
        (∀ h : Fin 8, h ≠ g → (s.group h).buttons.getLsbD i.val = false) → standsPressed d (s.button i).level = false →
        leaves (.setButton l) s
          ((((s.modButton i fun y => { y with state := .idle }).removeOpener g (.button i)).modButton i fun y => { y with
            detection := d, action := x, notify := (byteAt b 3).getLsbD 0 }).finish l (s.stepAt a) .ok 0 1))))
  ∧ (∀ (s : State) (b : Fin 8) (mixes : Word) (fade : Nat) (k : Fin 16) (named : List (Fin 32)),
      (s.button b).action = .cue mixes fade → mixes ≠ 0 → s.takeRecord? = some k →
      named = (List.finRange 32).filter (fun m => mixes.getLsbD m.val) →
      s.act b true = named.foldl (fun t m => t.giveCue k { now := true, frame := 0, fade := fade } m)
        { s with mix := { s.mix with records := s.mix.records.set k (some {
            requester := .button, outstanding := named.length, applied := 0, refused := 0, reason := 0 }) } })
  ∧ (∀ (b : Byte) (e : List Byte), detectionOf b = [Detection.rising, .falling, .both, .levelHigh, .levelLow][b.toNat]?
      ∧ modeOf b = [TalkMode.momentary, .latch, .auto][b.toNat]?
      ∧ (∀ i : Nat, byteAt e i = e.getD i 0
        ∧ wordAt e i = byteAt e (i + 3) ++ byteAt e (i + 2) ++ byteAt e (i + 1) ++ byteAt e i)
      ∧ (byteAt e 2 = 0 → actionOf e = some .none)
      ∧ (∀ (g : Fin 8) (m : TalkMode), byteAt e 2 = 1 → (byteAt e 4).toNat = g.val → modeOf (byteAt e 5) = some m →
        actionOf e = some (.talk g m))
      ∧ (byteAt e 2 = 1 → (7 < (byteAt e 4).toNat ∨ 2 < (byteAt e 5).toNat) → actionOf e = none)
      ∧ (∀ l : Fin 16, byteAt e 2 = 2 → (byteAt e 4).toNat = l.val → actionOf e = some (.chain l (wordAt e 8)))
      ∧ (byteAt e 2 = 2 → 15 < (byteAt e 4).toNat → actionOf e = none)
      ∧ (byteAt e 2 = 3 → actionOf e = some (.cue (wordAt e 8) (max 64 (min (wordAt e 12).toNat 480000))))
      ∧ (3 < (byteAt e 2).toNat → actionOf e = none)
      ∧ (byteAt e 1 = 0 → lampOf e = some .none)
      ∧ (∀ g : Fin 8, (byteAt e 2).toNat = g.val → (byteAt e 1 = 1 → lampOf e = some (.group g))
        ∧ (byteAt e 1 = 2 → lampOf e = some (.button g)))
      ∧ (∀ o : Fin 4, byteAt e 1 = 3 → (byteAt e 2).toNat = o.val → lampOf e = some (.origin o))
      ∧ (((byteAt e 1 = 1 ∨ byteAt e 1 = 2) ∧ 7 < (byteAt e 2).toNat ∨ byteAt e 1 = 3 ∧ 3 < (byteAt e 2).toNat
        ∨ 3 < (byteAt e 1).toNat) → lampOf e = none))
  ∧ (∀ x : Action, needsRelease x = true ↔ ∃ g : Fin 8, x = .talk g .momentary ∨ x = .talk g .auto)
  ∧ (∀ (d : Detection) (level : Bool), standsPressed d level = true ↔ d = .levelHigh ∧ level = true ∨ d = .levelLow ∧ level = false)
  ∧ (∀ (e : List Byte) (i : Fin 8), (byteAt e 0 = BitVec.ofNat 8 (128 + i.val) → ∀ source : LampSource, lampOf e = some source →
        buttonEntry e = .ok (.lamp i source))
      ∧ (byteAt e 0 = BitVec.ofNat 8 i.val → ∀ (d : Detection) (x : Action), detectionOf (byteAt e 1) = some d → actionOf e = some x →
        (d = .both → needsRelease x = false) → buttonEntry e = .ok (.button i d x ((byteAt e 3).getLsbD 0))))
  ∧ (∀ (s v : State) (i g : Fin 8) (source : LampSource) (d : Detection) (x : Action) (notify : Bool),
      s.applyButton (.lamp i source) = { s with talk := { s.talk with lamps := s.talk.lamps.set i source } }
      ∧ (v = (s.endAction i).modButton i (fun y => { y with detection := d, action := x, notify := notify }) →
        s.applyButton (.button i d x notify) = if standsPressed d (v.button i).level = true then v.detected i true else v)
      ∧ ((∀ k : Fin 8, (s.group k).buttons.getLsbD i.val = false) → s.endAction i = s.modButton i fun y => { y with state := .idle })
      ∧ ((s.group g).buttons.getLsbD i.val = true → (∀ k : Fin 8, k ≠ g → (s.group k).buttons.getLsbD i.val = false) →
        s.endAction i = (s.modButton i fun y => { y with state := .idle }).removeOpener g (.button i)))
  ∧ (∀ (s : State) (l : Fin 16) (a : Nat) (es : List (List Byte)) (bad : Nat → List Byte → Prop), s.hasStep l 17 a = true →
      es = chunks 16 (s.stepAt a).payload →
      (∀ e : List Byte, (bad 16 e ↔ (byteAt e 0).extractLsb' 3 4 ≠ 0)
        ∧ (bad 17 e ↔ (byteAt e 0).getLsbD 7 = true ∧ lampOf e = none
          ∨ (byteAt e 0).getLsbD 7 = false ∧ (detectionOf (byteAt e 1) = none ∨ actionOf e = none))
        ∧ (bad 18 e ↔ (byteAt e 0).getLsbD 7 = false ∧ detectionOf (byteAt e 1) = some .both
          ∧ ∃ x : Action, actionOf e = some x ∧ needsRelease x = true)) →
      (∀ d : Nat, (d = 16 ∨ d = 17 ∨ d = 18) → (∃ e ∈ es, bad d e) → (∀ k : Nat, 16 ≤ k → k < d → ∀ e ∈ es, ¬ bad k e) →
        exec (.setButton l) s = .next (s.finish l (s.stepAt a) .badStep d 0))
      ∧ ∀ xs : List ButtonEntry, es.map buttonEntry = xs.map Except.ok →
        leaves (.setButton l) s ((xs.foldl State.applyButton s).finish l (s.stepAt a) .ok 0 (BitVec.ofNat 32 xs.length)))

/-! ### Ring ports and the supervisor (spec 08) -/

/-- The events of a port: SIGNAL_LOSS in QUALIFY or UP is a flap, to DARK, or to QUARANTINE as the third within 480,000 frames;
SIGNAL_PRESENT and DARK_PROBE after 48,000 frames bring a DARK port to ACQUIRE; ACQUIRE_TIMEOUT after 4,800 absent frames
sends it DARK; QUARANTINE_END comes after 96,000 frames. A lost signal ends a FAR test or a return loop in DARK, without a
flap. In any other state, or before the time, nothing changes but the signal (R152 to R155, R158, R170, R172, R174).
Every fault record goes the one way that a clause states whole: kind, port, origin, neighbour, the two port states and the frame of
the event, six snapshot words, at the position of the written count, with ATTENTION bit 16; without room it is counted as dropped. A
first DARK is a PORT DARK and the third flap a QUARANTINE, with the counters of R168 (R20, R167, R168). -/
def Obligations.PortEventsMovePorts : Prop :=
  (∀ (s : State) (p : Port), s.isRunning = true →
    (((s.port p).state = .qualify ∨ (s.port p).state = .up) → ∃ u : State, leaves (.signalLoss p) s u
      ∧ (u.port p).flapCount = (s.port p).flapCount + 1 ∧ (u.port p).signal = false ∧ (u.port p).timer = 0
      ∧ (u.port p).darkReported = true ∧ u.port p.other = s.port p.other
      ∧ (((s.port p).flaps.filter fun f => decide (s.passed < f + 480000)).length < 2 →
          (u.port p).state = .dark ∧ (u.port p).forward = []
          ∧ (u.port p).flaps = ((s.port p).flaps.filter fun f => decide (s.passed < f + 480000)) ++ [s.passed])
      ∧ (2 ≤ ((s.port p).flaps.filter fun f => decide (s.passed < f + 480000)).length →
          (u.port p).state = .quarantine ∧ (u.port p).flaps = [])
      ∧ ((s.port p).state = .up → (∀ o : Fin 4, (u.sup.path o p).up = false)
          ∧ (u.sup.closure (closureDirection p)).closed = false ∧ (u.port p).conflictReported = false))
    ∧ (((s.port p).state = .dark ∨ (s.port p).state = .acquire ∨ (s.port p).state = .quarantine) →
      exec (.signalLoss p) s = .next (s.setPort p { s.port p with signal := false }))
    ∧ (∀ x : LoopRec, (s.port p).state = .loop → (s.port p).loop = some x →
      (x.role = .testerNear → exec (.signalLoss p) s = .next (s.setPort p { s.port p with signal := false }))
      ∧ (x.role ≠ .testerNear → ∃ u : State, leaves (.signalLoss p) s u
        ∧ (u.port p).state = .dark ∧ (u.port p).loop = none ∧ (u.port p).forward = [] ∧ (u.port p).signal = false
        ∧ (u.port p).flapCount = (s.port p).flapCount ∧ u.port p.other = s.port p.other))
    ∧ ((s.port p).state = .dark → leaves (.signalPresent p) s (s.setPort p { s.port p with
        signal := true, state := .acquire, timer := 0, absent := 0 }))
    ∧ ((s.port p).state ≠ .dark → exec (.signalPresent p) s = .next (s.setPort p { s.port p with signal := true, absent := 0 }))
    ∧ (((s.port p).state ≠ .dark ∨ (s.port p).timer < 48000) → exec (.darkProbe p) s = .next s)
    ∧ ((s.port p).state = .dark → 48000 ≤ (s.port p).timer → leaves (.darkProbe p) s (s.setPort p { s.port p with
        state := .acquire, timer := 0, absent := 0 }))
    ∧ (((s.port p).state ≠ .acquire ∨ (s.port p).absent < 4800) → exec (.acquireTimeout p) s = .next s)
    ∧ ((s.port p).state = .acquire → 4800 ≤ (s.port p).absent →
      ((s.port p).darkReported = true → leaves (.acquireTimeout p) s (s.setPort p { s.port p with
        state := .dark, timer := 0, absent := 0, forward := [] }))
      ∧ ((s.port p).darkReported = false → ∃ u : State, leaves (.acquireTimeout p) s u
        ∧ u.port p = { s.port p with state := .dark, timer := 0, absent := 0, forward := [], darkReported := true }
        ∧ u.port p.other = s.port p.other ∧ u.logged s
        ∧ u = { s with ports := u.ports, faultLog := u.faultLog, ram := u.ram
                       regs := { s.regs with attention := u.regs.attention } }))
    ∧ (((s.port p).state ≠ .quarantine ∨ (s.port p).timer < 96000) → exec (.quarantineEnd p) s = .next s)
    ∧ ((s.port p).state = .quarantine → 96000 ≤ (s.port p).timer → leaves (.quarantineEnd p) s (s.setPort p { s.port p with
        state := .acquire, timer := 0, absent := 0 })))
  ∧ (∀ (s u : State) (kind : FaultKind) (p : Option Port) (o n : Option (Fin 4)) (shot : List Word) (a base : Nat),
      u = s.fault kind p o n shot → base = s.cfg.faultLog → s.isRunning = true →
      a = base + 16 + 32 * (s.faultLog.written.toNat % s.cfg.faultCapacity) →
      base + 16 + 32 * s.cfg.faultCapacity ≤ Config.ramSize →
      ((s.faultLog.written - s.peek (base + 8)).toNat < s.cfg.faultCapacity →
        u = { s with ram := u.ram, faultLog := { s.faultLog with written := s.faultLog.written + 1 }
                     regs := { s.regs with attention := s.regs.attention ||| 0x10000 } }
        ∧ u.peek a = BitVec.ofNat 32 (kind.code
            + 256 * (match p with
              | some .east => 0
              | some .west => 1
              | none => 3)
            + 4096 * ((o.map fun k => k.val).getD 7) + 65536 * ((n.map fun k => k.val).getD 7)
            + 2 ^ 24 * (s.port .east).state.code + 2 ^ 28 * (s.port .west).state.code)
        ∧ u.peek (a + 4) = s.clock.frame ∧ (∀ i : Nat, i < 6 → u.peek (a + 8 + 4 * i) = shot.getD i 0)
        ∧ u.peek (base + 4) = s.faultLog.written + 1
        ∧ ∀ b : Nat, outsideArea b a 32 = true → outsideArea b (base + 4) 4 = true → readByte u.ram b = readByte s.ram b)
      ∧ (s.cfg.faultCapacity ≤ (s.faultLog.written - s.peek (base + 8)).toNat →
        u = { s with faultLog := { s.faultLog with dropped := s.faultLog.dropped + 1 } }.poke (base + 12)
          (s.faultLog.dropped + 1)))
  ∧ ([FaultKind.portDark, .portUp, .errorStorm, .quarantine, .pathLost, .pathUp, .originLost, .originBack, .clockSource, .frameJump,
      .idConflict, .lateGain, .phantomFault, .loopEnd].map fun k => k.code) = [1, 2, 3, 4, 5, 6, 7, 8, 9, 10, 11, 12, 13, 14]
  ∧ ([PortState.dark, .acquire, .qualify, .up, .quarantine, .loop].map fun x => x.code) = [0, 1, 2, 3, 4, 5]
  ∧ (∀ (s u w : State) (p : Port) (f : List Nat) (v : PortRec) (counters : List Word), s.isRunning = true →
      ((s.port p).state = .qualify ∨ (s.port p).state = .up) →
      f = ((s.port p).flaps.filter fun x => decide (s.passed < x + 480000)) ++ [s.passed] →
      v = { s.port p with signal := false, flapCount := (s.port p).flapCount + 1, timer := 0, absent := 0 } →
      counters = [v.valid, v.failures, v.flapCount, v.drops, BitVec.ofNat 32 (s.port p).timer] →
      u = (if (s.port p).state = .up then w.leftUp p else w) →
      (f.length < 3 → (s.port p).darkReported = false →
        w = (s.setPort p { v with state := .dark, forward := [], flaps := f, darkReported := true }).fault .portDark (some p) none
          (s.neighbour p) (counters ++ [BitVec.ofNat 32 f.length]) → leaves (.signalLoss p) s u)
      ∧ (f.length < 3 → (s.port p).darkReported = true →
        w = s.setPort p { v with state := .dark, forward := [], flaps := f } → leaves (.signalLoss p) s u)
      ∧ (3 ≤ f.length →
        w = (s.setPort p { v with state := .quarantine, flaps := [], darkReported := true }).fault .quarantine (some p) none
          (s.neighbour p) (counters ++ [0]) → leaves (.signalLoss p) s u))
  ∧ (∀ (s : State) (p : Port), s.isRunning = true → (s.port p).state = .acquire → 4800 ≤ (s.port p).absent →
      (s.port p).darkReported = false → leaves (.acquireTimeout p) s
        ((s.setPort p { s.port p with state := .dark, timer := 0, absent := 0, forward := [], darkReported := true }).fault .portDark
          (some p) none (s.neighbour p) [(s.port p).valid, (s.port p).failures, (s.port p).flapCount, (s.port p).drops,
            BitVec.ofNat 32 (s.port p).timer, BitVec.ofNat 32 (s.port p).flaps.length]))

/-- PATH_TIMEOUT after 32 frames without an arrival loses an UP path, raises its loss count and writes a fault record, and the
origin is no longer reachable if its other path is lost too; CLOSURE_TIMEOUT opens a direction after 32 frames; and
CONFLICT_FLAG_CLEAR clears a port's flag after 48,000 frames of quiet. Before the time nothing happens (R160, R161, R163, R164). An
origin no longer reachable is reported to every block: the waiting requests to it end UNREACHABLE, a desk's mirror goes stale or the
stage orphans its inputs, its mixes are marked, its talk targets are LOST, its own talk is closed; one that is back is sent the
refreshes and the OPENs (R77, R83, R87, R88, R99, R115, R133, R137).
The model's choices: that a refreshed reference is scheduled at its sender too (log entry 23), and the order of the blocks in a
report, the gain refresh before the reference refresh among them (log entries 2 and 45), and the two bytes behind the 255 of a tag
of none (log entry 43).
A lost path writes PATH LOST with the port's neighbour after the change, the origin's merge counters and the hop count, and the last
one ORIGIN LOST with the age of the last summary; a port that leaves UP loses its paths in ascending order of origin (R160, R161,
R167, R168).
The result count 0 of a CLAIM, RELEASE or LOOP request that so ends UNREACHABLE is the model's choice (log entry 11): R17, R77 and
R103 give none. An unreachable talker's groups go back to sequence 0 (log entry 60), and an unreachable terminal's outbox entry is
cleared with its sent frame (log entry 61). An age past its word shows its low 32 bits (log entry 67). The
counts of a mix step that so ends show their low 16 bits each (log entry 70). -/
def Obligations.PathsAndFlagsTimeOut : Prop :=
  ((∀ s : State, s.isRunning = true →
    (∀ (o : Fin 4) (p : Port) (n : Nat), (s.sup.path o p).up = true → (s.sup.path o p).since = some n →
      (n < 32 → exec (.pathTimeout o p) s = .next s)
      ∧ (32 ≤ n → ∃ u : State, leaves (.pathTimeout o p) s u
        ∧ u.sup.path o p = { s.sup.path o p with up := false, losses := (s.sup.path o p).losses + 1 }
        ∧ (∀ (x : Fin 4) (q : Port), x ≠ o ∨ q ≠ p → u.sup.path x q = s.sup.path x q)
        ∧ (o ≠ s.cfg.id → u.reachable o = (s.sup.path o p.other).up)
        ∧ ((s.sup.path o p.other).up = true → s.clock.source ≠ some o → u.logged s
          ∧ u = { s with sup := u.sup, faultLog := u.faultLog, ram := u.ram
                         regs := { s.regs with attention := u.regs.attention } })))
    ∧ (∀ (o : Fin 4) (p : Port), (s.sup.path o p).up = false → exec (.pathTimeout o p) s = .next s)
    ∧ (∀ d : Direction, ((s.sup.closure d).closed = false ∨ (s.sup.closure d).since < 32 →
        exec (.closureTimeout d) s = .next s)
      ∧ ((s.sup.closure d).closed = true → 32 ≤ (s.sup.closure d).since →
        leaves (.closureTimeout d) s (s.setClosure d { s.sup.closure d with closed := false })))
    ∧ ∀ p : Port, ((s.port p).conflictReported = false ∨ (s.port p).conflictQuiet < 48000 →
        exec (.conflictFlagClear p) s = .next s)
      ∧ ((s.port p).conflictReported = true → 48000 ≤ (s.port p).conflictQuiet →
        leaves (.conflictFlagClear p) s (s.setPort p { s.port p with conflictReported := false, conflictQuiet := 0 })))
  ∧ (∀ (s : State) (o : Fin 4) (p : Port) (n : Nat), s.isRunning = true → (s.sup.path o p).up = true →
      (s.sup.path o p).since = some n → 32 ≤ n → ∃ w : State,
        w = { s with sup := w.sup, ram := w.ram, faultLog := w.faultLog
                     regs := { s.regs with attention := w.regs.attention } }
        ∧ w.sup = { s.sup with paths := w.sup.paths }
        ∧ w.sup.path o p = { s.sup.path o p with up := false, losses := (s.sup.path o p).losses + 1 }
        ∧ (∀ (x : Fin 4) (q : Port), x ≠ o ∨ q ≠ p → w.sup.path x q = s.sup.path x q)
        ∧ ((s.sup.path o p.other).up = true → w.logged s ∧ leaves (.pathTimeout o p) s (w.clockPathLost o p))
        ∧ ((s.sup.path o p.other).up = false →
          w.faultLog.written + w.faultLog.dropped = s.faultLog.written + s.faultLog.dropped + 2
          ∧ leaves (.pathTimeout o p) s (w.reachReport o false)))
  ∧ (∀ (s : State) (o : Fin 4),
      s.reachReport o false
        = ((((((s.serviceReach o).chooseSource).gainReach o false).mixReach o false).talkReach o false).endReachWaits o false)
      ∧ s.reachReport o true
        = (((((s.chooseSource).gainReach o true).mixReach o true).talkReach o true).endReachWaits o true))
  ∧ (∀ (s : State) (o : Fin 4), (∀ r ∈ s.svc.requests, r.target = o → r.state = .queued) → s.serviceReach o = s)
  ∧ (∀ (s v : State) (o : Fin 4) (r : Request) (l : Fin 16) (j : Join) (op : Op),
      (s.svc.requests.filter fun q => decide (q.target = o ∧ q.state ≠ .queued)) = [r] → r.lane = l → s.works l j op = true →
      v = { s with svc := { s.svc with
        requests := s.svc.requests.filter fun q => !decide (q.lane = l ∧ q.number = r.number) } } →
      (r.kind ≠ 1 → (r.kind < 8 ∨ 10 < r.kind) → s.serviceReach o = v.finish l j .unreachable 0 0)
      ∧ (∀ e : InputStep, r.kind = 1 → op = .setInput [e] → e.state = .requested r.number → ∃ u : State,
        s.serviceReach o = u.finish l j .unreachable 0 0
        ∧ u = { v with lanes := u.lanes, ram := storeBytes s.ram e.outcome [4] }
        ∧ (u.lane l).done = (s.lane l).done ∧ ∀ k : Fin 16, k ≠ l → u.lane k = s.lane k)
      ∧ (∀ m : RemoteMix, 8 ≤ r.kind → r.kind ≤ 10 → op = .mixRemote m →
        (m.applied = 0 → s.serviceReach o = v.finish l j .unreachable 0 (BitVec.ofNat 32 (65536 * m.refused)))
        ∧ (m.applied ≠ 0 → s.serviceReach o
          = v.finish l j .partly 0 (BitVec.ofNat 32 (m.applied % 65536 + 65536 * m.refused)))))
  ∧ (∀ (s : State) (o : Fin 4), s.isStage = true →
      (∀ (up : Bool) (n : Fin 64), (s.gainReach o up).gain.table.get n
        = if (s.gain.table.get n).owner = some o then { s.gain.table.get n with orphaned := !up } else s.gain.table.get n)
      ∧ (∀ set : BitVec 64, (∀ n : Fin 64, set.getLsbD n.val
          = decide ((s.gain.table.get n).owner = some o ∧ (s.gain.table.get n).orphaned = false)) →
        s.gainReach o false = { s with
          gain := { s.gain with table := (s.gainReach o false).gain.table }
          svc := if set = 0 then s.svc else s.svc.reply {
            kind := 6, dest := 15
            body := leBytes 8 set.toNat ++ [BitVec.ofNat 8 (o.val + 4), 255, 0, 0] ++ leBytes 8 set.toNat } })
      ∧ ∀ (set : BitVec 64) (w : State), (∀ n : Fin 64, set.getLsbD n.val
          = decide ((s.gain.table.get n).owner = some o ∧ (s.gain.table.get n).orphaned = true)) →
        w = { s with
          gain := { s.gain with table := (s.gainReach o true).gain.table }
          svc := if set = 0 then s.svc else s.svc.reply {
            kind := 6, dest := 15
            body := leBytes 8 set.toNat ++ [BitVec.ofNat 8 o.val, 255, 0, 0] ++ leBytes 8 set.toNat } } →
        s.gainReach o true = w.startGainRefresh.startRefRefresh)
  ∧ (∀ (s : State) (o : Fin 4), s.isStage = false →
      (o = 0 → ∃ t : State, s.gainReach o false = t
        ∧ t = { s with gain := { s.gain with stale := true, mirror := t.gain.mirror } }
        ∧ ∀ n : Fin 64, t.gain.mirror.get n = { s.gain.mirror.get n with fresh := false })
      ∧ (o ≠ 0 → s.gainReach o false = s) ∧ s.gainReach o true = s.startRefRefresh)
  ∧ (∀ s : State,
      (s.svc.mayPlace .urgent = false →
        s.startGainRefresh = { s with gain := { s.gain with gainCursor := some 0 }, svc := s.svc.hold .urgent .gainRefresh }
        ∧ s.startRefRefresh = { s with gain := { s.gain with refCursor := some 0 }, svc := s.svc.hold .urgent .refRefresh })
      ∧ (s.startGainRefresh.gain.gainCursor = none ∨ s.startGainRefresh.svc.mayPlace .urgent = false)
      ∧ (s.startRefRefresh.gain.refCursor = none ∨ s.startRefRefresh.svc.mayPlace .urgent = false)
      ∧ ∀ (n : Fin 64) (next : Option (Fin 64)), (n.val < 63 ∧ next.map (fun k => k.val) = some (n.val + 1) ∨ n.val = 63 ∧ next = none) →
        (s.gain.gainCursor = some n →
          (∀ (c : PendingChange) (f : Word), (s.gain.table.get n).pending = some c → c.switch = some f →
            s.sendGainRefresh = { s with
              gain := { s.gain with gainCursor := next }
              svc := s.svc.enqueue (announceMessage n c.setting (s.gain.table.get n).owner (stateBrought c (s.gain.table.get n))
                (s.gain.table.get n).orphaned f noTag true) })
          ∧ ((∀ c : PendingChange, (s.gain.table.get n).pending = some c → c.switch = none) →
            s.sendGainRefresh = { s with
              gain := { s.gain with gainCursor := next }
              svc := s.svc.enqueue (announceMessage n (s.gain.table.get n).setting (s.gain.table.get n).owner
                (s.gain.table.get n).state (s.gain.table.get n).orphaned s.clock.frame noTag true) }))
        ∧ (∀ value : Option Int, s.gain.refCursor = some n →
          value = (match (s.track s.cfg.id n).scheduled with
            | some r => r.value
            | none => (s.track s.cfg.id n).reference) →
          s.sendRefRefresh = { s.sendReference n value with
            gain := { (s.sendReference n value).gain with refCursor := next } }))
  ∧ (∀ (s : State) (o : Fin 4) (up : Bool), s.mixReach o up = { s with mix := { s.mix with mixes := (s.mixReach o up).mix.mixes } }
      ∧ ∀ m : Fin 32, (s.mixReach o up).mixRec m = { s.mixRec m with
          lost := if (s.mixRec m).controller = o then !up else (s.mixRec m).lost
          staged := ((s.mixReach o up).mixRec m).staged }
        ∧ ((s.mixRec m).staged = none → ((s.mixReach o up).mixRec m).staged = none)
        ∧ ∀ scene : Scene, (s.mixRec m).staged = some scene → ((s.mixReach o up).mixRec m).staged
          = if up = false ∧ scene.complete = false ∧ scene.source = o then none else some scene)
  ∧ (∀ (s : State) (u : Fin 4),
      s.talkReach u true = (s.talkTargetReach u true).pumpTalk
      ∧ s.talkReach u false = ((s.talkTargetReach u false).talkerGone u).pumpTalk
      ∧ (∀ up : Bool, s.talkTargetReach u up
          = { s with talk := { s.talk with groups := (s.talkTargetReach u up).talk.groups } })
      ∧ ∀ (g : Fin 8) (x : Group), x = s.group g →
        ((x.isOpen = true ∧ ∃ t ∈ x.targets, t.terminal = u) →
          (s.talkTargetReach u true).group g = { x with
            answered := clearBit x.answered u.val, outbox := x.outbox.set u { x.outbox.get u with pending := .opening, silent := false }
            targets := x.targets.map fun t => if t.terminal = u then { t with state := .waiting } else t }
          ∧ (s.talkTargetReach u false).group g = { x with
            answered := setBit x.answered u.val, outbox := x.outbox.set u {}
            targets := x.targets.map fun t => if t.terminal = u then { t with state := .lost } else t })
        ∧ ((x.isOpen = false ∨ ∀ t ∈ x.targets, t.terminal ≠ u) → (s.talkTargetReach u true).group g = x
          ∧ (s.talkTargetReach u false).group g = { x with outbox := x.outbox.set u {} }))
  ∧ (∀ (s : State) (t : Fin 4), (s.talkerGone t).talk.talkers.get t = {}
      ∧ (s.talkerGone t).svc = { s.svc with
          urgentRoom := s.svc.urgentRoom.filter fun h => decide (h ≠ .talkReply t)
          normalRoom := s.svc.normalRoom.filter fun h => decide (h ≠ .talkReply t) }
      ∧ (∀ m : Fin 32, (s.talkerGone t).insert m
        = if (s.presentSet t).getLsbD m.val = true then (s.insert m).leave t else s.insert m)
      ∧ ∀ (v : Fin 4) (g : Fin 8), v ≠ t → (s.talkerGone t).talkerGroup v g = s.talkerGroup v g))
  ∧ (∀ (s v w : State) (o : Fin 4) (p : Port) (m : MergeRec) (counts : List Word), m = s.merge.records.get o →
      counts = [m.duplicates, m.late, m.window, m.missing, m.overruns] →
      v = { s with sup := { s.sup with paths := s.sup.paths.set o ((s.sup.paths.get o).set p {
        s.sup.path o p with up := false, losses := (s.sup.path o p).losses + 1 }) } } →
      w = v.fault .pathLost (some p) (some o) (v.neighbour p) (counts ++ [BitVec.ofNat 32 (s.sup.path o p).hop]) →
      ((s.sup.path o p.other).up = true → s.losePath o p = w.clockPathLost o p)
      ∧ ((s.sup.path o p.other).up = false → s.losePath o p = (w.fault .originLost (some p) (some o) none (counts
        ++ [match s.sup.summaries.get o with
          | some x => BitVec.ofNat 32 x.2
          | none => 0xFFFFFFFF])).reachReport o false))
  ∧ (∀ (s : State) (o : Fin 4) (p : Port) (n : Nat), s.isRunning = true → (s.sup.path o p).up = true →
      (s.sup.path o p).since = some n → 32 ≤ n → leaves (.pathTimeout o p) s (s.losePath o p))
  ∧ (∀ (s : State) (p : Port), s.leftUp p = ((s.setPort p { s.port p with
        conflictReported := false, conflictQuiet := 0 }).setClosure (closureDirection p)
          { s.sup.closure (closureDirection p) with closed := false }).losePaths p
      ∧ s.losePaths p = [(0 : Fin 4), 1, 2, 3].foldl (fun t o => if (t.sup.path o p).up = true then t.losePath o p else t) s)

/-- LOOP_TEST: R169's checks; a test that passes them writes its four counts as 0 and the duration in use into its payload, and no
other byte of it; a NEAR test puts its port into LOOP at once, from UP with its paths lost, a FAR test asks the neighbour, its request
waiting where there is no entry or no room (R73, R76). LOOP_REQUEST is answered accept or BUSY, and an accepting answer's last byte sent begins the return loop; an accepting
LOOP_REPLY puts an UP port into LOOP. TESTER_WINDOW_END and RETURN_LOOP_END bring the port to ACQUIRE with a fault record, the
tester's counts written and its step ended OK; a lost signal ends a FAR test BROKEN in DARK, and a cancel ends a test CANCELLED in
ACQUIRE, with the counts so far written (R169 to R174). A tester's port sends the frame's burst and counts it sent, the first one's
frame number being the first test frame, and a NEAR test's counts as returned at once, its round trip 0; a RETURN port sends none
(R170, R172, R173).
The result count of an end whose rule gives none, the count returned so far in a CANCELLED test among them, is the model's choice
(log entry 11).
The end of a loop writes LOOP END, with role, outcome, counts and round trip and the port's neighbour before the test, behind the
PORT DARK of a lost signal (R167, R168). That PORT DARK comes first there is read from R154 and R174, which give the two records no
order (DEDUCED, log entry 26). -/
def Obligations.LoopTestsRun : Prop :=
  (((∀ (s : State) (l : Fin 16) (a : Nat) (b : List Byte), s.hasStep l 19 a = true → b = (s.stepAt a).payload →
    ((byteAt b 0).toNat > 1 → exec (.loopTest l) s = .next (s.finish l (s.stepAt a) .badStep 16 0))
    ∧ ((byteAt b 0).toNat ≤ 1 → (byteAt b 1).toNat > 1 →
      exec (.loopTest l) s = .next (s.finish l (s.stepAt a) .badStep 17 0))
    ∧ ∀ p : Port, byteAt b 0 = portByte p → (byteAt b 1).toNat ≤ 1 →
      ((s.port p).state = .loop ∨ (s.port p).state = .quarantine
          ∨ (∃ o : Fin 4, o ≠ s.cfg.id ∧ (s.sup.path o p).up = true ∧ (s.sup.path o p.other).up = false) →
        exec (.loopTest l) s = .next (s.finish l (s.stepAt a) .busy 0 0))
      ∧ ∀ d : Nat, (s.port p).state ≠ .loop → (s.port p).state ≠ .quarantine →
        (∀ o : Fin 4, o ≠ s.cfg.id → (s.sup.path o p).up = true → (s.sup.path o p.other).up = true) →
        d = max 48 (min (wordAt b 4).toNat 480000) →
        (byteAt b 1 = 1 → ((s.port p).state ≠ .up ∨ s.neighbour p = none) →
          exec (.loopTest l) s = .next (s.finish l (s.stepAt a) .unreachable 0 0))
        ∧ (byteAt b 1 = 0 → (s.port p).state ≠ .up → ∃ u : State, leaves (.loopTest l) s u
          ∧ u = { s with lanes := u.lanes, ram := u.ram, ports := u.ports }
          ∧ u.port p = { s.port p with
              state := .loop, timer := 0, absent := 0, forward := [], returning := []
              loop := some { role := .testerNear, duration := d, lane := some l, neighbour := s.neighbour p } }
          ∧ u.port p.other = s.port p.other
          ∧ (u.lane l).activity = .working (s.stepAt a) (.loopTest p d) ∧ (∀ k : Fin 16, k ≠ l → u.lane k = s.lane k)
          ∧ (∀ i : Nat, i < 4 → u.peek ((s.header a).payload + 8 + 4 * i) = 0)
          ∧ u.peek ((s.header a).payload + 24) = BitVec.ofNat 32 d
          ∧ ∀ x : Nat, outsideArea x ((s.header a).payload + 8) 20 = true → readByte u.ram x = readByte s.ram x)
        ∧ (∀ n : Fin 4, byteAt b 1 = 1 → (s.port p).state = .up → s.neighbour p = some n → s.entryFree = true →
          s.svc.mayPlace .normal = true → ∃ t : State, exec (.loopTest l) s = .next t
          ∧ t = { s with lanes := t.lanes, ram := t.ram, svc := t.svc }
          ∧ t.svc = { s.svc with
              normal := s.svc.normal ++ [{
                kind := 15, dest := n.val, producer := .request l ((s.lane l).given + 1)
                body := [BitVec.ofNat 8 s.cfg.id.val, BitVec.ofNat 8 l.val, (s.lane l).seq + 1, portByte p] ++ leBytes 4 d }]
              requests := s.svc.requests ++ [{
                lane := l, number := (s.lane l).given + 1, target := n, kind := 15, state := .queued }] }
          ∧ (t.lane l).activity = .working (s.stepAt a) (.loopTest p d) ∧ ∀ k : Fin 16, k ≠ l → t.lane k = s.lane k)
        ∧ (∀ n : Fin 4, byteAt b 1 = 1 → (s.port p).state = .up → s.neighbour p = some n →
          ∃ t : State, exec (.loopTest l) s = .next t
          ∧ t = { s with lanes := t.lanes, ram := t.ram, svc := t.svc }
          ∧ t.asked s l .normal n 15 (portByte p :: leBytes 4 d)
          ∧ (t.lane l).activity = .working (s.stepAt a) (.loopTest p d)
          ∧ (∀ i : Nat, i < 4 → t.peek ((s.header a).payload + 8 + 4 * i) = 0)
          ∧ t.peek ((s.header a).payload + 24) = BitVec.ofNat 32 d
          ∧ ∀ x : Nat, outsideArea x ((s.header a).payload + 8) 20 = true → readByte t.ram x = readByte s.ram x))
  ∧ (∀ (s : State) (q : Fin 4) (tag : Tag) (port : Byte) (duration : Word), s.isRunning = true →
    (1 < port.toNat → exec (.loopRequest q tag port duration) s = .next (s.reply {
      kind := 16, dest := q.val, body := [tag.requester, tag.lane, tag.seq, port, 8] }))
    ∧ ∀ p : Port, port = portByte p →
      ((s.port p.other).state = .up ∧ s.neighbour p.other = some q ∧ (s.port p).state ≠ .loop
          ∧ (∀ o : Fin 4, o ≠ s.cfg.id → (s.sup.path o p.other).up = true → (s.sup.path o p).up = true) →
        exec (.loopRequest q tag port duration) s = .next (s.reply {
          kind := 16, dest := q.val, body := [tag.requester, tag.lane, tag.seq, port, 0]
          producer := .loopReply p.other q (max 48 (min duration.toNat 480000)) }))
      ∧ ((s.port p.other).state ≠ .up ∨ s.neighbour p.other ≠ some q ∨ (s.port p).state = .loop
          ∨ (∃ o : Fin 4, o ≠ s.cfg.id ∧ (s.sup.path o p.other).up = true ∧ (s.sup.path o p).up = false) →
        exec (.loopRequest q tag port duration) s = .next (s.reply {
          kind := 16, dest := q.val, body := [tag.requester, tag.lane, tag.seq, port, 8] })))
  ∧ (∀ (s : State) (l : Fin 16) (j : Join) (tag : Tag) (r : Request) (p : Port) (d : Nat) (port : Byte),
    s.works l j (.loopTest p d) = true → s.answered? tag 16 = some r → r.lane = l → (s.port p).state = .up →
    ∃ u : State, leaves (.loopReply tag port 0) s u
      ∧ (u.port p).state = .loop ∧ (u.port p).forward = []
      ∧ (u.port p).loop = some { role := .testerFar, duration := d, lane := some l, neighbour := s.neighbour p }
      ∧ u.port p.other = s.port p.other ∧ ∀ o : Fin 4, (u.sup.path o p).up = false)
  ∧ ∀ (s : State) (p : Port) (x : LoopRec), s.isRunning = true → (s.port p).loop = some x →
    (∀ (l : Fin 16) (j : Join) (b n : Nat), x.role ≠ .returner → x.lane = some l → x.duration ≤ (s.port p).timer →
      s.works l j (.loopTest p x.duration) = true → j.segments = [(b, n)] → 28 ≤ n → b + n ≤ Config.ramSize →
      0 < s.cfg.faultCapacity → outsideArea b (s.cfg.faultLog) (16 + 32 * s.cfg.faultCapacity) = true →
      (b < s.cfg.faultLog → b + 28 ≤ s.cfg.faultLog) →
      ∃ u : State, leaves (.testerWindowEnd p) s (u.finish l j .ok 0 x.returned)
        ∧ u.port p = { s.port p with
            state := .acquire, timer := 0, absent := 0, loop := none, returning := [] }
        ∧ u.port p.other = s.port p.other ∧ u.logged s ∧ u.lanes = s.lanes
        ∧ u.peek (b + 8) = x.sent ∧ u.peek (b + 12) = x.returned ∧ u.peek (b + 16) = x.errors
        ∧ u.peek (b + 20) = x.roundTrip.getD 0xFFFFFFFF
        ∧ u = { s with ram := u.ram, ports := u.ports, faultLog := u.faultLog
                       regs := { s.regs with attention := u.regs.attention } })
    ∧ (x.role = .returner → x.lane = none → x.duration + 9600 ≤ (s.port p).timer →
      ∃ u : State, leaves (.returnLoopEnd p) s u
        ∧ u.port p = { s.port p with
            state := .acquire, timer := 0, absent := 0, loop := none, returning := [] }
        ∧ u.port p.other = s.port p.other ∧ u.logged s
        ∧ u = { s with ram := u.ram, ports := u.ports, faultLog := u.faultLog
                       regs := { s.regs with attention := u.regs.attention } })
    ∧ (x.role ≠ .returner → (s.port p).timer < x.duration → exec (.testerWindowEnd p) s = .next s)
    ∧ (x.role = .returner → (s.port p).timer < x.duration + 9600 → exec (.returnLoopEnd p) s = .next s))
  ∧ (∀ (s : State) (l : Fin 16) (a d : Nat) (b : List Byte) (p : Port), s.hasStep l 19 a = true → b = (s.stepAt a).payload →
      byteAt b 0 = portByte p → byteAt b 1 = 0 → (s.port p).state = .up → (s.sup.path s.cfg.id p).up = false →
      (∀ o : Fin 4, o ≠ s.cfg.id → (s.sup.path o p).up = true → (s.sup.path o p.other).up = true) →
      d = max 48 (min (wordAt b 4).toNat 480000) → ∃ u : State, leaves (.loopTest l) s u
        ∧ u.port p = { s.port p with
            state := .loop, timer := 0, absent := 0, forward := [], returning := [], conflictReported := false, conflictQuiet := 0
            loop := some { role := .testerNear, duration := d, lane := some l, neighbour := s.neighbour p } }
        ∧ u.port p.other = s.port p.other ∧ (∀ o : Fin 4, (u.sup.path o p).up = false)
        ∧ (∀ o : Fin 4, u.sup.path o p.other = s.sup.path o p.other)
        ∧ (u.sup.closure (closureDirection p)).closed = false
        ∧ (0 < s.cfg.faultCapacity → (s.cfg.faultLog + 16 + 32 * s.cfg.faultCapacity ≤ (s.header a).payload + 8
            ∨ (s.header a).payload + 28 ≤ s.cfg.faultLog) →
          (∀ i : Nat, i < 4 → u.peek ((s.header a).payload + 8 + 4 * i) = 0)
          ∧ u.peek ((s.header a).payload + 24) = BitVec.ofNat 32 d
          ∧ ∀ x : Nat, outsideArea x ((s.header a).payload + 8) 20 = true →
            outsideArea x s.cfg.faultLog (16 + 32 * s.cfg.faultCapacity) = true → readByte u.ram x = readByte s.ram x)
        ∧ (u.lane l).activity = .working (s.stepAt a) (.loopTest p d) ∧ ∀ k : Fin 16, k ≠ l → u.lane k = s.lane k)
  ∧ (∀ (s : State) (m : Message) (p : Port) (q : Fin 4) (d : Nat), m.producer = .loopReply p q d →
      ((s.port p).state ≠ .up ∨ (s.port p.other).state = .loop → s.messageSent m = s)
      ∧ ((s.port p).state = .up → (s.port p.other).state ≠ .loop → ∃ u : State, s.messageSent m = u
        ∧ (u.port p).state = .loop ∧ (u.port p).timer = 0 ∧ (u.port p).forward = []
        ∧ (u.port p).loop = some { role := .returner, duration := d, lane := none, neighbour := s.neighbour p }
        ∧ u.port p.other = s.port p.other ∧ ∀ o : Fin 4, (u.sup.path o p).up = false))
  ∧ (∀ (s : State) (p : Port) (x : LoopRec) (l : Fin 16) (j : Join) (b n : Nat), s.isRunning = true →
      (s.port p).state = .loop → (s.port p).loop = some x → x.lane = some l →
      s.works l j (.loopTest p x.duration) = true → j.segments = [(b, n)] → 28 ≤ n → b + n ≤ Config.ramSize →
      0 < s.cfg.faultCapacity → outsideArea b (s.cfg.faultLog) (16 + 32 * s.cfg.faultCapacity) = true →
      (b < s.cfg.faultLog → b + 28 ≤ s.cfg.faultLog) →
      (x.role = .testerFar → ∃ u : State, leaves (.signalLoss p) s (u.finish l j .broken 0 x.returned)
        ∧ (u.port p).state = .dark ∧ (u.port p).loop = none ∧ (u.port p).signal = false
        ∧ (u.port p).flapCount = (s.port p).flapCount ∧ u.port p.other = s.port p.other ∧ u.lanes = s.lanes
        ∧ u.peek (b + 8) = x.sent ∧ u.peek (b + 12) = x.returned ∧ u.peek (b + 16) = x.errors
        ∧ u.peek (b + 20) = x.roundTrip.getD 0xFFFFFFFF
        ∧ u = { s with ram := u.ram, ports := u.ports, faultLog := u.faultLog
                       regs := { s.regs with attention := u.regs.attention } })
      ∧ (x.role ≠ .returner → ∃ u : State, s.cancelLane l = u.finishCancelled l j x.returned
        ∧ u.port p = { s.port p with state := .acquire, timer := 0, absent := 0, loop := none, returning := [] }
        ∧ u.port p.other = s.port p.other ∧ u.logged s
        ∧ u.peek (b + 8) = x.sent ∧ u.peek (b + 12) = x.returned ∧ u.peek (b + 16) = x.errors
        ∧ u.peek (b + 20) = x.roundTrip.getD 0xFFFFFFFF
        ∧ (u.lane l).activity = .working j (.loopTest p x.duration) ∧ ∀ k : Fin 16, k ≠ l → u.lane k = s.lane k)))
  ∧ (∀ (s w y : State) (p : Port) (x : LoopRec) (v : PortRec) (counts : List Word), s.isRunning = true →
      (s.port p).state = .loop → (s.port p).loop = some x → (x.role = .returner → x.lane = none ∧ w = s) →
      v = { s.port p with timer := 0, absent := 0, loop := none, returning := [] } →
      counts = (if x.role = .returner then [0, 0, 0xFFFFFFFF] else [x.returned, x.errors, x.roundTrip.getD 0xFFFFFFFF]) →
      y = (if (s.port p).darkReported = true then w else
        (w.setPort p { s.port p with
            state := .dark, timer := 0, absent := 0, signal := false, forward := [], darkReported := true }).fault .portDark (some p) none
          (s.neighbour p) [(s.port p).valid, (s.port p).failures, (s.port p).flapCount, (s.port p).drops,
            BitVec.ofNat 32 (s.port p).timer, BitVec.ofNat 32 (s.port p).flaps.length]) →
      (∀ (l : Fin 16) (j : Join) (b n : Nat), x.role ≠ .returner → x.lane = some l →
        s.works l j (.loopTest p x.duration) = true → j.segments = [(b, n)] → 28 ≤ n →
        w = s.pokeAll (b + 8) [x.sent, x.returned, x.errors, x.roundTrip.getD 0xFFFFFFFF] →
        (x.duration ≤ (s.port p).timer → leaves (.testerWindowEnd p) s
          (((w.setPort p { v with state := .acquire }).fault .loopEnd (some p) none x.neighbour
            ([if x.role = .testerFar then 1 else 0, 0, x.sent] ++ counts)).finish l j .ok 0 x.returned))
        ∧ s.cancelLane l = ((w.setPort p { v with state := .acquire }).fault .loopEnd (some p) none x.neighbour
            ([if x.role = .testerFar then 1 else 0, 2, x.sent] ++ counts)).finishCancelled l j x.returned
        ∧ (x.role = .testerFar → leaves (.signalLoss p) s
          (((y.setPort p { v with state := .dark, signal := false, forward := [], darkReported := true }).fault .loopEnd (some p) none
            x.neighbour ([1, 1, x.sent] ++ counts)).finish l j .broken 0 x.returned)))
      ∧ (x.role = .returner →
        (x.duration + 9600 ≤ (s.port p).timer → leaves (.returnLoopEnd p) s
          ((s.setPort p { v with state := .acquire }).fault .loopEnd (some p) none x.neighbour ([2, 0, x.sent] ++ counts)))
        ∧ leaves (.signalLoss p) s
          ((y.setPort p { v with state := .dark, signal := false, forward := [], darkReported := true }).fault .loopEnd (some p) none
            x.neighbour ([2, 1, x.sent] ++ counts))))
  ∧ (∀ (s : State) (p : Port) (x : LoopRec) (first : Word), s.isRunning = true → s.merge.playedNow = true → s.built = false →
      s.cfg.slotCount ≤ 64 → (∀ k : Nat, s.cfg.talkSlot = some k → k < s.cfg.slotCount) → (s.port p).state = .loop →
      (s.port p).loop = some x → first = x.firstTest.getD s.clock.frame →
      ∃ (u : State) (b : Burst), leaves .burstBuild s ((s.svc.fill s.reachList 8).2.2.foldl State.serviceEvent u)
        ∧ u.lastBurst = some b ∧ b.frame = s.clock.frame
        ∧ (x.role = .returner → u.port p = s.port p)
        ∧ ((x.role = .testerFar ∨ x.role = .testerNear ∧ earlier s.clock.frame first = true) → u.port p = { s.port p with
            sent := (s.port p).sent ++ [b], loop := some { x with sent := x.sent + 1, firstTest := some first } })
        ∧ (x.role = .testerNear → earlier s.clock.frame first = false → u.port p = { s.port p with
            sent := (s.port p).sent ++ [b]
            loop := some { x with sent := x.sent + 1, firstTest := some first, returned := x.returned + 1
                                  roundTrip := some (x.roundTrip.getD 0) } }))

/-! ### The meter unit (spec 09) -/

/-- METER: a bad list or a short payload is refused; a good SWEEP or ONE-SHOT joins the queue with its counts 0 and the pass
numbers of its area cleared, and no other byte of the RAM but its missed trigger count; a TRIGGERED SWEEP stands ARMED instead, unless its trigger frame has come. METER_PASS_BEGIN gives the
head's first channels to the detectors; each detector takes its samples' peak and overs; DETECTOR_WINDOW_END writes the result and
goes on to the next position, or frees the detector while others still measure, or completes a pass: a SWEEP ends, a REPEAT SWEEP
stays alone or goes to the back of the queue, a button's sweep is ARMED again, and either ends at its pass limit.
METER_FRAME_TRIGGER queues an ARMED sweep whose frame has come; a button's change in the trigger's direction queues an ARMED sweep
or counts a missed trigger; a cancel ends the sweep CANCELLED with its passes (R177 to R184). A pass's last window writes its record
as every other does, and a step that ends then writes its missed trigger count (R178, R181).
The result count 0 of a refused METER step is the model's choice (log entry 11).
A payload of sufficient length is refused for its list (16), then a channel (17), then the result area (18), then mode, placement or
trigger (19), and for nothing else; a placement above 1 takes the area of LATEST there (log entry 50). The pass number is the low 32
bits of the pass count (log entry 62), the missed trigger count wraps (log entry 63), and the next position's start frame is the
window end's frame plus 1 (log entry 64). -/
def Obligations.MeterSweepsRun : Prop :=
  ((((∀ (s : State) (l : Fin 16) (a n : Nat) (b : List Byte), s.hasStep l 20 a = true → b = (s.stepAt a).payload →
    n = (if byteAt b 0 = 0 then 1 else (byteAt b 2).toNat) →
    (b.length < 24 + 4 * n → exec (.meter l) s = .next (s.finish l (s.stepAt a) .badStep 2 0))
    ∧ (24 + 4 * n ≤ b.length → (n = 0 ∨ 64 < n) → exec (.meter l) s = .next (s.finish l (s.stepAt a) .badStep 16 0))
    ∧ (24 + 4 * n ≤ b.length → meterFault b = none → ∀ mode : SweepMode, meterMode b = some mode → mode ≠ .triggered →
      ∃ t : State, exec (.meter l) s = .next t ∧ t = { s with lanes := t.lanes, ram := t.ram, meter := t.meter }
        ∧ t.meter = { s.meter with queue := s.meter.queue ++ [l], sweeps := t.meter.sweeps }
        ∧ t.sweep l = some {
            mode := mode, latest := decide (byteAt b 1 = 1), window := max 48 (min (numAt b 4 4) 48000)
            address := numAt b 8 4, channels := (List.range n).map fun i => wordAt b (24 + 4 * i)
            next := 0, passes := 0, limit := numAt b 16 4, missed := 0, state := .queued, trigger := none }
        ∧ (∀ k : Fin 16, k ≠ l → t.sweep k = s.sweep k ∧ t.lane k = s.lane k)
        ∧ (t.lane l).activity = .working (s.stepAt a) .meter
        ∧ (∀ i : Nat, (if byteAt b 1 = 1 then i < 1 else i < n) → t.peek (numAt b 8 4 + 24 * i + 20) = 0)
        ∧ (∀ i : Nat, (∀ k : Nat, (if byteAt b 1 = 1 then k < 1 else k < n) → outsideArea i (numAt b 8 4 + 24 * k + 20) 4 = true) →
          outsideArea i ((s.header a).payload + 20) 4 = true → readByte t.ram i = readByte s.ram i)
        ∧ t.peek ((s.header a).payload + 20) = 0))
  ∧ (∀ (s : State) (l : Fin 16) (rest : List (Fin 16)) (x : Sweep), s.isRunning = true → s.meter.queue = l :: rest →
    s.sweep l = some x →
    (s.meter.passDue = true → s.meter.allFree = true →
      ∃ t : State, exec .meterPassBegin s = .next t ∧ t = { s with meter := t.meter }
        ∧ t.meter = { s.meter with passDue := false, detectors := t.meter.detectors, sweeps := t.meter.sweeps }
        ∧ t.sweep l = some { x with state := .measuring, next := min 8 x.channels.length }
        ∧ (∀ k : Fin 16, k ≠ l → t.sweep k = s.sweep k)
        ∧ ∀ i : Fin 8, t.meter.detectors.get i = if i.val < x.channels.length then some {
            position := i.val, channel := x.channels.getD i.val 0, start := s.clock.frame, left := x.window
            peak := 0, overs := 0 } else s.meter.detectors.get i)
    ∧ (s.meter.passDue = false ∨ s.meter.allFree = false → exec .meterPassBegin s = .next s)
    ∧ ∀ (k : Fin 8) (d : Measuring), s.meter.detectors.get k = some d →
      (d.left ≠ 0 → exec (.detectorWindowEnd k) s = .next s)
      ∧ (d.left = 0 → x.next < x.channels.length → x.recordAddress d.position + 24 ≤ Config.ramSize →
        ∃ (t : State) (at_ : Nat), exec (.detectorWindowEnd k) s = .next t
          ∧ at_ = (if x.latest = true then x.address else x.address + 24 * d.position)
          ∧ t = { s with ram := t.ram, meter := t.meter }
          ∧ t.sweep l = some { x with next := x.next + 1 }
          ∧ t.meter.detectors.get k = some {
              position := x.next, channel := x.channels.getD x.next 0, start := s.clock.frame + 1, left := x.window
              peak := 0, overs := 0 }
          ∧ (∀ i : Fin 8, i ≠ k → t.meter.detectors.get i = s.meter.detectors.get i)
          ∧ t.peek at_ = BitVec.ofNat 32 d.position ∧ t.peek (at_ + 4) = d.channel
          ∧ t.peek (at_ + 8) = BitVec.ofNat 32 d.peak ∧ t.peek (at_ + 12) = BitVec.ofNat 32 d.overs
          ∧ t.peek (at_ + 16) = s.clock.frame ∧ t.peek (at_ + 20) = BitVec.ofNat 32 (x.passes + 1)
          ∧ ∀ i : Nat, outsideArea i at_ 24 = true → readByte t.ram i = readByte s.ram i)
      ∧ (∀ j : Join, d.left = 0 → x.channels.length ≤ x.next → (∀ i : Fin 8, i ≠ k → s.meter.detectors.get i = none) →
        (x.mode = .oneShot ∨ x.mode = .sweep) → s.works l j .meter = true →
        ∃ u : State, exec (.detectorWindowEnd k) s = .next (u.finish l j .ok 0 (BitVec.ofNat 32 (x.passes + 1)))
          ∧ u = { s with ram := u.ram, meter := u.meter }
          ∧ u.sweep l = none ∧ (∀ i : Fin 16, i ≠ l → u.sweep i = s.sweep i)
          ∧ u.meter.queue = (l :: rest).filter (fun i => decide (i ≠ l))
          ∧ ∀ i : Fin 8, u.meter.detectors.get i = none))
  ∧ (∀ (d : Measuring) (x : Sample),
    (d.take x).peak = max d.peak x.toInt.natAbs ∧ (d.take x).left = d.left - 1
    ∧ (d.take x).overs = (if 8388607 ≤ x.toInt.natAbs then d.overs + 1 else d.overs))
  ∧ ∀ (s : State) (l : Fin 16) (x : Sweep) (f : Word), s.isRunning = true → s.sweep l = some x → x.trigger = some (.frame f) →
    (x.state = .armed → later f s.clock.frame = false →
      exec (.meterFrameTrigger l) s = .next { s with meter := { s.meter with
        queue := s.meter.queue ++ [l], sweeps := s.meter.sweeps.set l (some { x with state := .queued }) } })
    ∧ (x.state ≠ .armed ∨ later f s.clock.frame = true → exec (.meterFrameTrigger l) s = .next s))
  ∧ (∀ (s : State) (l : Fin 16) (rest : List (Fin 16)) (x : Sweep) (k : Fin 8) (d : Measuring) (j : Join),
      s.isRunning = true → s.meter.queue = l :: rest → l ∉ rest → s.sweep l = some x → s.meter.detectors.get k = some d →
      d.left = 0 → x.channels.length ≤ x.next → (∀ i : Fin 8, i ≠ k → s.meter.detectors.get i = none) →
      s.works l j .meter = true →
      ((x.mode = .repeating ∨ x.mode = .triggered ∧ ∃ (b : Fin 8) (edge : Nat), x.trigger = some (.button b edge)) →
        x.limit ≠ 0 → x.passes + 1 = x.limit →
        ∃ u : State, exec (.detectorWindowEnd k) s = .next (u.finish l j .ok 0 (BitVec.ofNat 32 (x.passes + 1)))
          ∧ u = { s with ram := u.ram, meter := u.meter } ∧ u.sweep l = none ∧ u.meter.queue = rest)
      ∧ (x.mode = .triggered → (∃ f : Word, x.trigger = some (.frame f)) →
        ∃ u : State, exec (.detectorWindowEnd k) s = .next (u.finish l j .ok 0 (BitVec.ofNat 32 (x.passes + 1)))
          ∧ u = { s with ram := u.ram, meter := u.meter } ∧ u.sweep l = none ∧ u.meter.queue = rest)
      ∧ (x.mode = .repeating → (x.limit = 0 ∨ x.passes + 1 ≠ x.limit) →
        ∃ t : State, exec (.detectorWindowEnd k) s = .next t ∧ t = { s with ram := t.ram, meter := t.meter }
          ∧ t.sweep l = some { x with
              passes := x.passes + 1, next := 0, state := if rest = [] then x.state else .queued }
          ∧ t.meter.queue = rest ++ [l] ∧ t.meter.passDue = s.meter.passDue
          ∧ (∀ i : Fin 16, i ≠ l → t.sweep i = s.sweep i) ∧ ∀ i : Fin 8, t.meter.detectors.get i = none)
      ∧ (∀ (b : Fin 8) (edge : Nat), x.mode = .triggered → x.trigger = some (.button b edge) →
        (x.limit = 0 ∨ x.passes + 1 ≠ x.limit) →
        ∃ t : State, exec (.detectorWindowEnd k) s = .next t ∧ t = { s with ram := t.ram, meter := t.meter }
          ∧ t.sweep l = some { x with passes := x.passes + 1, next := 0, state := .armed }
          ∧ t.meter.queue = rest ∧ (∀ i : Fin 16, i ≠ l → t.sweep i = s.sweep i)
          ∧ ∀ i : Fin 8, t.meter.detectors.get i = none))
  ∧ (∀ (s : State) (b : Fin 8) (level : Bool) (l : Fin 16),
      (∀ (x : Sweep) (edge : Nat), s.sweep l = some x → x.trigger = some (.button b edge) →
        (edge = 0 ∨ edge = 1 ∧ level = true ∨ edge = 2 ∧ level = false) →
        (x.state = .armed → s.buttonTrigger b level l = { s with meter := { s.meter with
          queue := s.meter.queue ++ [l], sweeps := s.meter.sweeps.set l (some { x with state := .queued }) } })
        ∧ (x.state ≠ .armed → s.buttonTrigger b level l = { s with meter := { s.meter with
          sweeps := s.meter.sweeps.set l (some { x with missed := x.missed + 1 }) } }))
      ∧ (∀ (x : Sweep) (k : Fin 8) (edge : Nat), s.sweep l = some x → x.trigger = some (.button k edge) →
        (k ≠ b ∨ edge = 1 ∧ level = false ∨ edge = 2 ∧ level = true) → s.buttonTrigger b level l = s)
      ∧ (s.sweep l = none → s.buttonTrigger b level l = s))
  ∧ (∀ (s : State) (l : Fin 16) (j : Join) (x : Sweep) (b n : Nat), s.works l j .meter = true → s.sweep l = some x →
      j.segments = [(b, n)] → 24 ≤ n → b + n ≤ Config.ramSize →
      ∃ u : State, s.cancelLane l = u.finishCancelled l j (BitVec.ofNat 32 x.passes)
        ∧ u = { s with ram := u.ram, meter := u.meter } ∧ u.sweep l = none
        ∧ (∀ k : Fin 16, k ≠ l → u.sweep k = s.sweep k)
        ∧ u.meter.queue = s.meter.queue.filter (fun k => decide (k ≠ l)) ∧ u.peek (b + 20) = x.missed
        ∧ (x.state = .measuring → u.meter.allFree = true)
        ∧ (x.state ≠ .measuring → u.meter.detectors = s.meter.detectors)
        ∧ u.meter.passDue = (s.meter.passDue && decide (s.meter.queue.head? ≠ some l)))
  ∧ (∀ s : State, s.resetLow = false → s.isRunning = true →
      s.tick.meter.passDue = (decide (s.meter.queue ≠ []) && s.meter.allFree)
      ∧ (s.tick.meter.passDue = true → Instr.meterPassBegin ∈ s.tick.pending)))
  ∧ (∀ (s : State) (l : Fin 16) (a n : Nat) (b : List Byte) (g : Trigger) (x : Sweep), s.hasStep l 20 a = true →
      b = (s.stepAt a).payload → n = (byteAt b 2).toNat → byteAt b 0 = 3 → 24 + 4 * n ≤ b.length → meterFault b = none →
      ((∃ k : Fin 8, byteAt b 3 = 0 ∧ (byteAt b 12).toNat = k.val ∧ g = .button k (byteAt b 13).toNat)
        ∨ byteAt b 3 = 1 ∧ g = .frame (wordAt b 12)) →
      x = {
        mode := .triggered, latest := decide (byteAt b 1 = 1), window := max 48 (min (numAt b 4 4) 48000)
        address := numAt b 8 4, channels := (List.range n).map fun i => wordAt b (24 + 4 * i)
        next := 0, passes := 0, limit := numAt b 16 4, missed := 0, state := .armed, trigger := some g } →
      ∃ t : State, exec (.meter l) s = .next t ∧ t = { s with lanes := t.lanes, ram := t.ram, meter := t.meter }
        ∧ ((∀ f : Word, g = .frame f → later f s.clock.frame = true) →
          t.meter = { s.meter with sweeps := s.meter.sweeps.set l (some x) })
        ∧ (∀ f : Word, g = .frame f → later f s.clock.frame = false → t.meter = { s.meter with
          queue := s.meter.queue ++ [l], sweeps := s.meter.sweeps.set l (some { x with state := .queued }) })
        ∧ (∀ k : Fin 16, k ≠ l → t.lane k = s.lane k) ∧ (t.lane l).activity = .working (s.stepAt a) .meter
        ∧ (∀ i : Nat, (if byteAt b 1 = 1 then i < 1 else i < n) → t.peek (numAt b 8 4 + 24 * i + 20) = 0)
        ∧ (∀ i : Nat, (∀ k : Nat, (if byteAt b 1 = 1 then k < 1 else k < n) → outsideArea i (numAt b 8 4 + 24 * k + 20) 4 = true) →
          outsideArea i ((s.header a).payload + 20) 4 = true → readByte t.ram i = readByte s.ram i)
        ∧ t.peek ((s.header a).payload + 20) = 0)
  ∧ (∀ (s : State) (l : Fin 16) (rest : List (Fin 16)) (x : Sweep) (k : Fin 8) (d : Measuring), s.isRunning = true →
      s.meter.queue = l :: rest → s.sweep l = some x → s.meter.detectors.get k = some d → d.left = 0 →
      x.channels.length ≤ x.next → (∃ i : Fin 8, i ≠ k ∧ s.meter.detectors.get i ≠ none) →
      x.recordAddress d.position + 24 ≤ Config.ramSize →
      ∃ (t : State) (at_ : Nat), exec (.detectorWindowEnd k) s = .next t
        ∧ at_ = (if x.latest = true then x.address else x.address + 24 * d.position)
        ∧ t = { s with ram := t.ram, meter := { s.meter with detectors := s.meter.detectors.set k none } }
        ∧ t.peek at_ = BitVec.ofNat 32 d.position ∧ t.peek (at_ + 4) = d.channel
        ∧ t.peek (at_ + 8) = BitVec.ofNat 32 d.peak ∧ t.peek (at_ + 12) = BitVec.ofNat 32 d.overs
        ∧ t.peek (at_ + 16) = s.clock.frame ∧ t.peek (at_ + 20) = BitVec.ofNat 32 (x.passes + 1)
        ∧ ∀ i : Nat, outsideArea i at_ 24 = true → readByte t.ram i = readByte s.ram i))
  ∧ (∀ (b : List Byte) (n area : Nat) (badChannel badArea badMode : Prop),
      n = (if byteAt b 0 = 0 then 1 else (byteAt b 2).toNat) → 24 + 4 * n ≤ b.length →
      area = (if byteAt b 0 ≠ 0 ∧ byteAt b 1 = 0 then 24 * n else 24) →
      (badChannel ↔ ∃ i : Nat, i < n ∧
        (2 < (byteAt b (24 + 4 * i)).toNat
          ∨ byteAt b (24 + 4 * i) = 0 ∧ (63 < (byteAt b (25 + 4 * i)).toNat ∨ 3 < (byteAt b (26 + 4 * i)).toNat
            ∨ 3 < (byteAt b (27 + 4 * i)).toNat ∧ byteAt b (27 + 4 * i) ≠ 255)
          ∨ byteAt b (24 + 4 * i) = 1 ∧ 31 < (byteAt b (25 + 4 * i)).toNat
          ∨ byteAt b (24 + 4 * i) = 2 ∧ 63 < (byteAt b (25 + 4 * i)).toNat)) →
      (badArea ↔ numAt b 8 4 % 4 ≠ 0 ∨ numAt b 8 4 < 256 ∨ 262144 < numAt b 8 4 + area) →
      (badMode ↔ 3 < (byteAt b 0).toNat ∨ 1 < (byteAt b 1).toNat
        ∨ byteAt b 0 = 3 ∧ (1 < (byteAt b 3).toNat
          ∨ byteAt b 3 = 0 ∧ (7 < (byteAt b 12).toNat ∨ 2 < (byteAt b 13).toNat))) →
      ((n = 0 ∨ 64 < n) → meterFault b = some 16)
      ∧ (n ≠ 0 → n ≤ 64 → (badChannel → meterFault b = some 17)
        ∧ (¬ badChannel → badArea → meterFault b = some 18)
        ∧ (¬ badChannel → ¬ badArea → badMode → meterFault b = some 19)
        ∧ (¬ badChannel → ¬ badArea → ¬ badMode → meterFault b = none)))
  ∧ (∀ (s : State) (l : Fin 16) (a d : Nat) (b : List Byte), s.hasStep l 20 a = true → b = (s.stepAt a).payload →
      24 + 4 * (if byteAt b 0 = 0 then 1 else (byteAt b 2).toNat) ≤ b.length → meterFault b = some d →
      exec (.meter l) s = .next (s.finish l (s.stepAt a) .badStep d 0))
  ∧ (∀ b : List Byte, meterMode b = [SweepMode.oneShot, .sweep, .repeating, .triggered][(byteAt b 0).toNat]?)
  ∧ (∀ (s : State) (l : Fin 16) (rest : List (Fin 16)) (x : Sweep) (k : Fin 8) (d : Measuring) (at_ : Nat) (record : List Word)
      (ends : Prop), s.isRunning = true → s.meter.queue = l :: rest → s.sweep l = some x → s.meter.detectors.get k = some d →
      d.left = 0 → x.channels.length ≤ x.next → (∀ i : Fin 8, i ≠ k → s.meter.detectors.get i = none) →
      at_ = (if x.latest = true then x.address else x.address + 24 * d.position) → at_ + 24 ≤ Config.ramSize →
      record = [BitVec.ofNat 32 d.position, d.channel, BitVec.ofNat 32 d.peak, BitVec.ofNat 32 d.overs, s.clock.frame,
        BitVec.ofNat 32 (x.passes + 1)] →
      (ends ↔ x.mode = .oneShot ∨ x.mode = .sweep
        ∨ x.mode = .triggered ∧ (∀ (b : Fin 8) (edge : Nat), x.trigger ≠ some (.button b edge))
        ∨ x.limit ≠ 0 ∧ x.passes + 1 = x.limit) →
      (∀ (j : Join) (b n : Nat), ends → s.works l j .meter = true → j.segments = [(b, n)] → 24 ≤ n → b + n ≤ Config.ramSize →
        ∃ u : State, exec (.detectorWindowEnd k) s = .next (u.finish l j .ok 0 (BitVec.ofNat 32 (x.passes + 1)))
          ∧ u = { s with ram := u.ram, meter := u.meter } ∧ u.peek (b + 20) = x.missed
          ∧ (∀ i : Nat, i < 6 → (at_ + 4 * i + 4 ≤ b + 20 ∨ b + 24 ≤ at_ + 4 * i) → u.peek (at_ + 4 * i) = record.getD i 0)
          ∧ ∀ i : Nat, outsideArea i at_ 24 = true → outsideArea i (b + 20) 4 = true → readByte u.ram i = readByte s.ram i)
      ∧ (¬ ends → ∃ t : State, exec (.detectorWindowEnd k) s = .next t ∧ t = { s with ram := t.ram, meter := t.meter }
          ∧ (∀ i : Nat, i < 6 → t.peek (at_ + 4 * i) = record.getD i 0)
          ∧ ∀ i : Nat, outsideArea i at_ 24 = true → readByte t.ram i = readByte s.ram i))

/-! ### The word clock (spec 10) -/

/-- WORD_CLOCK_PRESENT, WORD_CLOCK_ABSENT and WORD_CLOCK_PHASE_LOCK: the monitor changes in every run state, and only at a
running stage do the frame edges follow: pulled toward the input, on its edges once in phase, and at the rate last followed
when it goes. The word clock output follows the frame edges while RUNNING and the oscillator otherwise, high for the first half
of each frame, and low while the reset pin is low (R189).
That it is low then is log entry 13's. -/
def Obligations.WordClockGovernsStage : Prop :=
  (∀ s : State, s.resetLow = false →
    (s.conv.wordClock = false → exec .wordClockPresent s = .next { s with conv := { s.conv with
      wordClock := true, edges := if s.isRunning = true ∧ s.cfg.id = 0 then .pulling else s.conv.edges } })
    ∧ (s.conv.wordClock = true → exec .wordClockPresent s = .next s)
    ∧ (s.conv.wordClock = true → exec .wordClockAbsent s = .next { s with conv := { s.conv with
      wordClock := false, edges := if s.isRunning = true ∧ s.cfg.id = 0 then .held else s.conv.edges } })
    ∧ (s.conv.wordClock = false → exec .wordClockAbsent s = .next s)
    ∧ (s.isRunning = true → s.cfg.id = 0 → s.conv.wordClock = true → s.conv.edges = .pulling →
      exec .wordClockPhaseLock s = .next { s with conv := { s.conv with edges := .wordClock } })
    ∧ (s.isRunning = false ∨ s.cfg.id ≠ 0 → exec .wordClockPhaseLock s = .next s))
  ∧ ∀ s : State,
    (s.resetLow = true → s.outputClock = .low ∧ ∀ half : Bool, s.wordClockOut half = false)
    ∧ (s.resetLow = false → (∀ half : Bool, s.wordClockOut half = half)
      ∧ (s.isRunning = false → s.outputClock = .oscillator)
      ∧ (s.isRunning = true → s.cfg.id = 0 → s.outputClock = .edges s.conv.edges)
      ∧ (s.isRunning = true → s.cfg.id ≠ 0 → s.outputClock = .rate s.clock.rate))

/-! ### What every step keeps -/

/-- The invariant of the model: the exchange RAM is in canonical form, so that equal contents are equal data, and a part whose
reset pin is low stands STOPPED with every register 0; every step keeps it, and no step changes the origin mark (R6, R30,
R191; log entries 4 and 5). -/
def Obligations.StepKeepsInvariant : Prop :=
  ∀ s t : State, s.canonical = true → s.heldInReset = true → step s = .next t →
    t.canonical = true ∧ t.heldInReset = true ∧ t.mark = s.mark

/-- The service unit stays within its bounds: if a state holds at most 16 messages in each queue, 32 held replies, 64 requests, and
held fault announces of urgent kinds alone, then so does the state every step answers, whatever the command (R71, R75, R76, R93). -/
def Obligations.StepKeepsQueueBounds : Prop :=
  ∀ s t : State, s.queuesBounded → step s = .next t → t.queuesBounded

/-- The mix engine and the talk inserts stay within their rules, whatever the command: every live and staged list in ascending order of
source, at most 48 live entries of a mix that are not fading out and 48 staged ones, 1,024 entries in the pool (R108, R116); and every
insert with no one waiting where it has no holder, its waiting list in descending order of rank, and no talker in it twice (R136). -/
def Obligations.StepKeepsMixesAndInserts : Prop :=
  (∀ s t : State, s.mixesBounded → step s = .next t → t.mixesBounded)
  ∧ ∀ s t : State, (∀ m : Fin 32, (s.insert m).ordered) → step s = .next t → ∀ m : Fin 32, (t.insert m).ordered

/-- What every step keeps holds of the machine right after reset (log entry 4; R191, R71, R75, R76, R108, R136). -/
def Obligations.InvariantHoldsAtReset : Prop :=
  State.reset.canonical = true ∧ State.reset.heldInReset = true ∧ State.reset.queuesBounded ∧ State.reset.mixesBounded
    ∧ ∀ m : Fin 32, (State.reset.insert m).ordered
end

