-- ==== Sys2Proof/Laws/Banks.lean ====
section
/-!
SUPPORT. Reading a bank after one entry, or every entry, has been changed.
-/

namespace Sys2Proof

/-- An entry of a bank by its number. -/
theorem Bank.get_eq {n : Nat} {α : Type} (v : Bank n α) (i : Fin n) : v.get i = v[i.val] := rfl

/-- An entry set is the value given, and every other entry stands. -/
theorem Bank.set_get {n : Nat} {α : Type} (v : Bank n α) (i j : Fin n) (x : α) :
    (v.set i x).get j = if j = i then x else v.get j := by
  rw [Bank.get_eq, Bank.get_eq, Vector.getElem_set]
  by_cases h : j = i
  · simp [h]
  · have h' : i.val ≠ j.val := fun e => h (Fin.ext e.symm)
    simp [h, h']

/-- The entry changed is the function's value, and every other entry stands. -/
theorem Bank.update_get {n : Nat} {α : Type} (v : Bank n α) (i j : Fin n) (f : α → α) :
    (Bank.update v i f).get j = if j = i then f (v.get j) else v.get j := by
  unfold Bank.update
  rw [Bank.set_get]
  split
  · rename_i h; rw [h]
  · rfl

/-- Two banks with the same entries are one. -/
theorem Bank.ext_get {n : Nat} {α : Type} {v w : Bank n α} (h : ∀ i : Fin n, v.get i = w.get i) : v = w := by
  apply Vector.ext
  intro i hi
  exact h ⟨i, hi⟩

/-- Two changes of one entry are one change. -/
theorem Bank.update_update {n : Nat} {α : Type} (v : Bank n α) (i : Fin n) (f g : α → α) :
    Bank.update (Bank.update v i f) i g = Bank.update v i fun x => g (f x) := by
  apply Bank.ext_get
  intro j
  simp only [Bank.update_get]
  split <;> simp

/-- A change of every entry, read. -/
theorem Bank.mapAll_get {n : Nat} {α β : Type} (f : α → β) (v : Bank n α) (i : Fin n) :
    (Bank.mapAll f v).get i = f (v.get i) := by
  simp [Bank.get_eq, Bank.mapAll]

/-- A change of every entry by its number, read. -/
theorem Bank.mapNum_get {n : Nat} {α β : Type} (f : Nat → α → β) (v : Bank n α) (i : Fin n) :
    (Bank.mapNum f v).get i = f i.val (v.get i) := by
  simp [Bank.get_eq, Bank.mapNum]

end Sys2Proof

namespace Sys2Proof.Machine

/-- One port of a pair after a port has been set. -/
theorem Both.set_get {α : Type} (b : Both α) (p q : Port) (x : α) :
    (b.set p x).get q = if q = p then x else b.get q := by
  cases p <;> cases q <;> rfl

end Sys2Proof.Machine
end

