-- ==== Sys2Proof/Laws/Idle.lean ====
section
/-!
SUPPORT. What a step does with nothing waiting (log entries 1, 3 and 35), and the small lemmas of its three parts.
-/

namespace Sys2Proof.Machine

@[simp] theorem takeInbox_pending (s : State) : s.takeInbox.pending = s.inbox := rfl
@[simp] theorem takeInbox_inbox (s : State) : s.takeInbox.inbox = [] := rfl
@[simp] theorem takeInbox_ram (s : State) : s.takeInbox.ram = s.ram := rfl
@[simp] theorem takeRound_pending (s : State) : s.takeRound.pending = s.roundWork := rfl
@[simp] theorem takeRound_rounds (s : State) : s.takeRound.rounds = s.rounds + 1 := rfl
@[simp] theorem takeRound_lanes (s : State) : s.takeRound.lanes = s.lanes := rfl
@[simp] theorem takeRound_ram (s : State) : s.takeRound.ram = s.ram := rfl
@[simp] theorem takeRound_clock (s : State) : s.takeRound.clock = s.clock := rfl

/-- A step with nothing waiting always goes on. -/
theorem step_empty {s : State} (h : s.pending = []) : step s = .next s.idle := by simp [step, h]

/-- A step on an empty queue is one of three things, by what has come about in the frame. -/
theorem idle_cases (s : State) :
    (s.inbox ≠ [] ∧ s.idle = s.takeInbox) ∨ (s.inbox = [] ∧ s.roundWork ≠ [] ∧ s.idle = s.takeRound)
      ∨ (s.inbox = [] ∧ s.roundWork = [] ∧ s.idle = s.tick) := by
  unfold State.idle
  cases hi : s.inbox <;> cases hw : s.roundWork <;> simp

/-- No work comes about within a frame while the reset pin is low or the part is not RUNNING, nor beyond the bound. -/
theorem roundWork_nil {s : State} (h : s.resetLow = true ∨ s.isRunning = false ∨ joinFuel ≤ s.rounds) : s.roundWork = [] := by
  unfold State.roundWork
  obtain h | h | h := h
  · simp [h]
  · simp [h]
  · simp [Nat.not_lt.mpr h]

/-- Otherwise it is the grants due, the steps begun, and the map steps that have settled. -/
theorem roundWork_eq {s : State} (h1 : s.resetLow = false) (h2 : s.isRunning = true) (h3 : s.rounds < joinFuel) :
    s.roundWork = s.dueGrants ++ s.dueSteps ++ ((indices 16).filter s.settled).flatMap s.fades := by
  simp [State.roundWork, h1, h2, h3]

end Sys2Proof.Machine
end

