-- ==== Sys2Proof/Laws/State.lean ====
section
/-!
SUPPORT. What each named update of State does to each field: one theorem for the fields it leaves, one for the field it
changes, all for simp.
-/

namespace Sys2Proof.Machine

variable (s : State)

/-- State.store leaves every field but `ram`. -/
@[simp] theorem State.store_frame (a : Nat) (bs : List Byte) :
    (s.store a bs).pending = s.pending ∧ (s.store a bs).inbox = s.inbox ∧ (s.store a bs).resetLow = s.resetLow
    ∧ (s.store a bs).mark = s.mark ∧ (s.store a bs).regs = s.regs ∧ (s.store a bs).anchorRead = s.anchorRead
    ∧ (s.store a bs).cfg = s.cfg ∧ (s.store a bs).passed = s.passed ∧ (s.store a bs).faultLog = s.faultLog
    ∧ (s.store a bs).noteList = s.noteList ∧ (s.store a bs).inputView = s.inputView
    ∧ (s.store a bs).ringView = s.ringView ∧ (s.store a bs).talkView = s.talkView ∧ (s.store a bs).lanes = s.lanes
    ∧ (s.store a bs).scanPhase = s.scanPhase ∧ (s.store a bs).scanDue = s.scanDue ∧ (s.store a bs).rounds = s.rounds
    ∧ (s.store a bs).ports = s.ports
    ∧ (s.store a bs).xmit = s.xmit ∧ (s.store a bs).built = s.built ∧ (s.store a bs).lastBurst = s.lastBurst
    ∧ (s.store a bs).clock = s.clock ∧ (s.store a bs).merge = s.merge ∧ (s.store a bs).delivery = s.delivery
    ∧ (s.store a bs).svc = s.svc ∧ (s.store a bs).gain = s.gain ∧ (s.store a bs).mix = s.mix
    ∧ (s.store a bs).talk = s.talk ∧ (s.store a bs).sup = s.sup ∧ (s.store a bs).meter = s.meter
    ∧ (s.store a bs).conv = s.conv := by
  and_intros <;> rfl

@[simp] theorem State.store_ram (a : Nat) (bs : List Byte) :
    (s.store a bs).ram = storeBytes s.ram a bs := rfl

/-- State.poke leaves every field but `ram`. -/
@[simp] theorem State.poke_frame (a : Nat) (w : Word) :
    (s.poke a w).pending = s.pending ∧ (s.poke a w).inbox = s.inbox ∧ (s.poke a w).resetLow = s.resetLow
    ∧ (s.poke a w).mark = s.mark ∧ (s.poke a w).regs = s.regs ∧ (s.poke a w).anchorRead = s.anchorRead
    ∧ (s.poke a w).cfg = s.cfg ∧ (s.poke a w).passed = s.passed ∧ (s.poke a w).faultLog = s.faultLog
    ∧ (s.poke a w).noteList = s.noteList ∧ (s.poke a w).inputView = s.inputView ∧ (s.poke a w).ringView = s.ringView
    ∧ (s.poke a w).talkView = s.talkView ∧ (s.poke a w).lanes = s.lanes ∧ (s.poke a w).scanPhase = s.scanPhase
    ∧ (s.poke a w).scanDue = s.scanDue ∧ (s.poke a w).rounds = s.rounds
    ∧ (s.poke a w).ports = s.ports ∧ (s.poke a w).xmit = s.xmit
    ∧ (s.poke a w).built = s.built ∧ (s.poke a w).lastBurst = s.lastBurst ∧ (s.poke a w).clock = s.clock
    ∧ (s.poke a w).merge = s.merge ∧ (s.poke a w).delivery = s.delivery ∧ (s.poke a w).svc = s.svc
    ∧ (s.poke a w).gain = s.gain ∧ (s.poke a w).mix = s.mix ∧ (s.poke a w).talk = s.talk ∧ (s.poke a w).sup = s.sup
    ∧ (s.poke a w).meter = s.meter ∧ (s.poke a w).conv = s.conv := by
  and_intros <;> rfl

@[simp] theorem State.poke_ram (a : Nat) (w : Word) :
    (s.poke a w).ram = storeBytes s.ram a (leBytes 4 w.toNat) := rfl

/-- State.pokeAll leaves every field but `ram`. -/
@[simp] theorem State.pokeAll_frame (a : Nat) (ws : List Word) :
    (s.pokeAll a ws).pending = s.pending ∧ (s.pokeAll a ws).inbox = s.inbox ∧ (s.pokeAll a ws).resetLow = s.resetLow
    ∧ (s.pokeAll a ws).mark = s.mark ∧ (s.pokeAll a ws).regs = s.regs ∧ (s.pokeAll a ws).anchorRead = s.anchorRead
    ∧ (s.pokeAll a ws).cfg = s.cfg ∧ (s.pokeAll a ws).passed = s.passed ∧ (s.pokeAll a ws).faultLog = s.faultLog
    ∧ (s.pokeAll a ws).noteList = s.noteList ∧ (s.pokeAll a ws).inputView = s.inputView
    ∧ (s.pokeAll a ws).ringView = s.ringView ∧ (s.pokeAll a ws).talkView = s.talkView
    ∧ (s.pokeAll a ws).lanes = s.lanes ∧ (s.pokeAll a ws).scanPhase = s.scanPhase
    ∧ (s.pokeAll a ws).scanDue = s.scanDue ∧ (s.pokeAll a ws).rounds = s.rounds
    ∧ (s.pokeAll a ws).ports = s.ports ∧ (s.pokeAll a ws).xmit = s.xmit
    ∧ (s.pokeAll a ws).built = s.built ∧ (s.pokeAll a ws).lastBurst = s.lastBurst ∧ (s.pokeAll a ws).clock = s.clock
    ∧ (s.pokeAll a ws).merge = s.merge ∧ (s.pokeAll a ws).delivery = s.delivery ∧ (s.pokeAll a ws).svc = s.svc
    ∧ (s.pokeAll a ws).gain = s.gain ∧ (s.pokeAll a ws).mix = s.mix ∧ (s.pokeAll a ws).talk = s.talk
    ∧ (s.pokeAll a ws).sup = s.sup ∧ (s.pokeAll a ws).meter = s.meter ∧ (s.pokeAll a ws).conv = s.conv := by
  and_intros <;> rfl

@[simp] theorem State.pokeAll_ram (a : Nat) (ws : List Word) :
    (s.pokeAll a ws).ram = storeBytes s.ram a (ws.flatMap fun w => leBytes 4 w.toNat) := rfl

/-- State.setPort leaves every field but `ports`. -/
@[simp] theorem State.setPort_frame (p : Port) (r : PortRec) :
    (s.setPort p r).pending = s.pending ∧ (s.setPort p r).inbox = s.inbox ∧ (s.setPort p r).resetLow = s.resetLow
    ∧ (s.setPort p r).mark = s.mark ∧ (s.setPort p r).ram = s.ram ∧ (s.setPort p r).regs = s.regs
    ∧ (s.setPort p r).anchorRead = s.anchorRead ∧ (s.setPort p r).cfg = s.cfg ∧ (s.setPort p r).passed = s.passed
    ∧ (s.setPort p r).faultLog = s.faultLog ∧ (s.setPort p r).noteList = s.noteList
    ∧ (s.setPort p r).inputView = s.inputView ∧ (s.setPort p r).ringView = s.ringView
    ∧ (s.setPort p r).talkView = s.talkView ∧ (s.setPort p r).lanes = s.lanes ∧ (s.setPort p r).scanPhase = s.scanPhase
    ∧ (s.setPort p r).scanDue = s.scanDue ∧ (s.setPort p r).rounds = s.rounds
    ∧ (s.setPort p r).xmit = s.xmit ∧ (s.setPort p r).built = s.built
    ∧ (s.setPort p r).lastBurst = s.lastBurst ∧ (s.setPort p r).clock = s.clock ∧ (s.setPort p r).merge = s.merge
    ∧ (s.setPort p r).delivery = s.delivery ∧ (s.setPort p r).svc = s.svc ∧ (s.setPort p r).gain = s.gain
    ∧ (s.setPort p r).mix = s.mix ∧ (s.setPort p r).talk = s.talk ∧ (s.setPort p r).sup = s.sup
    ∧ (s.setPort p r).meter = s.meter ∧ (s.setPort p r).conv = s.conv := by
  and_intros <;> rfl

@[simp] theorem State.setPort_ports (p : Port) (r : PortRec) :
    (s.setPort p r).ports = s.ports.set p r := rfl

/-- State.modLane leaves every field but `lanes`. -/
@[simp] theorem State.modLane_frame (l : Fin 16) (f : Lane → Lane) :
    (s.modLane l f).pending = s.pending ∧ (s.modLane l f).inbox = s.inbox ∧ (s.modLane l f).resetLow = s.resetLow
    ∧ (s.modLane l f).mark = s.mark ∧ (s.modLane l f).ram = s.ram ∧ (s.modLane l f).regs = s.regs
    ∧ (s.modLane l f).anchorRead = s.anchorRead ∧ (s.modLane l f).cfg = s.cfg ∧ (s.modLane l f).passed = s.passed
    ∧ (s.modLane l f).faultLog = s.faultLog ∧ (s.modLane l f).noteList = s.noteList
    ∧ (s.modLane l f).inputView = s.inputView ∧ (s.modLane l f).ringView = s.ringView
    ∧ (s.modLane l f).talkView = s.talkView ∧ (s.modLane l f).scanPhase = s.scanPhase
    ∧ (s.modLane l f).scanDue = s.scanDue ∧ (s.modLane l f).rounds = s.rounds
    ∧ (s.modLane l f).ports = s.ports ∧ (s.modLane l f).xmit = s.xmit
    ∧ (s.modLane l f).built = s.built ∧ (s.modLane l f).lastBurst = s.lastBurst ∧ (s.modLane l f).clock = s.clock
    ∧ (s.modLane l f).merge = s.merge ∧ (s.modLane l f).delivery = s.delivery ∧ (s.modLane l f).svc = s.svc
    ∧ (s.modLane l f).gain = s.gain ∧ (s.modLane l f).mix = s.mix ∧ (s.modLane l f).talk = s.talk
    ∧ (s.modLane l f).sup = s.sup ∧ (s.modLane l f).meter = s.meter ∧ (s.modLane l f).conv = s.conv := by
  and_intros <;> rfl

@[simp] theorem State.modLane_lanes (l : Fin 16) (f : Lane → Lane) :
    (s.modLane l f).lanes = Bank.update s.lanes l f := rfl

/-- State.enqueue leaves every field but `svc`. -/
@[simp] theorem State.enqueue_frame (m : Message) :
    (s.enqueue m).pending = s.pending ∧ (s.enqueue m).inbox = s.inbox ∧ (s.enqueue m).resetLow = s.resetLow
    ∧ (s.enqueue m).mark = s.mark ∧ (s.enqueue m).ram = s.ram ∧ (s.enqueue m).regs = s.regs
    ∧ (s.enqueue m).anchorRead = s.anchorRead ∧ (s.enqueue m).cfg = s.cfg ∧ (s.enqueue m).passed = s.passed
    ∧ (s.enqueue m).faultLog = s.faultLog ∧ (s.enqueue m).noteList = s.noteList ∧ (s.enqueue m).inputView = s.inputView
    ∧ (s.enqueue m).ringView = s.ringView ∧ (s.enqueue m).talkView = s.talkView ∧ (s.enqueue m).lanes = s.lanes
    ∧ (s.enqueue m).scanPhase = s.scanPhase ∧ (s.enqueue m).scanDue = s.scanDue ∧ (s.enqueue m).rounds = s.rounds
    ∧ (s.enqueue m).ports = s.ports
    ∧ (s.enqueue m).xmit = s.xmit ∧ (s.enqueue m).built = s.built ∧ (s.enqueue m).lastBurst = s.lastBurst
    ∧ (s.enqueue m).clock = s.clock ∧ (s.enqueue m).merge = s.merge ∧ (s.enqueue m).delivery = s.delivery
    ∧ (s.enqueue m).gain = s.gain ∧ (s.enqueue m).mix = s.mix ∧ (s.enqueue m).talk = s.talk ∧ (s.enqueue m).sup = s.sup
    ∧ (s.enqueue m).meter = s.meter ∧ (s.enqueue m).conv = s.conv := by
  and_intros <;> rfl

@[simp] theorem State.enqueue_svc (m : Message) :
    (s.enqueue m).svc = s.svc.enqueue m := rfl

/-- State.reply leaves every field but `svc`. -/
@[simp] theorem State.reply_frame (m : Message) :
    (s.reply m).pending = s.pending ∧ (s.reply m).inbox = s.inbox ∧ (s.reply m).resetLow = s.resetLow
    ∧ (s.reply m).mark = s.mark ∧ (s.reply m).ram = s.ram ∧ (s.reply m).regs = s.regs
    ∧ (s.reply m).anchorRead = s.anchorRead ∧ (s.reply m).cfg = s.cfg ∧ (s.reply m).passed = s.passed
    ∧ (s.reply m).faultLog = s.faultLog ∧ (s.reply m).noteList = s.noteList ∧ (s.reply m).inputView = s.inputView
    ∧ (s.reply m).ringView = s.ringView ∧ (s.reply m).talkView = s.talkView ∧ (s.reply m).lanes = s.lanes
    ∧ (s.reply m).scanPhase = s.scanPhase ∧ (s.reply m).scanDue = s.scanDue ∧ (s.reply m).rounds = s.rounds
    ∧ (s.reply m).ports = s.ports
    ∧ (s.reply m).xmit = s.xmit ∧ (s.reply m).built = s.built ∧ (s.reply m).lastBurst = s.lastBurst
    ∧ (s.reply m).clock = s.clock ∧ (s.reply m).merge = s.merge ∧ (s.reply m).delivery = s.delivery
    ∧ (s.reply m).gain = s.gain ∧ (s.reply m).mix = s.mix ∧ (s.reply m).talk = s.talk ∧ (s.reply m).sup = s.sup
    ∧ (s.reply m).meter = s.meter ∧ (s.reply m).conv = s.conv := by
  and_intros <;> rfl

@[simp] theorem State.reply_svc (m : Message) :
    (s.reply m).svc = s.svc.reply m := rfl

/-- State.freeEntry leaves every field but `svc`. -/
@[simp] theorem State.freeEntry_frame (l : Fin 16) (q : Nat) :
    (s.freeEntry l q).pending = s.pending ∧ (s.freeEntry l q).inbox = s.inbox ∧ (s.freeEntry l q).resetLow = s.resetLow
    ∧ (s.freeEntry l q).mark = s.mark ∧ (s.freeEntry l q).ram = s.ram ∧ (s.freeEntry l q).regs = s.regs
    ∧ (s.freeEntry l q).anchorRead = s.anchorRead ∧ (s.freeEntry l q).cfg = s.cfg ∧ (s.freeEntry l q).passed = s.passed
    ∧ (s.freeEntry l q).faultLog = s.faultLog ∧ (s.freeEntry l q).noteList = s.noteList
    ∧ (s.freeEntry l q).inputView = s.inputView ∧ (s.freeEntry l q).ringView = s.ringView
    ∧ (s.freeEntry l q).talkView = s.talkView ∧ (s.freeEntry l q).lanes = s.lanes
    ∧ (s.freeEntry l q).scanPhase = s.scanPhase ∧ (s.freeEntry l q).scanDue = s.scanDue ∧ (s.freeEntry l q).rounds = s.rounds
    ∧ (s.freeEntry l q).ports = s.ports ∧ (s.freeEntry l q).xmit = s.xmit ∧ (s.freeEntry l q).built = s.built
    ∧ (s.freeEntry l q).lastBurst = s.lastBurst ∧ (s.freeEntry l q).clock = s.clock ∧ (s.freeEntry l q).merge = s.merge
    ∧ (s.freeEntry l q).delivery = s.delivery ∧ (s.freeEntry l q).gain = s.gain ∧ (s.freeEntry l q).mix = s.mix
    ∧ (s.freeEntry l q).talk = s.talk ∧ (s.freeEntry l q).sup = s.sup ∧ (s.freeEntry l q).meter = s.meter
    ∧ (s.freeEntry l q).conv = s.conv := by
  and_intros <;> rfl

@[simp] theorem State.freeEntry_svc (l : Fin 16) (q : Nat) :
    (s.freeEntry l q).svc = { s.svc with requests := s.svc.requests.filter fun r => !decide (r.lane = l ∧ r.number = q) } := rfl

/-- State.modMix leaves every field but `mix`. -/
@[simp] theorem State.modMix_frame (m : Fin 32) (f : Mix → Mix) :
    (s.modMix m f).pending = s.pending ∧ (s.modMix m f).inbox = s.inbox ∧ (s.modMix m f).resetLow = s.resetLow
    ∧ (s.modMix m f).mark = s.mark ∧ (s.modMix m f).ram = s.ram ∧ (s.modMix m f).regs = s.regs
    ∧ (s.modMix m f).anchorRead = s.anchorRead ∧ (s.modMix m f).cfg = s.cfg ∧ (s.modMix m f).passed = s.passed
    ∧ (s.modMix m f).faultLog = s.faultLog ∧ (s.modMix m f).noteList = s.noteList
    ∧ (s.modMix m f).inputView = s.inputView ∧ (s.modMix m f).ringView = s.ringView
    ∧ (s.modMix m f).talkView = s.talkView ∧ (s.modMix m f).lanes = s.lanes ∧ (s.modMix m f).scanPhase = s.scanPhase
    ∧ (s.modMix m f).scanDue = s.scanDue ∧ (s.modMix m f).rounds = s.rounds
    ∧ (s.modMix m f).ports = s.ports ∧ (s.modMix m f).xmit = s.xmit
    ∧ (s.modMix m f).built = s.built ∧ (s.modMix m f).lastBurst = s.lastBurst ∧ (s.modMix m f).clock = s.clock
    ∧ (s.modMix m f).merge = s.merge ∧ (s.modMix m f).delivery = s.delivery ∧ (s.modMix m f).svc = s.svc
    ∧ (s.modMix m f).gain = s.gain ∧ (s.modMix m f).talk = s.talk ∧ (s.modMix m f).sup = s.sup
    ∧ (s.modMix m f).meter = s.meter ∧ (s.modMix m f).conv = s.conv := by
  and_intros <;> rfl

@[simp] theorem State.modMix_mix (m : Fin 32) (f : Mix → Mix) :
    (s.modMix m f).mix = { s.mix with mixes := Bank.update s.mix.mixes m f } := rfl

/-- State.modGroup leaves every field but `talk`. -/
@[simp] theorem State.modGroup_frame (g : Fin 8) (f : Group → Group) :
    (s.modGroup g f).pending = s.pending ∧ (s.modGroup g f).inbox = s.inbox ∧ (s.modGroup g f).resetLow = s.resetLow
    ∧ (s.modGroup g f).mark = s.mark ∧ (s.modGroup g f).ram = s.ram ∧ (s.modGroup g f).regs = s.regs
    ∧ (s.modGroup g f).anchorRead = s.anchorRead ∧ (s.modGroup g f).cfg = s.cfg ∧ (s.modGroup g f).passed = s.passed
    ∧ (s.modGroup g f).faultLog = s.faultLog ∧ (s.modGroup g f).noteList = s.noteList
    ∧ (s.modGroup g f).inputView = s.inputView ∧ (s.modGroup g f).ringView = s.ringView
    ∧ (s.modGroup g f).talkView = s.talkView ∧ (s.modGroup g f).lanes = s.lanes
    ∧ (s.modGroup g f).scanPhase = s.scanPhase ∧ (s.modGroup g f).scanDue = s.scanDue ∧ (s.modGroup g f).rounds = s.rounds
    ∧ (s.modGroup g f).ports = s.ports ∧ (s.modGroup g f).xmit = s.xmit ∧ (s.modGroup g f).built = s.built
    ∧ (s.modGroup g f).lastBurst = s.lastBurst ∧ (s.modGroup g f).clock = s.clock ∧ (s.modGroup g f).merge = s.merge
    ∧ (s.modGroup g f).delivery = s.delivery ∧ (s.modGroup g f).svc = s.svc ∧ (s.modGroup g f).gain = s.gain
    ∧ (s.modGroup g f).mix = s.mix ∧ (s.modGroup g f).sup = s.sup ∧ (s.modGroup g f).meter = s.meter
    ∧ (s.modGroup g f).conv = s.conv := by
  and_intros <;> rfl

@[simp] theorem State.modGroup_talk (g : Fin 8) (f : Group → Group) :
    (s.modGroup g f).talk = { s.talk with groups := Bank.update s.talk.groups g f } := rfl

/-- State.modButton leaves every field but `talk`. -/
@[simp] theorem State.modButton_frame (b : Fin 8) (f : Button → Button) :
    (s.modButton b f).pending = s.pending ∧ (s.modButton b f).inbox = s.inbox ∧ (s.modButton b f).resetLow = s.resetLow
    ∧ (s.modButton b f).mark = s.mark ∧ (s.modButton b f).ram = s.ram ∧ (s.modButton b f).regs = s.regs
    ∧ (s.modButton b f).anchorRead = s.anchorRead ∧ (s.modButton b f).cfg = s.cfg ∧ (s.modButton b f).passed = s.passed
    ∧ (s.modButton b f).faultLog = s.faultLog ∧ (s.modButton b f).noteList = s.noteList
    ∧ (s.modButton b f).inputView = s.inputView ∧ (s.modButton b f).ringView = s.ringView
    ∧ (s.modButton b f).talkView = s.talkView ∧ (s.modButton b f).lanes = s.lanes
    ∧ (s.modButton b f).scanPhase = s.scanPhase ∧ (s.modButton b f).scanDue = s.scanDue ∧ (s.modButton b f).rounds = s.rounds
    ∧ (s.modButton b f).ports = s.ports ∧ (s.modButton b f).xmit = s.xmit ∧ (s.modButton b f).built = s.built
    ∧ (s.modButton b f).lastBurst = s.lastBurst ∧ (s.modButton b f).clock = s.clock ∧ (s.modButton b f).merge = s.merge
    ∧ (s.modButton b f).delivery = s.delivery ∧ (s.modButton b f).svc = s.svc ∧ (s.modButton b f).gain = s.gain
    ∧ (s.modButton b f).mix = s.mix ∧ (s.modButton b f).sup = s.sup ∧ (s.modButton b f).meter = s.meter
    ∧ (s.modButton b f).conv = s.conv := by
  and_intros <;> rfl

@[simp] theorem State.modButton_talk (b : Fin 8) (f : Button → Button) :
    (s.modButton b f).talk = { s.talk with buttons := Bank.update s.talk.buttons b f } := rfl

/-- State.setTalkerGroup leaves every field but `talk`. -/
@[simp] theorem State.setTalkerGroup_frame (t : Fin 4) (g : Fin 8) (x : TalkerGroup) :
    (s.setTalkerGroup t g x).pending = s.pending ∧ (s.setTalkerGroup t g x).inbox = s.inbox
    ∧ (s.setTalkerGroup t g x).resetLow = s.resetLow ∧ (s.setTalkerGroup t g x).mark = s.mark
    ∧ (s.setTalkerGroup t g x).ram = s.ram ∧ (s.setTalkerGroup t g x).regs = s.regs
    ∧ (s.setTalkerGroup t g x).anchorRead = s.anchorRead ∧ (s.setTalkerGroup t g x).cfg = s.cfg
    ∧ (s.setTalkerGroup t g x).passed = s.passed ∧ (s.setTalkerGroup t g x).faultLog = s.faultLog
    ∧ (s.setTalkerGroup t g x).noteList = s.noteList ∧ (s.setTalkerGroup t g x).inputView = s.inputView
    ∧ (s.setTalkerGroup t g x).ringView = s.ringView ∧ (s.setTalkerGroup t g x).talkView = s.talkView
    ∧ (s.setTalkerGroup t g x).lanes = s.lanes ∧ (s.setTalkerGroup t g x).scanPhase = s.scanPhase
    ∧ (s.setTalkerGroup t g x).scanDue = s.scanDue ∧ (s.setTalkerGroup t g x).rounds = s.rounds
    ∧ (s.setTalkerGroup t g x).ports = s.ports
    ∧ (s.setTalkerGroup t g x).xmit = s.xmit ∧ (s.setTalkerGroup t g x).built = s.built
    ∧ (s.setTalkerGroup t g x).lastBurst = s.lastBurst ∧ (s.setTalkerGroup t g x).clock = s.clock
    ∧ (s.setTalkerGroup t g x).merge = s.merge ∧ (s.setTalkerGroup t g x).delivery = s.delivery
    ∧ (s.setTalkerGroup t g x).svc = s.svc ∧ (s.setTalkerGroup t g x).gain = s.gain
    ∧ (s.setTalkerGroup t g x).mix = s.mix ∧ (s.setTalkerGroup t g x).sup = s.sup
    ∧ (s.setTalkerGroup t g x).meter = s.meter ∧ (s.setTalkerGroup t g x).conv = s.conv := by
  and_intros <;> rfl

@[simp] theorem State.setTalkerGroup_talk (t : Fin 4) (g : Fin 8) (x : TalkerGroup) :
    (s.setTalkerGroup t g x).talk = { s.talk with talkers := Bank.update s.talk.talkers t fun k => { k with groups := k.groups.set g x } } := rfl

/-- State.modInput leaves every field but `gain`. -/
@[simp] theorem State.modInput_frame (n : Fin 64) (f : InputEntry → InputEntry) :
    (s.modInput n f).pending = s.pending ∧ (s.modInput n f).inbox = s.inbox ∧ (s.modInput n f).resetLow = s.resetLow
    ∧ (s.modInput n f).mark = s.mark ∧ (s.modInput n f).ram = s.ram ∧ (s.modInput n f).regs = s.regs
    ∧ (s.modInput n f).anchorRead = s.anchorRead ∧ (s.modInput n f).cfg = s.cfg ∧ (s.modInput n f).passed = s.passed
    ∧ (s.modInput n f).faultLog = s.faultLog ∧ (s.modInput n f).noteList = s.noteList
    ∧ (s.modInput n f).inputView = s.inputView ∧ (s.modInput n f).ringView = s.ringView
    ∧ (s.modInput n f).talkView = s.talkView ∧ (s.modInput n f).lanes = s.lanes
    ∧ (s.modInput n f).scanPhase = s.scanPhase ∧ (s.modInput n f).scanDue = s.scanDue ∧ (s.modInput n f).rounds = s.rounds
    ∧ (s.modInput n f).ports = s.ports ∧ (s.modInput n f).xmit = s.xmit ∧ (s.modInput n f).built = s.built
    ∧ (s.modInput n f).lastBurst = s.lastBurst ∧ (s.modInput n f).clock = s.clock ∧ (s.modInput n f).merge = s.merge
    ∧ (s.modInput n f).delivery = s.delivery ∧ (s.modInput n f).svc = s.svc ∧ (s.modInput n f).mix = s.mix
    ∧ (s.modInput n f).talk = s.talk ∧ (s.modInput n f).sup = s.sup ∧ (s.modInput n f).meter = s.meter
    ∧ (s.modInput n f).conv = s.conv := by
  and_intros <;> rfl

@[simp] theorem State.modInput_gain (n : Fin 64) (f : InputEntry → InputEntry) :
    (s.modInput n f).gain = { s.gain with table := Bank.update s.gain.table n f } := rfl

/-- State.modMirror leaves every field but `gain`. -/
@[simp] theorem State.modMirror_frame (n : Fin 64) (f : MirrorEntry → MirrorEntry) :
    (s.modMirror n f).pending = s.pending ∧ (s.modMirror n f).inbox = s.inbox ∧ (s.modMirror n f).resetLow = s.resetLow
    ∧ (s.modMirror n f).mark = s.mark ∧ (s.modMirror n f).ram = s.ram ∧ (s.modMirror n f).regs = s.regs
    ∧ (s.modMirror n f).anchorRead = s.anchorRead ∧ (s.modMirror n f).cfg = s.cfg ∧ (s.modMirror n f).passed = s.passed
    ∧ (s.modMirror n f).faultLog = s.faultLog ∧ (s.modMirror n f).noteList = s.noteList
    ∧ (s.modMirror n f).inputView = s.inputView ∧ (s.modMirror n f).ringView = s.ringView
    ∧ (s.modMirror n f).talkView = s.talkView ∧ (s.modMirror n f).lanes = s.lanes
    ∧ (s.modMirror n f).scanPhase = s.scanPhase ∧ (s.modMirror n f).scanDue = s.scanDue ∧ (s.modMirror n f).rounds = s.rounds
    ∧ (s.modMirror n f).ports = s.ports ∧ (s.modMirror n f).xmit = s.xmit ∧ (s.modMirror n f).built = s.built
    ∧ (s.modMirror n f).lastBurst = s.lastBurst ∧ (s.modMirror n f).clock = s.clock ∧ (s.modMirror n f).merge = s.merge
    ∧ (s.modMirror n f).delivery = s.delivery ∧ (s.modMirror n f).svc = s.svc ∧ (s.modMirror n f).mix = s.mix
    ∧ (s.modMirror n f).talk = s.talk ∧ (s.modMirror n f).sup = s.sup ∧ (s.modMirror n f).meter = s.meter
    ∧ (s.modMirror n f).conv = s.conv := by
  and_intros <;> rfl

@[simp] theorem State.modMirror_gain (n : Fin 64) (f : MirrorEntry → MirrorEntry) :
    (s.modMirror n f).gain = { s.gain with mirror := Bank.update s.gain.mirror n f } := rfl

/-- State.modTrack leaves every field but `gain`. -/
@[simp] theorem State.modTrack_frame (u : Fin 4) (n : Fin 64) (f : TrackEntry → TrackEntry) :
    (s.modTrack u n f).pending = s.pending ∧ (s.modTrack u n f).inbox = s.inbox
    ∧ (s.modTrack u n f).resetLow = s.resetLow ∧ (s.modTrack u n f).mark = s.mark ∧ (s.modTrack u n f).ram = s.ram
    ∧ (s.modTrack u n f).regs = s.regs ∧ (s.modTrack u n f).anchorRead = s.anchorRead ∧ (s.modTrack u n f).cfg = s.cfg
    ∧ (s.modTrack u n f).passed = s.passed ∧ (s.modTrack u n f).faultLog = s.faultLog
    ∧ (s.modTrack u n f).noteList = s.noteList ∧ (s.modTrack u n f).inputView = s.inputView
    ∧ (s.modTrack u n f).ringView = s.ringView ∧ (s.modTrack u n f).talkView = s.talkView
    ∧ (s.modTrack u n f).lanes = s.lanes ∧ (s.modTrack u n f).scanPhase = s.scanPhase
    ∧ (s.modTrack u n f).scanDue = s.scanDue ∧ (s.modTrack u n f).rounds = s.rounds
    ∧ (s.modTrack u n f).ports = s.ports ∧ (s.modTrack u n f).xmit = s.xmit
    ∧ (s.modTrack u n f).built = s.built ∧ (s.modTrack u n f).lastBurst = s.lastBurst
    ∧ (s.modTrack u n f).clock = s.clock ∧ (s.modTrack u n f).merge = s.merge
    ∧ (s.modTrack u n f).delivery = s.delivery ∧ (s.modTrack u n f).svc = s.svc ∧ (s.modTrack u n f).mix = s.mix
    ∧ (s.modTrack u n f).talk = s.talk ∧ (s.modTrack u n f).sup = s.sup ∧ (s.modTrack u n f).meter = s.meter
    ∧ (s.modTrack u n f).conv = s.conv := by
  and_intros <;> rfl

@[simp] theorem State.modTrack_gain (u : Fin 4) (n : Fin 64) (f : TrackEntry → TrackEntry) :
    (s.modTrack u n f).gain = { s.gain with tracking := Bank.update s.gain.tracking u fun t => Bank.update t n f } := rfl

/-- State.modPath leaves every field but `sup`. -/
@[simp] theorem State.modPath_frame (o : Fin 4) (p : Port) (f : Path → Path) :
    (s.modPath o p f).pending = s.pending ∧ (s.modPath o p f).inbox = s.inbox ∧ (s.modPath o p f).resetLow = s.resetLow
    ∧ (s.modPath o p f).mark = s.mark ∧ (s.modPath o p f).ram = s.ram ∧ (s.modPath o p f).regs = s.regs
    ∧ (s.modPath o p f).anchorRead = s.anchorRead ∧ (s.modPath o p f).cfg = s.cfg ∧ (s.modPath o p f).passed = s.passed
    ∧ (s.modPath o p f).faultLog = s.faultLog ∧ (s.modPath o p f).noteList = s.noteList
    ∧ (s.modPath o p f).inputView = s.inputView ∧ (s.modPath o p f).ringView = s.ringView
    ∧ (s.modPath o p f).talkView = s.talkView ∧ (s.modPath o p f).lanes = s.lanes
    ∧ (s.modPath o p f).scanPhase = s.scanPhase ∧ (s.modPath o p f).scanDue = s.scanDue ∧ (s.modPath o p f).rounds = s.rounds
    ∧ (s.modPath o p f).ports = s.ports ∧ (s.modPath o p f).xmit = s.xmit ∧ (s.modPath o p f).built = s.built
    ∧ (s.modPath o p f).lastBurst = s.lastBurst ∧ (s.modPath o p f).clock = s.clock ∧ (s.modPath o p f).merge = s.merge
    ∧ (s.modPath o p f).delivery = s.delivery ∧ (s.modPath o p f).svc = s.svc ∧ (s.modPath o p f).gain = s.gain
    ∧ (s.modPath o p f).mix = s.mix ∧ (s.modPath o p f).talk = s.talk ∧ (s.modPath o p f).meter = s.meter
    ∧ (s.modPath o p f).conv = s.conv := by
  and_intros <;> rfl

@[simp] theorem State.modPath_sup (o : Fin 4) (p : Port) (f : Path → Path) :
    (s.modPath o p f).sup = { s.sup with paths := Bank.update s.sup.paths o fun b => b.set p (f (b.get p)) } := rfl

/-- State.setSweep leaves every field but `meter`. -/
@[simp] theorem State.setSweep_frame (l : Fin 16) (x : Option Sweep) :
    (s.setSweep l x).pending = s.pending ∧ (s.setSweep l x).inbox = s.inbox ∧ (s.setSweep l x).resetLow = s.resetLow
    ∧ (s.setSweep l x).mark = s.mark ∧ (s.setSweep l x).ram = s.ram ∧ (s.setSweep l x).regs = s.regs
    ∧ (s.setSweep l x).anchorRead = s.anchorRead ∧ (s.setSweep l x).cfg = s.cfg ∧ (s.setSweep l x).passed = s.passed
    ∧ (s.setSweep l x).faultLog = s.faultLog ∧ (s.setSweep l x).noteList = s.noteList
    ∧ (s.setSweep l x).inputView = s.inputView ∧ (s.setSweep l x).ringView = s.ringView
    ∧ (s.setSweep l x).talkView = s.talkView ∧ (s.setSweep l x).lanes = s.lanes
    ∧ (s.setSweep l x).scanPhase = s.scanPhase ∧ (s.setSweep l x).scanDue = s.scanDue ∧ (s.setSweep l x).rounds = s.rounds
    ∧ (s.setSweep l x).ports = s.ports ∧ (s.setSweep l x).xmit = s.xmit ∧ (s.setSweep l x).built = s.built
    ∧ (s.setSweep l x).lastBurst = s.lastBurst ∧ (s.setSweep l x).clock = s.clock ∧ (s.setSweep l x).merge = s.merge
    ∧ (s.setSweep l x).delivery = s.delivery ∧ (s.setSweep l x).svc = s.svc ∧ (s.setSweep l x).gain = s.gain
    ∧ (s.setSweep l x).mix = s.mix ∧ (s.setSweep l x).talk = s.talk ∧ (s.setSweep l x).sup = s.sup
    ∧ (s.setSweep l x).conv = s.conv := by
  and_intros <;> rfl

@[simp] theorem State.setSweep_meter (l : Fin 16) (x : Option Sweep) :
    (s.setSweep l x).meter = { s.meter with sweeps := s.meter.sweeps.set l x } := rfl

/-- State.restOutbox leaves all of `svc` but the urgent room list. -/
theorem State.restOutbox_svc : s.restOutbox.svc = { s.svc with urgentRoom := s.restOutbox.svc.urgentRoom } := by
  unfold State.restOutbox; split <;> rfl

/-- State.restOutbox leaves every field but `svc`. -/
theorem State.restOutbox_frame : s.restOutbox = { s with svc := s.restOutbox.svc } := by
  unfold State.restOutbox; split <;> rfl

/-- A cue request record that may be taken is free. -/
theorem State.takeRecord?_free {k : Fin 16} (h : s.takeRecord? = some k) : s.mix.records.get k = none := by
  unfold State.takeRecord? at h
  split at h
  · have := List.mem_of_mem_head? h
    simpa [State.freeRecords] using (List.mem_filter.mp this).2
  · cases h

end Sys2Proof.Machine
end

