-- ==== Sys2Proof/Laws/Memory.lean ====
section
/-!
SUPPORT. The exchange RAM: a store keeps the canonical form, a read after a store gives the bytes stored, and no other byte
changes (spec 01, R1).
-/

namespace Sys2Proof.Machine

/-! ### Reading a list of cells -/

theorem readByte_blank {xs : List Host.Cell} {x : Nat} (h : ∀ c ∈ xs, c.1 ≠ x) : readByte xs x = blankByte := by
  induction xs with
  | nil => rfl
  | cons c cs ih =>
    have h1 : c.1 ≠ x := h c (by simp)
    simp only [readByte, h1, if_false]
    exact ih fun d hd => h d (by simp [hd])

theorem readByte_skip {xs ys : List Host.Cell} {x : Nat} (h : ∀ c ∈ xs, c.1 ≠ x) :
    readByte (xs ++ ys) x = readByte ys x := by
  induction xs with
  | nil => rfl
  | cons c cs ih =>
    have h1 : c.1 ≠ x := h c (by simp)
    simp only [List.cons_append, readByte, h1, if_false]
    exact ih fun d hd => h d (by simp [hd])

theorem readByte_front {xs ys : List Host.Cell} {x : Nat} (h : ∀ c ∈ ys, c.1 ≠ x) :
    readByte (xs ++ ys) x = readByte xs x := by
  induction xs with
  | nil => exact readByte_blank h
  | cons c cs ih => simp only [List.cons_append, readByte, ih]

/-- A filter that accepts an address keeps what the address reads as. -/
theorem readByte_filter {xs : List Host.Cell} {x : Nat} {p : Host.Cell → Bool} (h : ∀ c : Host.Cell, c.1 = x → p c = true) :
    readByte (xs.filter p) x = readByte xs x := by
  induction xs with
  | nil => rfl
  | cons c cs ih =>
    by_cases hx : c.1 = x
    · simp [List.filter, h c hx, readByte, hx]
    · by_cases hp : p c = true
      · simp [List.filter, hp, readByte, hx, ih]
      · simp only [Bool.not_eq_true] at hp
        simp [List.filter, hp, readByte, hx, ih]

/-- `readBytes` reads byte by byte. -/
theorem readBytes_eq (ram : List Host.Cell) (a n : Nat) :
    readBytes ram a n = (List.range n).map fun i => readByte ram (a + i) := by
  apply List.map_congr_left
  intro i hi
  have hi' : i < n := List.mem_range.mp hi
  apply readByte_filter
  intro c hc
  simp [hc, hi']

/-! ### Storing -/

theorem cellsOf_range {a : Nat} {bs : List Byte} {c : Host.Cell} (h : c ∈ cellsOf a bs) :
    a ≤ c.1 ∧ c.1 < a + bs.length ∧ c.1 < Config.ramSize ∧ c.2 ≠ blankByte := by
  induction bs generalizing a with
  | nil => simp [cellsOf] at h
  | cons b bs ih =>
    simp only [cellsOf] at h
    split at h
    · rename_i hb
      rcases List.mem_cons.mp h with rfl | h'
      · exact ⟨Nat.le_refl _, by simp, hb.1, hb.2⟩
      · obtain ⟨h1, h2, h3, h4⟩ := ih h'
        exact ⟨by omega, by simp only [List.length_cons]; omega, h3, h4⟩
    · obtain ⟨h1, h2, h3, h4⟩ := ih h
      exact ⟨by omega, by simp only [List.length_cons]; omega, h3, h4⟩

theorem readByte_cellsOf (a : Nat) (bs : List Byte) (x : Nat) :
    readByte (cellsOf a bs) x
      = if a ≤ x ∧ x < a + bs.length ∧ x < Config.ramSize then bs.getD (x - a) 0 else blankByte := by
  by_cases hr : a ≤ x ∧ x < a + bs.length ∧ x < Config.ramSize
  · rw [if_pos hr]
    induction bs generalizing a with
    | nil => simp at hr; omega
    | cons b bs ih =>
      simp only [cellsOf]
      by_cases hax : a = x
      · subst hax
        by_cases hb : b = blankByte
        · rw [if_neg (by simp [hb])]
          rw [readByte_blank fun c hc => by have := cellsOf_range hc; omega]
          simp [hb]
        · rw [if_pos ⟨hr.2.2, hb⟩]
          simp [readByte]
      · have hx : x - a = (x - (a + 1)) + 1 := by omega
        have hr' : a + 1 ≤ x ∧ x < a + 1 + bs.length ∧ x < Config.ramSize := by
          simp only [List.length_cons] at hr; omega
        rw [hx, List.getD_cons_succ]
        split
        · simp only [readByte, hax, if_false]
          exact ih (a + 1) hr'
        · exact ih (a + 1) hr'
  · rw [if_neg hr]
    exact readByte_blank fun c hc hcx => hr (by have := cellsOf_range hc; omega)

/-- A byte read after a store: the byte stored there, and outside the bytes stored what it was. -/
theorem readByte_storeBytes (ram : List Host.Cell) (a : Nat) (bs : List Byte) (x : Nat) :
    readByte (storeBytes ram a bs) x
      = if a ≤ x ∧ x < a + bs.length then (if x < Config.ramSize then bs.getD (x - a) 0 else blankByte)
        else readByte ram x := by
  unfold storeBytes
  by_cases h1 : x < a
  · rw [if_neg (by omega), List.append_assoc, readByte_front, readByte_filter]
    · intro c hc; simp [hc, h1]
    · intro c hc
      rcases List.mem_append.mp hc with h | h
      · have := cellsOf_range h; omega
      · simp only [List.mem_filter, decide_eq_true_eq] at h; omega
  · rw [List.append_assoc, readByte_skip fun c hc => by
      simp only [List.mem_filter, decide_eq_true_eq] at hc; omega]
    by_cases h2 : x < a + bs.length
    · rw [if_pos (by omega), readByte_front fun c hc => by
        simp only [List.mem_filter, decide_eq_true_eq] at hc; omega, readByte_cellsOf]
      by_cases h3 : x < Config.ramSize
      · rw [if_pos ⟨by omega, h2, h3⟩, if_pos h3]
      · rw [if_neg (by omega), if_neg h3]
    · rw [if_neg (by omega), readByte_skip fun c hc => by have := cellsOf_range hc; omega, readByte_filter]
      intro c hc; simp [hc]; omega

/-! ### The canonical form -/

/-- The canonical form said of the list: addresses strictly rising, inside the RAM, none blank. -/
theorem wfFrom_iff (low : Nat) (ram : List Host.Cell) :
    Memory.wfFrom low ram = true ↔ (∀ c ∈ ram, low ≤ c.1 ∧ c.1 < Config.ramSize ∧ c.2 ≠ blankByte)
      ∧ ram.Pairwise fun c d => c.1 < d.1 := by
  induction ram generalizing low with
  | nil => simp [Memory.wfFrom]
  | cons c cs ih =>
    simp only [Memory.wfFrom, Bool.and_eq_true, decide_eq_true_eq, ih, List.mem_cons, List.pairwise_cons]
    constructor
    · rintro ⟨⟨⟨h1, h2⟩, h3⟩, h4, h5⟩
      refine ⟨?_, fun d hd => ?_, h5⟩
      · rintro d (rfl | hd)
        · exact ⟨h1, h2, h3⟩
        · have := h4 d hd; exact ⟨by omega, this.2⟩
      · have := h4 d hd; omega
    · rintro ⟨h1, h2, h3⟩
      have hc := h1 c (Or.inl rfl)
      refine ⟨⟨⟨hc.1, hc.2.1⟩, hc.2.2⟩, fun d hd => ?_, h3⟩
      have := h2 d hd
      exact ⟨by omega, (h1 d (Or.inr hd)).2⟩

theorem cellsOf_sorted (a : Nat) (bs : List Byte) : (cellsOf a bs).Pairwise fun c d => c.1 < d.1 := by
  induction bs generalizing a with
  | nil => exact List.Pairwise.nil
  | cons b bs ih =>
    simp only [cellsOf]
    split
    · refine List.Pairwise.cons (fun d hd => ?_) (ih (a + 1))
      have := cellsOf_range hd; show a < d.1; omega
    · exact ih (a + 1)

/-- A store keeps the canonical form. -/
theorem storeBytes_wf {ram : List Host.Cell} (h : Memory.wf ram = true) (a : Nat) (bs : List Byte) :
    Memory.wf (storeBytes ram a bs) = true := by
  rw [Memory.wf, wfFrom_iff] at h ⊢
  unfold storeBytes
  refine ⟨fun c hc => ?_, ?_⟩
  · rcases List.mem_append.mp hc with hc | hc
    · rcases List.mem_append.mp hc with hc | hc
      · exact h.1 c (List.mem_filter.mp hc).1
      · have := cellsOf_range hc; exact ⟨Nat.zero_le _, this.2.2⟩
    · exact h.1 c (List.mem_filter.mp hc).1
  · rw [List.pairwise_append, List.pairwise_append]
    refine ⟨⟨h.2.filter _, cellsOf_sorted a bs, fun c hc d hd => ?_⟩, h.2.filter _, fun c hc d hd => ?_⟩
    · have h1 := cellsOf_range hd
      simp only [List.mem_filter, decide_eq_true_eq] at hc
      omega
    · simp only [List.mem_append, List.mem_filter, decide_eq_true_eq] at hc hd
      rcases hc with hc | hc
      · omega
      · have := cellsOf_range hc; omega

/-- RAM contents given word by word are in canonical form. -/
theorem ramOf_wf (contents : List (BitVec 16 × Word)) : Memory.wf (ramOf contents) = true := by
  have key : ∀ (cs : List (BitVec 16 × Word)) (ram : List Host.Cell), Memory.wf ram = true →
      Memory.wf (cs.foldl (fun r p => storeBytes r (4 * p.1.toNat) (leBytes 4 p.2.toNat)) ram) = true := by
    intro cs
    induction cs with
    | nil => exact fun _ h => h
    | cons c cs ih => exact fun ram h => ih _ (storeBytes_wf h _ _)
  exact key contents [] rfl

/-! ### Words -/

@[simp] theorem leBytes_length (n v : Nat) : (leBytes n v).length = n := by
  induction n generalizing v with
  | zero => rfl
  | succ n ih => simp [leBytes, ih]

theorem leNat_leBytes (n v : Nat) : leNat (leBytes n v) = v % 256 ^ n := by
  induction n generalizing v with
  | zero => simp [leBytes, leNat, Nat.mod_one]
  | succ n ih =>
    simp only [leBytes, leNat, ih, BitVec.toNat_ofNat]
    rw [show 256 ^ (n + 1) = 256 * 256 ^ n from by ring, Nat.mod_mul]

/-- A word reads back where it was stored. -/
theorem peek_poke (s : State) (a : Nat) (w : Word) (h : a + 4 ≤ Config.ramSize) : (s.poke a w).peek a = w := by
  have hb : readBytes (storeBytes s.ram a (leBytes 4 w.toNat)) a 4 = leBytes 4 w.toNat := by
    rw [readBytes_eq]
    have hr : ∀ i, i < 4 → readByte (storeBytes s.ram a (leBytes 4 w.toNat)) (a + i) = (leBytes 4 w.toNat).getD i 0 := by
      intro i hi
      rw [readByte_storeBytes, leBytes_length, if_pos (by omega), if_pos (by omega)]
      congr 1; omega
    simp only [List.range_succ, List.range_zero, List.nil_append, List.map_append, List.map_cons, List.map_nil]
    rw [hr 0 (by omega), hr 1 (by omega), hr 2 (by omega), hr 3 (by omega)]
    rfl
  show BitVec.ofNat 32 (leNat (readBytes (storeBytes s.ram a (leBytes 4 w.toNat)) a 4)) = w
  rw [hb, leNat_leBytes]
  apply BitVec.eq_of_toNat_eq
  have := w.isLt
  simp only [BitVec.toNat_ofNat]
  omega

end Sys2Proof.Machine
end

