-- ==== Sys2Proof/Laws/Lanes.lean ====
section
/-!
SUPPORT. What the lane engine's operations can do: each changes lane contexts, the exchange RAM and ATTENTION only, keeps the
RAM's canonical form, and touches one lane (spec 01, R11 to R16).
-/

namespace Sys2Proof.Machine

/-- Everything an operation of the lane engine on one lane can do. -/
structure WorksOn (l : Fin 16) (t s : State) : Prop where
  only : t.lanesOnly s
  canonical : s.canonical = true → t.canonical = true
  others : ∀ k : Fin 16, k ≠ l → t.lane k = s.lane k

theorem State.lanesOnly.refl (s : State) : s.lanesOnly s := rfl

theorem State.lanesOnly.trans {u t s : State} (h1 : u.lanesOnly t) (h2 : t.lanesOnly s) : u.lanesOnly s := by
  unfold State.lanesOnly at *
  rw [h1, h2]

theorem WorksOn.refl (l : Fin 16) (s : State) : WorksOn l s s := ⟨rfl, id, fun _ _ => rfl⟩

theorem WorksOn.trans {l : Fin 16} {u t s : State} (h1 : WorksOn l u t) (h2 : WorksOn l t s) : WorksOn l u s :=
  ⟨h1.only.trans h2.only, fun h => h1.canonical (h2.canonical h), fun k hk => (h1.others k hk).trans (h2.others k hk)⟩

/-- Bytes stored by the part. -/
theorem worksOn_store (l : Fin 16) (s : State) (a : Nat) (bs : List Byte) : WorksOn l (s.store a bs) s :=
  ⟨rfl, fun h => storeBytes_wf h a bs, fun _ _ => rfl⟩

theorem worksOn_poke (l : Fin 16) (s : State) (a : Nat) (w : Word) : WorksOn l (s.poke a w) s := worksOn_store l s a _

theorem worksOn_pokeAll (l : Fin 16) (s : State) (a : Nat) (ws : List Word) : WorksOn l (s.pokeAll a ws) s :=
  worksOn_store l s a _

/-- An ATTENTION bit. -/
theorem worksOn_attend (l : Fin 16) (s : State) (i : Nat) : WorksOn l (s.attend i) s := by
  unfold State.attend
  split
  · exact ⟨rfl, id, fun _ _ => rfl⟩
  · exact .refl l s

theorem worksOn_pokeChanged (l : Fin 16) (s : State) (a : Nat) (os ns : List Word) :
    WorksOn l (s.pokeChanged a os ns) s := by
  induction os generalizing s a ns with
  | nil => exact .refl l s
  | cons o os ih =>
    cases ns with
    | nil => exact .refl l s
    | cons n ns =>
      simp only [State.pokeChanged]
      refine (ih _ _ _).trans ?_
      split
      · exact .refl l s
      · exact worksOn_poke l s a n

/-- A lane's context, with its entry (R11). -/
theorem worksOn_setLane (s : State) (l : Fin 16) (x : Lane) : WorksOn l (s.setLane l x) s := by
  refine (worksOn_pokeChanged l _ _ _ _).trans ⟨rfl, id, fun k hk => ?_⟩
  show (s.lanes.set l x).get k = s.lanes.get k
  rw [Bank.set_get, if_neg hk]

/-- The lane set has the context given. -/
theorem setLane_lane (s : State) (l : Fin 16) (x : Lane) : (s.setLane l x).lane l = x := by
  have h : ∀ (os ns : List Word) (t : State) (a : Nat), (t.pokeChanged a os ns).lanes = t.lanes := by
    intro os
    induction os with
    | nil => intro ns t a; rfl
    | cons o os ih =>
      intro ns t a
      cases ns with
      | nil => rfl
      | cons n ns =>
        simp only [State.pokeChanged, ih]
        split <;> rfl
  show (State.pokeChanged _ _ _ _).lanes.get l = x
  rw [h]
  show (s.lanes.set l x).get l = x
  rw [Bank.set_get, if_pos rfl]

theorem worksOn_haltAt (s : State) (l : Fin 16) (a : Nat) : WorksOn l (s.haltAt l a) s :=
  (worksOn_attend l _ _).trans ((worksOn_pokeAll l _ _ _).trans (worksOn_setLane s l _))

/-- A step begun (R13). -/
theorem worksOn_beginAt (s : State) (l : Fin 16) (a : Nat) : WorksOn l (s.beginAt l a) s := by
  unfold State.beginAt
  split
  · exact worksOn_haltAt s l a
  · exact (worksOn_pokeAll l _ _ _).trans (worksOn_setLane s l _)

theorem worksOn_park (s : State) (l : Fin 16) (a : Nat) : WorksOn l (s.park l a) s := by
  unfold State.park
  extract_lets x s1 y s2
  have h1 : WorksOn l s1 s := worksOn_setLane s l _
  split
  · exact h1
  · have h2 : WorksOn l s2 s := (worksOn_setLane s1 l _).trans h1
    split
    · exact h2
    · exact (worksOn_beginAt s2 l _).trans h2

theorem worksOn_follow (s : State) (l : Fin 16) (a : Nat) : WorksOn l (s.follow l a) s := by
  unfold State.follow
  split
  · exact worksOn_park s l a
  · exact worksOn_beginAt s l _

theorem worksOn_writeResults (l : Fin 16) (s : State) (st : Status) (d : Nat) (n : Word) (as : List Nat) :
    WorksOn l (s.writeResults st d n as) s := by
  induction as generalizing s with
  | nil => exact .refl l s
  | cons a as ih => exact (ih _).trans (worksOn_pokeAll l s _ _)

theorem worksOn_closeJoin (s : State) (l : Fin 16) (j : Join) (st : Status) (d : Nat) (n : Word) :
    WorksOn l (s.closeJoin l j st d n) s := by
  unfold State.closeJoin
  extract_lets s1 x m s2 y s3
  have h1 : WorksOn l s2 s :=
    (worksOn_poke l _ _ _).trans ((worksOn_setLane s1 l _).trans (worksOn_writeResults l s st d n j.steps))
  have h : WorksOn l s3 s := (worksOn_poke l _ _ _).trans ((worksOn_setLane s2 l _).trans h1)
  split
  · exact (worksOn_attend l _ _).trans h
  · exact h

/-- The end of a step (R14). -/
theorem worksOn_finish (s : State) (l : Fin 16) (j : Join) (st : Status) (d : Nat) (n : Word) :
    WorksOn l (s.finish l j st d n) s := by
  unfold State.finish
  extract_lets s1
  have h : WorksOn l s1 s := worksOn_closeJoin s l j st d n
  split
  · exact (worksOn_setLane s1 l _).trans h
  · exact (worksOn_follow s1 l _).trans h

/-- The end of a cancelled step (R16). -/
theorem worksOn_finishCancelled (s : State) (l : Fin 16) (j : Join) (n : Word) :
    WorksOn l (s.finishCancelled l j n) s :=
  (worksOn_setLane _ l _).trans (worksOn_closeJoin s l j .cancelled 0 n)

/-- The end of the step a lane has in progress (R13, R14). -/
theorem worksOn_endStep (s : State) (l : Fin 16) (st : Status) (d : Nat) (n : Word) : WorksOn l (s.endStep l st d n) s := by
  unfold State.endStep
  split
  · exact worksOn_finish s l _ st d n
  · exact .refl l s

end Sys2Proof.Machine
end

