-- ==== Sys2Proof/Laws/PerInstr.lean ====
section
/-!
SUPPORT. What well-formedness says of each command, one lemma per constructor.
-/

namespace Sys2Proof

/-- What a well-formed command's operands meet, as a proposition. -/
def Instr.Meets (i : Instr) : Prop :=
  match i with
  | .powerOn .. => True
  | .resetPinLow .. => True
  | .resetPinRelease .. => True
  | .hostRamWrite .. => True
  | .softReset value => value.getLsbD 1 = true
  | .runStart value => value.getLsbD 0 = true ∧ value.getLsbD 1 = false
  | .runStop value => value.getLsbD 0 = false ∧ value.getLsbD 1 = false
  | .attentionMaskWrite value => value.getLsbD 1 = false
  | .attentionClear .. => True
  | .ignoredRegisterWrite word _ => 0x10000 ≤ word.toNat ∧ word ≠ 0x10001 ∧ word ≠ 0x10003
  | .anchorCheck .. => True
  | .laneScan .. => True
  | .stepBadKind .. => True
  | .mark .. => True
  | .wait .. => True
  | .waitElapsed .. => True
  | .waitFrameReached .. => True
  | .waitTimeout .. => True
  | .viewRewriteFollowup .. => True
  | .burstBuild .. => True
  | .burstReceive _ _ whole burst => whole = true → burst.slots.length = burst.slotCount.toNat ∧ burst.service.length = 8
  | .forwardBufferSend .. => True
  | .mapSlots .. => True
  | .mapSlotsSettled .. => True
  | .playout tdm => tdm.length = 64
  | .patchOutputs .. => True
  | .patchOutputsSettled .. => True
  | .gainRequest .. => True
  | .gainAnnounce .. => True
  | .gainRefused .. => True
  | .claim .. => True
  | .release .. => True
  | .ownerAnnounce .. => True
  | .reference .. => True
  | .mixSends _ _ _ _ records => records.length ≤ 12
  | .mixSet .. => True
  | .mixCue .. => True
  | .mixAck .. => True
  | .talkOpen .. => True
  | .talkClose .. => True
  | .talkState .. => True
  | .loopRequest .. => True
  | .loopReply .. => True
  | .note _ _ text => text.length ≤ 56
  | .roomGrant .. => True
  | .pendingEntryGrant .. => True
  | .requestTimeout .. => True
  | .sendNote .. => True
  | .scheduledChangeApply .. => True
  | .pendingChangeApply .. => True
  | .phantomMuteEnd .. => True
  | .phantomShortReport .. => True
  | .scheduledReferenceApply .. => True
  | .setInput .. => True
  | .claimInputs .. => True
  | .releaseInputs .. => True
  | .setReference .. => True
  | .preampWordSend .. => True
  | .cueDue .. => True
  | .cueRecordGrant .. => True
  | .setMix .. => True
  | .loadSends .. => True
  | .stageScene .. => True
  | .cueScene .. => True
  | .readMixes .. => True
  | .talkAnswerTimeout .. => True
  | .buttonDebounce .. => True
  | .lampFlashToggle .. => True
  | .setTalkGroup .. => True
  | .setRanks .. => True
  | .setButton .. => True
  | .talk .. => True
  | .signalLoss .. => True
  | .signalPresent .. => True
  | .darkProbe .. => True
  | .acquireTimeout .. => True
  | .quarantineEnd .. => True
  | .pathTimeout .. => True
  | .closureTimeout .. => True
  | .conflictFlagClear .. => True
  | .ringViewRefresh .. => True
  | .loopTest .. => True
  | .returnLoopEnd .. => True
  | .testerWindowEnd .. => True
  | .meter .. => True
  | .meterPassBegin .. => True
  | .detectorWindowEnd .. => True
  | .meterFrameTrigger .. => True
  | .wordClockPresent .. => True
  | .wordClockAbsent .. => True
  | .wordClockPhaseLock .. => True

end Sys2Proof

namespace Sys2Proof.Laws.WellFormedMeets

/-- The check accepts exactly the commands whose operands meet their row's condition. -/
def Statement (i : Instr) : Prop := i.wellFormed = true ↔ i.Meets

theorem powerOn (contents : List (BitVec 16 × Word)) : Statement (.powerOn contents) := iff_of_true rfl trivial

theorem resetPinLow : Statement .resetPinLow := iff_of_true rfl trivial

theorem resetPinRelease (contents : List (BitVec 16 × Word)) : Statement (.resetPinRelease contents) := iff_of_true rfl trivial

theorem hostRamWrite (word : BitVec 16) (value : Word) : Statement (.hostRamWrite word value) := iff_of_true rfl trivial

theorem softReset (value : Word) : Statement (.softReset value) := by simp [Statement, Instr.Meets, Instr.wellFormed, Instr.illFormed?]

theorem runStart (value : Word) : Statement (.runStart value) := by simp [Statement, Instr.Meets, Instr.wellFormed, Instr.illFormed?]

theorem runStop (value : Word) : Statement (.runStop value) := by simp [Statement, Instr.Meets, Instr.wellFormed, Instr.illFormed?]

theorem attentionMaskWrite (value : Word) : Statement (.attentionMaskWrite value) := by simp [Statement, Instr.Meets, Instr.wellFormed, Instr.illFormed?]

theorem attentionClear (value : Word) : Statement (.attentionClear value) := iff_of_true rfl trivial

theorem ignoredRegisterWrite (word : BitVec 17) (value : Word) : Statement (.ignoredRegisterWrite word value) := by
  simp only [Statement, Instr.Meets, Instr.wellFormed, Instr.illFormed?]
  by_cases h : ignoredOffset word = true <;> simp_all [ignoredOffset, and_assoc]

theorem anchorCheck : Statement .anchorCheck := iff_of_true rfl trivial

theorem laneScan : Statement .laneScan := iff_of_true rfl trivial

theorem stepBadKind (lane : Fin 16) : Statement (.stepBadKind lane) := iff_of_true rfl trivial

theorem mark (lane : Fin 16) : Statement (.mark lane) := iff_of_true rfl trivial

theorem wait (lane : Fin 16) : Statement (.wait lane) := iff_of_true rfl trivial

theorem waitElapsed (lane : Fin 16) : Statement (.waitElapsed lane) := iff_of_true rfl trivial

theorem waitFrameReached (lane : Fin 16) : Statement (.waitFrameReached lane) := iff_of_true rfl trivial

theorem waitTimeout (lane : Fin 16) : Statement (.waitTimeout lane) := iff_of_true rfl trivial

theorem viewRewriteFollowup (view : View) : Statement (.viewRewriteFollowup view) := iff_of_true rfl trivial

theorem burstBuild : Statement .burstBuild := iff_of_true rfl trivial

theorem burstReceive (port : Port) (phase : BitVec 8) (whole : Bool) (burst : Burst) : Statement (.burstReceive port phase whole burst) := by cases whole <;> simp [Statement, Instr.Meets, Instr.wellFormed, Instr.illFormed?, Burst.lengthsAgree]

theorem forwardBufferSend (port : Port) : Statement (.forwardBufferSend port) := iff_of_true rfl trivial

theorem mapSlots (lane : Fin 16) : Statement (.mapSlots lane) := iff_of_true rfl trivial

theorem mapSlotsSettled (lane : Fin 16) : Statement (.mapSlotsSettled lane) := iff_of_true rfl trivial

theorem playout (tdm : List Sample) : Statement (.playout tdm) := by simp [Statement, Instr.Meets, Instr.wellFormed, Instr.illFormed?]

theorem patchOutputs (lane : Fin 16) : Statement (.patchOutputs lane) := iff_of_true rfl trivial

theorem patchOutputsSettled (lane : Fin 16) : Statement (.patchOutputsSettled lane) := iff_of_true rfl trivial

theorem gainRequest (sender : Fin 4) (tag : Tag) (input gain pad phantom : Byte) : Statement (.gainRequest sender tag input gain pad phantom) := iff_of_true rfl trivial

theorem gainAnnounce (input gain pad phantom owner state orphaned : Byte) (switch : Word) (tag : Tag) (refresh : Byte) : Statement (.gainAnnounce input gain pad phantom owner state orphaned switch tag refresh) := iff_of_true rfl trivial

theorem gainRefused (tag : Tag) (input reason : Byte) : Statement (.gainRefused tag input reason) := iff_of_true rfl trivial

theorem claim (sender : Fin 4) (tag : Tag) (inputs : BitVec 64) : Statement (.claim sender tag inputs) := iff_of_true rfl trivial

theorem release (sender : Fin 4) (tag : Tag) (inputs : BitVec 64) : Statement (.release sender tag inputs) := iff_of_true rfl trivial

theorem ownerAnnounce (inputs : BitVec 64) (owner : Byte) (tag : Tag) (result : BitVec 64) : Statement (.ownerAnnounce inputs owner tag result) := iff_of_true rfl trivial

theorem reference (sender : Fin 4) (input value : Byte) (switch : Word) : Statement (.reference sender input value switch) := iff_of_true rfl trivial

theorem mixSends (sender : Fin 4) (tag : Tag) (staged last : Bool) (records : List Word) : Statement (.mixSends sender tag staged last records) := by simp [Statement, Instr.Meets, Instr.wellFormed, Instr.illFormed?]

theorem mixSet (sender : Fin 4) (tag : Tag) (mix active : Byte) (master duck talk : BitVec 16) : Statement (.mixSet sender tag mix active master duck talk) := iff_of_true rfl trivial

theorem mixCue (sender : Fin 4) (tag : Tag) (mixes : Word) (now : Byte) (frame fade : Word) : Statement (.mixCue sender tag mixes now frame fade) := iff_of_true rfl trivial

theorem mixAck (tag : Tag) (applied refused reason : Byte) : Statement (.mixAck tag applied refused reason) := iff_of_true rfl trivial

theorem talkOpen (sender : Fin 4) (group seq : Byte) (mixes : Word) : Statement (.talkOpen sender group seq mixes) := iff_of_true rfl trivial

theorem talkClose (sender : Fin 4) (group seq : Byte) (mixes : Word) : Statement (.talkClose sender group seq mixes) := iff_of_true rfl trivial

theorem talkState (sender : Fin 4) (group seq : Byte) (held waiting lost : Word) : Statement (.talkState sender group seq held waiting lost) := iff_of_true rfl trivial

theorem loopRequest (sender : Fin 4) (tag : Tag) (port : Byte) (duration : Word) : Statement (.loopRequest sender tag port duration) := iff_of_true rfl trivial

theorem loopReply (tag : Tag) (port answer : Byte) : Statement (.loopReply tag port answer) := iff_of_true rfl trivial

theorem note (sender : Fin 4) (frame : Word) (text : List Byte) : Statement (.note sender frame text) := by simp [Statement, Instr.Meets, Instr.wellFormed, Instr.illFormed?]

theorem roomGrant (queue : QueueClass) : Statement (.roomGrant queue) := iff_of_true rfl trivial

theorem pendingEntryGrant : Statement .pendingEntryGrant := iff_of_true rfl trivial

theorem requestTimeout (lane : Fin 16) (seq : Byte) : Statement (.requestTimeout lane seq) := iff_of_true rfl trivial

theorem sendNote (lane : Fin 16) : Statement (.sendNote lane) := iff_of_true rfl trivial

theorem scheduledChangeApply (input : Fin 64) : Statement (.scheduledChangeApply input) := iff_of_true rfl trivial

theorem pendingChangeApply (input : Fin 64) : Statement (.pendingChangeApply input) := iff_of_true rfl trivial

theorem phantomMuteEnd (input : Fin 64) : Statement (.phantomMuteEnd input) := iff_of_true rfl trivial

theorem phantomShortReport (report : BitVec 16) : Statement (.phantomShortReport report) := iff_of_true rfl trivial

theorem scheduledReferenceApply (table : Fin 4) (input : Fin 64) : Statement (.scheduledReferenceApply table input) := iff_of_true rfl trivial

theorem setInput (lane : Fin 16) : Statement (.setInput lane) := iff_of_true rfl trivial

theorem claimInputs (lane : Fin 16) : Statement (.claimInputs lane) := iff_of_true rfl trivial

theorem releaseInputs (lane : Fin 16) : Statement (.releaseInputs lane) := iff_of_true rfl trivial

theorem setReference (lane : Fin 16) : Statement (.setReference lane) := iff_of_true rfl trivial

theorem preampWordSend : Statement .preampWordSend := iff_of_true rfl trivial

theorem cueDue (mix : Fin 32) : Statement (.cueDue mix) := iff_of_true rfl trivial

theorem cueRecordGrant : Statement .cueRecordGrant := iff_of_true rfl trivial

theorem setMix (lane : Fin 16) : Statement (.setMix lane) := iff_of_true rfl trivial

theorem loadSends (lane : Fin 16) : Statement (.loadSends lane) := iff_of_true rfl trivial

theorem stageScene (lane : Fin 16) : Statement (.stageScene lane) := iff_of_true rfl trivial

theorem cueScene (lane : Fin 16) : Statement (.cueScene lane) := iff_of_true rfl trivial

theorem readMixes (lane : Fin 16) : Statement (.readMixes lane) := iff_of_true rfl trivial

theorem talkAnswerTimeout (group : Fin 8) (target : Fin 4) : Statement (.talkAnswerTimeout group target) := iff_of_true rfl trivial

theorem buttonDebounce (button : Fin 8) (level : Bool) : Statement (.buttonDebounce button level) := iff_of_true rfl trivial

theorem lampFlashToggle : Statement .lampFlashToggle := iff_of_true rfl trivial

theorem setTalkGroup (lane : Fin 16) : Statement (.setTalkGroup lane) := iff_of_true rfl trivial

theorem setRanks (lane : Fin 16) : Statement (.setRanks lane) := iff_of_true rfl trivial

theorem setButton (lane : Fin 16) : Statement (.setButton lane) := iff_of_true rfl trivial

theorem talk (lane : Fin 16) : Statement (.talk lane) := iff_of_true rfl trivial

theorem signalLoss (port : Port) : Statement (.signalLoss port) := iff_of_true rfl trivial

theorem signalPresent (port : Port) : Statement (.signalPresent port) := iff_of_true rfl trivial

theorem darkProbe (port : Port) : Statement (.darkProbe port) := iff_of_true rfl trivial

theorem acquireTimeout (port : Port) : Statement (.acquireTimeout port) := iff_of_true rfl trivial

theorem quarantineEnd (port : Port) : Statement (.quarantineEnd port) := iff_of_true rfl trivial

theorem pathTimeout (origin : Fin 4) (port : Port) : Statement (.pathTimeout origin port) := iff_of_true rfl trivial

theorem closureTimeout (direction : Direction) : Statement (.closureTimeout direction) := iff_of_true rfl trivial

theorem conflictFlagClear (port : Port) : Statement (.conflictFlagClear port) := iff_of_true rfl trivial

theorem ringViewRefresh : Statement .ringViewRefresh := iff_of_true rfl trivial

theorem loopTest (lane : Fin 16) : Statement (.loopTest lane) := iff_of_true rfl trivial

theorem returnLoopEnd (port : Port) : Statement (.returnLoopEnd port) := iff_of_true rfl trivial

theorem testerWindowEnd (port : Port) : Statement (.testerWindowEnd port) := iff_of_true rfl trivial

theorem meter (lane : Fin 16) : Statement (.meter lane) := iff_of_true rfl trivial

theorem meterPassBegin : Statement .meterPassBegin := iff_of_true rfl trivial

theorem detectorWindowEnd (detector : Fin 8) : Statement (.detectorWindowEnd detector) := iff_of_true rfl trivial

theorem meterFrameTrigger (lane : Fin 16) : Statement (.meterFrameTrigger lane) := iff_of_true rfl trivial

theorem wordClockPresent : Statement .wordClockPresent := iff_of_true rfl trivial

theorem wordClockAbsent : Statement .wordClockAbsent := iff_of_true rfl trivial

theorem wordClockPhaseLock : Statement .wordClockPhaseLock := iff_of_true rfl trivial

end Sys2Proof.Laws.WellFormedMeets
end

