-- ==== Sys2Proof/Laws/Steps.lean ====
section
/-!
SUPPORT. The frame every command shares: a command of a running terminal acts and the views follow it (spec 01, R21), a begun
step that passes its checks is handed to its block, and one that does not ends BAD STEP (spec 01, R13). A grant of room, and a producer of several
messages (R73).
-/

namespace Sys2Proof.Machine

/-! ### Views -/

/-- Everything a rewrite, and so the views' following of a command, can change. -/
structure ShowsOnly (t s : State) : Prop where
  only : t = { s with
    ram := t.ram, regs := { s.regs with attention := t.regs.attention }, inputView := t.inputView, ringView := t.ringView,
    talkView := t.talkView, sup := { s.sup with refreshAge := t.sup.refreshAge } }
  canonical : s.canonical = true → t.canonical = true

theorem ShowsOnly.refl (s : State) : ShowsOnly s s := ⟨rfl, id⟩

theorem ShowsOnly.trans {u t s : State} (h1 : ShowsOnly u t) (h2 : ShowsOnly t s) : ShowsOnly u s :=
  ⟨by rw [h1.only, h2.only], fun h => h1.canonical (h2.canonical h)⟩

theorem showsOnly_store (s : State) (a : Nat) (bs : List Byte) : ShowsOnly (s.store a bs) s :=
  ⟨rfl, fun h => storeBytes_wf h a bs⟩

theorem showsOnly_setView (s : State) (v : View) (r : ViewRec) : ShowsOnly (s.setView v r) s := by
  cases v <;> exact ⟨rfl, id⟩

theorem showsOnly_writeView (s : State) (v : View) : ShowsOnly (s.writeView v) s :=
  (showsOnly_setView _ v _).trans
    ((showsOnly_store _ _ _).trans ((showsOnly_store _ _ _).trans (showsOnly_store s _ _)))

/-- A rewrite (R21). -/
theorem showsOnly_rewrite (s : State) (v : View) : ShowsOnly (s.rewrite v) s := by
  refine ShowsOnly.trans ?_ (showsOnly_writeView s v)
  unfold State.rewrite State.attend
  split
  · exact ⟨rfl, id⟩
  · exact .refl _

theorem showsOnly_viewChanged (s : State) (v : View) : ShowsOnly (s.viewChanged v) s := by
  unfold State.viewChanged
  split
  · exact showsOnly_setView s v _
  · exact showsOnly_rewrite s v

theorem showsOnly_followView (s b : State) (v : View) : ShowsOnly (s.followView b v) s := by
  unfold State.followView
  split
  · exact showsOnly_viewChanged s v
  · exact .refl s

/-- The views' following of a command (R21). -/
theorem showsOnly_withViews (t s : State) : ShowsOnly (t.withViews s) t :=
  (showsOnly_followView _ s .talk).trans ((showsOnly_followView _ s .ring).trans (showsOnly_followView t s .input))

/-- Views whose shown state is the same are left. -/
theorem withViews_same {t s : State} (h : ∀ v : View, t.viewTrigger v = s.viewTrigger v) : t.withViews s = t := by
  have h1 : ∀ v : View, t.followView s v = t := fun v => by simp [State.followView, h v]
  simp [State.withViews, h1]

/-- What lane contexts, RAM, ATTENTION, the service unit and the queue hold is shown in no view. -/
theorem viewTrigger_worksOn {l : Fin 16} {t s : State} (h : WorksOn l t s) (v : View) : t.viewTrigger v = s.viewTrigger v := by
  rw [h.only]
  cases v <;> rfl

/-- A command of the lane engine on one lane leaves the views. -/
theorem withViews_worksOn {l : Fin 16} {t s : State} (h : WorksOn l t s) : t.withViews s = t :=
  withViews_same fun v => viewTrigger_worksOn h v

/-- What `running` does to a running terminal. -/
theorem running_of (f : State → State) {s : State} (h : s.isRunning = true) : running f s = (f s).withViews s := by
  simp [running, viewing, h]

/-- What `running` does to a terminal that is not RUNNING: nothing. -/
theorem not_running (f : State → State) {s : State} (h : s.isRunning = false) : running f s = s := by
  simp [running, h]

/-! ### Steps begun (R13) -/

theorem begunKind_of {s : State} {l : Fin 16} {a : Nat} (h : s.hasBegun l a = true) :
    (s.lane l).activity = .joining {} a ∧ s.begunKind? l = some (s.header a).kind := by
  simp only [State.hasBegun, Bool.and_eq_true, decide_eq_true_eq] at h
  exact ⟨h.2, by simp [State.begunKind?, h.2]⟩

/-- How the reading of a faulty step ends. -/
theorem joinFrom_faulty {s : State} {a d : Nat} (h : (s.header a).fault = some d) :
    s.joinFrom joinFuel {} a = .failed (s.stepAt a) d := by
  show s.joinFrom (65535 + 1) {} a = _
  rw [State.joinFrom]
  simp only [List.isEmpty_nil, Bool.not_true, Bool.false_and, State.stepAt, h]
  rfl

/-- How the reading of a good step without GATHER ends. -/
theorem joinFrom_lone {s : State} {a : Nat} (h : (s.header a).fault = none) (hg : (s.header a).gather = false) :
    s.joinFrom joinFuel {} a = .ready (s.stepAt a) := by
  show s.joinFrom (65535 + 1) {} a = _
  rw [State.joinFrom]
  simp only [List.isEmpty_nil, Bool.not_true, Bool.false_and, State.stepAt, h, hg]
  rfl

/-- A join goes on at a good link of a good GATHER step of its own kind. -/
theorem joinFrom_link {s : State} {fuel a : Nat} {j : Join} (hk : j.steps.isEmpty = true ∨ (s.header a).kind = j.kind)
    (hf : (s.header a).fault = none) (hg : (s.header a).gather = true) (h0 : (s.header a).link ≠ 0)
    (hb : linkBad (s.header a).link = false) :
    s.joinFrom (fuel + 1) j a = s.joinFrom fuel (j.add s.ram a (s.header a)) (s.header a).link := by
  have hk' : (!j.steps.isEmpty && (s.header a).kind != j.kind) = false := by
    rcases hk with h | h <;> simp [h]
  simp [State.joinFrom, hk', hf, hg, h0, hb]

/-- A linked step of another kind fails the join with detail 3. -/
theorem joinFrom_other {s : State} {fuel a : Nat} {j : Join} (hj : j.steps.isEmpty = false)
    (hk : (s.header a).kind ≠ j.kind) : s.joinFrom (fuel + 1) j a = .failed j 3 := by
  simp [State.joinFrom, hj, hk]

/-- The steps a cancel finishes of a join that has begun: those its links join, however the join ends; of links that never close
it, the step at which it stands. -/
theorem joinInProgress_of {s : State} {k j : Join} {a : Nat}
    (h : s.joinFrom joinFuel k a = .ready j ∨ s.joinFrom joinFuel k a = .gathered j
      ∨ (∃ d : Nat, s.joinFrom joinFuel k a = .failed j d) ∨ (∃ b : Nat, s.joinFrom joinFuel k a = .badLink j b)
      ∨ s.joinFrom joinFuel k a = .endless ∧ j = k.add s.ram a (s.header a)) :
    s.joinInProgress k a = j := by
  unfold State.joinInProgress
  obtain h | h | ⟨_, h⟩ | ⟨_, h⟩ | ⟨h, rfl⟩ := h <;> rw [h]

/-- The count of a step that ends before its block takes it: the frames passed of a WAIT (R19). -/
theorem brokenCount_wait {s : State} {l : Fin 16} {j : Join} (h : j.kind = 2) : s.brokenCount l j = snap (s.lane l).age := if_pos h

/-- The count of a step of another kind that ends before its block takes it. -/
theorem brokenCount_other {s : State} {l : Fin 16} {j : Join} (h : j.kind ≠ 2) : s.brokenCount l j = 0 := if_neg h

/-- The kind of a step's own join. -/
theorem stepAt_kind (s : State) (a : Nat) : (s.stepAt a).kind = (s.header a).kind := by
  simp [State.stepAt, Join.add]

/-- Everything a button's change does to a lane's context: a lane whose step is not yet at its block keeps the first change of each
button since the step began (R19). -/
theorem noteChange_eq (b : Fin 8) (level : Bool) (x : Lane) :
    x.noteChange b level = { x with firstChange := (x.noteChange b level).firstChange }
    ∧ (∀ k : Fin 8, k ≠ b → (x.noteChange b level).firstChange.get k = x.firstChange.get k)
    ∧ ((∀ (j : Join) (a : Nat), x.activity ≠ .joining j a) → (∀ j : Join, x.activity ≠ .gathered j) → x.noteChange b level = x)
    ∧ (∀ c : ButtonChange, x.firstChange.get b = some c → x.noteChange b level = x)
    ∧ (x.firstChange.get b = none → ((∃ (j : Join) (a : Nat), x.activity = .joining j a) ∨ ∃ j : Join, x.activity = .gathered j) →
      (x.noteChange b level).firstChange.get b = some { level := level, age := x.age }) := by
  unfold Lane.noteChange
  refine ⟨?_, fun k hk => ?_, fun h1 h2 => ?_, fun c hc => ?_, fun hn ha => ?_⟩
  · split
    · split <;> rfl
    · split <;> rfl
    · rfl
  · split
    · split
      · rfl
      · exact (Bank.set_get ..).trans (if_neg hk)
    · split
      · rfl
      · exact (Bank.set_get ..).trans (if_neg hk)
    · rfl
  · cases hx : x.activity with
    | joining j a => exact absurd hx (h1 j a)
    | gathered j => exact absurd hx (h2 j)
    | none => rfl
    | working j op => rfl
  · split <;> simp [hc]
  · obtain ⟨j, a, h⟩ | ⟨j, h⟩ := ha <;> simp [h, hn, Bank.set_get]

/-- A step that its header's checks refuse ends BAD STEP with the check's detail. -/
theorem startStep_faulty {s : State} {l : Fin 16} {a d : Nat} (act : Join → State → State) (h : s.hasBegun l a = true)
    (hd : (s.header a).fault = some d) :
    s.startStep l (s.header a).kind act = s.finish l (s.stepAt a) .badStep d (s.brokenCount l (s.stepAt a)) := by
  unfold State.startStep
  simp only [(begunKind_of h).1, (begunKind_of h).2, joinFrom_faulty hd, if_true]

/-- A good step without GATHER ends BAD STEP with detail 2 if its payload is too short, and else goes to its block. -/
theorem startStep_lone {s : State} {l : Fin 16} {a : Nat} (act : Join → State → State) (h : s.hasBegun l a = true)
    (hf : (s.header a).fault = none) (hg : (s.header a).gather = false) :
    s.startStep l (s.header a).kind act
      = if (s.stepAt a).payload.length < lengthNeeded (s.header a).kind then
          s.finish l (s.stepAt a) .badStep 2 (s.brokenCount l (s.stepAt a))
        else act (s.stepAt a) s := by
  unfold State.startStep
  simp only [(begunKind_of h).1, (begunKind_of h).2, joinFrom_lone hf hg, if_true]

/-- A step that passes its checks is handed to its block. -/
theorem startStep_ready {s : State} {l : Fin 16} {a kind : Nat} (act : Join → State → State)
    (h : s.hasStep l kind a = true) : s.startStep l kind act = act (s.stepAt a) s := by
  simp only [State.hasStep, Bool.and_eq_true, decide_eq_true_eq, beq_iff_eq, Option.isNone_iff_eq_none,
    Bool.not_eq_true'] at h
  obtain ⟨⟨⟨⟨h1, h2⟩, h3⟩, h4⟩, h5⟩ := h
  have := startStep_lone act h1 h3 h4
  rw [h2] at this
  rw [this, if_neg (by omega)]

/-- What `hasStep` says of the terminal: it is RUNNING. -/
theorem hasStep_running {s : State} {l : Fin 16} {kind a : Nat} (h : s.hasStep l kind a = true) : s.isRunning = true := by
  simp only [State.hasStep, State.hasBegun, Bool.and_eq_true] at h
  exact h.1.1.1.1.1

/-! ### Room (spec 04, R73) -/

/-- Everything a grant of room can do: nothing without a producer or without room; else the first producer leaves the list, and places
its message where the queue is the one its message goes into. -/
theorem grantRoom_cases (s : State) (q : QueueClass) :
    ((s.svc.room q = [] ∨ s.svc.hasRoom q = false) ∧ s.grantRoom q = s)
    ∨ ∃ (h : Held) (rest : List Held) (t : State), s.svc.room q = h :: rest ∧ s.svc.hasRoom q = true
      ∧ t = { s with svc := s.svc.setRoom q rest } ∧ s.grantRoom q = if t.placesIn q h then t.place q h else t := by
  unfold State.grantRoom
  cases hr : s.svc.room q with
  | nil => exact .inl ⟨.inl rfl, rfl⟩
  | cons h rest =>
    cases hq : s.svc.hasRoom q with
    | false => exact .inl ⟨.inr rfl, rfl⟩
    | true => exact .inr ⟨h, rest, _, rfl, rfl, rfl, rfl⟩

/-! ### Producers with several messages (R73) -/

/-- A producer with fewer messages to send than the fuel places or waits as with any more fuel (R73). `left` bounds its messages. -/
theorem pump_enough {q : QueueClass} {h : Held} {wants : State → Bool} {send : State → State} (left : State → Nat)
    (hl : ∀ t : State, wants t = true → t.svc.mayPlace q = true → left (send t) < left t) :
    ∀ (n k : Nat) (s : State), left s < n → left s < k → pump q h wants send n s = pump q h wants send k s := by
  intro n
  induction n with
  | zero => intro k s hn _; omega
  | succ n ih =>
    intro k s hn hk
    cases k with
    | zero => omega
    | succ k =>
      unfold pump
      split
      · rename_i hw
        split
        · rename_i hp
          have := hl s hw hp
          exact ih k (send s) (by omega) (by omega)
        · rfl
      · rfl

/-- A producer with a message to send and room for it places it and goes on (R73). -/
theorem pump_place {q : QueueClass} {h : Held} {wants : State → Bool} {send : State → State} {n : Nat} {s : State} (left : State → Nat)
    (hl : ∀ t : State, wants t = true → t.svc.mayPlace q = true → left (send t) < left t) (hn : left s ≤ n)
    (hw : wants s = true) (hp : s.svc.mayPlace q = true) :
    pump q h wants send (n + 1) s = pump q h wants send (n + 1) (send s) := by
  have := hl s hw hp
  rw [show pump q h wants send (n + 1) s = pump q h wants send n (send s) by rw [pump]; simp [hw, hp]]
  exact pump_enough left hl n (n + 1) (send s) (by omega) (by omega)

/-- A producer with a message to send and no room for it waits (R73). -/
theorem pump_hold {q : QueueClass} {h : Held} {wants : State → Bool} {send : State → State} {n : Nat} {s : State}
    (hw : wants s = true) (hp : s.svc.mayPlace q = false) :
    pump q h wants send (n + 1) s = { s with svc := s.svc.hold q h } := by
  rw [pump]; simp [hw, hp]

/-- A producer with nothing to send leaves the room list (R73). -/
theorem pump_rest {q : QueueClass} {h : Held} {wants : State → Bool} {send : State → State} {n : Nat} {s : State}
    (hw : wants s = false) :
    pump q h wants send (n + 1) s = { s with svc := s.svc.setRoom q (without h (s.svc.room q)) } := by
  rw [pump]; simp [hw]

end Sys2Proof.Machine
end

