-- ==== Sys2Proof/Tests/Slice0.lean ====
section
/-!
SUPPORT. The tests: the smoke test of WellFormed, a witness for the hypotheses of each statement of Obligations.lean that has
some (theorem witness_<Name>, its clauses in the statement's order), and single steps with results worked out from the spec.
-/

open Sys2Proof Sys2Proof.Machine

namespace Sys2Proof.Tests

-- One theorem at a time: the kernel evaluations side by side need more memory than a check has.
set_option Elab.async false

/-! ### Helpers -/

/-- The state a command answers. -/
def after (c : Instr) (s : State) : State :=
  match exec c s with
  | .next t => t
  | _ => s

/-- A terminal RUNNING, with its areas one behind the other from offset 256. -/
def run (id : Fin 4) : State :=
  { State.reset with
    regs := { run := true, runState := .running, verdict := .anchorOk }
    cfg := { id := id, slotCount := 8, laneTable := 256, inputView := 768, ringView := 1792, talkView := 2048,
             faultLog := 2560, noteList := 2832 } }

/-- The same at a frame. -/
def runAt (id : Fin 4) (frame : Word) : State := { run id with clock := { frame := frame } }

/-- A desk whose mirror is not stale. -/
def desk : State := { run 1 with gain := { (run 1).gain with stale := false } }

/-- The four words of a step header at 4096, whose payload lies at 8192. -/
def headerWords (kind target param : Nat) (payload : List Byte) : List Word :=
  [0, BitVec.ofNat 32 (kind + field target 16), BitVec.ofNat 32 (param + field payload.length 16), 8192]

/-- A state whose lane 0 has begun the step at 4096. -/
def begun (s : State) (kind target param : Nat) (payload : List Byte) : State :=
  ({ s with lanes := s.lanes.set 0 { s.lane 0 with
      state := .running, activity := .joining {} 4096, current := 4096 } }.pokeAll
    4096 (headerWords kind target param payload)).store 8192 payload

/-- The one step of a join. -/
def join0 : Join := { steps := [4096], kind := 2 }

/-- A state whose lane 0 has an operation in progress. -/
def working (s : State) (j : Join) (op : Op) : State :=
  { s with lanes := s.lanes.set 0 { s.lane 0 with state := .running, activity := .working j op, current := 4096 } }

/-- A state with a port in a state. -/
def portIn (s : State) (p : Port) (x : PortState) (f : PortRec → PortRec) : State :=
  s.setPort p (f { s.port p with state := x })

/-- A state with a path UP. -/
def pathUp (s : State) (o : Fin 4) (p : Port) (hop since : Nat) : State :=
  s.modPath o p fun _ => { up := true, hop := hop, since := some since }

/-- A burst of two slots with a good check word. -/
def burst (origin hop mark frame : Nat) : Burst :=
  let b : Burst := {
    head := BitVec.ofNat 8 (origin + 4 * hop), mark := BitVec.ofNat 16 mark, frame := BitVec.ofNat 32 frame
    slotCount := 2, talkSlot := 1, summary := 5, slots := [1, 2], service := List.replicate 8 0, check := 0 }
  { b with check := crc32 b.bytes }

/-- A tag of terminal 2. -/
def tag2 : Tag := { requester := 2, lane := 3, seq := 5 }

/-! ### WellFormed smoke: one ill-formed command for each check -/

theorem test_illFormed_control : (Instr.softReset 1).illFormed? = some .controlValue
    ∧ (Instr.runStart 2).illFormed? = some .controlValue ∧ (Instr.runStop 1).illFormed? = some .controlValue
    ∧ (Instr.attentionMaskWrite 2).illFormed? = some .controlValue := by decide

theorem test_illFormed_registerOffset : (Instr.ignoredRegisterWrite 0x10001 0).illFormed? = some .registerOffset
    ∧ (Instr.ignoredRegisterWrite 0xFFFF 0).illFormed? = some .registerOffset := by decide

theorem test_illFormed_burst :
    (Instr.burstReceive .east 0 true { burst 2 0 1 1 with slots := [1] }).illFormed? = some .burstLengths := by decide +kernel

theorem test_illFormed_tdm : (Instr.playout [1, 2]).illFormed? = some .tdmLength := by decide

theorem test_illFormed_message : (Instr.note 1 0 (List.replicate 57 0)).illFormed? = some .messageLength
    ∧ (Instr.mixSends 1 tag2 true true (List.replicate 13 0)).illFormed? = some .messageLength := by decide

theorem test_wellFormed : (Instr.ignoredRegisterWrite 0x10004 7).wellFormed = true
    ∧ (Instr.note 1 0 (List.replicate 56 0)).wellFormed = true ∧ (Instr.softReset 3).wellFormed = true := by decide

/-- No row of the table gives bits, so no word spells a command. -/
theorem test_decode_none : decodeTableWord 32 0x00000001 = none := by decide

/-! ### Witnesses: queue, resets, bus -/

/-- A running terminal with its areas, a scan due, and something in most blocks. -/
def busy : State :=
  { runAt 0 1000 with
    regs := { run := true, runState := .running, attention := 0x7FFFFF }, passed := 9, mark := 77, noteList := ⟨3, 4⟩
    conv := { gpi := 0x5A, delivered := Vector.replicate 64 7, tdmIn := Vector.replicate 64 5 } }

theorem witness_IdleStepOpensFrame :
    (busy.resetLow = false ∧ busy.isRunning = true ∧ busy.pending = [] ∧ busy.inbox = [] ∧ busy.roundWork = []
      ∧ busy.rounds < 65536
      ∧ (after .laneScan { busy with scanDue := true }).scanDue = false)
    ∧ ({ busy with inbox := [.mark 0] }.pending = [] ∧ { busy with inbox := [.mark 0] }.inbox ≠ [])
    ∧ ({ busy with resetLow := true }.resetLow = true ∧ { busy with resetLow := true }.inbox = [])
    ∧ (State.reset.resetLow = false ∧ State.reset.regs.runState = .stopped ∧ State.reset.pending = []
      ∧ State.reset.inbox = [])
    ∧ ((0 : Fin 64).val = 8 * (0 : Fin 8).val + (0 : Fin 8).val
      ∧ (63 : Fin 64).val = 8 * (7 : Fin 8).val + (7 : Fin 8).val) := by decide +kernel

theorem witness_PowerAndPinGiveReset : busy.resetLow = false ∧ { busy with resetLow := true }.resetLow = true := by decide

theorem witness_HostWriteReadsBack :
    (busy.resetLow = false ∧ (after (.hostRamWrite 0xFFFF 7) busy).busData 0x3FFFC = some 7)
    ∧ { busy with resetLow := true }.resetLow = true := by decide +kernel

theorem witness_IdentAndFrameReadOnly :
    exec (.powerOn [(3, 9)]) busy = .next (after (.powerOn [(3, 9)]) busy) ∧ State.reset.isRunning = false
    ∧ busy.resetLow = false ∧ busy.isRunning = true := ⟨rfl, by decide, by decide, by decide⟩

theorem witness_RegisterWritesAct : busy.resetLow = false ∧ (3 : Word).getLsbD 1 = true
    ∧ ((1 : Word).getLsbD 1 = false ∧ (1 : Word).getLsbD 0 = true ∧ State.reset.regs.runState = .stopped)
    ∧ ((0 : Word).getLsbD 1 = false ∧ (0 : Word).getLsbD 0 = false ∧ busy.regs.runState ≠ .stopped)
    ∧ (1 : Word).getLsbD 0 = decide (busy.regs.runState ≠ .stopped)
    ∧ (0 : Word).getLsbD 0 = decide (State.reset.regs.runState ≠ .stopped) := by decide

/-- An anchor of terminal 2 with 64 slots, its latency above the clamp. -/
def goodAnchor : List Word := [0x04805A17, 1, 0x003F4002, 0x0000400C, 256, 768, 1792, 2048, 2560, 2832]

/-- STARTING, with three words of an anchor read. -/
def starting (ws : List Word) : State :=
  { State.reset with
    regs := { run := true, runState := .starting, mask := 5 }, anchorRead := ws.take 3, clock := { frame := 700 } }.pokeAll
    0 ws

theorem witness_BadAnchorIsRejected :
    (starting goodAnchor).regs.runState = .starting
    ∧ ((goodAnchor.set 1 2).getD 1 0).toNat % 65536 ≠ 1
    ∧ (goodAnchor.getD 0 0 = 0x04805A17 ∧ (goodAnchor.getD 1 0).toNat % 65536 = 1
        ∧ 3 < ((goodAnchor.set 2 0x003F4004).getD 2 0).toNat % 256)
    ∧ ((goodAnchor.getD 2 0).toNat % 256 ≤ 3 ∧ 64 < ((goodAnchor.set 2 0x003F4102).getD 2 0).toNat / 256 % 256)
    ∧ verdictOf (starting (goodAnchor.set 5 764)).anchor = .badLayout := by decide +kernel

theorem witness_GoodAnchorStartsRun :
    (starting goodAnchor).regs.runState = .starting ∧ verdictOf (starting goodAnchor).anchor = .anchorOk := by
  decide +kernel

/-! ### Witnesses: lanes -/

/-- Lane 15 posted with the last step address there is. -/
def posted : State := { run 1 with scanDue := true }.pokeAll (256 + 480) [0x3FFE0, 1, 0]

theorem witness_ScanBeginsPostedLane : posted.isRunning = true ∧ posted.scanDue = true
    ∧ (∀ k : Fin 16, posted.peek (posted.entry k + 8) = 0)
    ∧ (∀ k : Fin 16, k ≠ 15 → posted.postCount k = (posted.lane k).lastSeen)
    ∧ posted.postCount 15 ≠ (posted.lane 15).lastSeen ∧ (posted.lane 15).state = .idle
    ∧ linkBad (posted.peek (posted.entry 15)).toNat = false := by decide +kernel

/-- A lane that waits for frame 5. -/
def waiting5 (cond : WaitCond) (timeout : Word) (age : Nat) : State :=
  (working (run 1) join0 (.wait cond timeout)).modLane 0 fun x => { x with age := age }

theorem witness_CancelLeavesLaneIdle :
    ((waiting5 (.elapsed 5) 0 0).lane 0).state ≠ .idle
    ∧ ((waiting5 (.elapsed 5) 0 0).lane 0).activity = .working join0 (.wait (.elapsed 5) 0)
    ∧ (waiting5 (.elapsed 5) 0 0).isRunning = true := by decide +kernel

theorem witness_FaultyStepFinishesBadStep :
    (begun (run 1) 21 0 0 []).hasBegun 0 4096 = true
    ∧ ((begun (run 1) 21 0 0 []).header 4096).fault = some 1 ∧ 20 < ((begun (run 1) 21 0 0 []).header 4096).kind
    ∧ ((begun (run 1) 0 0 0 []).header 4096).fault = some 1 ∧ ((begun (run 1) 0 0 0 []).header 4096).kind = 0
    ∧ ((begun (run 1) 5 4 0 []).header 4096).fault = some 4 := by decide +kernel

/-- A MARK with NOTIFY set and a payload, last in its chain. -/
def markStep : State := begun (run 1) (1 + 256) 0 0 [1, 2]

theorem witness_MarkEndsOk : markStep.hasBegun 0 4096 = true ∧ (markStep.header 4096).kind = 1
    ∧ (markStep.header 4096).gather = false ∧ (markStep.header 4096).notify = true
    ∧ (markStep.closeJoin 0 (markStep.stepAt 4096) .ok 0 0).peek 4096 = 0
    ∧ (markStep.closeJoin 0 (markStep.stepAt 4096) .ok 0 0).postCount 0 = (markStep.lane 0).lastSeen := by decide +kernel

/-- A WAIT of a condition code, its word and no timeout. -/
def waitStep (code : Nat) (word : Word) : State := begun (run 1) 2 0 code (leBytes 4 word.toNat ++ leBytes 4 0)

theorem witness_WaitBeginsAndEnds :
    ((waitStep 0 5).hasStep 0 2 4096 = true
      ∧ waitCond ((waitStep 0 5).stepAt 4096).param (wordAt ((waitStep 0 5).stepAt 4096).payload 0) = none)
    ∧ ((waitStep 1 0).hasStep 0 2 4096 = true
      ∧ waitCond ((waitStep 1 0).stepAt 4096).param (wordAt ((waitStep 1 0).stepAt 4096).payload 0) = some (.elapsed 0)
      ∧ (waitStep 1 0).holdsAtOnce 0 (.elapsed 0) = true)
    ∧ ((waitStep 1 1).hasStep 0 2 4096 = true
      ∧ waitCond ((waitStep 1 1).stepAt 4096).param (wordAt ((waitStep 1 1).stepAt 4096).payload 0) = some (.elapsed 1)
      ∧ (waitStep 1 1).holdsAtOnce 0 (.elapsed 1) = false
      ∧ wordAt ((waitStep 1 1).stepAt 4096).payload 4 = 0)
    ∧ ((waiting5 (.elapsed 5) 0 5).works 0 join0 (.wait (.elapsed 5) 0) = true
      ∧ (5 : Word).toNat ≤ ((waiting5 (.elapsed 5) 0 5).lane 0).age)
    ∧ ((waiting5 (.frame 0xFFFFFFFF) 0 5).works 0 join0 (.wait (.frame 0xFFFFFFFF) 0) = true
      ∧ later 0xFFFFFFFF (waiting5 (.frame 0xFFFFFFFF) 0 5).clock.frame = false)
    ∧ ((waiting5 (.button 3) 5 5).works 0 join0 (.wait (.button 3) 5) = true
      ∧ (5 : Word) ≠ 0 ∧ (5 : Word).toNat ≤ ((waiting5 (.button 3) 5 5).lane 0).age) := by decide +kernel

/-- A join with HALT ON ERROR and NOTIFY set. -/
def haltJoin : Join := { join0 with haltOnError := true, notify := true }

theorem witness_FinishedStepIsReported : (waiting5 (.elapsed 5) 0 0).isRunning = true ∧ haltJoin.notify = true
    ∧ Status.timeout.good = false ∧ haltJoin.haltOnError = true
    ∧ haltJoin.steps = [4096] ∧ 4096 + 32 ≤ Config.ramSize ∧ (run 1).entry 0 + 32 ≤ 4096 + 16 := by decide +kernel

/-! ### Witnesses: views -/

/-- Every view owes a rewrite, and the ring view's refresh is due. -/
def owing : State :=
  { run 1 with inputView := ⟨3, false, true⟩, ringView := ⟨3, false, true⟩, talkView := ⟨3, false, true⟩
               sup := { refreshAge := 48000 } }

theorem witness_ViewIsRewritten : owing.isRunning = true ∧ (owing.view .ring).rewriting = false
    ∧ (owing.view .ring).again = true ∧ 48000 ≤ owing.sup.refreshAge
    ∧ owing.viewBase .ring + 4 ≤ Config.ramSize ∧ 0 < (owing.viewBody .ring).length
    ∧ owing.viewBase .ring + 8 + 4 * 0 ≤ Config.ramSize := by decide +kernel

theorem witness_ViewsFollowState :
    (run 1).viewTrigger .ring = { run 1 with scanDue := true }.viewTrigger .ring
    ∧ (∀ v ∈ [View.input, .ring, .talk], (run 1).viewTrigger v = { run 1 with scanDue := true }.viewTrigger v)
    ∧ (run 1).isRunning = true ∧ (pathUp (run 1) 2 .east 1 0).viewTrigger .ring ≠ (run 1).viewTrigger .ring
    ∧ ((pathUp (run 1) 2 .east 1 0).view .ring).rewriting = false
    ∧ ({ pathUp (run 1) 2 .east 1 0 with ringView := ⟨3, true, false⟩ }.view .ring).rewriting = true := by decide +kernel

/-! ### Witnesses: bursts, ports, maps -/

/-- The frame's playout has been made, the talk slot is the last, and a port is UP. -/
def building : State :=
  portIn { run 1 with cfg := { (run 1).cfg with talkSlot := some 7 }, merge := { playedNow := true } } .west .up id

theorem witness_BurstIsBuilt : building.isRunning = true ∧ building.merge.playedNow = true ∧ building.built = false
    ∧ building.cfg.slotCount ≤ 64 ∧ building.cfg.talkSlot = some 7 ∧ 7 < building.cfg.slotCount
    ∧ building.svc.current = none ∧ building.svc.urgent = [] ∧ building.svc.normal = []
    ∧ (building.port .west).state = .up := by decide +kernel

/-- Both ports UP, with a path of origin 2 UP on west at a hop count. -/
def between (hop : Nat) : State := pathUp (portIn (portIn (run 1) .east .up id) .west .up id) 2 .west hop 31

theorem witness_ForeignBurstIsDealtWith :
    (∀ hop ∈ [0, 3], (between hop).isRunning = true ∧ ((between hop).port .west).state = .up
      ∧ (burst 2 hop 9 7).valid true = true ∧ (burst 2 hop 9 7).origin ≠ (between hop).cfg.id
      ∧ (between hop).clock.source ≠ some (burst 2 hop 9 7).origin ∧ (burst 2 hop 9 7).origin ≠ 0
      ∧ ((between hop).sup.path 2 .west).up = true ∧ ((between hop).sup.path 2 .west).hop = (burst 2 hop 9 7).hop)
    ∧ (burst 2 2 9 7).hop ≤ 2 ∧ (burst 2 2 9 7).valid true = true := by decide +kernel

theorem witness_OwnAndInvalidBursts :
    (between 1).isRunning = true ∧ ((between 1).port .west).state = .up
    ∧ ((burst 1 3 1 7).valid true = true ∧ (burst 1 3 1 7).origin = (between 1).cfg.id
      ∧ (burst 1 3 1 7).mark = (between 1).mark ∧ (burst 1 3 1 7).hop ≠ 0)
    ∧ ((burst 1 0 2 7).valid true = true ∧ (burst 1 0 2 7).origin = (between 1).cfg.id
      ∧ (burst 1 0 2 7).mark ≠ (between 1).mark)
    ∧ ((burst 2 0 1 7).valid false = false ∧ ({ burst 2 0 1 7 with check := 4 } : Burst).valid true = false
      ∧ ((between 1).port .west).errors.length < 7) := by decide +kernel

theorem witness_AcquiringPortQualifies :
    (portIn (run 1) .west .acquire id).isRunning = true ∧ ((portIn (run 1) .west .acquire id).port .west).state = .acquire
    ∧ ((burst 2 0 1 7).valid true = true ∧ (burst 2 0 1 7).hop = 0 ∧ (burst 2 0 1 7).origin ≠ (run 1).cfg.id)
    ∧ ((burst 2 1 1 7).valid true = true ∧ (burst 2 1 1 7).hop ≠ 0)
    ∧ (burst 1 0 1 7).origin = (run 1).cfg.id ∧ (burst 2 1 1 7).valid false = false
    ∧ ((portIn (run 1) .west .quarantine id).port .west).state = .quarantine
    ∧ ((portIn (run 1) .west .dark id).port .west).state = .dark := by decide +kernel

/-- A loop on a port: what it is, and what was counted. -/
def loopOf (role : LoopRole) (lane : Option (Fin 16)) : LoopRec :=
  { role := role, duration := 48, lane := lane, neighbour := some 2, sent := 5, returned := 4, errors := 1 }

/-- West in LOOP for a number of frames. -/
def looping (role : LoopRole) (lane : Option (Fin 16)) (timer : Nat) : State :=
  portIn (run 1) .west .loop fun r => { r with loop := some (loopOf role lane), timer := timer }

theorem witness_ForwardBufferIsSent :
    (run 1).isRunning = true
    ∧ (((portIn (run 1) .west .quarantine id).port .west).state ≠ .dark
      ∧ ((portIn (run 1) .west .quarantine id).port .west).state ≠ .loop)
    ∧ (((looping .returner none 0).port .west).state = .loop
      ∧ ((looping .returner none 0).port .west).loop = some (loopOf .returner none)
      ∧ (loopOf .returner none).role = .returner)
    ∧ ((run 1).port .west).state = .dark ∧ ((run 1).port .west).loop = none := by decide +kernel

/-- A map entry. -/
def fadeOf (next : Option SlotSource) (gain : Nat) : Fade SlotSource := { current := .silent, next := next, gain := gain }

theorem witness_MapChangeFollowsTable :
    ((fadeOf none 48).gain ≤ 48 ∧ (fadeOf none 48).next = none ∧ (fadeOf none 48).gain = 48
      ∧ SlotSource.silent = (fadeOf none 48).current ∧ SlotSource.mix 31 ≠ (fadeOf none 48).current)
    ∧ ((fadeOf (some (.mix 31)) 0).next = some (.mix 31) ∧ SlotSource.mix 0 ≠ .mix 31
      ∧ SlotSource.mix 0 ≠ (fadeOf (some (.mix 31)) 0).current ∧ SlotSource.silent ≠ .mix 31)
    ∧ ((fadeOf none 47).next = none ∧ (fadeOf none 47).gain < 48)
    ∧ (fadeOf (some (.mix 31)) 1).step.current ≠ (fadeOf (some (.mix 31)) 1).current := by decide +kernel

/-- A MAP SLOTS step of one entry. -/
def mapStep (slot : Byte) : State := begun (run 1) 3 0 0 [slot, 1, 3, 0]

/-- A PATCH OUTPUTS step of one entry. -/
def patchStep (output : Byte) : State := begun (run 1) 4 0 0 [output, 1, 3, 63, 2, 0, 0, 0]

/-- The outputs of the entries of a PATCH OUTPUTS payload; none where it is refused. -/
def outputsOf (b : List Byte) : Option (List (Fin 64)) :=
  match outputEntries (chunks 8 b) with
  | .error _ => none
  | .ok es => some (es.map fun e => e.1)

theorem witness_MapStepsApply :
    ((mapStep 8).hasStep 0 3 4096 = true
      ∧ (slotsFault 8 ((chunks 4 ((mapStep 8).stepAt 4096).payload).map slotEntry)).isSome = true)
    ∧ ((mapStep 7).hasStep 0 3 4096 = true
      ∧ slotsFault 8 ((chunks 4 ((mapStep 7).stepAt 4096).payload).map slotEntry) = none
      ∧ ((after (.mapSlots 0) (mapStep 7)).xmit.get 7).steady = false)
    ∧ ((working (run 1) join0 (.mapSlots [3, 3] 2)).works 0 join0 (.mapSlots [3, 3] 2) = true
      ∧ ([3, 3].all fun i => ((run 1).xmit.get i).steady) = true)
    ∧ ((patchStep 64).hasStep 0 4 4096 = true ∧ outputsOf ((patchStep 64).stepAt 4096).payload = none)
    ∧ ((patchStep 63).hasStep 0 4 4096 = true ∧ outputsOf ((patchStep 63).stepAt 4096).payload = some [63]
      ∧ ((after (.patchOutputs 0) (patchStep 63)).delivery.get 63).steady = false)
    ∧ ((working (run 1) join0 (.patchOutputs [63] 1)).works 0 join0 (.patchOutputs [63] 1) = true
      ∧ ([63].all fun i => ((run 1).delivery.get i).steady) = true) := by decide +kernel

/-! ### Witnesses: merging and playout -/

/-- A frame without slots. -/
def frameOf (frame : Word) (played : Bool) : StoredFrame :=
  { frame := frame, slotCount := 0, talkSlot := none, slots := [], service := [], played := played }

/-- A merge record whose cell of frame 100 holds a frame. -/
def holds (f : StoredFrame) : MergeRec := { cells := (Vector.replicate 64 none).set 36 (some f) }

theorem witness_ArrivalIsClassified :
    earlier 99 100 = true
    ∧ (earlier 164 100 = false ∧ 64 ≤ ((164 : Word) - 100).toNat)
    ∧ (earlier 100 100 = false ∧ ((100 : Word) - 100).toNat < 64 ∧ ((163 : Word) - 100).toNat < 64)
    ∧ (holds (frameOf 100 true)).cells.get (cellOf 100) = some (frameOf 100 true)
    ∧ ((holds (frameOf 164 false)).cells.get (cellOf 100) = some (frameOf 164 false) ∧ later 164 100 = true)
    ∧ ((holds (frameOf 36 false)).cells.get (cellOf 100) = some (frameOf 36 false) ∧ earlier 36 100 = true)
    ∧ ((holds (frameOf 36 true)).cells.get (cellOf 100) = some (frameOf 36 true) ∧ (frameOf 36 true).played = true)
    ∧ (holds (frameOf 36 true)).cells.get (cellOf 101) = none := by decide +kernel

/-- A merge record in a concealment state. -/
def concealed (c : Conceal) : MergeRec := { conceal := c }

theorem witness_FramesPlayOrAreConcealed :
    ((concealed .playing).conceal = .playing ∧ (480 : Nat) = 480)
    ∧ (concealed (.holding 8)).conceal = .holding 8 ∧ (concealed (.fading 480)).conceal = .fading 480
    ∧ (concealed .silent).conceal = .silent
    ∧ ((concealed (.fadingIn 478)).conceal = .fadingIn 478 ∧ 478 + 1 < 480)
    ∧ (concealed (.fadingIn 479)).conceal = .fadingIn 479 := by decide

theorem witness_FramesPlayOrAreConcealed_missing :
    (concealed (.fadingIn 1)).conceal = .fadingIn 1 ∧ ((concealed (.holding 7)).conceal = .holding 7 ∧ 7 < 8)
    ∧ (concealed (.holding 8)).conceal = .holding 8 ∧ ((concealed (.fading 479)).conceal = .fading 479 ∧ 479 < 480)
    ∧ (concealed (.fading 480)).conceal = .fading 480 ∧ (concealed .silent).conceal = .silent := by decide

theorem witness_PlayoutPlaysEveryOrigin : (run 1).isRunning = true ∧ (run 1).merge.playedNow = false
    ∧ building.isRunning = true ∧ building.merge.playedNow = true := by decide

/-! ### Witnesses: the gain unit -/

/-- A setting with all three on. -/
def full : Setting := { gain := 60, pad := true, phantom := true }

/-- A pending change for a frame. -/
def changeFor (x : Setting) (frame : Word) : PendingChange :=
  { setting := x, requester := .forgotten, switch := some frame, keepsFault := false }

/-- The stage at frame 20 with an input table entry. -/
def stageWith (n : Fin 64) (e : InputEntry) : State := (runAt 0 20).modInput n fun _ => e

theorem witness_GainRequestIsTaken :
    ((run 0).isRunning = true ∧ (run 0).cfg.id = 0 ∧ 63 < (64 : Byte).toNat)
    ∧ ((63 : Byte).toNat = (63 : Fin 64).val
      ∧ full = { gain := min (61 : Byte).toNat 60, pad := decide ((1 : Byte) ≠ 0), phantom := decide ((9 : Byte) ≠ 0) })
    ∧ ((run 0).gain.table.get 63).owner ≠ some 2
    ∧ ((stageWith 63 { owner := some 2 }).isRunning = true
      ∧ ((stageWith 63 { owner := some 2 }).gain.table.get 63).owner = some 2
      ∧ ((stageWith 63 { owner := some 2 }).gain.table.get 63).pending = none
      ∧ (stageWith 63 { owner := some 2 }).svc.mayPlace .urgent = true)
    ∧ ((stageWith 63 { owner := some 2, pending := some (changeFor full 3) }).gain.table.get 63).pending
        = some (changeFor full 3) := by decide +kernel

theorem witness_ClaimAndReleaseMoveOwners :
    (run 0).isRunning = true ∧ (run 0).cfg.id = 0 ∧ (0x8000000000000001 : BitVec 64) ≠ 0 := by decide

theorem witness_ClaimAndReleaseMoveOwners_release : (run 0).isRunning = true ∧ (run 0).cfg.id = 0 := by decide

theorem witness_DeskTakesAnnouncements :
    (desk.isRunning = true ∧ desk.cfg.id ≠ 0 ∧ desk.answered? tag2 2 = none ∧ (63 : Byte).toNat = (63 : Fin 64).val
      ∧ (2 : Byte).toNat = InputState.phantomFault.code ∧ (3 : Byte).toNat ≤ 3 ∧ desk.gain.stale = false
      ∧ (desk.gain.mirror.get 63).scheduled = none)
    ∧ (desk.answered? tag2 6 = none ∧ (7 : Byte).toNat ≤ 7)
    ∧ (63 : Byte).toNat = (63 : Fin 64).val := by decide +kernel

/-- A change of a desk's mirror, for frame 12. -/
def toSix : Scheduled :=
  { setting := { gain := 6 }, state := .normal, switch := 12, tag := tag2, deferred := false, counts := true }

/-- The desk at frame 20, with a mirror entry of input 63. -/
def deskWith (f : MirrorEntry → MirrorEntry) : State := { desk with clock := { frame := 20 } }.modMirror 63 f

theorem witness_SwitchAppliesGain :
    ((deskWith fun m => { m with scheduled := some toSix }).isRunning = true
      ∧ (deskWith fun m => { m with scheduled := some toSix }).merge.playedNow = false
      ∧ (deskWith fun m => { m with scheduled := some toSix }).cfg.id ≠ 0
      ∧ ((deskWith fun m => { m with scheduled := some toSix }).gain.mirror.get 63).scheduled = some toSix
      ∧ later toSix.switch ((20 : Word) - BitVec.ofNat 32 8) = false
      ∧ toSix.setting.effective ≠ ({} : Setting).effective
      ∧ ({ gain := 20, pad := true } : Setting).effective = ({} : Setting).effective)
    ∧ ((stageWith 63 { pending := some (changeFor full 12) }).isRunning = true
      ∧ (stageWith 63 { pending := some (changeFor full 12) }).merge.playedNow = false
      ∧ (stageWith 63 { pending := some (changeFor full 12) }).cfg.id = 0
      ∧ ((stageWith 63 { pending := some (changeFor full 12) }).gain.table.get 63).pending = some (changeFor full 12)
      ∧ (changeFor full 12).switch = some 12
      ∧ ((stageWith 63 { pending := some (changeFor full 12) }).gain.table.get 63).waiting = none
      ∧ later 12 ((stageWith 63 { pending := some (changeFor full 12) }).clock.frame - BitVec.ofNat 32 8) = false
      ∧ full.effective ≠ ({} : Setting).effective) := by decide +kernel

/-- The desk at frame 20 with a scheduled reference of 60 dB for frame 12 in table 3. -/
def deskRef : State :=
  { desk with clock := { frame := 20 } }.modTrack 3 63 fun t => { t with
    scheduled := some { value := some 60, switch := 12, deferred := false } }

theorem witness_MutesEndAndReferencesApply :
    ((stageWith 63 { mute := some (3, 12) }).isRunning = true ∧ (stageWith 63 { mute := some (3, 12) }).cfg.id = 0
      ∧ (stageWith 63 { mute := some (3, 12) }).merge.playedNow = false
      ∧ ((stageWith 63 { mute := some (3, 12) }).gain.table.get 63).mute = some (3, 12)
      ∧ later 12 ((stageWith 63 { mute := some (3, 12) }).clock.frame - BitVec.ofNat 32 8) = false)
    ∧ ((deskWith fun m => { m with muteEnd := some 12 }).cfg.id ≠ 0
      ∧ ((deskWith fun m => { m with muteEnd := some 12 }).gain.mirror.get 63).muteEnd = some 12
      ∧ later 12 ((deskWith fun m => { m with muteEnd := some 12 }).clock.frame - BitVec.ofNat 32 8) = false)
    ∧ (deskRef.isRunning = true ∧ deskRef.merge.playedNow = false
      ∧ (deskRef.track 3 63).scheduled = some { value := some 60, switch := 12, deferred := false }
      ∧ later 12 (deskRef.clock.frame - BitVec.ofNat 32 deskRef.merge.delay) = false
      ∧ some 60 ≠ (deskRef.track 3 63).reference ∧ (63 : Fin 64) ∉ deskRef.gain.switched
      ∧ (63 : Fin 64) ∈ { deskRef with gain := { deskRef.gain with switched := [63] } }.gain.switched) := by decide +kernel

theorem witness_FadesAndRampsAreLinear :
    ({ ramp := some (5, 62) } : TrackEntry).ramp = some (5, 62) ∧ 62 + 1 < 64 ∧ 64 ≤ 63 + 1 ∧ 62 < 64 ∧ 62 + 1 < 64
    ∧ 63 + 1 = 64 ∧ 47 < 48 ∧ 48 ≤ 48 ∧ 96 ≤ 96 := by decide

/-- The stage with phantom on at input 63, and the report word of a short there. -/
def phantomOn : State :=
  let s := stageWith 63 { setting := full, owner := some 2, pending := some (changeFor full 12) }
  { s with conv := { s.conv with lastWords := s.conv.lastWords.set 63 full } }

theorem witness_PhantomShortActs :
    phantomOn.isRunning = true ∧ phantomOn.cfg.id = 0 ∧ shortReport 0xFD00 = some 63
    ∧ (phantomOn.conv.lastWords.get 63).phantom = true
    ∧ (phantomOn.gain.table.get 63).state ≠ .phantomFault
    ∧ (phantomOn.gain.table.get 63).pending = some (changeFor full 12)
    ∧ popCount (0xFD01 : BitVec 16) % 2 = 0 ∧ (0xFE00 : BitVec 16).extractLsb' 8 2 ≠ 1 := by decide +kernel

/-- A SET INPUT step of one entry at a desk that reaches the stage, or not, with an owner of the input. -/
def setInputStep (reach : Bool) (owner : Option (Fin 4)) (input : Byte) : State :=
  begun ((if reach then pathUp desk 0 .east 1 1 else desk).modMirror 63 fun m => { m with owner := owner }) 6 0 0
    [input, 61, 1, 2, 0, 0, 0, 0]

theorem witness_SetInputBegins :
    ((setInputStep true none 64).hasStep 0 6 4096 = true
      ∧ ((chunks 8 ((setInputStep true none 64).stepAt 4096).payload).any fun b => decide (63 < (byteAt b 0).toNat)) = true)
    ∧ ((begun desk 6 0 0 [1, 2, 3]).hasStep 0 6 4096 = true ∧ ((begun desk 6 0 0 [1, 2, 3]).stepAt 4096).payload.length < 8)
    ∧ ((setInputStep false none 63).hasStep 0 6 4096 = true
      ∧ 8 ≤ ((setInputStep false none 63).stepAt 4096).payload.length
      ∧ ((setInputStep false none 63).stepAt 4096).payload.length < 16
      ∧ (byteAt ((setInputStep false none 63).stepAt 4096).payload 0).toNat = (63 : Fin 64).val
      ∧ (setInputStep false none 63).cfg.id ≠ 0 ∧ (setInputStep false none 63).reachable 0 = false)
    ∧ ((setInputStep true (some 2) 63).gain.stale = false ∧ (setInputStep true (some 2) 63).reachable 0 = true
      ∧ ((setInputStep true (some 2) 63).gain.mirror.get 63).owner = some 2 ∧ (setInputStep true (some 2) 63).cfg.id = 1)
    ∧ ((setInputStep true (some 1) 63).hasStep 0 6 4096 = true
      ∧ ((setInputStep true (some 1) 63).gain.mirror.get 63).owner = some (setInputStep true (some 1) 63).cfg.id
      ∧ (setInputStep true (some 1) 63).entryFree = true ∧ (setInputStep true (some 1) 63).svc.mayPlace .normal = true
      ∧ (setInputStep true (some 1) 63).waits 0 = false) := by decide +kernel

/-- A CLAIM INPUTS or RELEASE INPUTS step of inputs 0 to 2 and 63. -/
def ownStep (s : State) (kind : Nat) : State := begun s kind 0 0 ([7, 0, 0, 0, 0, 0, 0, 0x80] ++ List.replicate 8 9)

theorem witness_OwnershipStepsAct :
    ((ownStep (run 0) 7).hasStep 0 7 4096 = true ∧ (ownStep (run 0) 7).cfg.id = 0
      ∧ (ownStep (run 0) 7).svc.mayPlace .normal = true ∧ (ownStep (run 0) 7).waits 0 = false
      ∧ inputSet ((ownStep (run 0) 7).stepAt 4096).payload ≠ 0)
    ∧ ((ownStep (run 0) 8).hasStep 0 8 4096 = true ∧ (ownStep (run 0) 8).cfg.id = 0
      ∧ (ownStep (run 0) 8).svc.mayPlace .normal = true ∧ (ownStep (run 0) 8).waits 0 = false)
    ∧ ((ownStep desk 7).hasStep 0 7 4096 = true ∧ (ownStep desk 7).cfg.id ≠ 0
      ∧ (ownStep desk 7).reachable 0 = false) := by decide +kernel

/-- A SET REFERENCE step of one entry. -/
def refStep (input mode value : Byte) : State := begun (runAt 1 0xFFFFFFFF) 9 0 0 [input, mode, value, 0]

theorem witness_SetReferenceQueues :
    ((refStep 64 0 0).hasStep 0 9 4096 = true
      ∧ ((chunks 4 ((refStep 64 0 0).stepAt 4096).payload).any fun b => decide (63 < (byteAt b 0).toNat)) = true)
    ∧ ∀ m ∈ [((0 : Byte), (0 : Byte), some (0 : Int)), (1, 0x80, some (-20)), (2, 5, none)],
      (refStep 63 m.1 m.2.1).hasStep 0 9 4096 = true
      ∧ 4 ≤ ((refStep 63 m.1 m.2.1).stepAt 4096).payload.length ∧ ((refStep 63 m.1 m.2.1).stepAt 4096).payload.length < 8
      ∧ (byteAt ((refStep 63 m.1 m.2.1).stepAt 4096).payload 0).toNat = (63 : Fin 64).val
      ∧ (byteAt ((refStep 63 m.1 m.2.1).stepAt 4096).payload 1 = 0 ∧ m.2.2 = some ((refStep 63 m.1 m.2.1).setting 63).effective
        ∨ byteAt ((refStep 63 m.1 m.2.1).stepAt 4096).payload 1 = 1
            ∧ m.2.2 = some (max (-20) (min (byteAt ((refStep 63 m.1 m.2.1).stepAt 4096).payload 2).toInt 60))
        ∨ byteAt ((refStep 63 m.1 m.2.1).stepAt 4096).payload 1 = 2 ∧ m.2.2 = none)
      ∧ (refStep 63 m.1 m.2.1).svc.mayPlace .urgent = true := by decide +kernel

theorem witness_PreampWordsAreSent : (run 0).resetLow = false ∧ (run 0).conv.wordsSent = false
    ∧ (run 0).cfg.id = 0 ∧ State.reset.isRunning = false
    ∧ ({ due := 0, input := 63, setting := full } : PreampWord).setting.gain ≤ 60 := by decide

/-! ### Witnesses: answers, messages, room -/

/-- A pending request of lane 0, its 261st, with sequence 5. -/
def reqOf (kind waited : Nat) : Request := { lane := 0, number := 261, target := 1, kind := kind, state := .waiting waited }

/-- Its tag. -/
def reqTag : Tag := { requester := 1, lane := 0, seq := 5 }

/-- Lane 0 waits for an answer. -/
def asking (op : Op) (kind waited : Nat) : State :=
  { working (run 1) join0 op with svc := { requests := [reqOf kind waited, { reqOf kind waited with lane := 3 }] } }

/-- A remote mix step with nothing more to give. -/
def lastPart (applied : Nat) : RemoteMix := { target := 2, kind := 8, todo := [], staging := false, applied := applied }

/-- A SET INPUT entry that waits for its answer. -/
def asked : InputStep := { input := 3, setting := {}, outcome := 8196, state := .requested 261 }

theorem witness_AnswersEndSteps :
    ((asking (.mixRemote (lastPart 1)) 8 0).isRunning = true ∧ (reqOf 8 0).lane = 0
      ∧ (asking (.mixRemote (lastPart 1)) 8 0).works 0 join0 (.mixRemote (lastPart 1)) = true
      ∧ (asking (.mixRemote (lastPart 1)) 8 0).answered? reqTag 11 = some (reqOf 8 0) ∧ (lastPart 1).todo = []
      ∧ (0 : Nat) = 0 ∧ (3 : Nat) ≠ 0 ∧ (lastPart 0).applied + (0 : Byte).toNat = 0)
    ∧ ((asking (.setInput [asked]) 1 0).works 0 join0 (.setInput [asked]) = true
      ∧ (asking (.setInput [asked]) 1 0).answered? reqTag 3 = some (reqOf 1 0) ∧ asked.state = .requested (reqOf 1 0).number)
    ∧ ((asking (.loopTest .east 100) 15 0).works 0 join0 (.loopTest .east 100) = true
      ∧ (asking (.loopTest .east 100) 15 0).answered? reqTag 16 = some (reqOf 15 0)
      ∧ ((asking (.loopTest .east 100) 15 0).port .east).state ≠ .up)
    ∧ ((asking (.claim false 0 none) 4 9600).works 0 join0 (.claim false 0 none) = true
      ∧ reqOf 4 9600 ∈ (asking (.claim false 0 none) 4 9600).svc.requests ∧ (reqOf 4 9600).state = .waiting 9600
      ∧ ∀ q ∈ (asking (.claim false 0 none) 4 9600).svc.requests, q.lane = 0 → q.seq = (reqOf 4 9600).seq → q.late = true →
        q = reqOf 4 9600)
    ∧ ((asking (.claim false 0 none) 4 9599).isRunning = true
      ∧ ∀ q ∈ (asking (.claim false 0 none) 4 9599).svc.requests, q.lane = 0 → q.seq = 5 → q.late = false)
    ∧ (reqOf 4 0).seq = 5 := by decide +kernel

theorem witness_NotesAreListedAndSent :
    ((run 1).isRunning = true ∧ ([1, 2, 3] : List Byte).length ≤ 56
      ∧ (run 1).cfg.noteList + 16 + 64 * (run 1).cfg.noteCapacity ≤ Config.ramSize
      ∧ ({ run 1 with noteList := ⟨3, 0⟩ }.noteList.written
          - { run 1 with noteList := ⟨3, 0⟩ }.peek ((run 1).cfg.noteList + 8)).toNat < (run 1).cfg.noteCapacity
      ∧ (run 1).cfg.noteCapacity ≤ ({ run 1 with noteList := ⟨4, 0⟩ }.noteList.written
          - { run 1 with noteList := ⟨4, 0⟩ }.peek ((run 1).cfg.noteList + 8)).toNat)
    ∧ ((begun (run 1) 5 1 0 (List.replicate 57 0)).hasStep 0 5 4096 = true
      ∧ 56 < ((begun (run 1) 5 1 0 (List.replicate 57 0)).stepAt 4096).payload.length)
    ∧ ((begun (run 1) 5 1 0 (List.replicate 56 0)).hasStep 0 5 4096 = true
      ∧ ((begun (run 1) 5 1 0 (List.replicate 56 0)).stepAt 4096).payload.length ≤ 56
      ∧ ((begun (run 1) 5 1 0 (List.replicate 56 0)).header 4096).target = (run 1).cfg.id.val)
    ∧ (((begun (run 1) 5 2 0 [1]).header 4096).target = (2 : Fin 4).val ∧ (begun (run 1) 5 2 0 [1]).reachable 2 = false
      ∧ (begun (pathUp (run 1) 2 .east 1 1) 5 2 0 [1]).reachable 2 = true)
    ∧ ((begun (run 1) 5 15 0 [1]).hasStep 0 5 4096 = true ∧ ((begun (run 1) 5 15 0 [1]).header 4096).target = 15
      ∧ (begun (run 1) 5 15 0 [1]).svc.mayPlace .normal = true) := by decide +kernel

/-- A note of lane 0 to all. -/
def noteMsg : Message := { kind := 17, dest := 15, body := [1], producer := .note 0 }

/-- Lane 0 waits for room, a reply behind it. -/
def wantsRoom : State :=
  { (working (run 1) join0 (.sendNote 1)).modLane 0 (fun x => { x with held := some noteMsg }) with
    svc := { normalRoom := [.lane 0, .reply], replies := [noteMsg] } }

/-- A claim that waits for an entry of the pending request table. -/
def wantEntry : Want := { target := 0, kind := 4, body := [1, 2] }

/-- Lane 0 waits for an entry. -/
def wantsEntry : State :=
  { (working (run 1) join0 (.claim false 0 none)).modLane 0 (fun x => { x with want := some wantEntry }) with
    svc := { entryWait := [0, 4], requests := List.replicate 63 (reqOf 4 0) } }

theorem witness_RoomIsGranted :
    ((run 1).isRunning = true ∧ (run 1).svc.room .urgent = [])
    ∧ (wantsRoom.isRunning = true ∧ wantsRoom.svc.room .normal = [.lane 0, .reply] ∧ wantsRoom.svc.hasRoom .normal = true
      ∧ kindClass noteMsg.kind = .normal ∧ (wantsRoom.lane 0).held = some noteMsg ∧ wantsRoom.works 0 join0 (.sendNote 1) = true)
    ∧ ({ wantsRoom with svc := { wantsRoom.svc with normalRoom := [.reply] } }.svc.room .normal = [.reply]
      ∧ wantsRoom.svc.replies.find? (fun x => decide (kindClass x.kind = .normal)) = some noteMsg)
    ∧ (run 1).svc.entryWait = []
    ∧ (wantsEntry.isRunning = true ∧ wantsEntry.svc.entryWait = [0, 4] ∧ wantsEntry.svc.requests.length < 64
      ∧ (wantsEntry.lane 0).want = some wantEntry ∧ wantsEntry.works 0 join0 (.claim false 0 none) = true
      ∧ wantsEntry.svc.mayPlace (kindClass wantEntry.kind) = true)
    ∧ ({} : Service).mayPlace (kindClass 17) = true
    ∧ (wantsRoom.svc.mayPlace (kindClass 17) = false ∧ wantsRoom.svc.replies.length < 32)
    ∧ 32 ≤ ({ normalRoom := [.reply], replies := List.replicate 32 noteMsg } : Service).replies.length := by decide +kernel

/-! ### Witnesses: the mix engine -/

/-- A send entry record. -/
def recordOf (mix source code : Nat) : Word := BitVec.ofNat 32 (mix + field source 8 + field code 16)

/-- The bytes of words. -/
def bytesOf (ws : List Word) : List Byte := ws.flatMap fun w => leBytes 4 w.toNat

/-- Mix 31 belongs to terminal 2. -/
def mixOf2 : State := (run 1).modMix 31 fun x => { x with controller := 2 }

/-- A live entry of source 3. -/
def sendOf (fading : Bool) : Send := { source := 3, code := 900, level := { value := 5 }, fading := fading }

theorem witness_SendRecordsFollowTable :
    ((recordOf 31 1 900).extractLsb' 0 8 = BitVec.ofNat 8 (31 : Fin 32).val
      ∧ (recordOf 159 1 900).extractLsb' 0 8 = BitVec.ofNat 8 (128 + (31 : Fin 32).val))
    ∧ ((∀ e ∈ ({} : Mix).sends, e.source ≠ 3) ∧ ({} : Mix).steadySends < 48
      ∧ ({} : Mix).sends.Pairwise (fun a b => a.source.toNat < b.source.toNat)
      ∧ 48 ≤ ({ sends := List.replicate 48 { sendOf false with source := 4 } } : Mix).steadySends)
    ∧ (({ sends := [sendOf false] } : Mix).sends = [] ++ sendOf false :: [] ∧ (sendOf false).source = 3
      ∧ (sendOf false).fading = false ∧ (sendOf true).fading = true
      ∧ ({ sends := [sendOf true] } : Mix).steadySends < 48) := by decide +kernel

theorem witness_MixSendsAreAnswered :
    ((run 1).isRunning = true ∧ 31 < (sendRecord (recordOf 32 1 900)).mixByte)
    ∧ ((sendRecord (recordOf 31 1 900)).mixByte = (31 : Fin 32).val ∧ ((run 1).mixRec 31).controller ≠ 2)
    ∧ (mixOf2.isRunning = true ∧ (mixOf2.mixRec 31).controller = 2 ∧ (mixOf2.mixRec 31).staged = none
      ∧ ((mixOf2.mixRec 31).applySend mixOf2.poolFree 1 900 false).2 = true)
    ∧ (sendRecord (recordOf 159 1 900)).mixByte = 128 + (31 : Fin 32).val := by decide +kernel

/-- A SET MIX step of one entry here. -/
def setMixStep (mix controller : Byte) : State :=
  begun (run 1) 10 1 0 [mix, 1, controller, 0, 0xE8, 3, 0, 0, 1, 0, 0, 0]

theorem witness_MixSetTakesValues :
    ((run 1).isRunning = true ∧ 31 < (32 : Byte).toNat ∧ (31 : Byte).toNat = (31 : Fin 32).val
      ∧ ((run 1).mixRec 31).controller ≠ 2 ∧ (mixOf2.mixRec 31).controller = 2
      ∧ (mixOf2.modMix 31 fun x => { x with active := true }).isRunning = true
      ∧ ((mixOf2.modMix 31 fun x => { x with active := true }).mixRec 31).active = true)
    ∧ ((setMixStep 32 3).hasStep 0 10 4096 = true
      ∧ ((chunks 12 ((setMixStep 32 3).stepAt 4096).payload).any fun e => decide (31 < (byteAt e 0).toNat)) = true)
    ∧ (12 ≤ ((setMixStep 31 254).stepAt 4096).payload.length ∧ ((setMixStep 31 254).stepAt 4096).payload.length < 24
      ∧ (byteAt ((setMixStep 31 254).stepAt 4096).payload 0).toNat = (31 : Fin 32).val
      ∧ 3 < (byteAt ((setMixStep 31 254).stepAt 4096).payload 2).toNat
      ∧ byteAt ((setMixStep 31 254).stepAt 4096).payload 2 ≠ 255)
    ∧ ((setMixStep 31 3).hasStep 0 10 4096 = true
      ∧ (byteAt ((setMixStep 31 3).stepAt 4096).payload 2).toNat = (3 : Fin 4).val
      ∧ ((setMixStep 31 3).header 4096).target = (setMixStep 31 3).cfg.id.val
      ∧ byteAt ((setMixStep 31 255).stepAt 4096).payload 2 = 255) := by decide +kernel

/-- A LOAD SENDS or STAGE SCENE step here. -/
def sendStep (kind : Nat) (ws : List Word) : State := begun (run 1) kind 1 0 (bytesOf ws)

/-- Its records. -/
def recordsOf (s : State) : List SendRecord := (chunks 4 (s.stepAt 4096).payload).map fun r => sendRecord (wordAt r 0)

theorem witness_MixStepsAct :
    ((sendStep 11 [recordOf 32 7 600]).hasStep 0 11 4096 = true
      ∧ ((chunks 4 ((sendStep 11 [recordOf 32 7 600]).stepAt 4096).payload).any fun r =>
          decide (31 < (byteAt r 0).toNat)) = true)
    ∧ ((sendStep 11 [recordOf 31 7 600]).hasStep 0 11 4096 = true
      ∧ ((sendStep 11 [recordOf 31 7 600]).stepAt 4096).payload.length = 4
      ∧ (sendRecord (wordAt ((sendStep 11 [recordOf 31 7 600]).stepAt 4096).payload 0)).mixByte = (31 : Fin 32).val
      ∧ ((sendStep 11 [recordOf 31 7 600]).header 4096).target = (run 1).cfg.id.val)
    ∧ ((sendStep 12 []).hasStep 0 12 4096 = true ∧ recordsOf (sendStep 12 []) = [])
    ∧ (((recordsOf (sendStep 12 [recordOf 127 7 600])).map fun r => r.mixByte) = [127]
      ∧ ((recordsOf (sendStep 12 [recordOf 160 7 600])).map fun r => r.mixByte) = [160]
      ∧ ((recordsOf (sendStep 12 [recordOf 159 7 600, recordOf 30 9 1])).map fun r => r.mixByte) = [159, 30])
    ∧ ((sendStep 12 [recordOf 159 7 600, recordOf 31 9 1]).hasStep 0 12 4096 = true
      ∧ ((recordsOf (sendStep 12 [recordOf 159 7 600, recordOf 31 9 1])).map fun r => r.mixByte) = [128 + 31, 31]
      ∧ ((sendStep 12 [recordOf 159 7 600, recordOf 31 9 1]).header 4096).target = (run 1).cfg.id.val
      ∧ (run 1).mix.poolUsed + 1 ≤ 1024)
    ∧ (begun (run 1) 14 1 1 (List.replicate 512 1)).hasStep 0 14 4096 = true := by decide +kernel

/-- A cue for a frame. -/
def cueAt (frame : Word) : CueSpec := { now := false, frame := frame, fade := 64 }

/-- Mix 5 has a cue with record 2. -/
def cued (frame : Word) (requester : CueRequester) (outstanding : Nat) (staged : Option Scene) : State :=
  { ((run 1).modMix 5 fun x => { x with cue := some { spec := cueAt frame, record := 2 }, staged := staged }) with
    mix.records := (run 1).mix.records.set 2
      (some { requester := requester, outstanding := outstanding, applied := 0, refused := 0, reason := 0 }) }

/-- A staged scene of one source. -/
def sceneOf (complete : Bool) : Scene := { sends := [(3, 900)], master := 800, complete := complete, source := 1 }

/-- Every cue request record is taken. -/
def allTaken (s : State) : State :=
  let taken : Option CueRequest := some { requester := .button, outstanding := 1, applied := 0, refused := 0, reason := 0 }
  { s with mix := { s.mix with records := Vector.replicate 16 taken } }

/-- A CUE SCENE step of mix 31, for frame 9, here. -/
def cueStep : State := begun (run 1) 13 1 0 [0, 0, 0, 0x80, 0, 0, 0, 0, 9, 0, 0, 0, 0, 0xFF, 0xFF, 0]

/-- Lane 0 waits for a cue request record. -/
def cueWaits : State :=
  { working (run 1) join0 (.cueScene 0x20 (cueAt 9) none) with mix := { (run 1).mix with cueWait := [0, 3] } }

theorem witness_CuesAreTaken :
    ((run 1).isRunning = true ∧ (∀ k : Fin 32, (0x80000000 : Word).getLsbD k.val = decide (k = 31))
      ∧ 4800 < ((4801 : Word) - (run 1).clock.frame).toInt ∧ ((4800 : Word) - (run 1).clock.frame).toInt ≤ 4800
      ∧ ((run 1).mixRec 31).controller ≠ 2 ∧ (mixOf2.mixRec 31).controller = 2
      ∧ (allTaken mixOf2).takeRecord? = none ∧ ((allTaken mixOf2).mixRec 31).controller = 2
      ∧ mixOf2.takeRecord? = some 0 ∧ (mixOf2.mixRec 31).cue = none)
    ∧ ((begun (run 1) 13 1 0 (List.replicate 16 0)).hasStep 0 13 4096 = true
      ∧ wordAt ((begun (run 1) 13 1 0 (List.replicate 16 0)).stepAt 4096).payload 0 = 0)
    ∧ (cueStep.hasStep 0 13 4096 = true ∧ (cueStep.header 4096).target = cueStep.cfg.id.val
      ∧ (∀ k : Fin 32, (wordAt (cueStep.stepAt 4096).payload 0).getLsbD k.val = decide (k = 31))
      ∧ cueStep.takeRecord? = some 0 ∧ (cueStep.mixRec 31).cue = none
      ∧ (allTaken cueStep).takeRecord? = none)
    ∧ (cueWaits.mix.cueWait = [0, 3] ∧ cueWaits.freeRecord? = some 0
      ∧ cueWaits.works 0 join0 (.cueScene 0x20 (cueAt 9) none) = true
      ∧ (∀ k : Fin 32, (0x20 : Word).getLsbD k.val = decide (k = 5)) ∧ (cueWaits.mixRec 5).cue = none)
    ∧ ((cued 0 .button 2 (some (sceneOf true))).isRunning = true
      ∧ ((cued 0 .button 2 (some (sceneOf true))).mixRec 5).cue = some { spec := cueAt 0, record := 2 }
      ∧ (cued 0 .button 2 (some (sceneOf true))).mix.records.get 2
          = some { requester := .button, outstanding := 2, applied := 0, refused := 0, reason := 0 }
      ∧ (cued 0 .button 2 (some (sceneOf true))).merge.playedNow = false ∧ later 0 (run 1).clock.frame = false
      ∧ ((cued 0 .button 2 (some (sceneOf true))).mixRec 5).staged = some (sceneOf true))
    ∧ (((cued 0 (.remote 2 tag2) 1 none).mixRec 5).staged = none
      ∧ (cued 0 (.remote 2 tag2) 1 none).mix.records.get 2
          = some { requester := .remote 2 tag2, outstanding := 1, applied := 0, refused := 0, reason := 0 })
    ∧ ((∀ t ∈ (sceneOf true).sends, t.1 ≠ (7 : Byte)) ∧ ((3 : Byte), 900) ∈ (sceneOf true).sends
      ∧ (∀ t ∈ (sceneOf true).sends, t.1 = 3 → t.2 = 900)) := by decide +kernel

/-! ### Witnesses: the talk unit -/

/-- A talker with a rank. -/
def talker (t : Fin 4) (rank : Nat) : Present := ⟨t, rank⟩

theorem witness_InsertsAreArbitrated :
    (((Machine.Insert.mk (some (talker 0 3)) [talker 1 3, talker 2 1]).waiting.Pairwise fun a b => b.rank ≤ a.rank)
      ∧ (([talker 0 3, talker 1 3, talker 2 1].map fun p => p.talker).Nodup))
    ∧ ((talker 1 3) ∈ [talker 0 3, talker 1 3, talker 2 1] ∧ (talker 1 3).talker = 1)
    ∧ ((∀ p ∈ [talker 0 3, talker 1 3, talker 2 1], p.talker ≠ 3) ∧ (talker 0 3).rank < 4 ∧ 3 ≤ (talker 0 3).rank)
    ∧ (Machine.Insert.mk none []).holder = none
    ∧ (talker 0 3).talker = 0
    ∧ [talker 1 3, talker 2 1] = [talker 1 3] ++ talker 2 1 :: [] := by decide

/-- Mix 5 is active, and terminal 2's group 3 has asked for it and for mix 6. -/
def opened : State := ((run 1).modMix 5 fun x => { x with active := true }).takeOpen 2 3 9 0x60

theorem witness_TalkersEnterAndLeave :
    ((run 1).isRunning = true ∧ 7 < (8 : Byte).toNat ∧ (3 : Byte).toNat = (3 : Fin 8).val ∧ (2 : Fin 4) ≠ (run 1).cfg.id)
    ∧ opened.isRunning = true ∧ opened.flagged? 2 = some 3 := by decide +kernel

/-- A target. -/
def targetOf' (terminal : Fin 4) (mix : Fin 32) (state : TargetState) : Target :=
  { terminal := terminal, mix := mix, state := state }

/-- Group 7 is open with targets at terminals 2 and 3; those of a set have answered. -/
def openGroup (answered : BitVec 4) (waited : Nat) : State :=
  ((run 1).modGroup 7 fun y => { y with
    targets := [targetOf' 2 3 .closed, targetOf' 3 3 .held, targetOf' 2 4 .held], lanes := true, seq := 9
    answered := answered }).modGroup 7 fun y => y.modOutbox 2 fun e => { e with waited := some waited, told := some 9 }

theorem witness_TalkAnswersAct :
    ((openGroup 8 0).isRunning = true ∧ 7 < (8 : Byte).toNat ∧ (7 : Byte).toNat = (7 : Fin 8).val
      ∧ ((run 1).group 7).isOpen = false ∧ ((openGroup 8 0).group 7).seq ≠ 8
      ∧ (∀ x ∈ ((openGroup 8 0).group 7).targets, x.terminal ≠ 0))
    ∧ (((openGroup 8 0).group 7).isOpen = true ∧ ((openGroup 8 0).group 7).seq = 9
      ∧ (∃ x ∈ ((openGroup 8 0).group 7).targets, x.terminal = 2))
    ∧ ∀ n ∈ [9599, 9600], ((openGroup 8 n).group 7).isAnswered 2 = false
      ∧ (((openGroup 8 n).group 7).outbox.get 2).waited = some n := by decide +kernel

/-- A SET TALK GROUP step. -/
def groupStep (s : State) (b : List Byte) : State := begun s 15 1 0 b

theorem witness_TalkStepsAct_groups :
    ((groupStep (run 1) [8, 0]).hasStep 0 15 4096 = true ∧ 7 < (byteAt ((groupStep (run 1) [8, 0]).stepAt 4096).payload 0).toNat)
    ∧ ((groupStep (run 1) [7, 1, 0]).hasStep 0 15 4096 = true
      ∧ ((groupStep (run 1) [7, 1, 0]).stepAt 4096).payload = [7, 1, 0] ∧ ([7, 1, 0] : List Byte).length < 2 + 2 * 1)
    ∧ ((groupStep (run 1) [7, 1, 0, 32]).stepAt 4096).payload = [7, 1, 0, 32]
    ∧ (31 < (byteAt [7, 1, 0, 32] 3).toNat ∧ ([7, 1, 0, 32] : List Byte).length = 2 + 2 * 1)
    ∧ ((groupStep (run 1) [7, 2, 0, 31, 0, 31]).stepAt 4096).payload = [7, 2, 0, 31, 0, 31]
    ∧ ¬ [targetOf' 0 31 .closed, targetOf' 0 31 .closed].Nodup
    ∧ ((groupStep (run 1) [7, 2, 0, 31, 3, 0]).hasStep 0 15 4096 = true
      ∧ ((groupStep (run 1) [7, 2, 0, 31, 3, 0]).stepAt 4096).payload = [7, 2, 0, 31, 3, 0]
      ∧ [targetOf' 0 31 .closed, targetOf' 3 0 .closed].Nodup
      ∧ ((groupStep (openGroup 8 0) [7, 2, 0, 31, 3, 0]).group 7).isOpen = true
      ∧ ((groupStep (run 1) [7, 2, 0, 31, 3, 0]).group 7).isOpen = false
      ∧ (0 : Fin 4).val = (byteAt [7, 2, 0, 31, 3, 0] 2).toNat ∧ (31 : Fin 32).val = (byteAt [7, 2, 0, 31, 3, 0] 3).toNat
      ∧ (3 : Fin 4).val = (byteAt [7, 2, 0, 31, 3, 0] 4).toNat ∧ (0 : Fin 32).val = (byteAt [7, 2, 0, 31, 3, 0] 5).toNat) := by
  decide +kernel

/-- A TALK step of group 7 on a group whose answers are these, or of a closed one. -/
def talkStep (answered : BitVec 4) (param : Nat) : State :=
  begun ((openGroup answered 0).modGroup 7 fun y => { y with buttons := 1, lanes := false }) 18 1 param []

theorem witness_TalkStepsAct :
    ((begun (run 1) 16 1 0 [7, 2, 0]).hasBegun 0 4096 = true ∧ ((begun (run 1) 16 1 0 [7, 2, 0]).header 4096).kind = 16
      ∧ ((begun (run 1) 16 1 0 [7, 2, 0]).header 4096).fault = none
      ∧ ((begun (run 1) 16 1 0 [7, 2, 0]).header 4096).gather = false
      ∧ ((begun (run 1) 16 1 0 [7, 2, 0]).stepAt 4096).payload.length < 4)
    ∧ ((begun (run 1) 16 1 0 [8, 255, 7, 254]).hasBegun 0 4096 = true
      ∧ ((begun (run 1) 16 1 0 [8, 255, 7, 254]).header 4096).kind = 16
      ∧ ((begun (run 1) 16 1 0 [8, 255, 7, 254]).header 4096).fault = none
      ∧ 4 ≤ ((begun (run 1) 16 1 0 [8, 255, 7, 254]).stepAt 4096).payload.length)
    ∧ ((talkStep 12 264).hasStep 0 18 4096 = true ∧ 7 < (((talkStep 12 264).stepAt 4096).param.extractLsb' 0 8).toNat)
    ∧ ((talkStep 12 7).hasStep 0 18 4096 = true
      ∧ (((talkStep 12 7).stepAt 4096).param.extractLsb' 0 8).toNat = (7 : Fin 8).val
      ∧ ((talkStep 12 7).stepAt 4096).param.getLsbD 8 = false ∧ ((talkStep 12 7).group 7).buttons ≠ 0)
    ∧ ((talkStep 12 263).hasStep 0 18 4096 = true ∧ ((talkStep 12 263).stepAt 4096).param.getLsbD 8 = true
      ∧ (((talkStep 12 263).stepAt 4096).param.extractLsb' 0 8).toNat = (7 : Fin 8).val
      ∧ ((talkStep 12 263).group 7).isOpen = true ∧ (talkStep 12 263).talkQuiet = true
      ∧ (∀ t ∈ ((talkStep 12 263).group 7).targets, ((talkStep 12 263).group 7).isAnswered t.terminal = true))
    ∧ ((talkStep 8 263).talkQuiet = true
      ∧ ∃ t ∈ ((talkStep 8 263).group 7).targets, ((talkStep 8 263).group 7).isAnswered t.terminal = false) := by
  decide +kernel

/-- Button 7 with a level, a count and a state. -/
def buttonAt (level sampled : Bool) (count : Nat) (state : ButtonState) (pressFrames : Nat) : State :=
  ({ run 1 with passed := 2 }.modGroup 7 fun y => { y with buttons := 0x84, targets := [targetOf' 1 3 .closed] }).modButton 7 fun x => { x with
    level := level, sampled := sampled, count := count, state := state, pressFrames := pressFrames }

/-- A SET BUTTON step of one entry. -/
def buttonStep (b0 b1 b2 b3 b4 b5 : Byte) : State :=
  begun (run 1) 17 1 0 [b0, b1, b2, b3, b4, b5, 0, 0, 0x60, 0, 0, 0, 1, 0, 0, 0]

theorem witness_ButtonsAndLampsAct_debounce :
    ((buttonAt false true 0 .idle 0).isRunning = true ∧ ((buttonAt false true 0 .idle 0).button 7).sampled = true
      ∧ 1 < (buttonAt false true 0 .idle 0).passed)
    ∧ ((buttonAt false false 0 .idle 0).button 7).sampled = false ∧ false = ((buttonAt false false 0 .idle 0).button 7).level
    ∧ (true ≠ ((buttonAt false false 478 .idle 0).button 7).level ∧ ((buttonAt false false 478 .idle 0).button 7).count + 1 < 480)
    ∧ (480 ≤ ((buttonAt false false 479 .idle 0).button 7).count + 1
      ∧ ((buttonAt false false 479 .idle 0).button 7).action = .none
      ∧ ((buttonAt false false 479 .idle 0).button 7).notify = false
      ∧ (∀ l : Fin 16, (buttonAt false false 479 .idle 0).op? l = none)
      ∧ ∀ l : Fin 16, (buttonAt false false 479 .idle 0).sweep l = none) := by decide +kernel

theorem witness_ButtonsAndLampsAct :
    ((2 : Fin 8) ≠ 7 ∧ ((buttonAt true false 0 .idle 0).group 7).buttons.getLsbD (2 : Fin 8).val = true
      ∧ ((buttonAt true false 0 .idle 0).button 7).state = .idle)
    ∧ (((buttonAt true false 0 .talking 19201).button 7).state = .talking
      ∧ 19200 < ((buttonAt true false 0 .talking 19201).button 7).pressFrames
      ∧ ((buttonAt true false 0 .talking 19200).button 7).pressFrames ≤ 19200
      ∧ ((buttonAt true false 0 .latched 0).button 7).state = .latched)
    ∧ ((run 1).talk.flashAge < 12000
      ∧ 12000 ≤ { run 1 with talk := { (run 1).talk with flashAge := 12000 } }.talk.flashAge)
    ∧ ((buttonStep 8 0 0 0 0 0).hasStep 0 17 4096 = true
      ∧ 16 ≤ ((buttonStep 8 0 0 0 0 0).stepAt 4096).payload.length ∧ ((buttonStep 8 0 0 0 0 0).stepAt 4096).payload.length < 32
      ∧ (byteAt ((buttonStep 8 0 0 0 0 0).stepAt 4096).payload 0).extractLsb' 3 4 ≠ 0)
    ∧ (byteAt ((buttonStep 0x87 3 3 0 0 0).stepAt 4096).payload 0 = BitVec.ofNat 8 (128 + (7 : Fin 8).val)
      ∧ lampOf ((buttonStep 0x87 3 3 0 0 0).stepAt 4096).payload = some (.origin 3)
      ∧ lampOf ((buttonStep 0x87 3 4 0 0 0).stepAt 4096).payload = none)
    ∧ (byteAt ((buttonStep 7 5 0 0 0 0).stepAt 4096).payload 0 = BitVec.ofNat 8 (7 : Fin 8).val
      ∧ detectionOf (byteAt ((buttonStep 7 5 0 0 0 0).stepAt 4096).payload 1) = none)
    ∧ (detectionOf (byteAt ((buttonStep 7 2 1 0 7 2).stepAt 4096).payload 1) = some .both
      ∧ actionOf ((buttonStep 7 2 1 0 7 2).stepAt 4096).payload = some (.talk 7 .auto) ∧ needsRelease (.talk 7 .auto) = true)
    ∧ ((buttonStep 7 3 1 1 7 2).hasStep 0 17 4096 = true
      ∧ detectionOf (byteAt ((buttonStep 7 3 1 1 7 2).stepAt 4096).payload 1) = some .levelHigh
      ∧ actionOf ((buttonStep 7 3 1 1 7 2).stepAt 4096).payload = some (.talk 7 .auto)
      ∧ (∀ g : Fin 8, ((buttonStep 7 3 1 1 7 2).group g).buttons.getLsbD (7 : Fin 8).val = false)
      ∧ standsPressed .levelHigh ((buttonStep 7 3 1 1 7 2).button 7).level = false) := by decide +kernel

/-! ### Witnesses: ports and the supervisor -/

/-- West in a state, with its times and flaps, at frame 480,000 of the run. -/
def westAt (x : PortState) (timer absent : Nat) (flaps : List Nat) (dark : Bool) : State :=
  { portIn (run 1) .west x (fun r => { r with timer := timer, absent := absent, flaps := flaps, darkReported := dark }) with
    passed := 480000 }

theorem witness_PortEventsMovePorts :
    ((westAt .up 0 0 [0, 5] false).isRunning = true ∧ ((westAt .up 0 0 [0, 5] false).port .west).state = .up
      ∧ (((westAt .up 0 0 [0, 5] false).port .west).flaps.filter fun f => decide (480000 < f + 480000)).length < 2
      ∧ (westAt .up 0 0 [0, 5] false).passed = 480000)
    ∧ (((westAt .qualify 0 0 [1, 5] false).port .west).state = .qualify
      ∧ 2 ≤ (((westAt .qualify 0 0 [1, 5] false).port .west).flaps.filter fun f => decide (480000 < f + 480000)).length)
    ∧ (((westAt .dark 47999 0 [] false).port .west).state = .dark ∧ ((westAt .dark 47999 0 [] false).port .west).timer < 48000
      ∧ 48000 ≤ ((westAt .dark 48000 0 [] false).port .west).timer)
    ∧ (((looping .testerNear none 0).port .west).loop = some (loopOf .testerNear none)
      ∧ ((looping .returner none 0).port .west).loop = some (loopOf .returner none)
      ∧ ((looping .returner none 0).port .west).state = .loop)
    ∧ (((westAt .acquire 0 4799 [] false).port .west).absent < 4800
      ∧ ((westAt .acquire 0 4800 [] false).port .west).state = .acquire
      ∧ 4800 ≤ ((westAt .acquire 0 4800 [] false).port .west).absent
      ∧ ((westAt .acquire 0 4800 [] false).port .west).darkReported = false
      ∧ ((westAt .acquire 0 4800 [] true).port .west).darkReported = true)
    ∧ (((westAt .quarantine 95999 0 [] false).port .west).timer < 96000
      ∧ ((westAt .quarantine 96000 0 [] false).port .west).state = .quarantine
      ∧ 96000 ≤ ((westAt .quarantine 96000 0 [] false).port .west).timer) := by decide +kernel

/-- The eastward direction closed, for a number of frames. -/
def closedFor (n : Nat) : State := (run 1).setClosure .eastward { closed := true, hop := 3, since := n }

theorem witness_PathsAndFlagsTimeOut :
    ((run 1).isRunning = true ∧ ((pathUp (run 1) 3 .west 2 31).sup.path 3 .west).up = true
      ∧ ((pathUp (run 1) 3 .west 2 31).sup.path 3 .west).since = some 31
      ∧ ((pathUp (run 1) 3 .west 2 32).sup.path 3 .west).since = some 32 ∧ (3 : Fin 4) ≠ (run 1).cfg.id
      ∧ ((pathUp (pathUp (run 1) 3 .west 2 32) 3 .east 1 1).sup.path 3 (Port.west).other).up = true
      ∧ (run 1).clock.source ≠ some 3 ∧ ((run 1).sup.path 3 .west).up = false)
    ∧ (((closedFor 31).sup.closure .eastward).since < 32 ∧ ((closedFor 32).sup.closure .eastward).closed = true
      ∧ 32 ≤ ((closedFor 32).sup.closure .eastward).since)
    ∧ ((portIn (run 1) .west .up fun r => { r with conflictReported := true, conflictQuiet := 48000 }).isRunning = true
      ∧ ((portIn (run 1) .west .up fun r => { r with conflictReported := true, conflictQuiet := 48000 }).port .west).conflictReported
          = true
      ∧ 48000 ≤ ((portIn (run 1) .west .up fun r => { r with
          conflictReported := true, conflictQuiet := 48000 }).port .west).conflictQuiet) := by decide +kernel

/-- A LOOP TEST step. -/
def loopStep (s : State) (port mode : Byte) (duration : Nat) : State :=
  begun s 19 0 0 ([port, mode, 0, 0] ++ leBytes 4 duration ++ List.replicate 20 7)

/-- West UP toward neighbour 2, reached on both ports. -/
def neighboured : State :=
  pathUp (pathUp (portIn (run 1) .west .up fun r => { r with qualifyOrigin := some 2 }) 2 .west 0 1) 2 .east 1 1

theorem witness_LoopTestsRun_steps :
    ((loopStep (run 1) 2 0 0).hasStep 0 19 4096 = true
      ∧ (byteAt ((loopStep (run 1) 2 0 0).stepAt 4096).payload 0).toNat > 1)
    ∧ ((byteAt ((loopStep (run 1) 1 2 0).stepAt 4096).payload 0).toNat ≤ 1
      ∧ (byteAt ((loopStep (run 1) 1 2 0).stepAt 4096).payload 1).toNat > 1)
    ∧ (byteAt ((loopStep (looping .returner none 0) 1 0 0).stepAt 4096).payload 0 = portByte .west
      ∧ ((loopStep (looping .returner none 0) 1 0 0).port .west).state = .loop)
    ∧ ((loopStep (run 1) 1 1 0).hasStep 0 19 4096 = true ∧ byteAt ((loopStep (run 1) 1 1 0).stepAt 4096).payload 1 = 1
      ∧ ((loopStep (run 1) 1 1 0).port .west).state = .dark
      ∧ (∀ o : Fin 4, ((loopStep (run 1) 1 1 0).sup.path o .west).up = false))
    ∧ ((loopStep (run 1) 1 0 47).hasStep 0 19 4096 = true ∧ byteAt ((loopStep (run 1) 1 0 47).stepAt 4096).payload 1 = 0
      ∧ ((loopStep (run 1) 1 0 47).port .west).state ≠ .up
      ∧ max 48 (min (wordAt ((loopStep (run 1) 1 0 47).stepAt 4096).payload 4).toNat 480000) = 48)
    ∧ ((loopStep neighboured 1 1 480001).hasStep 0 19 4096 = true
      ∧ byteAt ((loopStep neighboured 1 1 480001).stepAt 4096).payload 1 = 1
      ∧ ((loopStep neighboured 1 1 480001).port .west).state = .up
      ∧ (loopStep neighboured 1 1 480001).neighbour .west = some 2 ∧ (loopStep neighboured 1 1 480001).entryFree = true
      ∧ (loopStep neighboured 1 1 480001).svc.mayPlace .normal = true
      ∧ (∀ o : Fin 4, o ≠ 1 → ((loopStep neighboured 1 1 480001).sup.path o .west).up = true →
          ((loopStep neighboured 1 1 480001).sup.path o (Port.west).other).up = true)) := by decide +kernel

/-- The far end of a test of lane 0 whose time is up. -/
def windowOver : State :=
  (working (looping .testerFar (some 0) 48) { join0 with segments := [(8192, 28)] } (.loopTest .west 48)).store 8192
    (List.replicate 28 9)

theorem witness_LoopTestsRun :
    ((run 1).isRunning = true ∧ 1 < (2 : Byte).toNat ∧ (0 : Byte) = portByte .east
      ∧ (neighboured.port (Port.east).other).state = .up ∧ neighboured.neighbour (Port.east).other = some 2
      ∧ (neighboured.port .east).state ≠ .loop
      ∧ (∀ o : Fin 4, o ≠ 1 → (neighboured.sup.path o .west).up = true → (neighboured.sup.path o .east).up = true)
      ∧ ((run 1).port (Port.east).other).state ≠ .up)
    ∧ ({ working neighboured join0 (.loopTest .west 100) with svc := { requests := [reqOf 15 0] } }.works 0 join0
        (.loopTest .west 100) = true
      ∧ { working neighboured join0 (.loopTest .west 100) with svc := { requests := [reqOf 15 0] } }.answered? reqTag 16
        = some (reqOf 15 0))
    ∧ (windowOver.isRunning = true ∧ (windowOver.port .west).loop = some (loopOf .testerFar (some 0))
      ∧ (loopOf .testerFar (some 0)).duration ≤ (windowOver.port .west).timer
      ∧ windowOver.works 0 { join0 with segments := [(8192, 28)] } (.loopTest .west 48) = true
      ∧ 8192 + 28 ≤ Config.ramSize ∧ 0 < windowOver.cfg.faultCapacity
      ∧ outsideArea 8192 windowOver.cfg.faultLog (16 + 32 * windowOver.cfg.faultCapacity) = true
      ∧ ¬ 8192 < windowOver.cfg.faultLog)
    ∧ (((looping .returner none 9648).port .west).loop = some (loopOf .returner none)
      ∧ (loopOf .returner none).duration + 9600 ≤ ((looping .returner none 9648).port .west).timer)
    ∧ (((looping .testerNear none 47).port .west).loop = some (loopOf .testerNear none)
      ∧ ((looping .testerNear none 47).port .west).timer < (loopOf .testerNear none).duration)
    ∧ ((looping .returner none 9647).port .west).timer < (loopOf .returner none).duration + 9600 := by decide +kernel

/-! ### Witnesses: the meter unit, the word clock, the invariant -/

/-- A METER step: mode, place, count, and its channels. -/
def meterStep (mode place count : Byte) (channels : List Word) : State :=
  begun (run 1) 20 0 0 ([mode, place, count, 0] ++ leBytes 4 47 ++ leBytes 4 0x3000 ++ [3, 1, 0, 0] ++ leBytes 4 6
    ++ [9, 9, 9, 9] ++ bytesOf channels)

/-- A sweep of nine channels. -/
def nine : Sweep :=
  { mode := .sweep, latest := false, window := 48, address := 0x3000,
    channels := (List.range 9).map fun i => BitVec.ofNat 32 (1 + 256 * i), state := .queued, trigger := none }

/-- Lane 0 sweeps. -/
def sweeping (x : Sweep) (due : Bool) (detectors : Bank 8 (Option Measuring)) : State :=
  { working (run 1) { join0 with segments := [(8192, 60)] } .meter with
    meter := { queue := [0], sweeps := (Vector.replicate 16 none).set 0 (some x), passDue := due, detectors := detectors } }

/-- A detector at its position with the samples it has left. -/
def measuring (position left : Nat) : Measuring :=
  { position := position, channel := 0x701, start := 0, left := left, peak := 99, overs := 3 }

/-- One detector measures. -/
def oneMeasures (k : Fin 8) (d : Measuring) : Bank 8 (Option Measuring) := (Vector.replicate 8 none).set k (some d)

/-- A sweep whose frame trigger is 5. -/
def armed : Sweep := { nine with mode := .triggered, state := .armed, trigger := some (.frame 5) }

theorem witness_MeterSweepsRun :
    ((meterStep 1 0 3 [1, 1]).hasStep 0 20 4096 = true
      ∧ ((meterStep 1 0 3 [1, 1]).stepAt 4096).payload.length < 24 + 4 * 3)
    ∧ ((meterStep 1 0 0 [1, 1]).hasStep 0 20 4096 = true ∧ byteAt ((meterStep 1 0 0 [1, 1]).stepAt 4096).payload 2 = 0
      ∧ 24 + 4 * 65 ≤ ((meterStep 1 0 65 (List.replicate 65 1)).stepAt 4096).payload.length)
    ∧ ((meterStep 1 0 2 [1, 0x101]).hasStep 0 20 4096 = true
      ∧ 24 + 4 * 2 ≤ ((meterStep 1 0 2 [1, 0x101]).stepAt 4096).payload.length
      ∧ meterFault ((meterStep 1 0 2 [1, 0x101]).stepAt 4096).payload = none
      ∧ meterMode ((meterStep 1 0 2 [1, 0x101]).stepAt 4096).payload = some .sweep)
    ∧ ((sweeping nine true (Vector.replicate 8 none)).isRunning = true
      ∧ (sweeping nine true (Vector.replicate 8 none)).meter.queue = [0]
      ∧ (sweeping nine true (Vector.replicate 8 none)).sweep 0 = some nine
      ∧ (sweeping nine true (Vector.replicate 8 none)).meter.passDue = true
      ∧ (sweeping nine true (Vector.replicate 8 none)).meter.allFree = true
      ∧ (sweeping nine false (Vector.replicate 8 none)).meter.passDue = false)
    ∧ ((sweeping nine false (oneMeasures 7 (measuring 7 1))).meter.detectors.get 7 = some (measuring 7 1)
      ∧ (measuring 7 1).left ≠ 0)
    ∧ ((sweeping { nine with next := 8 } false (oneMeasures 7 (measuring 7 0))).meter.detectors.get 7 = some (measuring 7 0)
      ∧ (measuring 7 0).left = 0 ∧ 8 < nine.channels.length ∧ nine.recordAddress 7 + 24 ≤ Config.ramSize)
    ∧ ((sweeping { nine with next := 9 } false (oneMeasures 7 (measuring 8 0))).sweep 0 = some { nine with next := 9 }
      ∧ nine.channels.length ≤ 9
      ∧ (∀ i : Fin 8, i ≠ 7 →
          (sweeping { nine with next := 9 } false (oneMeasures 7 (measuring 8 0))).meter.detectors.get i = none)
      ∧ nine.mode = .sweep
      ∧ (sweeping { nine with next := 9 } false (oneMeasures 7 (measuring 8 0))).works 0
          { join0 with segments := [(8192, 60)] } .meter = true)
    ∧ ((sweeping armed false (Vector.replicate 8 none)).sweep 0 = some armed ∧ armed.trigger = some (.frame 5)
      ∧ armed.state = .armed ∧ later 5 (runAt 1 5).clock.frame = false ∧ later 5 (runAt 1 4).clock.frame = true) := by
  decide +kernel

theorem witness_WordClockGovernsStage :
    ((run 0).resetLow = false ∧ (run 0).conv.wordClock = false ∧ (run 0).isRunning = true ∧ (run 0).cfg.id = 0)
    ∧ ({ run 0 with conv := { (run 0).conv with wordClock := true, edges := .pulling } }.conv.wordClock = true
      ∧ { run 0 with conv := { (run 0).conv with wordClock := true, edges := .pulling } }.conv.edges = .pulling)
    ∧ (run 1).cfg.id ≠ 0 := by decide

theorem witness_StepKeepsInvariant : markStep.canonical = true ∧ markStep.heldInReset = true := by decide +kernel

/-- A step from there is a next state. -/
theorem witness_StepKeepsInvariant_next : step markStep = .next markStep.idle := rfl

/-! ### Witnesses: the further clauses, each at the bounds of its range -/

/-- The good anchor with another word. -/
def anchorWith (i : Nat) (w : Word) : List Word := goodAnchor.set i w

/-- The offset of its area i. -/
def areaAt (ws : List Word) (i : Nat) : Nat := (ws.getD (4 + i) 0).toNat

/-- The sizes of its areas: it asks for the smallest capacities. -/
def areaSize (i : Nat) : Nat := [512, 1024, 256, 512, 272, 272].getD i 0

/-- The talk slot equal to the slot count; an area below 256, one a word past the RAM, one that ends with it, and two that meet. -/
theorem witness_BadAnchorIsRejected_checks :
    (((anchorWith 2 0x00404002).getD 2 0).toNat / 65536 % 256 ≠ 255
      ∧ ((anchorWith 2 0x00404002).getD 2 0).toNat / 256 % 256 ≤ ((anchorWith 2 0x00404002).getD 2 0).toNat / 65536 % 256)
    ∧ (areaSize 4 = 16 + 32 * max 8 (min ((goodAnchor.getD 10 0).toNat % 65536) 256)
      ∧ areaSize 5 = 16 + 64 * max 4 (min ((goodAnchor.getD 10 0).toNat / 65536) 64)
      ∧ ((goodAnchor.getD 2 0).toNat / 65536 % 256 < (goodAnchor.getD 2 0).toNat / 256 % 256
        ∧ (0x00FF4002 : Word).toNat / 65536 % 256 = 255))
    ∧ (areaAt (anchorWith 4 252) 0 < 256 ∧ areaAt (anchorWith 5 770) 1 % 4 ≠ 0
      ∧ 262144 < areaAt (anchorWith 9 261876) 5 + areaSize 5)
    ∧ (areaAt (anchorWith 5 764) 1 < areaAt (anchorWith 5 764) 0 + areaSize 0
      ∧ areaAt (anchorWith 5 764) 0 < areaAt (anchorWith 5 764) 1 + areaSize 1)
    ∧ ((∀ i ∈ List.range 6, areaAt (anchorWith 9 261872) i % 4 = 0 ∧ 256 ≤ areaAt (anchorWith 9 261872) i
        ∧ areaAt (anchorWith 9 261872) i + areaSize i ≤ 262144)
      ∧ (∀ i ∈ List.range 6, ∀ k ∈ List.range 6, i ≠ k →
          areaAt (anchorWith 9 261872) i + areaSize i ≤ areaAt (anchorWith 9 261872) k
          ∨ areaAt (anchorWith 9 261872) k + areaSize k ≤ areaAt (anchorWith 9 261872) i)
      ∧ verdictOf (anchorWith 9 261872) = .anchorOk ∧ verdictOf (anchorWith 2 0x00404002) = .badCount
      ∧ verdictOf (anchorWith 9 261876) = .badLayout) := by decide +kernel

/-- Lane 0 in a state, its cancel word set, and a scan due. -/
def cancelled (s : State) : State := { s with scanDue := true }.poke 264 1

/-- Lane 0 halted or parked. -/
def resting (x : LaneState) : State :=
  (run 1).modLane 0 fun y => { y with state := x, parked := if x = .parked then some 4096 else none }

theorem witness_CancelLeavesLaneIdle_scan :
    (∀ x ∈ [LaneState.parked, .halted], ∀ ws ∈ [[], [(0x3FFE0 : Word), 1]],
      ((cancelled (resting x)).pokeAll 256 ws).isRunning = true ∧ ((cancelled (resting x)).pokeAll 256 ws).scanDue = true
      ∧ 256 + 512 ≤ Config.ramSize ∧ ((cancelled (resting x)).pokeAll 256 ws).peek 264 ≠ 0
      ∧ (∀ k : Fin 16, k ≠ 0 → ((cancelled (resting x)).pokeAll 256 ws).peek (256 + 32 * k.val + 8) = 0
        ∧ ((cancelled (resting x)).pokeAll 256 ws).postCount k
          = (((cancelled (resting x)).pokeAll 256 ws).lane k).lastSeen)
      ∧ ((cancelled (resting x)).lane 0).activity = .none ∧ ((cancelled (resting x)).lane 0).state ≠ .running
      ∧ ((cancelled (resting x)).lane 0).state ≠ .idle
      ∧ (((cancelled (resting x)).pokeAll 256 ws).postCount 0 = ((cancelled (resting x)).lane 0).lastSeen ↔ ws = [])
      ∧ linkBad 0x3FFE0 = false)
    ∧ ((cancelled (waiting5 (.button 3) 0 7)).works 0 join0 (.wait (.button 3) 0) = true ∧ join0.steps = [4096]
      ∧ 256 + 512 ≤ 4096 ∧ (cancelled (waiting5 (.button 3) 0 7)).scanDue = true
      ∧ (∀ k : Fin 16, k ≠ 0 → (cancelled (waiting5 (.button 3) 0 7)).peek (256 + 32 * k.val + 8) = 0)
      ∧ ∀ k : Fin 16, (cancelled (waiting5 (.button 3) 0 7)).postCount k
          = ((cancelled (waiting5 (.button 3) 0 7)).lane k).lastSeen)
    ∧ (run 1).scanDue = false := by decide +kernel

/-- Lane 0 has begun a GATHER at 4096 that links to an address, with a step of a kind and a payload length at 4128. -/
def gathers (kind linked : Nat) (link : Word) (length : Nat) (payload : Word) : State :=
  ((begun (run 1) (kind + 512) 0 0 []).poke 4096 link).pokeAll 4128
    [0, BitVec.ofNat 32 linked, BitVec.ofNat 32 (field length 16), payload]

theorem witness_FaultyStepFinishesBadStep_gather :
    ((gathers 2 2 0 1 0x3FFFF).hasBegun 0 4096 = true ∧ ((gathers 2 2 0 1 0x3FFFF).header 4096).fault = none
      ∧ ((gathers 2 2 0 1 0x3FFFF).header 4096).gather = true ∧ ((gathers 2 2 0 1 0x3FFFF).header 4096).link = 0)
    ∧ ((gathers 2 2 0x3FFE4 1 0x3FFFF).hasBegun 0 4096 = true ∧ ((gathers 2 2 0x3FFE4 1 0x3FFFF).header 4096).fault = none
      ∧ ((gathers 2 2 0x3FFE4 1 0x3FFFF).header 4096).gather = true ∧ ((gathers 2 2 0x3FFE4 1 0x3FFFF).header 4096).link = 0x3FFE4)
    ∧ ((gathers 2 2 4128 1 0x3FFFF).hasBegun 0 4096 = true ∧ ((gathers 2 2 4128 1 0x3FFFF).header 4096).fault = none
      ∧ ((gathers 2 2 4128 1 0x3FFFF).header 4096).gather = true ∧ ((gathers 2 2 4128 1 0x3FFFF).header 4096).link = 4128)
    ∧ linkBad 5 = true ∧ linkBad 0x3FFE4 = true ∧ linkBad 4128 = false
    ∧ ((gathers 2 1 4128 0 0).header 4128).kind ≠ ((gathers 2 1 4128 0 0).header 4096).kind
    ∧ (((gathers 2 2 4128 2 0x3FFFF).header 4128).kind = ((gathers 2 2 4128 2 0x3FFFF).header 4096).kind
      ∧ ((gathers 2 2 4128 2 0x3FFFF).header 4128).fault = some 2)
    ∧ ((run 1).isRunning = true ∧ (run 1).entry 15 + 32 ≤ Config.ramSize) := by decide +kernel

theorem witness_MarkEndsOk_gather : (gathers 1 1 4128 0 0).hasBegun 0 4096 = true
    ∧ ((gathers 1 1 4128 0 0).header 4096).kind = 1 ∧ ((gathers 1 1 4128 0 0).header 4096).gather = true
    ∧ ((gathers 1 1 4128 0 0).header 4096).link = 4128 ∧ ((gathers 1 1 4128 0 0).header 4096).fault = none
    ∧ linkBad 4128 = false ∧ ((gathers 1 1 4128 0 0).header 4128).kind = 1
    ∧ ((gathers 1 1 4128 0 0).header 4128).gather = false ∧ ((gathers 1 1 4128 0 0).header 4128).fault = none
    ∧ ((after (.mark 0) (gathers 1 1 4128 0 0)).lane 0).done = 2 := by decide +kernel

theorem witness_WaitBeginsAndEnds_events : ∀ c ∈ [WaitCond.button 7, .reachable 3, .unreachable 3],
    (waiting5 c 0 7).works 0 join0 (.wait c 0) = true ∧ ∀ k : Fin 16, k ≠ 0 → (waiting5 c 0 7).op? k = none := by
  decide +kernel

theorem witness_FinishedStepIsReported_next :
    ((waiting5 (.elapsed 5) 0 0).closeJoin 0 join0 .ok 0 0).peek 4096 = 0 ∧ Status.ok.good = true
    ∧ (((waiting5 (.elapsed 5) 0 0).poke 4096 0x3FFE0).closeJoin 0 join0 .timeout 0 0).peek 4096 = 0x3FFE0
    ∧ join0.haltOnError = false ∧ linkBad 0x3FFE0 = false ∧ linkBad 0x3FFE4 = true
    ∧ (run 1).entry 15 + 32 ≤ Config.ramSize
    ∧ (((gathers 5 5 4128 3 8192).header 4096).fault = none ∧ ((gathers 5 5 4128 3 8192).header 4096).gather = true
      ∧ ((gathers 5 5 4128 3 8192).header 4096).link = 4128
      ∧ ((gathers 5 5 4128 3 8192).header 4128).kind = ((gathers 5 5 4128 3 8192).header 4096).kind
      ∧ ((gathers 5 5 4128 3 8192).header 4128).fault = none ∧ ((gathers 5 5 4128 3 8192).header 4128).gather = false) := by
  decide +kernel

/-- The map's last slot carries mix 31 at gain 47 on its way up, slot 0 local input 63, and the gate stands at a value. -/
def mapped (gate : Nat) (open' : Bool) : State :=
  let s := { building with
    xmit := (building.xmit.set 7 { current := .mix 31, gain := 47 }).set 0 { current := .localInput 63 }
    talk := { building.talk with gate := gate } }
  if open' then s.modGroup 7 fun y => { y with lanes := true } else s

theorem witness_BurstIsBuilt_slots :
    (∀ gate ∈ [(0 : Nat), 47, 48], ∀ o ∈ [true, false], (mapped gate o).isRunning = true ∧ (mapped gate o).merge.playedNow = true
      ∧ (mapped gate o).built = false ∧ (mapped gate o).cfg.slotCount ≤ 64 ∧ (mapped gate o).talk.gate = gate
      ∧ ((mapped gate o).group 7).isOpen = o ∧ ∀ k : Fin 8, k ≠ 7 → ((mapped gate o).group k).isOpen = false)
    ∧ (((mapped 0 true).xmit.get 7).step.current = .mix 31 ∧ ((mapped 0 true).xmit.get 0).step.current = .localInput 63
      ∧ ((mapped 0 true).xmit.get 6).step.current = .silent ∧ (mapped 0 true).cfg.talkSlot = some (7 : Fin 64).val
      ∧ (mapped 0 true).cfg.talkSlot ≠ some (0 : Fin 64).val ∧ (7 : Fin 64).val < (mapped 0 true).cfg.slotCount) := by
  decide +kernel

/-- A message of a lane's request for the stage, and its lane's note. -/
def requestMsg : Message := { kind := 4, dest := 0, body := [1, 0, 5], producer := .request 0 261 }

/-- A note whose producer is lane 0. -/
def laneNote : Message := { kind := 17, dest := 15, body := [1], producer := .note 0 }

/-- Lane 0's request for the stage. -/
def requesting : State := { run 1 with svc := { requests := [{ reqOf 4 0 with target := 0 }] } }

theorem witness_BurstIsBuilt_service :
    (∀ rest ∈ [[], [(7 : ServiceByte)]], ∃ c : InFlight,
      ({ current := some ⟨0x105 :: rest, laneNote⟩ } : Service).current = some c ∧ c.rest = 0x105 :: rest)
    ∧ (laneNote.dest = 15 ∧ requestMsg.dest ≠ 15 ∧ requestMsg.dest ∈ [0, 3] ∧ requestMsg.dest ∉ [3]
      ∧ ({ urgent := [requestMsg, laneNote] } : Service).urgent = requestMsg :: [laneNote]
      ∧ ({ normal := [requestMsg] } : Service).urgent = [] ∧ ({ normal := [requestMsg] } : Service).current = none)
    ∧ (requestMsg.producer = .request 0 261 ∧ requesting.entryOf 0 261 = some { reqOf 4 0 with target := 0 }
      ∧ requesting.reachable 0 = false ∧ (pathUp requesting 0 .east 1 1).reachable 0 = true
      ∧ (pathUp requesting 0 .east 1 1).entryOf 0 261 = some { reqOf 4 0 with target := 0 })
    ∧ (laneNote.producer = .note 0 ∧ (working (run 1) join0 (.sendNote 1)).works 0 join0 (.sendNote 1) = true) := by
  refine ⟨?_, by decide +kernel, by decide +kernel, by decide +kernel⟩
  intro rest _
  exact ⟨⟨0x105 :: rest, laneNote⟩, rfl, rfl⟩

/-- The stage at a frame, its input 63 muted from frame 0xFFFFFFF0 up to frame 2. -/
def mutedAt (frame : Word) : State := (runAt 0 frame).modInput 63 fun e => { e with mute := some (0xFFFFFFF0, 2) }

theorem witness_BurstIsBuilt_mute :
    (mutedAt 1).cfg.id = 0 ∧ ((mutedAt 1).gain.table.get 63).mute = some (0xFFFFFFF0, 2)
    ∧ ((mutedAt 1).clock.frame - 0xFFFFFFF0).toNat < ((2 : Word) - 0xFFFFFFF0).toNat
    ∧ ¬ ((mutedAt 2).clock.frame - 0xFFFFFFF0).toNat < ((2 : Word) - 0xFFFFFFF0).toNat
    ∧ ((mutedAt 1).gain.table.get 62).mute = none ∧ (run 1).cfg.id ≠ 0 := by decide +kernel

/-- Origin 2 is the clock source on a clock port, with its other path up or not. -/
def follows (p : Port) (both : Bool) (skew : Option Int) : State :=
  let s := if both then pathUp (between 1) 2 .east 1 1 else between 1
  { s with clock := { s.clock with source := some 2, port := some p, state := .locked, skew := skew,
                                   arrivals := ⟨[(7, 300)], [(7, -40)]⟩ } }

/-- A desk that follows a source and reaches some origins. -/
def reaches (source : Option (Fin 4)) (os : List (Fin 4)) : State :=
  os.foldl (fun s o => pathUp s o .east 1 1) { run 3 with clock := { (run 3).clock with source := source } }

theorem witness_ForeignBurstIsDealtWith_clock :
    (∀ p ∈ [Port.east, .west], ∀ both ∈ [true, false], (follows p both none).isRunning = true
      ∧ ((follows p both none).port .west).state = .up ∧ (follows p both none).clock.source = some 2
      ∧ (follows p both none).clock.port = some p ∧ (follows p both none).clock.lock = 0
      ∧ ((follows p both none).sup.path 2 .west).up = true ∧ ((follows p both none).sup.path 2 .east).up = both
      ∧ arrivalOf 7 ((follows p both none).clock.arrivals.get .east) = some 300
      ∧ arrivalOf 7 ((follows p both none).clock.arrivals.get .west) = some (-40)
      ∧ arrivalOf 8 ((follows p both none).clock.arrivals.get .west) = none)
    ∧ ((256 * ((32 : Word) - 0).toInt - 0 + 128) / 256).natAbs ≤ 32 ∧ 32 < ((256 * ((33 : Word) - 0).toInt - 0 + 128) / 256).natAbs
    ∧ (between 1).clock.source ≠ some 2 ∧ ((burst 2 1 9 7).valid true = true ∧ (burst 2 1 9 7).origin ≠ (between 1).cfg.id)
    ∧ ((follows .east true (some 5)).clock.skew = some 5 ∧ (follows .east true none).clock.skew = none)
    ∧ ([(7, 300)] : List (Word × Int)).length < 64 := by decide +kernel

theorem witness_ForeignBurstIsDealtWith_source :
    ((reaches none []).isStage = false ∧ (reaches none []).candidate = (reaches none []).clock.source
      ∧ (run 0).isStage = true)
    ∧ ((reaches (some 2) []).candidate ≠ (reaches (some 2) []).clock.source ∧ (reaches (some 2) []).candidate = none)
    ∧ ((reaches (some 2) [1, 2]).candidate ≠ (reaches (some 2) [1, 2]).clock.source
      ∧ (reaches (some 2) [1, 2]).candidate = some 1 ∧ (reaches (some 1) [0, 1, 2]).candidate = some 0)
    ∧ ((follows .east true none).sup.path 2 .east).hop ≤ ((follows .east true none).sup.path 2 .west).hop
    ∧ ((pathUp (between 0) 2 .east 1 1).sup.path 2 .west).hop < ((pathUp (between 0) 2 .east 1 1).sup.path 2 .east).hop
    ∧ ((between 0).sup.path 2 .east).up = false
    ∧ (((1 : Fin 4) ≠ 0 ∨ (run 1).isStage = true) ∧ ((between 1).sup.path 2 .east).up = false
      ∧ ((between 1).sup.path 2 (Port.east).other).up = true ∧ ((run 1).sup.path 3 .west).up = false
      ∧ ((run 1).sup.path 3 (Port.west).other).up = false)
    ∧ ((pathUp (run 1) 0 .west 0 9).isStage = false ∧ ((pathUp (run 1) 0 .west 0 9).sup.path 0 .west).up = true
      ∧ (run 1).merge.delay = max 8 ((0x02000000 : Word).extractLsb' 22 6).toNat
      ∧ (run 1).merge.delay ≠ max 8 ((0x0FC00000 : Word).extractLsb' 22 6).toNat) := by decide +kernel

/-- West UP at frame 480,010 of the run with seven errors, the first of them at a frame, and flaps. -/
def sevenErrors (first : Nat) (flaps : List Nat) : State :=
  portIn { between 1 with passed := 480010 } .west .up fun r => { r with errors := [first, 2, 3, 4, 5, 6, 7], flaps := flaps }

theorem witness_OwnAndInvalidBursts_storm :
    (∀ flaps ∈ [([] : List Nat), [11, 10], [11, 12]], ∀ first ∈ [(479962 : Nat), 479963], (sevenErrors first flaps).isRunning = true
      ∧ ((sevenErrors first flaps).port .west).state = .up
      ∧ ((sevenErrors first flaps).port .west).errors = first :: [2, 3, 4, 5, 6, 7]
      ∧ (sevenErrors first flaps).passed = 480010 ∧ ((sevenErrors first flaps).port .west).flaps = flaps)
    ∧ 48 ≤ 480010 - 479962 ∧ 480010 - 479963 < 48
    ∧ ([11, 10].filter fun f => decide (480010 < f + 480000)).length < 2
    ∧ 2 ≤ ([11, 12].filter fun f => decide (480010 < f + 480000)).length
    ∧ (burst 2 0 1 7).valid false = false := by decide +kernel

/-- West in LOOP with its first test burst of frame 5, for a number of frames. -/
def tested (role : LoopRole) (timer : Nat) : State :=
  portIn (run 1) .west .loop fun r => { r with loop := some { loopOf role none with firstTest := some 5 }, timer := timer }

theorem witness_OwnAndInvalidBursts_loop :
    (∀ role ∈ [LoopRole.testerNear, .testerFar, .returner], ∀ timer ∈ [(47 : Nat), 48], (tested role timer).isRunning = true
      ∧ ((tested role timer).port .west).state = .loop
      ∧ ((tested role timer).port .west).loop = some { loopOf role none with firstTest := some 5 }
      ∧ ((tested role timer).port .west).timer = timer ∧ (tested role timer).cfg.id = 1 ∧ (tested role timer).mark = 1)
    ∧ (loopOf .testerFar none).duration = 48
    ∧ ((burst 1 1 1 5).valid true = true ∧ (burst 1 1 1 5).origin = 1 ∧ (burst 1 1 1 5).mark = 1
      ∧ earlier (burst 1 1 1 5).frame 5 = false ∧ earlier (burst 1 1 1 4).frame 5 = true
      ∧ (burst 1 1 1 4).valid true = true ∧ (burst 2 1 1 5).valid true = true ∧ (burst 2 1 1 5).origin ≠ 1
      ∧ (burst 1 1 2 5).valid true = true ∧ (burst 1 1 2 5).mark ≠ 1) := by decide +kernel

/-- West in QUALIFY with a count and an origin. -/
def qualifying (n : Nat) (o : Option (Fin 4)) : State :=
  portIn (run 1) .west .qualify fun r => { r with qualify := n, qualifyOrigin := o }

theorem witness_AcquiringPortQualifies_count :
    (∀ n ∈ [(0 : Nat), 1, 4798, 4799], ∀ o ∈ [some (2 : Fin 4), some 3, none], (qualifying n o).isRunning = true
      ∧ ((qualifying n o).port .west).state = .qualify ∧ ((qualifying n o).port .west).qualify = n
      ∧ ((qualifying n o).port .west).qualifyOrigin = o)
    ∧ ((burst 2 0 1 7).valid true = true ∧ (burst 2 0 1 7).hop = 0 ∧ (burst 2 0 1 7).origin = 2 ∧ (2 : Fin 4) ≠ (run 1).cfg.id)
    ∧ (burst 2 1 1 7).hop ≠ 0 ∧ (burst 1 0 1 7).valid true = true ∧ (burst 1 0 1 7).origin = (run 1).cfg.id
    ∧ (burst 2 0 1 7).valid false = false ∧ 4798 + 1 < 4800 ∧ 4800 ≤ 4799 + 1 := by decide +kernel

/-- Each origin's frame 992 holds one slot and a whole note's eight bytes; mix 5 is active, with a send of it and a holder. -/
def playing : State :=
  let f : StoredFrame := { frame := 992, slotCount := 1, talkSlot := some 0, slots := [0x700000]
                           service := { laneNote with body := [1, 2, 3, 4] }.bytes, played := false }
  let r : MergeRec := { cells := (Vector.replicate 64 none).set (cellOf 992) (some f) }
  let s := { runAt 1 1000 with merge := { (runAt 1 1000).merge with records := #v[r, r, {}, r] } }
  let s := s.modMix 5 fun x => { x with active := true, sends := [{ source := 0, code := 900, level := { value := 3000000 } }] }
  { s with talk := { s.talk with inserts := s.talk.inserts.set 5 ⟨some ⟨3, 1⟩, []⟩ }
           svc := { s.svc with lastFrame := #v[some 991, none, none, some 990] }
           delivery := (s.delivery.set 0 { current := .slot 0 0 (some 3), gain := 24 }).set 63 { current := .mix 5 }
           meter := { s.meter with detectors := #v[some (measuring 0 1), some (measuring 1 0), none, none, none, none, none,
             some (measuring 7 480000)] } }

/-- Its frames. -/
def playedOf (s : State) : Bank 4 PlayedFrame :=
  Vector.ofFn fun o => ((s.merge.records.get o).play (s.clock.frame - BitVec.ofNat 32 s.merge.delay)).2

theorem witness_PlayoutPlaysEveryOrigin_values :
    (playing.isRunning = true ∧ playing.merge.playedNow = false
      ∧ ∀ o : Fin 4, (playedOf playing).get o
        = ((playing.merge.records.get o).play (playing.clock.frame - BitVec.ofNat 32 playing.merge.delay)).2)
    ∧ ((playing.delivery.get 0).step.current = .slot 0 0 (some 3) ∧ (playing.delivery.get 1).step.current = .none
      ∧ (playing.delivery.get 63).step.current = .mix 5)
    ∧ ((playing.mixRec 5).cue = none ∧ (playing.mixRec 5).active = true ∧ (playing.mixRec 6).active = false
      ∧ (playing.insert 5).holder = some ⟨3, 1⟩ ∧ ((playedOf playing).get 3).talkSlot = some (0 : Fin 64).val
      ∧ ((playedOf playing).get 2).talkSlot = none ∧ (playing.insert 6).holder = none)
    ∧ (playing.meter.detectors.get 0 = some (measuring 0 1) ∧ (measuring 0 1).left ≠ 0 ∧ (measuring 1 0).left = 0
      ∧ playing.meter.detectors.get 2 = none) := by decide +kernel

theorem witness_PlayoutPlaysEveryOrigin_streams :
    ((holds (frameOf 100 false)).cells.get (cellOf 100) = some (frameOf 100 false) ∧ (frameOf 100 false).played = false
      ∧ (holds (frameOf 164 false)).cells.get (cellOf 100) = some (frameOf 164 false) ∧ (frameOf 164 false).frame ≠ 100
      ∧ (frameOf 100 true).played = true ∧ (holds (frameOf 100 true)).cells.get (cellOf 101) = none)
    ∧ (((playedOf playing).get 2).present = false ∧ ((playedOf playing).get 0).present = true
      ∧ playing.svc.lastFrame.get 0 = some ((992 : Word) - 1) ∧ playing.svc.lastFrame.get 1 = none
      ∧ (990 : Word) ≠ 992 - 1)
    ∧ ((3 : Nat) < 4 ∧ requestMsg.dest < 16 ∧ requestMsg.kind < 256 ∧ ([1, 0, 5] : List Byte).length ≤ 60 ∧ requestMsg.dest = 0
      ∧ requestMsg.dest ≠ 3 ∧ requestMsg.dest ≠ 15 ∧ (List.replicate 60 (0 : Byte)).length ≤ 60
      ∧ laneNote.dest = 15 ∧ ({ state := .check } : Assembler).state ≠ .hunt) := by decide +kernel

theorem witness_SwitchAppliesGain_waits :
    ((deskWith fun m => { m with scheduled := some { toSix with switch := 13 } }).isRunning = true
      ∧ (deskWith fun m => { m with scheduled := some { toSix with switch := 13 } }).cfg.id ≠ 0
      ∧ ((deskWith fun m => { m with scheduled := some { toSix with switch := 13 } }).gain.mirror.get 63).scheduled
        = some { toSix with switch := 13 }
      ∧ later 13 ((20 : Word) - BitVec.ofNat 32 8) = true)
    ∧ ((run 0).isStage = true ∧ desk.isStage = false ∧ (desk.gain.mirror.get 62).scheduled = none
      ∧ earlier toSix.switch 13 = true ∧ earlier toSix.switch 12 = false
      ∧ (deskRef.track 3 62).scheduled = none ∧ (deskRef.track 3 63).scheduled
        = some { value := some 60, switch := 12, deferred := false })
    ∧ (8 = desk.merge.delay ∧ 9 ≠ desk.merge.delay) := by decide +kernel

/-- The same with another pending change, and a waiting one. -/
def shorted (c : Option PendingChange) : State := phantomOn.modInput 63 fun e => { e with
  pending := c, waiting := some { setting := full, requester := .forgotten, keepsFault := false } }

theorem witness_PhantomShortActs_forms :
    (shortReport 0xFD00 = some 63 ∧ ((run 0).conv.lastWords.get 63).phantom = false
      ∧ ((phantomOn.modInput 63 fun e => { e with state := .phantomFault, setting := {} }).gain.table.get 63).state
        = .phantomFault
      ∧ ((phantomOn.modInput 63 fun e => { e with state := .phantomFault, setting := {} }).gain.table.get 63).setting.phantom
        = false)
    ∧ ((run 1).cfg.id ≠ 0 ∧ State.reset.isRunning = false)
    ∧ ((shorted none).isRunning = true ∧ (shorted none).cfg.id = 0 ∧ ((shorted none).conv.lastWords.get 63).phantom = true
      ∧ ((shorted none).gain.table.get 63).state ≠ .phantomFault ∧ (shorted none).svc.mayPlace .urgent = true
      ∧ ((shorted none).gain.table.get 63).pending = none
      ∧ ((shorted none).gain.table.get 63).waiting = some { setting := full, requester := .forgotten, keepsFault := false }
      ∧ ((shorted (some (changeFor full 12))).gain.table.get 63).pending = some (changeFor full 12)
      ∧ (changeFor full 12).switch = some 12
      ∧ ((shorted (some { changeFor full 12 with switch := none })).gain.table.get 63).pending
        = some { changeFor full 12 with switch := none }) := by decide +kernel

theorem witness_OwnershipStepsAct_desk :
    ((ownStep desk 8).hasStep 0 8 4096 = true ∧ (ownStep desk 8).cfg.id ≠ 0 ∧ (ownStep desk 8).reachable 0 = false)
    ∧ ∀ kind ∈ [(7 : Nat), 8], (ownStep (pathUp desk 0 .east 1 1) kind).hasStep 0 kind 4096 = true
      ∧ (ownStep (pathUp desk 0 .east 1 1) kind).cfg.id ≠ 0 ∧ (ownStep (pathUp desk 0 .east 1 1) kind).reachable 0 = true
      ∧ (ownStep (pathUp desk 0 .east 1 1) kind).entryFree = true
      ∧ (ownStep (pathUp desk 0 .east 1 1) kind).svc.mayPlace .normal = true
      ∧ (ownStep (pathUp desk 0 .east 1 1) kind).waits 0 = false := by decide +kernel

/-- Lane 0's SET REFERENCE waits for the playout of some frames, at frame 20. -/
def refWaits (frames : List Word) : State := working (runAt 1 20) join0 (.setReference [] 7 frames)

theorem witness_SetReferenceQueues_ends :
    ((refStep 63 3 0).hasStep 0 9 4096 = true
      ∧ ((chunks 4 ((refStep 63 3 0).stepAt 4096).payload).any fun b => decide (63 < (byteAt b 0).toNat)) = false
      ∧ ((chunks 4 ((refStep 63 3 0).stepAt 4096).payload).any fun b => decide (2 < (byteAt b 1).toNat)) = true)
    ∧ ((begun (run 1) 9 0 0 [1, 2, 3]).hasStep 0 9 4096 = true
      ∧ ((begun (run 1) 9 0 0 [1, 2, 3]).stepAt 4096).payload.length < 4)
    ∧ ((refWaits [11, 12]).works 0 join0 (.setReference [] 7 [11, 12]) = true
      ∧ (refWaits [12, 13]).works 0 join0 (.setReference [] 7 [12, 13]) = true
      ∧ (∀ k : Fin 16, k ≠ 0 → (refWaits [11, 12]).op? k = none ∧ (refWaits [12, 13]).op? k = none)
      ∧ later 11 ((20 : Word) - BitVec.ofNat 32 8) = false ∧ later 12 ((20 : Word) - BitVec.ofNat 32 8) = false
      ∧ (refWaits [12, 13]).clock.frame = 20
      ∧ later 13 ((20 : Word) - BitVec.ofNat 32 8) = true) := by decide +kernel

theorem witness_AnswersEndSteps_timeouts : ∀ n ∈ [(9600 : Nat), 9601],
    ((asking (.setInput [asked]) 1 n).isRunning = true ∧ (reqOf 1 n).lane = 0 ∧ reqOf 1 n ∈ (asking (.setInput [asked]) 1 n).svc.requests
      ∧ (∀ q ∈ (asking (.setInput [asked]) 1 n).svc.requests, q.lane = 0 → q.seq = (reqOf 1 n).seq → q.late = true → q = reqOf 1 n)
      ∧ (reqOf 1 n).state = .waiting n ∧ (asking (.setInput [asked]) 1 n).works 0 join0 (.setInput [asked]) = true
      ∧ asked.state = .requested (reqOf 1 n).number)
    ∧ ∀ kind ∈ [(8 : Nat), 9, 10], ∀ applied ∈ [(0 : Nat), 1],
      reqOf kind n ∈ (asking (.mixRemote (lastPart applied)) kind n).svc.requests ∧ (reqOf kind n).kind = kind
      ∧ (∀ q ∈ (asking (.mixRemote (lastPart applied)) kind n).svc.requests, q.lane = 0 → q.seq = (reqOf kind n).seq →
        q.late = true → q = reqOf kind n)
      ∧ (asking (.mixRemote (lastPart applied)) kind n).works 0 join0 (.mixRemote (lastPart applied)) = true
      ∧ (lastPart applied).applied = applied := by decide +kernel

/-- Mix 31 of terminal 2, active or not, with a staged scene, and its insert held or not. -/
def heldMix (active held : Bool) (staged : Option Scene) : State :=
  let s := mixOf2.modMix 31 fun x => { x with active := active, staged := staged }
  if held then { s with talk := { s.talk with inserts := s.talk.inserts.set 31 ⟨some (talker 3 1), []⟩ } } else s

/-- Lane 0 has begun a SET MIX of mix 31 for a terminal, with an active byte and a controller byte. -/
def setsMix (s : State) (target : Nat) (active controller : Byte) : State :=
  begun s 10 target 0 [31, active, controller, 0, 0xE8, 3, 0, 0, 1, 0, 0, 0]

theorem witness_MixSetTakesValues_duck :
    (∀ held ∈ [true, false], (heldMix true held none).isRunning = true
      ∧ ((heldMix true held none).mixRec 31).controller = 2 ∧ ((heldMix true held none).mixRec 31).active = true
      ∧ ((heldMix true held none).insert 31).holder.isSome = held ∧ ((heldMix false held none).mixRec 31).active = false)
    ∧ (∀ c ∈ [(0 : Byte), 3, 255], (setsMix (heldMix true true none) 1 0 c).hasStep 0 10 4096 = true
      ∧ ((setsMix (heldMix true true none) 1 0 c).stepAt 4096).payload.length = 12
      ∧ (byteAt ((setsMix (heldMix true true none) 1 0 c).stepAt 4096).payload 0).toNat = (31 : Fin 32).val
      ∧ byteAt ((setsMix (heldMix true true none) 1 0 c).stepAt 4096).payload 1 = 0
      ∧ byteAt ((setsMix (heldMix true true none) 1 0 c).stepAt 4096).payload 2 = c
      ∧ ((setsMix (heldMix true true none) 1 0 c).header 4096).target = (setsMix (heldMix true true none) 1 0 c).cfg.id.val)
    ∧ (byteAt ((setsMix (heldMix true true none) 1 9 3).stepAt 4096).payload 1 ≠ 0 ∧ (3 : Byte).toNat = (3 : Fin 4).val)
    ∧ (((heldMix true true (some { sceneOf false with source := 2 })).mixRec 31).staged = some { sceneOf false with source := 2 }
      ∧ (2 : Fin 4) ≠ 3 ∧ (2 : Fin 4) ≠ (run 1).cfg.id ∧ (sceneOf false).complete = false ∧ (sceneOf true).complete = true
      ∧ (sceneOf false).source = (run 1).cfg.id) := by decide +kernel

theorem witness_MixSetTakesValues_remote :
    ((setsMix (run 1) 3 1 255).hasStep 0 10 4096 = true ∧ ((setsMix (run 1) 3 1 255).header 4096).target = (3 : Fin 4).val
      ∧ (3 : Fin 4) ≠ (run 1).cfg.id ∧ (setsMix (run 1) 3 1 255).reachable 3 = false)
    ∧ ((setsMix (pathUp (run 1) 3 .west 0 1) 3 1 255).reachable 3 = true
      ∧ (setsMix (pathUp (run 1) 3 .west 0 1) 3 1 255).hasStep 0 10 4096 = true
      ∧ (setsMix (pathUp (run 1) 3 .west 0 1) 3 1 255).entryFree = true
      ∧ (setsMix (pathUp (run 1) 3 .west 0 1) 3 1 255).svc.mayPlace .normal = true
      ∧ (setsMix (pathUp (run 1) 3 .west 0 1) 3 1 255).waits 0 = false) := by decide +kernel

/-- Group 7 is open, and a message waits in its outbox for terminal 2. -/
def pendingAt (m : OutboxMessage) : State := (openGroup 8 0).modGroup 7 fun y => y.modOutbox 2 fun e => { e with pending := m }

theorem witness_TalkersEnterAndLeave_outbox :
    ((3 : Byte).toNat = (3 : Fin 8).val ∧ opened.isRunning = true ∧ (7 : Byte).toNat = (7 : Fin 8).val)
    ∧ ((opened.talkerGroup 2 3).requested.getLsbD (5 : Fin 32).val = true ∧ (2 : Fin 4) ≠ opened.cfg.id
      ∧ (opened.talkerGroup 2 3).requested.getLsbD (7 : Fin 32).val = false ∧ (opened.insert 5).holder.isSome = true
      ∧ (opened.insert 6).holder.isSome = false)
    ∧ ((run 1).outboxNext? = none ∧ (pendingAt .opening).outboxNext? = some (7, 2)
      ∧ (((pendingAt .opening).group 7).outbox.get 2).pending = .opening ∧ (pendingAt .closing).outboxNext? = some (7, 2)
      ∧ (((pendingAt .closing).group 7).outbox.get 2).pending = .closing)
    ∧ (({ noteMsg with producer := .talkOpen 7 2 9 } : Message).producer = .talkOpen 7 2 9
      ∧ (((openGroup 8 0).group 7).outbox.get 2).told = some 9 ∧ (((openGroup 8 0).group 7).outbox.get 3).told ≠ some 9) := by
  decide +kernel

/-- The wait for terminal 2 is over, with its answer mark and its silence mark. -/
def overdue (answered : BitVec 4) (silent : Bool) : State :=
  (openGroup answered 9600).modGroup 7 fun y => y.modOutbox 2 fun e => { e with silent := silent }

theorem witness_TalkAnswersAct_silence :
    (((overdue 12 true).group 7).isAnswered 2 = true ∧ (((overdue 12 true).group 7).outbox.get 2).silent = true
      ∧ (((overdue 12 true).group 7).outbox.get 2).waited = some 9600 ∧ ((overdue 12 true).group 7).isOpen = true
      ∧ ∃ x ∈ ((overdue 12 true).group 7).targets, x.terminal = 2)
    ∧ ((overdue 12 true).isRunning = true ∧ ((run 1).group 7).isOpen = false
      ∧ (∀ x ∈ ((overdue 12 true).group 7).targets, x.terminal ≠ 0)
      ∧ ((overdue 12 false).group 7).isAnswered 2 = true ∧ (((overdue 12 false).group 7).outbox.get 2).silent = false
      ∧ (((overdue 12 true).group 7).outbox.get 3).waited = none) := by decide +kernel

/-- Group 7 is closed, with targets at terminals 2 and 3, the first of them reachable or not. -/
def closedGroup (reach : Bool) : State :=
  let s := (openGroup 0 0).modGroup 7 fun y => { y with lanes := false }
  if reach then pathUp s 2 .east 1 1 else s

/-- Group 6 is open toward this terminal's own mix 31, with a talker's sequence. -/
def ownGroup (seq : Byte) : State :=
  ((run 1).modGroup 6 fun y => { y with targets := [targetOf' 1 31 .waiting], lanes := true, seq := 9 }).takeOpen 1 6 seq 0

/-- Lane 0's TALK waits for the answers of group 7. -/
def opening (answered : BitVec 4) (lanes : Bool) : State :=
  working ((openGroup answered 0).modGroup 7 fun y => { y with lanes := lanes }) join0 (.talkOpen 7)

theorem witness_TalkStepsAct_openers :
    ((∀ (g : Fin 8) (u : Fin 4), (((run 1).group g).outbox.get u).pending = .none)
      ∧ (((pendingAt .opening).group 7).outbox.get 2).pending ≠ .none)
    ∧ (((closedGroup true).group 7).isOpen = false ∧ ((openGroup 8 0).group 7).isOpen = true
      ∧ (∀ t ∈ ((closedGroup true).group 7).targets, t.terminal ≠ (closedGroup true).cfg.id)
      ∧ (closedGroup true).reachable 2 = true ∧ (closedGroup false).reachable 2 = false
      ∧ (∃ t ∈ ((closedGroup true).group 7).targets, t.terminal = 2)
      ∧ (∀ t ∈ ((closedGroup true).group 7).targets, t.terminal ≠ 0))
    ∧ ((((talkStep 12 7).modGroup 7 fun y => { y with lanes := true }).group 7).part .lanes).isOpen = true
    ∧ ((((openGroup 8 0).group 7).part .lanes).isOpen = false
      ∧ (∀ t ∈ ((openGroup 8 0).group 7).targets, t.terminal ≠ (openGroup 8 0).cfg.id))
    ∧ ((2 : Fin 4) ≠ (run 1).cfg.id ∧ (1 : Fin 4) = (run 1).cfg.id ∧ (pathUp (run 1) 2 .east 1 1).reachable 2 = true
      ∧ (run 1).reachable 2 = false) := by decide +kernel

theorem witness_TalkStepsAct_ends :
    (((ownGroup 9).group 6).isOpen = true ∧ ((ownGroup 9).talkerGroup 1 6).seq = ((ownGroup 9).group 6).seq
      ∧ (∃ t ∈ ((ownGroup 9).group 6).targets, t.terminal = (ownGroup 9).cfg.id)
      ∧ ((ownGroup 8).talkerGroup 1 6).seq ≠ ((ownGroup 8).group 6).seq ∧ ((ownGroup 9).group 5).isOpen = false)
    ∧ ((opening 12 true).works 0 join0 (.talkOpen 7) = true ∧ (∀ k : Fin 16, k ≠ 0 → (opening 12 true).op? k = none)
      ∧ (((opening 12 true).group 7).targets.filter fun t => decide (t.state = .held)).length = 2
      ∧ ((opening 12 false).group 7).isOpen = false ∧ (opening 12 false).works 0 join0 (.talkOpen 7) = true
      ∧ ((opening 12 true).group 7).isOpen = true
      ∧ (∀ t ∈ ((opening 12 true).group 7).targets, ((opening 12 true).group 7).isAnswered t.terminal = true)
      ∧ (opening 8 true).works 0 join0 (.talkOpen 7) = true
      ∧ ∃ t ∈ ((opening 8 true).group 7).targets, ((opening 8 true).group 7).isAnswered t.terminal = false) := by
  decide +kernel

/-- Button 7 with an action and a state. -/
def buttonFor (x : Action) (state : ButtonState) (pressFrames : Nat) : State :=
  (buttonAt false false 479 state pressFrames).modButton 7 fun y => { y with action := x, notify := true }

/-- Its group's message waits in the outbox, or not. -/
def settling (latch : Bool) (m : OutboxMessage) : State :=
  (buttonFor (.talk 7 .auto) (.pending latch) 0).modGroup 7 fun y => y.modOutbox 3 fun e => { e with pending := m }

theorem witness_ButtonsAndLampsAct_events :
    ((buttonAt false false 479 .idle 0).isRunning = true ∧ ((buttonAt false false 479 .idle 0).button 7).sampled = false
      ∧ { buttonAt false false 479 .idle 0 with passed := 1 }.passed ≤ 1 ∧ 1 < (buttonAt false false 479 .idle 0).passed
      ∧ true ≠ ((buttonAt false false 479 .idle 0).button 7).level ∧ 480 ≤ ((buttonAt false false 479 .idle 0).button 7).count + 1
      ∧ ((buttonAt false false 479 .idle 0).button 7).detection.detects true = some true)
    ∧ (((buttonFor .none .idle 0).button 7).notify = true ∧ ((buttonAt false false 479 .idle 0).button 7).notify = false)
    ∧ (((buttonFor (.talk 7 .auto) .idle 0).button 7).action = .talk 7 .auto
      ∧ ((buttonFor (.chain 15 4096) .idle 0).button 7).action = .chain 15 4096
      ∧ ((buttonFor (.chain 15 4096) .idle 0).lane 15).state = .idle ∧ (markStep.lane 0).state ≠ .idle
      ∧ ((buttonFor (.cue 0x80000000 64) .idle 0).button 7).action = .cue 0x80000000 64
      ∧ (∀ k : Fin 32, (0x80000000 : Word).getLsbD k.val = decide (k = 31))
      ∧ (buttonFor (.cue 0x80000000 64) .idle 0).takeRecord? = some 0
      ∧ (allTaken (buttonFor (.cue 0x80000000 64) .idle 0)).takeRecord? = none
      ∧ ((buttonFor (.cue 0x80000000 64) .idle 0).mixRec 31).cue = none) := by decide +kernel

/-- Group 7 is closed, and another producer waits for urgent room. -/
def crowded : State := { closedGroup true with svc := { (closedGroup true).svc with urgentRoom := [.gainRefresh] } }

theorem witness_ButtonsAndLampsAct_talk :
    (((buttonFor (.talk 5 .auto) .idle 0).button 7).state = .idle ∧ ((buttonFor (.talk 5 .auto) .idle 0).group 5).isOpen = false
      ∧ (∀ u : Fin 4, ((((buttonFor (.talk 5 .auto) .idle 0).addOpener 5 (.button 7)).group 5).outbox.get u).pending = .none))
    ∧ ((crowded.button 7).state = .idle ∧ (crowded.group 7).isOpen = false
      ∧ (((crowded.addOpener 7 (.button 7)).group 7).outbox.get 2).pending ≠ .none)
    ∧ (((buttonFor (.talk 7 .auto) .talking 19201).button 7).state = .talking
      ∧ 19200 < ((buttonFor (.talk 7 .auto) .talking 19201).button 7).pressFrames
      ∧ ((buttonFor (.talk 7 .auto) (.pending false) 19200).button 7).state = .pending false
      ∧ ((buttonFor (.talk 7 .auto) (.pending false) 19200).button 7).pressFrames ≤ 19200
      ∧ ((buttonFor (.talk 7 .auto) .latched 0).button 7).state = .latched
      ∧ ((buttonFor (.talk 7 .auto) (.pending true) 0).button 7).state = .pending true)
    ∧ (∀ latch ∈ [true, false], ((settling latch .none).button 7).state = .pending latch
      ∧ ((settling latch .none).button 7).action = .talk 7 .auto
      ∧ (∀ u : Fin 4, (((settling latch .none).group 7).outbox.get u).pending = .none)
      ∧ (((settling latch .closing).group 7).outbox.get 3).pending ≠ .none)
    ∧ (settling true .none).outboxNext? = none
    ∧ ∀ latch ∈ [true, false], ((buttonFor .none .idle 0).button 7).state ≠ .pending latch := by decide +kernel

/-- Lamp 7 shows a source; the button's group has a target in a state. -/
def lampFor (x : LampSource) (state : ButtonState) (target : TargetState) : State :=
  let s := { buttonAt false false 0 state 0 with
    talk := { (buttonAt false false 0 state 0).talk with lamps := (run 1).talk.lamps.set 7 x } }
  s.modGroup 7 fun y => { y with targets := [targetOf' 1 3 target] }

theorem witness_ButtonsAndLampsAct_lamps :
    ((lampFor .none .idle .closed).talk.lamps.get 7 = .none ∧ (lampFor .none .idle .closed).resetLow = false
      ∧ (lampFor .none .idle .closed).isRunning = true)
    ∧ ((lampFor (.group 7) .idle .held).talk.lamps.get 7 = .group 7
      ∧ ((lampFor (.group 7) .idle .held).group 7).isOpen = true
      ∧ (∀ t ∈ ((lampFor (.group 7) .idle .held).group 7).targets, t.state = .held)
      ∧ (∃ t ∈ ((lampFor (.group 7) .idle .lost).group 7).targets, t.state = .waiting ∨ t.state = .lost)
      ∧ ((lampFor (.group 5) .idle .held).group 5).isOpen = false)
    ∧ ((lampFor (.button 7) .latched .held).talk.lamps.get 7 = .button 7
      ∧ ((lampFor (.button 7) .latched .held).button 7).state = .latched
      ∧ ((lampFor (.button 7) (.pending true) .held).button 7).state = .pending true
      ∧ ((lampFor (.button 7) .idle .held).button 7).state = .idle)
    ∧ ((lampFor (.origin 3) .idle .held).talk.lamps.get 7 = .origin 3
      ∧ (lampFor (.origin 3) .idle .held).reachable 3 = false) := by decide +kernel

/-- Button 7 holds group 6 open. -/
def buttonHolds : State := (buttonStep 7 3 1 1 7 2).modGroup 6 fun y => { y with buttons := 0x80 }

theorem witness_ButtonsAndLampsAct_set :
    ((buttonStep 7 4 1 1 7 2).hasStep 0 17 4096 = true ∧ ((buttonStep 7 4 1 1 7 2).stepAt 4096).payload.length = 16
      ∧ byteAt ((buttonStep 7 4 1 1 7 2).stepAt 4096).payload 0 = BitVec.ofNat 8 (7 : Fin 8).val
      ∧ detectionOf (byteAt ((buttonStep 7 4 1 1 7 2).stepAt 4096).payload 1) = some .levelLow
      ∧ actionOf ((buttonStep 7 4 1 1 7 2).stepAt 4096).payload = some (.talk 7 .auto)
      ∧ (∀ g : Fin 8, ((buttonStep 7 4 1 1 7 2).group g).buttons.getLsbD (7 : Fin 8).val = false)
      ∧ ((buttonStep 7 4 1 1 7 2).button 7).level = false)
    ∧ (buttonHolds.hasStep 0 17 4096 = true ∧ (buttonHolds.group 6).buttons.getLsbD (7 : Fin 8).val = true
      ∧ (∀ h : Fin 8, h ≠ 6 → (buttonHolds.group h).buttons.getLsbD (7 : Fin 8).val = false)
      ∧ standsPressed .levelHigh (buttonHolds.button 7).level = false) := by decide +kernel

/-- Lane 0 works on an operation whose request to terminal 2 waits, behind one still queued. -/
def cutOff (op : Op) (kind : Nat) : State :=
  { working (run 1) join0 op with svc := { requests := [
    { reqOf kind 0 with target := 2, lane := 3, state := .queued }, { reqOf kind 0 with target := 2 }] } }

theorem witness_PathsAndFlagsTimeOut_requests :
    (∀ r ∈ (run 1).svc.requests, r.target = 2 → r.state = .queued)
    ∧ (((cutOff (.claim false 0 none) 4).svc.requests.filter fun q => decide (q.target = 2 ∧ q.state ≠ .queued))
        = [{ reqOf 4 0 with target := 2 }]
      ∧ (cutOff (.claim false 0 none) 4).works 0 join0 (.claim false 0 none) = true ∧ (reqOf 4 0).kind < 8 ∧ 10 < 15)
    ∧ ((cutOff (.setInput [asked]) 1).works 0 join0 (.setInput [asked]) = true ∧ asked.state = .requested (reqOf 1 0).number)
    ∧ ∀ applied ∈ [(0 : Nat), 1], (cutOff (.mixRemote (lastPart applied)) 8).works 0 join0 (.mixRemote (lastPart applied)) = true
      ∧ (lastPart applied).applied = applied
      ∧ (pathUp (run 1) 3 .west 2 32).isRunning = true ∧ ((pathUp (run 1) 3 .west 2 32).sup.path 3 .west).since = some 32
      ∧ ((pathUp (run 1) 3 .west 2 32).sup.path 3 (Port.west).other).up = false
      ∧ ((pathUp (pathUp (run 1) 3 .west 2 32) 3 .east 1 1).sup.path 3 (Port.west).other).up = true := by decide +kernel

/-- The stage owes both refreshes, the first at an input whose pending change is this. -/
def refreshing (n : Fin 64) (c : Option PendingChange) : State :=
  { (run 0).modInput n fun e => { e with pending := c } with
    gain := { ((run 0).modInput n fun e => { e with pending := c }).gain with gainCursor := some n, refCursor := some n } }

theorem witness_PathsAndFlagsTimeOut_gain :
    ((run 0).isStage = true ∧ (run 1).isStage = false
      ∧ (∀ n : Fin 64, (0x8000000000000000 : BitVec 64).getLsbD n.val
        = decide (((stageWith 63 { owner := some 2 }).gain.table.get n).owner = some 2
          ∧ ((stageWith 63 { owner := some 2 }).gain.table.get n).orphaned = false))
      ∧ ∀ n : Fin 64, (0x8000000000000000 : BitVec 64).getLsbD n.val
        = decide (((stageWith 63 { owner := some 2, orphaned := true }).gain.table.get n).owner = some 2
          ∧ ((stageWith 63 { owner := some 2, orphaned := true }).gain.table.get n).orphaned = true))
    ∧ ({ (run 1).svc with urgentRoom := [.outbox] }.mayPlace .urgent = false)
    ∧ ((62 : Fin 64).val < 63 ∧ (some (63 : Fin 64)).map (fun k => k.val) = some ((62 : Fin 64).val + 1)
      ∧ (63 : Fin 64).val = 63)
    ∧ ((refreshing 63 (some (changeFor full 12))).gain.gainCursor = some 63
      ∧ ((refreshing 63 (some (changeFor full 12))).gain.table.get 63).pending = some (changeFor full 12)
      ∧ (changeFor full 12).switch = some 12 ∧ ((refreshing 62 none).gain.table.get 62).pending = none
      ∧ (refreshing 62 none).gain.gainCursor = some 62 ∧ (refreshing 62 none).gain.refCursor = some 62
      ∧ ((refreshing 62 none).track 0 62).scheduled = none) := by decide +kernel

theorem witness_PathsAndFlagsTimeOut_talk :
    (((run 1).mixRec 31).staged = none ∧ ((cued 0 .button 2 (some (sceneOf false))).mixRec 5).staged = some (sceneOf false))
    ∧ (((openGroup 8 0).group 7).isOpen = true ∧ (∃ t ∈ ((openGroup 8 0).group 7).targets, t.terminal = 3)
      ∧ (∀ t ∈ ((openGroup 8 0).group 7).targets, t.terminal ≠ 0) ∧ ((openGroup 8 0).group 6).isOpen = false)
    ∧ ((opened.presentSet 2).getLsbD (5 : Fin 32).val = true ∧ (3 : Fin 4) ≠ 2) := by decide +kernel

/-- An accepting LOOP_REPLY of west to terminal 2, for 100 frames. -/
def acceptMsg : Message := { kind := 16, dest := 2, body := [], producer := .loopReply .west 2 100 }

/-- The near end in place of the far one. -/
def windowNear : State := windowOver.setPort .west { windowOver.port .west with loop := some (loopOf .testerNear (some 0)) }

theorem witness_LoopTestsRun_ends :
    ((loopStep neighboured 1 0 480001).hasStep 0 19 4096 = true
      ∧ byteAt ((loopStep neighboured 1 0 480001).stepAt 4096).payload 0 = portByte .west
      ∧ byteAt ((loopStep neighboured 1 0 480001).stepAt 4096).payload 1 = 0
      ∧ ((loopStep neighboured 1 0 480001).port .west).state = .up
      ∧ ((loopStep neighboured 1 0 480001).sup.path 1 .west).up = false ∧ (loopStep neighboured 1 0 480001).cfg.id = 1
      ∧ (∀ o : Fin 4, o ≠ 1 → ((loopStep neighboured 1 0 480001).sup.path o .west).up = true →
          ((loopStep neighboured 1 0 480001).sup.path o (Port.west).other).up = true)
      ∧ max 48 (min (wordAt ((loopStep neighboured 1 0 480001).stepAt 4096).payload 4).toNat 480000) = 480000)
    ∧ (acceptMsg.producer = .loopReply .west 2 100 ∧ (neighboured.port .west).state = .up
      ∧ (neighboured.port (Port.west).other).state ≠ .loop ∧ ((run 1).port .west).state ≠ .up
      ∧ ((portIn neighboured .east .loop id).port (Port.west).other).state = .loop)
    ∧ (∀ s ∈ [windowOver, windowNear], s.isRunning = true ∧ (s.port .west).state = .loop
      ∧ s.works 0 { join0 with segments := [(8192, 28)] } (.loopTest .west 48) = true
      ∧ 8192 + 28 ≤ Config.ramSize ∧ 0 < s.cfg.faultCapacity
      ∧ outsideArea 8192 s.cfg.faultLog (16 + 32 * s.cfg.faultCapacity) = true ∧ ¬ 8192 < s.cfg.faultLog)
    ∧ ((windowOver.port .west).loop = some (loopOf .testerFar (some 0))
      ∧ (windowNear.port .west).loop = some (loopOf .testerNear (some 0)) ∧ (loopOf .testerFar (some 0)).duration = 48
      ∧ LoopRole.testerNear ≠ .returner) := by decide +kernel

/-- Lane 0's sweep at the end of its pass, at the head of a queue. -/
def passEnd (mode : SweepMode) (trigger : Option Trigger) (limit : Nat) (rest : List (Fin 16)) : State :=
  let s := sweeping { nine with mode := mode, trigger := trigger, limit := limit, passes := 3, next := 9, state := .measuring }
    false (oneMeasures 7 (measuring 8 0))
  { s with meter := { s.meter with queue := 0 :: rest } }

theorem witness_MeterSweepsRun_passEnds :
    (∀ m ∈ [(SweepMode.repeating, none), (.triggered, some (Trigger.button 7 2)), (.triggered, some (.frame 5))],
      ∀ limit ∈ [(0 : Nat), 4, 5], ∀ rest ∈ [([] : List (Fin 16)), [15]],
        (passEnd m.1 m.2 limit rest).isRunning = true ∧ (passEnd m.1 m.2 limit rest).meter.queue = 0 :: rest ∧ 0 ∉ rest
        ∧ (passEnd m.1 m.2 limit rest).sweep 0 = some { nine with
            mode := m.1, trigger := m.2, limit := limit, passes := 3, next := 9, state := .measuring }
        ∧ (passEnd m.1 m.2 limit rest).meter.detectors.get 7 = some (measuring 8 0)
        ∧ (∀ i : Fin 8, i ≠ 7 → (passEnd m.1 m.2 limit rest).meter.detectors.get i = none)
        ∧ (passEnd m.1 m.2 limit rest).works 0 { join0 with segments := [(8192, 60)] } .meter = true)
    ∧ (measuring 8 0).left = 0 ∧ nine.channels.length ≤ 9 ∧ 3 + 1 = 4 ∧ 3 + 1 ≠ 5 := by decide +kernel

theorem witness_MeterSweepsRun_triggers :
    (∀ edge ∈ [(0 : Nat), 1, 2], ∀ state ∈ [SweepState.armed, .queued, .measuring],
      (sweeping { nine with trigger := some (.button 7 edge), state := state } false (Vector.replicate 8 none)).sweep 0
        = some { nine with trigger := some (.button 7 edge), state := state })
    ∧ (run 1).sweep 0 = none
    ∧ ((sweeping armed false (Vector.replicate 8 none)).works 0 { join0 with segments := [(8192, 60)] } .meter = true
      ∧ (sweeping armed false (Vector.replicate 8 none)).sweep 0 = some armed ∧ armed.state ≠ .measuring
      ∧ (passEnd .repeating none 0 []).works 0 { join0 with segments := [(8192, 60)] } .meter = true
      ∧ 24 ≤ 60 ∧ 8192 + 60 ≤ Config.ramSize)
    ∧ ((sweeping nine false (Vector.replicate 8 none)).resetLow = false
      ∧ (sweeping nine false (Vector.replicate 8 none)).isRunning = true
      ∧ (sweeping nine false (Vector.replicate 8 none)).tick.meter.passDue = true) := by decide +kernel

theorem witness_WordClockGovernsStage_output :
    { run 0 with resetLow := true }.resetLow = true ∧ (State.reset.resetLow = false ∧ State.reset.isRunning = false)
    ∧ ((run 0).isRunning = true ∧ (run 0).cfg.id = 0) ∧ ((run 1).resetLow = false ∧ (run 1).cfg.id ≠ 0) := by decide

/-- Lane 15, posted, is parked on the step at 4096, which links to a step, with a join in hand or none. -/
def parked (link : Nat) (j : Option Join) : State :=
  ({ run 1 with scanDue := true, lanes := (run 1).lanes.set 15 { (run 1).lane 15 with
      state := .parked, activity := (j.map Activity.gathered).getD .none
      parked := some 4096, lastSeen := 1, done := 3, current := 5000 } }.pokeAll 4096 [BitVec.ofNat 32 link]).pokeAll
    (256 + 480) [0, 2, 0, 0]

/-- Two steps joined. -/
def twoSteps : Join := { kind := 3, steps := [5000, 4096] }

theorem witness_ScanBeginsPostedLane_parked :
    (∀ link ∈ [(0 : Nat), 0x3FFE0, 0x3FFE4, 255], ∀ j ∈ [none, some twoSteps],
      (parked link j).isRunning = true ∧ (parked link j).scanDue = true
      ∧ (∀ k : Fin 16, (parked link j).peek ((parked link j).entry k + 8) = 0)
      ∧ (∀ k : Fin 16, k ≠ 15 → (parked link j).postCount k = ((parked link j).lane k).lastSeen)
      ∧ (parked link j).postCount 15 ≠ ((parked link j).lane 15).lastSeen
      ∧ ((parked link j).lane 15).state = .parked ∧ ((parked link j).lane 15).parked = some 4096
      ∧ (parked link j).peek 4096 = BitVec.ofNat 32 link)
    ∧ ((parked 0 none).lane 15).activity = .none ∧ ((parked 0 (some twoSteps)).lane 15).activity = .gathered twoSteps
    ∧ linkBad 0x3FFE0 = false ∧ linkBad 0x3FFE4 = true ∧ linkBad 255 = true
    ∧ (parked 0 none).cfg.laneTable + 512 ≤ Config.ramSize
    ∧ (∀ i ∈ twoSteps.steps, (parked 0 none).cfg.laneTable + 512 ≤ i ∧ i + 32 ≤ Config.ramSize)
    ∧ twoSteps.steps.Pairwise (fun i k => i + 32 ≤ k ∨ k + 32 ≤ i) := by decide +kernel

/-- A window that holds two failures before the seven. -/
def nineErrors (first : Nat) : State :=
  portIn { between 1 with passed := 480010 } .west .up fun r => { r with errors := [479963, 479964, first, 2, 3, 4, 5, 6, 7] }

theorem witness_OwnAndInvalidBursts_longWindow :
    ∀ first ∈ [(479962 : Nat), 479963], (nineErrors first).isRunning = true ∧ ((nineErrors first).port .west).state = .up
      ∧ ((nineErrors first).port .west).errors = [479963, 479964] ++ first :: [2, 3, 4, 5, 6, 7]
      ∧ (nineErrors first).passed = 480010 := by decide +kernel

/-- A change that waits, by its requester. -/
def waitingFor (r : Requester) : WaitingChange := { setting := full, requester := r, keepsFault := false }

/-- The entries of lane 0's SET INPUT at the stage: input 63, and input 62 before it or not. -/
def laneEntries (two : Bool) (ended : Bool) : List InputStep :=
  (if two then [{ input := 62, setting := {}, outcome := 8196, state := if ended then .ended .ok else .taken }] else [])
    ++ [{ input := 63, setting := full, outcome := 8204, state := .taken }]

/-- Input 63 of terminal 2 has a pending change, or not, and one that waits, or none; lane 0 has a SET INPUT step. -/
def askedTwice (pending : Option PendingChange) (w : Option WaitingChange) (es : List InputStep) (room : Bool) : State :=
  let s := stageWith 63 { owner := some 2, pending := pending, waiting := w }
  { working s join0 (.setInput es) with svc := { s.svc with urgentRoom := if room then [] else [.gainRefresh] } }

theorem witness_GainRequestIsTaken_waits :
    ((askedTwice none none [] false).isRunning = true ∧ (askedTwice none none [] false).cfg.id = 0
      ∧ (63 : Byte).toNat = (63 : Fin 64).val
      ∧ full = { gain := min (61 : Byte).toNat 60, pad := decide ((1 : Byte) ≠ 0), phantom := decide ((9 : Byte) ≠ 0) }
      ∧ ((askedTwice none none [] false).gain.table.get 63).owner = some 2
      ∧ ((askedTwice none none [] false).gain.table.get 63).pending = none
      ∧ (askedTwice none none [] false).svc.mayPlace .urgent = false)
    ∧ (∀ r ∈ [Requester.remote 3 tag2, .forgotten, .lane 0 1], ∀ ended ∈ [true, false],
        (askedTwice (some (changeFor full 3)) (some (waitingFor r)) (laneEntries true ended) true).isRunning = true
        ∧ (askedTwice (some (changeFor full 3)) (some (waitingFor r)) (laneEntries true ended) true).cfg.id = 0
        ∧ ((askedTwice (some (changeFor full 3)) (some (waitingFor r)) (laneEntries true ended) true).gain.table.get 63).owner
          = some 2
        ∧ ((askedTwice (some (changeFor full 3)) (some (waitingFor r)) (laneEntries true ended) true).gain.table.get 63).pending
          = some (changeFor full 3)
        ∧ ((askedTwice (some (changeFor full 3)) (some (waitingFor r)) (laneEntries true ended) true).gain.table.get 63).waiting
          = some (waitingFor r)
        ∧ (askedTwice (some (changeFor full 3)) (some (waitingFor r)) (laneEntries true ended) true).works 0 join0
          (.setInput (laneEntries true ended)) = true
        ∧ (laneEntries true ended)[1]? = some { input := 63, setting := full, outcome := 8204, state := .taken })
    ∧ (∃ y ∈ laneEntries true false, y.ended? = none)
    ∧ (∀ y ∈ (laneEntries true true).set 1 { input := 63, setting := full, outcome := 8204, state := .ended .superseded },
        y.ended? ≠ none) ∧ 8204 < Config.ramSize := by decide +kernel

/-- A change due at the playout of frame 12, and one that waits behind it, of an input of terminal 2. -/
def promotes (r : Requester) (keepsFault room : Bool) : State :=
  let s := stageWith 63 { owner := some 2, pending := some (changeFor full 12)
                          waiting := some { setting := {}, requester := r, keepsFault := keepsFault } }
  { working s join0 (.setInput (laneEntries true false)) with
    svc := { s.svc with urgentRoom := if room then [] else [.gainRefresh] } }

theorem witness_SwitchAppliesGain_promotes :
    (∀ r ∈ [Requester.remote 2 tag2, .remote 3 tag2, .lane 0 1], ∀ kept ∈ [true, false], ∀ room ∈ [true, false],
      (promotes r kept room).isRunning = true ∧ (promotes r kept room).cfg.id = 0 ∧ (promotes r kept room).merge.playedNow = false
      ∧ ((promotes r kept room).gain.table.get 63).pending = some (changeFor full 12) ∧ (changeFor full 12).switch = some 12
      ∧ ((promotes r kept room).gain.table.get 63).waiting = some { setting := {}, requester := r, keepsFault := kept }
      ∧ ((promotes r kept room).gain.table.get 63).owner = some 2
      ∧ later 12 ((promotes r kept room).clock.frame - BitVec.ofNat 32 (promotes r kept room).merge.delay) = false
      ∧ (promotes r kept room).svc.mayPlace .urgent = room
      ∧ (promotes r kept room).works 0 join0 (.setInput (laneEntries true false)) = true)
    ∧ (Requester.remote 2 tag2).id = 2 ∧ (Requester.remote 3 tag2).id ≠ 2 ∧ (Requester.lane 0 1).id ≠ 2
    ∧ (changeFor full 12).requester = .forgotten
    ∧ (∃ z ∈ (laneEntries true false).eraseIdx 1, z.ended? = none) := by decide +kernel

/-- The bytes of a SET INPUT entry. -/
def inputBytes (n : Byte) : List Byte := [n, 61, 1, 2, 0, 0, 0, 0]

/-- A SET INPUT step of inputs at a desk that reaches the stage. -/
def deskInputs (ns : List Byte) (owner : Option (Fin 4)) (requests queued : Nat) : State :=
  let s := begun ((pathUp desk 0 .east 1 1).modMirror 63 fun m => { m with owner := owner }) 6 0 0 (ns.flatMap inputBytes)
  { s with svc := { s.svc with requests := List.replicate requests { reqOf 4 0 with lane := 3 }
                               normal := List.replicate queued laneNote } }

/-- A SET INPUT step of inputs at the stage, which owns input 63 or does not. -/
def stageInputs (ns : List Byte) (e : InputEntry) (room : Bool) : State :=
  let s := begun (stageWith 63 e) 6 0 0 (ns.flatMap inputBytes)
  { s with svc := { s.svc with urgentRoom := if room then [] else [.gainRefresh] } }

theorem witness_SetInputBegins_whole :
    ((deskInputs [0, 63] (some 3) 0 0).hasStep 0 6 4096 = true ∧ (deskInputs [0, 63] (some 3) 0 0).cfg.id = 1
      ∧ chunks 8 ((deskInputs [0, 63] (some 3) 0 0).stepAt 4096).payload = [inputBytes 0, inputBytes 63]
      ∧ (deskInputs [0, 63] (some 3) 0 0).gain.stale = false ∧ (deskInputs [0, 63] (some 3) 0 0).reachable 0 = true
      ∧ ((deskInputs [0, 63] (some 3) 0 0).gain.mirror.get 63).owner = some 3
      ∧ { (deskInputs [0, 63] (some 3) 0 0) with
          gain := { (deskInputs [0, 63] (some 3) 0 0).gain with stale := true } }.gain.stale = true)
    ∧ (∀ owner ∈ [none, some (1 : Fin 4)], (stageInputs [0, 63] { owner := owner } true).hasStep 0 6 4096 = true
      ∧ (stageInputs [0, 63] { owner := owner } true).cfg.id = 0
      ∧ chunks 8 ((stageInputs [0, 63] { owner := owner } true).stepAt 4096).payload = [inputBytes 0, inputBytes 63]
      ∧ ((stageInputs [0, 63] { owner := owner } true).gain.table.get 63).owner ≠ some 0) := by decide +kernel

theorem witness_SetInputBegins_sends :
    (∀ owner ∈ [none, some (1 : Fin 4)], ∀ requests ∈ [(0 : Nat), 63, 64], ∀ queued ∈ [(0 : Nat), 15, 16],
      (deskInputs [63] owner requests queued).hasStep 0 6 4096 = true
      ∧ ((deskInputs [63] owner requests queued).stepAt 4096).payload = inputBytes 63
      ∧ (deskInputs [63] owner requests queued).entryFree = decide (requests < 64)
      ∧ (deskInputs [63] owner requests queued).svc.mayPlace .normal = decide (queued < 16))
    ∧ (∀ requests ∈ [(0 : Nat), 62, 63], ∀ queued ∈ [(0 : Nat), 14, 15],
      (deskInputs [0, 63] none requests queued).hasStep 0 6 4096 = true
      ∧ ((deskInputs [0, 63] none requests queued).stepAt 4096).payload = inputBytes 0 ++ inputBytes 63
      ∧ (deskInputs [0, 63] none requests queued).svc.requests.length = requests
      ∧ (deskInputs [0, 63] none requests queued).svc.normal.length = queued)
    ∧ (deskInputs [0, 63] none 0 0).cfg.id ≠ 0 ∧ (deskInputs [0, 63] none 0 0).gain.stale = false
    ∧ (deskInputs [0, 63] none 0 0).reachable 0 = true ∧ (deskInputs [0, 63] none 0 0).waits 0 = false
    ∧ (deskInputs [0, 63] none 0 0).svc.entryWait = [] ∧ (deskInputs [0, 63] none 0 0).svc.normalRoom = []
    ∧ (∀ k : Fin 64, k = 0 ∨ k = 63 → ((deskInputs [0, 63] none 0 0).gain.mirror.get k).owner = some 1
        ∨ ((deskInputs [0, 63] none 0 0).gain.mirror.get k).owner = none) := by decide +kernel

theorem witness_SetInputBegins_stage : ∀ owner ∈ [(none : Option (Fin 4)), some 0],
    ∀ e ∈ [{ owner := owner }, ({ owner := owner, pending := some (changeFor full 12) } : InputEntry)], ∀ room ∈ [true, false],
      (stageInputs [63] e room).hasStep 0 6 4096 = true
      ∧ ((stageInputs [63] e room).stepAt 4096).payload = inputBytes 63 ∧ (stageInputs [63] e room).cfg.id = 0
      ∧ ((stageInputs [63] e room).gain.table.get 63) = e ∧ e.owner = owner ∧ e.waiting = none
      ∧ (stageInputs [63] e room).svc.mayPlace .urgent = room := by decide +kernel

theorem witness_SetInputBegins_stageTwo :
    (stageInputs [63, 63] { owner := some 0 } true).hasStep 0 6 4096 = true
    ∧ ((stageInputs [63, 63] { owner := some 0 } true).stepAt 4096).payload = inputBytes 63 ++ inputBytes 63
    ∧ ((stageInputs [63, 63] { owner := some 0 } true).gain.table.get 63).owner = some 0
    ∧ ((stageInputs [63, 63] { owner := some 0 } true).gain.table.get 63).pending = none
    ∧ ((stageInputs [63, 63] { owner := some 0 } true).gain.table.get 63).waiting = none
    ∧ (stageInputs [63, 63] { owner := some 0 } true).svc.mayPlace .urgent = true := by decide +kernel

/-- A step of records for terminal 3, reached or not, with some requests and messages waiting. -/
def sendsTo (kind : Nat) (ws : List Word) (reach : Bool) (requests queued : Nat) : State :=
  let s := begun (if reach then pathUp (run 1) 3 .east 1 1 else run 1) kind 3 0 (bytesOf ws)
  { s with svc := { s.svc with requests := List.replicate requests { reqOf 4 0 with lane := 3 }
                               normal := List.replicate queued laneNote } }

/-- A scene of mix 31 of so many distinct sources. -/
def sceneWords (sources : Nat) : List Word :=
  recordOf 159 0 600 :: (List.range sources).map fun i => recordOf 31 i (i + 1)

/-- A pool with so many entries in use, 48 in each of the first staged scenes. -/
def pooled (used : Nat) (s : State) : State :=
  (indices 32).foldl (fun st m => st.modMix m fun x => { x with
    staged := some { sceneOf true with sends := List.replicate (min 48 (used - 48 * m.val)) (3, 900) } }) s

theorem witness_MixStepsAct_noRoom :
    (∀ n ∈ [(48 : Nat), 49], (sendStep 12 (sceneWords n)).hasStep 0 12 4096 = true
      ∧ ((recordsOf (sendStep 12 (sceneWords n))).map fun r => r.mixByte) = 159 :: List.replicate n 31
      ∧ (((recordsOf (sendStep 12 (sceneWords n))).tail.map fun r => r.source).dedup.length = n)
      ∧ ((sendStep 12 (sceneWords n)).header 4096).target = 1)
    ∧ (∀ used ∈ [(1023 : Nat), 1024], (pooled used (sendStep 12 (sceneWords 1))).hasStep 0 12 4096 = true
      ∧ (pooled used (sendStep 12 (sceneWords 1))).mix.poolUsed = used
      ∧ ((pooled used (sendStep 12 (sceneWords 1))).mixRec 31).stagedSends = 0) := by decide +kernel

theorem witness_MixStepsAct_load :
    (sendStep 11 (sceneWords 13).tail).hasStep 0 11 4096 = true
    ∧ ((sendStep 11 (sceneWords 13).tail).header 4096).target = (run 1).cfg.id.val
    ∧ (recordsOf (sendStep 11 (sceneWords 13).tail)).length = 13
    ∧ (∀ r ∈ recordsOf (sendStep 11 (sceneWords 13).tail), r.mixByte < 32) := by decide +kernel

theorem witness_MixStepsAct_parts :
    (∀ n ∈ [(0 : Nat), 1, 12, 13, 25], (sendsTo 11 (sceneWords n).tail true 0 0).hasStep 0 11 4096 = true
      ∧ ((sendsTo 11 (sceneWords n).tail true 0 0).stepAt 4096).payload = bytesOf (sceneWords n).tail
      ∧ (bytesOf (sceneWords n).tail).length / 4 = n
      ∧ ∀ r ∈ chunks 4 (bytesOf (sceneWords n).tail), (byteAt r 0).toNat < 32)
    ∧ (∀ n ∈ [(0 : Nat), 11, 12, 24], (sendsTo 12 (sceneWords n) true 0 0).hasStep 0 12 4096 = true
      ∧ ((sendsTo 12 (sceneWords n) true 0 0).stepAt 4096).payload = bytesOf (sceneWords n)
      ∧ (bytesOf (sceneWords n)).length / 4 = n + 1 ∧ (byteAt (bytesOf (sceneWords n)) 0).toNat = 128 + (31 : Fin 32).val
      ∧ ∀ r ∈ (chunks 4 (bytesOf (sceneWords n))).drop 1, (byteAt r 0).toNat = (31 : Fin 32).val)
    ∧ (sendsTo 11 [] true 0 0).reachable 3 = true ∧ (sendsTo 11 [] false 0 0).reachable 3 = false
    ∧ ((sendsTo 11 [] true 0 0).header 4096).target = (3 : Fin 4).val ∧ (3 : Fin 4) ≠ (sendsTo 11 [] true 0 0).cfg.id
    ∧ ∀ requests ∈ [(63 : Nat), 64], ∀ queued ∈ [(15 : Nat), 16],
      (sendsTo 11 [] true requests queued).entryFree = decide (requests < 64)
      ∧ (sendsTo 11 [] true requests queued).svc.mayPlace .normal = decide (queued < 16) := by decide +kernel

/-- A state whose mix 31 has an older cue with record 2, of a requester. -/
def recued (s : State) (requester : CueRequester) (outstanding applied reason : Nat) : State :=
  { (s.modMix 31 fun x => { x with controller := 2, cue := some { spec := cueAt 9, record := 2 } }) with
    mix.records := s.mix.records.set 2
      (some { requester := requester, outstanding := outstanding, applied := applied, refused := 0, reason := reason }) }

/-- Lane 0 has asked for the older cue. -/
def laneCued (outstanding applied reason : Nat) : State :=
  recued (working (run 1) join0 (.cueScene 0x80000000 (cueAt 9) (some 2))) (.lane 0) outstanding applied reason

theorem witness_CuesAreTaken_superseded :
    (∀ n ∈ [(1 : Nat), 2], ∀ applied ∈ [(0 : Nat), 1], ∀ reason ∈ [(0 : Nat), 6],
      ((laneCued n applied reason).mixRec 31).cue = some { spec := cueAt 9, record := 2 }
      ∧ (laneCued n applied reason).mix.records.get 2
        = some { requester := .lane 0, outstanding := n, applied := applied, refused := 0, reason := reason }
      ∧ ((laneCued n applied reason).lane 0).activity = .working join0 (.cueScene 0x80000000 (cueAt 9) (some 2)))
    ∧ (∀ r ∈ [CueRequester.button, .remote 3 tag2], (recued (run 1) r 1 0 0).mix.records.get 2
        = some { requester := r, outstanding := 1, applied := 0, refused := 0, reason := 0 })
    ∧ ((laneCued 1 0 0).isRunning = true ∧ ((laneCued 1 0 0).mixRec 31).controller = 2 ∧ (laneCued 1 0 0).takeRecord? = some 0)
    ∧ ((recued cueStep .button 1 0 0).hasStep 0 13 4096 = true ∧ (recued cueStep .button 1 0 0).takeRecord? = some 0
      ∧ ((recued cueStep .button 1 0 0).header 4096).target = 1)
    ∧ ((recued cueWaits .button 1 0 0).mix.cueWait = [0, 3] ∧ (recued cueWaits .button 1 0 0).freeRecord? = some 0
      ∧ (recued cueWaits .button 1 0 0).works 0 join0 (.cueScene 0x20 (cueAt 9) none) = true) := by decide +kernel

/-- A CUE SCENE step of mix 31 for terminal 3. -/
def cueTo (reach : Bool) : State :=
  begun (if reach then pathUp (run 1) 3 .east 1 1 else run 1) 13 3 0 [0, 0, 0, 0x80, 1, 7, 7, 7, 9, 0, 0, 0, 0, 0xFF, 0xFF, 0]

theorem witness_CuesAreTaken_remote : ∀ reach ∈ [true, false], (cueTo reach).hasStep 0 13 4096 = true
    ∧ wordAt ((cueTo reach).stepAt 4096).payload 0 ≠ 0 ∧ ((cueTo reach).header 4096).target = (3 : Fin 4).val
    ∧ (3 : Fin 4) ≠ (cueTo reach).cfg.id ∧ (cueTo reach).reachable 3 = reach := by decide +kernel

/-- A TRIGGERED SWEEP of a button and an edge, or of a frame, at frame 6. -/
def armStep (kind place : Byte) (value : List Byte) : State :=
  begun (runAt 1 6) 20 0 0 ([3, place, 2, kind] ++ leBytes 4 47 ++ leBytes 4 0x3000 ++ value ++ leBytes 4 6
    ++ [9, 9, 9, 9] ++ bytesOf [1, 0x101])

theorem witness_MeterSweepsRun_arms :
    (∀ place ∈ [(0 : Byte), 1], ∀ t ∈ [((0 : Byte), [(7 : Byte), 2, 0, 0]), (0, [0, 0, 0, 0]), (1, [6, 0, 0, 0]), (1, [7, 0, 0, 0])],
      (armStep t.1 place t.2).hasStep 0 20 4096 = true
      ∧ byteAt ((armStep t.1 place t.2).stepAt 4096).payload 0 = 3
      ∧ (byteAt ((armStep t.1 place t.2).stepAt 4096).payload 2).toNat = 2
      ∧ 24 + 4 * 2 ≤ ((armStep t.1 place t.2).stepAt 4096).payload.length
      ∧ meterFault ((armStep t.1 place t.2).stepAt 4096).payload = none
      ∧ byteAt ((armStep t.1 place t.2).stepAt 4096).payload 3 = t.1)
    ∧ (byteAt ((armStep 0 0 [7, 2, 0, 0]).stepAt 4096).payload 12).toNat = (7 : Fin 8).val
    ∧ wordAt ((armStep 1 0 [7, 0, 0, 0]).stepAt 4096).payload 12 = 7
    ∧ later 7 (runAt 1 6).clock.frame = true ∧ later 6 (runAt 1 6).clock.frame = false := by decide +kernel

/-- The sweep of nine channels has no further position, and detectors 6 and 7 still measure. -/
def lastTwo : State := sweeping { nine with next := 9 } false ((oneMeasures 7 (measuring 8 0)).set 6 (some (measuring 6 1)))

theorem witness_MeterSweepsRun_othersMeasure : lastTwo.isRunning = true ∧ lastTwo.meter.queue = [0]
    ∧ lastTwo.sweep 0 = some { nine with next := 9 } ∧ lastTwo.meter.detectors.get 7 = some (measuring 8 0)
    ∧ (measuring 8 0).left = 0 ∧ nine.channels.length ≤ 9
    ∧ (∃ i : Fin 8, i ≠ 7 ∧ lastTwo.meter.detectors.get i ≠ none)
    ∧ nine.recordAddress 8 + 24 ≤ Config.ramSize := by decide +kernel

/-- A fault log that has taken so many records, none of them read. -/
def logAt (written : Word) : State := { runAt 1 77 with faultLog := ⟨written, 5⟩ }

theorem witness_PortEventsMovePorts_records :
    ((logAt 7).isRunning = true ∧ (logAt 7).cfg.faultLog + 16 + 32 * (logAt 7).cfg.faultCapacity ≤ Config.ramSize
      ∧ ((logAt 7).faultLog.written - (logAt 7).peek ((logAt 7).cfg.faultLog + 8)).toNat < (logAt 7).cfg.faultCapacity
      ∧ (logAt 8).cfg.faultCapacity ≤ ((logAt 8).faultLog.written - (logAt 8).peek ((logAt 8).cfg.faultLog + 8)).toNat)
    ∧ (∀ dark ∈ [true, false], ∀ state ∈ [PortState.qualify, .up], (westAt state 9 0 [0, 5] dark).isRunning = true
      ∧ ((westAt state 9 0 [0, 5] dark).port .west).state = state
      ∧ ((westAt state 9 0 [0, 5] dark).port .west).darkReported = dark
      ∧ ((((westAt state 9 0 [0, 5] dark).port .west).flaps.filter fun x =>
          decide ((westAt state 9 0 [0, 5] dark).passed < x + 480000)) ++ [480000]).length < 3
      ∧ 3 ≤ ((((westAt state 9 0 [1, 5] dark).port .west).flaps.filter fun x =>
          decide ((westAt state 9 0 [1, 5] dark).passed < x + 480000)) ++ [480000]).length)
    ∧ (((westAt .acquire 0 4800 [] false).port .west).state = .acquire
      ∧ 4800 ≤ ((westAt .acquire 0 4800 [] false).port .west).absent) := by decide +kernel

/-- An own burst with another mark, on a port that has reported a conflict or not. -/
def conflicting (reported : Bool) : State :=
  portIn (between 1) .west .up fun r => { r with conflictReported := reported, conflictQuiet := 3 }

theorem witness_OwnAndInvalidBursts_conflict : ∀ reported ∈ [true, false], (conflicting reported).isRunning = true
    ∧ ((conflicting reported).port .west).state = .up ∧ (burst 1 0 2 7).valid true = true
    ∧ (burst 1 0 2 7).origin = (conflicting reported).cfg.id ∧ (burst 1 0 2 7).mark ≠ (conflicting reported).mark
    ∧ ((conflicting reported).port .west).conflictReported = reported := by decide +kernel

theorem witness_ForeignBurstIsDealtWith_jump :
    (∀ both ∈ [true, false], (follows .west both none).clock.source = some 2 ∧ (follows .west both none).clock.port = some .west
      ∧ (follows .west both none).clock.lock = 0 ∧ (follows .west both none).clock.frame = 0)
    ∧ 32 < ((256 * ((33 : Word) - 0).toInt - 127 + 128) / 256).natAbs
    ∧ ((reaches (some 2) []).isStage = false ∧ (reaches (some 2) []).candidate ≠ (reaches (some 2) []).clock.source)
    ∧ (((run 1).sup.path 0 .west).up = false ∧ ((pathUp (run 1) 0 .west 0 9).sup.path 0 .west).up = true
      ∧ (run 1).isStage = false) := by decide +kernel

theorem witness_SwitchAppliesGain_late : ∀ c ∈ [{ toSix with deferred := true }, { toSix with deferred := true, counts := false },
      ({ toSix with setting := { gain := 20, pad := true }, deferred := true } : Scheduled)],
    (deskWith fun m => { m with scheduled := some c }).isRunning = true
    ∧ (deskWith fun m => { m with scheduled := some c }).cfg.id ≠ 0
    ∧ (deskWith fun m => { m with scheduled := some c }).merge.playedNow = false
    ∧ ((deskWith fun m => { m with scheduled := some c }).gain.mirror.get 63).scheduled = some c ∧ c.deferred = true
    ∧ (c.setting.effective = ((deskWith fun m => { m with scheduled := some c }).gain.mirror.get 63).setting.effective
        ↔ c.setting.pad = true) := by decide +kernel

/-- A port in LOOP that has reported a loss of its link or not. -/
def loopAt (role : LoopRole) (timer : Nat) (dark : Bool) : State :=
  let s := looping role (if role = .returner then none else some 0) timer
  let t := s.setPort .west { s.port .west with darkReported := dark, flaps := [3], failures := 6, forward := [burst 2 1 1 1] }
  if role = .returner then t else working t { join0 with segments := [(8192, 28)] } (.loopTest .west 48)

theorem witness_LoopTestsRun_records :
    (∀ role ∈ [LoopRole.testerNear, .testerFar], ∀ dark ∈ [true, false], (loopAt role 48 dark).isRunning = true
      ∧ ((loopAt role 48 dark).port .west).state = .loop
      ∧ ((loopAt role 48 dark).port .west).loop = some (loopOf role (some 0)) ∧ (loopOf role (some 0)).duration ≤ 48
      ∧ ((loopAt role 48 dark).port .west).timer = 48 ∧ ((loopAt role 48 dark).port .west).darkReported = dark
      ∧ (loopAt role 48 dark).works 0 { join0 with segments := [(8192, 28)] } (.loopTest .west 48) = true)
    ∧ ∀ dark ∈ [true, false], (loopAt .returner 9648 dark).isRunning = true
      ∧ ((loopAt .returner 9648 dark).port .west).loop = some (loopOf .returner none)
      ∧ (loopOf .returner none).duration + 9600 ≤ ((loopAt .returner 9648 dark).port .west).timer := by decide +kernel

/-- A desk's CLAIM INPUTS or RELEASE INPUTS of a set waits for its answer. -/
def claiming (release : Bool) (set : BitVec 64) : State :=
  { working (run 1) { join0 with segments := [(8192, 16)] } (.claim release set none) with
    svc := { requests := [reqOf (if release then 5 else 4) 0] } }

theorem witness_AnswersEndSteps_claims :
    (∀ release ∈ [true, false], ∀ n ∈ [(0 : Nat), 2 ^ 63 + 1],
      (claiming release (BitVec.ofNat 64 n)).works 0 { join0 with segments := [(8192, 16)] }
        (.claim release (BitVec.ofNat 64 n) none) = true
      ∧ (claiming release (BitVec.ofNat 64 n)).cfg.id ≠ 0
      ∧ (claiming release (BitVec.ofNat 64 n)).answered? reqTag 6 = some (reqOf (if release then 5 else 4) 0)
      ∧ (reqOf (if release then 5 else 4) 0).lane = 0)
    ∧ 8192 + 16 ≤ Config.ramSize
    ∧ ((asking (.setInput [asked, { asked with state := .unsent }]) 1 0).works 0 join0
        (.setInput [asked, { asked with state := .unsent }]) = true
      ∧ (asking (.setInput [asked, { asked with state := .unsent }]) 1 0).answered? reqTag 2 = some (reqOf 1 0)
      ∧ ∃ e ∈ [asked, { asked with state := .unsent }], e.state = .requested (reqOf 1 0).number) := by decide +kernel

/-- A SET INPUT entry for input 63 that waits for a switch at frame 12. -/
def switching : InputStep := { input := 63, setting := {}, outcome := 8196, state := .switching 5 12 }

/-- Lane 0's SET INPUT, its first entry at the switch due now. -/
def switchesWith (rest : List InputStep) : State :=
  working (deskWith fun m => { m with scheduled := some { toSix with tag := reqTag } }) join0 (.setInput (switching :: rest))

/-- A stage lane's SET INPUT, its first entry's change due now. -/
def appliesWith (rest : List InputStep) : State :=
  working (stageWith 63 { owner := some 0, pending := some { changeFor full 12 with requester := .lane 0 0 } }) join0
    (.setInput ({ switching with state := .taken } :: rest))

theorem witness_AnswersEndSteps_switch :
    (∀ (l : Fin 16), (run 1).op? l = none)
    ∧ (∀ rest ∈ [[], [{ switching with state := .ended .notOwner }], [{ switching with state := .ended .ok }],
        [{ switching with input := 62 }], ([{ switching with state := .unsent }] : List InputStep)],
      (switchesWith rest).works 0 join0 (.setInput (switching :: rest)) = true
      ∧ (∀ k : Fin 16, k ≠ 0 → (switchesWith rest).op? k = none)
      ∧ (∀ x ∈ rest, x.input = 63 → x.state ≠ .switching 5 12)
      ∧ (appliesWith rest).works 0 join0 (.setInput ({ switching with state := .taken } :: rest)) = true
      ∧ (appliesWith rest).cfg.id = 0 ∧ (appliesWith rest).merge.playedNow = false
      ∧ ((appliesWith rest).gain.table.get 63).pending = some { changeFor full 12 with requester := .lane 0 0 }
      ∧ ((appliesWith rest).gain.table.get 63).waiting = none
      ∧ later 12 ((appliesWith rest).clock.frame - BitVec.ofNat 32 (appliesWith rest).merge.delay) = false)
    ∧ (∃ x ∈ [{ switching with state := .unsent }], x.ended? = none)
    ∧ (∀ x ∈ [{ switching with state := .ended .notOwner }], x.ended? ≠ none) := by decide +kernel

/-- A remote mix step with a part left, its target reached or not. -/
def partsLeft (staging reach : Bool) (requests queued : Nat) : State :=
  let s := if reach then pathUp (run 1) 2 .east 1 1 else run 1
  { working s join0 (.mixRemote { lastPart 3 with todo := [[0, 1, 2, 3, 4]], staging := staging }) with
    svc := { requests := reqOf 8 0 :: List.replicate requests { reqOf 4 0 with lane := 3 }, normal := List.replicate queued laneNote } }

theorem witness_AnswersEndSteps_parts :
    (∀ staging ∈ [true, false], ∀ reach ∈ [true, false], ∀ requests ∈ [(63 : Nat), 64], ∀ queued ∈ [(15 : Nat), 16],
      (partsLeft staging reach requests queued).works 0 join0 (.mixRemote {
        lastPart 3 with todo := [[0, 1, 2, 3, 4]], staging := staging }) = true
      ∧ (partsLeft staging reach requests queued).answered? reqTag 11 = some (reqOf 8 0)
      ∧ (partsLeft staging reach requests queued).waits 0 = false
      ∧ (partsLeft staging reach requests queued).reachable 2 = reach)
    ∧ (lastPart 3).kind = 8 ∧ (reqOf 8 0).lane = 0 := by decide +kernel

/-- A desk whose mirror is stale, with every entry of it fresh but 63 and, or not, 62. -/
def nearlyFresh (both : Bool) : State :=
  { run 1 with gain := { (run 1).gain with
    mirror := ((Vector.replicate 64 { fresh := true }).set 63 {}).set 62 { fresh := !both } } }

theorem witness_DeskTakesAnnouncements_fresh :
    (∀ both ∈ [true, false], (nearlyFresh both).gain.stale = true ∧ ((nearlyFresh both).gain.mirror.get 63).fresh = false
      ∧ ((nearlyFresh both).gain.mirror.get 62).fresh = !both ∧ ((nearlyFresh both).gain.mirror.get 0).fresh = true
      ∧ ((nearlyFresh both).gain.mirror.get 63).scheduled = none)
    ∧ (reqTag.requester.toNat = desk.cfg.id.val ∧ reqTag.lane.toNat = (0 : Fin 16).val
      ∧ ((switchesWith []).gain.mirror.get 63).scheduled = some { toSix with tag := reqTag } ∧ toSix.switch ≠ 13
      ∧ (switchesWith []).works 0 join0 (.setInput [switching]) = true
      ∧ switching.state = .switching reqTag.seq toSix.switch)
    ∧ (63 < (64 : Byte).toNat ∧ 2 < (3 : Byte).toNat ∧ 3 < (4 : Byte).toNat ∧ (254 : Byte) ≠ 255 ∧ 7 < (8 : Byte).toNat)
    ∧ (desk.isRunning = true ∧ desk.answered? tag2 6 = none) := by decide +kernel

/-- Terminal 2's mix 31 with so many sends, and a staging of so many entries. -/
def stagingAt (live entries : Nat) (complete : Bool) (source : Fin 4) : State :=
  mixOf2.modMix 31 fun x => { x with
    sends := List.replicate live (sendOf false)
    staged := some {
      sends := (List.range entries).map fun i => (BitVec.ofNat 8 (2 * i), i), master := 5, complete := complete, source := source } }

/-- The staging begun by a master entry for level code 900. -/
def stagingBegun : State := mixOf2.modMix 31 fun x => { x with
  staged := some { sends := [], master := (sendRecord (recordOf 159 0 900)).code, complete := false, source := 2 } }

theorem witness_MixSendsAreAnswered_records :
    (∃ (t : State) (a : MixAnswer), mixOf2.applySends (some 2) {} ([recordOf 31 1 9, recordOf 32 1 9, recordOf 5 1 9].map sendRecord)
      = (t, a) ∧ a = { applied := 1, refused := 2, reason := 3 })
    ∧ (∃ (y : Mix) (ok : Bool), (mixOf2.mixRec 31).applySend mixOf2.poolFree 1 9 false = (y, ok))
    ∧ ((sendRecord (recordOf 127 1 9)).mixByte = 127 ∧ (sendRecord (recordOf 160 1 9)).mixByte = 160
      ∧ (sendRecord (recordOf 31 1 9)).mixByte = (31 : Fin 32).val
      ∧ (sendRecord (recordOf 159 0 900)).mixByte = 128 + (31 : Fin 32).val)
    ∧ ((mixOf2.mixRec 31).staged = none ∧ (mixOf2.mixRec 31).controller = 2
      ∧ (∀ scene : Scene, ((stagingAt 0 3 true 2).mixRec 31).staged = some scene → scene.complete = true)
      ∧ (∀ scene : Scene, ((stagingAt 0 3 false 1).mixRec 31).staged = some scene → scene.source ≠ 2)) :=
  ⟨⟨_, _, rfl, by decide +kernel⟩, ⟨_, _, rfl⟩, by decide +kernel, by decide +kernel, by decide +kernel,
    fun _ h => by cases h; rfl, fun _ h => by cases h; decide⟩

theorem witness_MixSendsAreAnswered_stagings :
    (∃ (t : State) (a : MixAnswer), stagingBegun.stageRecords 31 { applied := 1, refused := 0, reason := 0 }
        ([recordOf 31 1 9, recordOf 31 1 8].map sendRecord) = (t, a) ∧ a.refused = 0 ∧ a.applied = 3
      ∧ ∃ scene : Scene, (t.mixRec 31).staged = some scene)
    ∧ (∃ (t : State) (a : MixAnswer), stagingBegun.stageRecords 31 { applied := 1, refused := 0, reason := 0 }
        ([recordOf 30 1 9].map sendRecord) = (t, a) ∧ a.refused ≠ 0)
    ∧ (∃ (t : State) (a : MixAnswer), (stagingAt 0 47 false 2).stageRecords 31 { applied := 0, refused := 0, reason := 0 }
        ([recordOf 31 1 9, recordOf 31 3 8].map sendRecord) = (t, a) ∧ a = { applied := 1, refused := 1, reason := 2 })
    ∧ (∀ n ∈ [(47 : Nat), 48], ∃ scene : Scene, ((stagingAt 0 n false 2).mixRec 31).staged = some scene
      ∧ scene.complete = false ∧ scene.source = 2 ∧ (scene.sends.length = n)
      ∧ (∃ e ∈ scene.sends, e.1 = 92) ∧ (∀ e ∈ scene.sends, e.1 ≠ 93)
      ∧ scene.sends.Pairwise (fun a b => a.1.toNat < b.1.toNat))
    ∧ ((stagingAt 976 47 false 2).mix.poolUsed < 1024 ∧ 1024 ≤ (stagingAt 977 47 false 2).mix.poolUsed) :=
  ⟨⟨_, _, rfl, by decide +kernel, by decide +kernel, _, rfl⟩, ⟨_, _, rfl, by decide +kernel⟩, ⟨_, _, rfl, by decide +kernel⟩,
    fun n hn => ⟨_, rfl, rfl, rfl, by
      simp only [List.mem_cons, List.not_mem_nil, or_false] at hn
      rcases hn with rfl | rfl <;> decide +kernel⟩, by decide +kernel⟩

theorem witness_MixStepsAct_records :
    (sendStep 11 [recordOf 31 7 600, recordOf 0 7 600]).hasStep 0 11 4096 = true
    ∧ (∀ r ∈ recordsOf (sendStep 11 [recordOf 31 7 600, recordOf 0 7 600]), r.mixByte ≤ 31)
    ∧ ((sendStep 11 [recordOf 31 7 600, recordOf 0 7 600]).header 4096).target = (run 1).cfg.id.val
    ∧ ((sendStep 11 [recordOf 31 7 600, recordOf 0 7 600]).applySends none {}
      (recordsOf (sendStep 11 [recordOf 31 7 600, recordOf 0 7 600]))).2 = { applied := 2, refused := 0, reason := 0 } := by
  decide +kernel

/-- The last outstanding mix of a record of these totals is due. -/
def lastDue (requester : CueRequester) (applied refused reason : Nat) (staged : Option Scene) : State :=
  let s := working (cued 0 requester 1 staged) join0 (.cueScene 0x20 (cueAt 0) (some 2))
  { s with mix := { s.mix with records := s.mix.records.set 2 (some {
    requester := requester, outstanding := 1, applied := applied, refused := refused, reason := reason }) } }

theorem witness_CuesAreTaken_last :
    (∀ requester ∈ [CueRequester.remote 2 tag2, .button, .lane 0], ∀ staged ∈ [none, some (sceneOf true), some (sceneOf false)],
      ∀ n ∈ [((0 : Nat), (0 : Nat), (0 : Nat)), (1, 0, 0), (0, 1, 6), (0, 1, 4)],
      (lastDue requester n.1 n.2.1 n.2.2 staged).isRunning = true
      ∧ ((lastDue requester n.1 n.2.1 n.2.2 staged).mixRec 5).cue = some { spec := cueAt 0, record := 2 }
      ∧ (lastDue requester n.1 n.2.1 n.2.2 staged).mix.records.get 2
        = some { requester := requester, outstanding := 1, applied := n.1, refused := n.2.1, reason := n.2.2 }
      ∧ (lastDue requester n.1 n.2.1 n.2.2 staged).merge.playedNow = false
      ∧ later 0 (lastDue requester n.1 n.2.1 n.2.2 staged).clock.frame = false
      ∧ ((lastDue requester n.1 n.2.1 n.2.2 staged).mixRec 5).staged = staged
      ∧ ((lastDue requester n.1 n.2.1 n.2.2 staged).lane 0).activity
        = .working join0 (.cueScene 0x20 (cueAt 0) (some 2)))
    ∧ ((sceneOf true).complete = true ∧ (sceneOf false).complete = false) := by decide +kernel

/-- A CUE SCENE step of mixes 0, 5 and 31 here. -/
def cueThree : State := begun (run 1) 13 1 0 (bytesOf [0x80000021, 1, 9, 0xFFFFFF])

/-- Lane 0 waits for a record for those mixes. -/
def threeWait : State :=
  { working (run 1) join0 (.cueScene 0x80000021 (cueAt 9) none) with mix := { (run 1).mix with cueWait := [0, 3] } }

theorem witness_CuesAreTaken_many :
    ((List.finRange 32).filter fun m : Fin 32 => (0x80000021 : Word).getLsbD m.val) = [0, 5, 31]
    ∧ (([0, 5, 31] : List (Fin 32)).filter fun m => decide ((mixOf2.mixRec m).controller = 2)) = [31]
    ∧ (([0, 5, 31] : List (Fin 32)).filter fun m => decide (((run 1).mixRec m).controller = 2)) = []
    ∧ (mixOf2.takeRecord? = some 0 ∧ (allTaken mixOf2).takeRecord? = none)
    ∧ (cueThree.hasStep 0 13 4096 = true ∧ wordAt (cueThree.stepAt 4096).payload 0 = 0x80000021
      ∧ (cueThree.header 4096).target = cueThree.cfg.id.val ∧ cueThree.takeRecord? = some 0
      ∧ (allTaken cueThree).takeRecord? = none ∧ (cueThree.mixRec 5).cue = none)
    ∧ (threeWait.mix.cueWait = [0, 3] ∧ threeWait.freeRecord? = some 0
      ∧ threeWait.works 0 join0 (.cueScene 0x80000021 (cueAt 9) none) = true)
    ∧ ((((run 1).modButton 3 fun x => { x with action := .cue 0x80000021 77 }).button 3).action = .cue 0x80000021 77
      ∧ ((run 1).modButton 3 fun x => { x with action := .cue 0x80000021 77 }).takeRecord? = some 0) := by decide +kernel

/-- A circle of two GATHER steps. -/
def circle : State := (gathers 2 2 4128 1 4096).pokeAll 4128 [4096, 2 + 512]

/-- A lane parked inside a GATHER. -/
def gatherParked (j : Join) : State :=
  (run 1).modLane 0 fun y => { y with state := .parked, activity := .gathered j, parked := some 4096, done := 7 }

theorem witness_CancelLeavesLaneIdle_joins :
    ((gathers 1 1 4128 0 0).isRunning = true ∧ ((gathers 1 1 4128 0 0).lane 0).activity = .joining {} 4096
      ∧ (∃ j : Join, (gathers 1 1 4128 0 0).joinFrom joinFuel {} 4096 = .ready j ∧ j.steps = [4096, 4128])
      ∧ (∃ j : Join, (gathers 1 1 0 0 0).joinFrom joinFuel {} 4096 = .gathered j ∧ j.steps = [4096])
      ∧ (∃ j : Join, (gathers 2 2 4128 2 0x3FFFF).joinFrom joinFuel {} 4096 = .failed j 2 ∧ j.steps = [4096, 4128])
      ∧ (∃ j : Join, (gathers 2 2 5 1 0x1000).joinFrom joinFuel {} 4096 = .badLink j 5 ∧ j.steps = [4096]))
    ∧ (∃ (k : Join) (a : Nat), (circle.lane 0).activity = .joining k a
      ∧ ∀ n ∈ [(1 : Nat), 2, 3, 30], circle.joinFrom n k a = .endless)
    ∧ ((gatherParked { join0 with steps := [4096, 4128] }).isRunning = true
      ∧ ((gatherParked { join0 with steps := [4096, 4128] }).lane 0).activity = .gathered { join0 with steps := [4096, 4128] }
      ∧ ((gatherParked join0).lane 0).state ≠ .idle ∧ (run 1).cfg.laneTable + 512 ≤ 4096
      ∧ [4096, 4128].Pairwise (fun i k => i + 32 ≤ k ∨ k + 32 ≤ i)) :=
  ⟨⟨by decide +kernel, by decide +kernel, ⟨_, rfl, by decide +kernel⟩, ⟨_, rfl, by decide +kernel⟩, ⟨_, rfl, by decide +kernel⟩,
    ⟨_, rfl, by decide +kernel⟩⟩, ⟨{}, 4096, by decide +kernel⟩, by decide +kernel⟩

theorem witness_FinishedStepIsReported_park :
    ((run 1).entry 15 + 32 ≤ Config.ramSize ∧ 4096 ≥ (run 1).entry 15 + 32)
    ∧ (run 1).postCount 15 = ((run 1).lane 15).lastSeen ∧ (run 1).peek 4096 = 0
    ∧ (((run 1).poke 740 5).poke 4096 4128).postCount 15 ≠ ((((run 1).poke 740 5).poke 4096 4128).lane 15).lastSeen
    ∧ (((run 1).poke 740 5).poke 4096 4128).peek 4096 ≠ 0
    ∧ ((run 1).lane 15).state ≠ .parked ∧ ((gatherParked join0).lane 0).state = .parked := by decide +kernel

/-- The detail of a refused PATCH OUTPUTS entry, and the outputs of a good one's rest. -/
def outputDetail (b : List Byte) : Option Nat :=
  match outputEntries (chunks 8 b) with
  | .error d => some d
  | .ok _ => none

theorem witness_MapStepsApply_payloads :
    (8 ≤ (byteAt [8, 0, 0, 0] 0).toNat ∧ slotsFault 8 ([[7, 3, 0, 0], [8, 0, 0, 0]].map slotEntry) = some 16)
    ∧ (∀ e ∈ ([[7, 3, 0, 0], [7, 1, 64, 0], [7, 2, 32, 0]] : List (List Byte)), (byteAt e 0).toNat < 8
      ∧ (2 < (byteAt e 1).toNat ∨ byteAt e 1 = 1 ∧ 63 < (byteAt e 2).toNat ∨ byteAt e 1 = 2 ∧ 31 < (byteAt e 2).toNat))
    ∧ (∀ e ∈ ([[7, 0, 64, 0], [7, 1, 63, 0], [7, 2, 31, 0]] : List (List Byte)), (byteAt e 0).toNat < 8
      ∧ ¬ (2 < (byteAt e 1).toNat ∨ byteAt e 1 = 1 ∧ 63 < (byteAt e 2).toNat ∨ byteAt e 1 = 2 ∧ 31 < (byteAt e 2).toNat))
    ∧ (outputDetail [64, 4, 0, 0, 0, 0, 0, 0] = some 16 ∧ outputDetail [63, 4, 0, 0, 0, 0, 0, 0] = some 17
      ∧ outputDetail [63, 1, 3, 63, 254, 0, 0, 0, 64, 0, 0, 0, 0, 0, 0, 0] = some 18
      ∧ outputDetail [63, 1, 3, 63, 255, 0, 0, 0, 0, 1, 0, 0, 3, 0, 0, 0, 0, 2, 31, 0, 0, 0, 0, 0, 0, 3, 63, 0, 0, 0, 0, 0] = none)
    ∧ (((run 1).xmit.get 3).change (.mix 31)).2 = true := by decide +kernel

/-- Two changes of slot 3, or of output 63, that leave it as it was. -/
def twiceStep (kind : Nat) : State :=
  begun (run 1) kind 0 0 (if kind = 3 then [3, 2, 31, 0, 3, 0, 0, 0] else [63, 2, 31, 0, 0, 0, 0, 0, 63, 0, 0, 0, 0, 0, 0, 0])

theorem witness_MapStepsApply_settled :
    ((twiceStep 3).hasStep 0 3 4096 = true
      ∧ slotsFault (twiceStep 3).cfg.slotCount ((chunks 4 ((twiceStep 3).stepAt 4096).payload).map slotEntry) = none
      ∧ goodSlots ((chunks 4 ((twiceStep 3).stepAt 4096).payload).map slotEntry) = [(3, .mix 31), (3, .silent)]
      ∧ (changeAll (twiceStep 3).xmit [(3, .mix 31), (3, .silent)]).2 = 2
      ∧ ((changeAll (twiceStep 3).xmit [(3, .mix 31), (3, .silent)]).1.get 3).next = none
      ∧ ((changeAll (twiceStep 3).xmit [(3, .mix 31), (3, .silent)]).1.get 3).gain = 48)
    ∧ ((twiceStep 4).hasStep 0 4 4096 = true ∧ outputsOf ((twiceStep 4).stepAt 4096).payload = some [63, 63]
      ∧ (changeAll (twiceStep 4).delivery [(63, .mix 31), (63, .none)]).2 = 2
      ∧ ((changeAll (twiceStep 4).delivery [(63, .mix 31), (63, .none)]).1.get 63).next = none
      ∧ ((changeAll (twiceStep 4).delivery [(63, .mix 31), (63, .none)]).1.get 63).gain = 48) := by decide +kernel

/-- A METER payload: mode, placement, count, trigger kind, result address, button and edge, channels. -/
def meterBytes (mode place count kind : Byte) (address : Nat) (button edge : Byte) (channels : List Word) : List Byte :=
  [mode, place, count, kind] ++ leBytes 4 47 ++ leBytes 4 address ++ [button, edge, 0, 0] ++ leBytes 4 6 ++ [9, 9, 9, 9]
    ++ bytesOf channels

theorem witness_MeterSweepsRun_faults :
    (∀ w ∈ [(0x00043F00 : Nat), 0x00034000, 0x04033F00, 0xFE033F00, 0x2001, 0x4002, 3],
      meterFault (meterBytes 1 0 2 0 0x3000 0 0 [0xFF033F00, BitVec.ofNat 32 w]) = some 17)
    ∧ (∀ a ∈ [(252 : Nat), 258, 0x3FFD4], meterFault (meterBytes 2 0 2 0 a 0 0 [1, 2]) = some 18)
    ∧ (meterFault (meterBytes 4 0 2 0 0x3FFD0 0 0 [1, 2]) = some 19 ∧ meterFault (meterBytes 1 2 2 0 0x3FFD0 0 0 [1, 2]) = some 19
      ∧ meterFault (meterBytes 3 0 2 2 0x3FFD0 0 0 [1, 2]) = some 19
      ∧ meterFault (meterBytes 3 0 2 0 0x3FFD0 8 0 [1, 2]) = some 19
      ∧ meterFault (meterBytes 3 0 2 0 0x3FFD0 7 3 [1, 2]) = some 19)
    ∧ (meterFault (meterBytes 3 1 2 0 0x3FFE8 7 2 [0xFF033F00, 0x03033F00]) = none
      ∧ meterFault (meterBytes 1 0 12 0 256 0 0 (List.replicate 12 0x1F01)) = none
      ∧ meterFault (meterBytes 0 0 65 9 0x3FFE8 9 9 [2]) = none) := by decide +kernel

theorem witness_MeterSweepsRun_refused : (meterStep 3 2 2 [1, 0x101]).hasStep 0 20 4096 = true
    ∧ 24 + 4 * 2 ≤ ((meterStep 3 2 2 [1, 0x101]).stepAt 4096).payload.length
    ∧ meterFault ((meterStep 3 2 2 [1, 0x101]).stepAt 4096).payload = some 19 := by decide +kernel

/-- A terminal with entries of each kind to show. -/
def shows (id : Fin 4) : State :=
  let s := run 1
  { s with
    cfg := { s.cfg with id := id }
    gain := { s.gain with
      table := s.gain.table.set 63 { owner := some 3, pending := some (changeFor full 12) }
      mirror := s.gain.mirror.set 63 { fresh := true, scheduled := some toSix }
      tracking := s.gain.tracking.set id.val ((s.gain.tracking.get id).set 63 { reference := some (-20) }) }
    sup := { s.sup with
      eastward := { closed := true, hop := 2, roundTrip := some 70000 }
      summaries := s.sup.summaries.set 3 (some (0x12345678, 9))
      paths := s.sup.paths.set 3 ⟨{ up := true, since := some 7 }, {}⟩ } }

theorem witness_ViewIsRewritten_bodies :
    (∀ id ∈ [(0 : Fin 4), 1], (shows id).cfg.id = id
      ∧ (((shows id).gain.tracking.get id).get 63).reference = some (-20)
      ∧ (((shows id).gain.tracking.get id).get 62).reference = none
      ∧ (shows id).sup.eastward.roundTrip = some 70000 ∧ (shows id).sup.westward.roundTrip = none
      ∧ (shows id).sup.summaries.get 3 = some (0x12345678, 9) ∧ (shows id).sup.summaries.get 2 = none
      ∧ ((shows id).sup.path 3 .east).since = some 7 ∧ ((shows id).sup.path 3 .west).since = none)
    ∧ (((shows 0).gain.table.get 63).pending = some (changeFor full 12) ∧ ((shows 0).gain.table.get 62).pending = none)
    ∧ (((shows 1).gain.mirror.get 63).scheduled = some toSix ∧ ((shows 1).gain.mirror.get 62).scheduled = none) := by
  decide +kernel

theorem witness_BurstIsBuilt_summary :
    (shows 1).sup.eastward.closed = true ∧ (shows 1).sup.westward.closed = false ∧ (run 1).sup.eastward.closed = false
    ∧ (shows 1).heardAt .east 0 = some 3 ∧ (shows 1).heardAt .west 0 = none ∧ (shows 1).heardAt .east 1 = none := by
  decide +kernel

theorem witness_GoodAnchorStartsRun_areas :
    (∀ v ∈ [View.input, .ring, .talk], ((starting goodAnchor).view v).count = 0)
    ∧ (starting (goodAnchor.set 2 0x01FF4001)).regs.runState = .starting
    ∧ verdictOf (starting (goodAnchor.set 2 0x01FF4001)).anchor = .anchorOk
    ∧ ((starting (goodAnchor.set 2 0x01FF4001)).anchor.getD 2 0).toNat / 2 ^ 24 % 2 = 1
    ∧ ((starting goodAnchor).anchor.getD 2 0).toNat / 2 ^ 24 % 2 = 0
    ∧ outsideArea 0x3FFFF 0x30 8 = true ∧ outsideArea 0x3FFFF (2832 + 16) 16 = true := by decide +kernel

/-! ### Values worked out by hand -/

/-- 2^20 × 10^(c/20) at -20 and 20 dB, and the level codes 0, 1, 800, 900 and 1000 (R96, R106). -/
theorem test_coefficients : gainCoeff (-20) = 104858 ∧ gainCoeff 20 = 10485760
    ∧ levelCoeff 0 = 0 ∧ levelCoeff 1 = 34 ∧ levelCoeff 800 = 331589 ∧ levelCoeff 900 = 1048576
    ∧ levelCoeff 1000 = 3315888 := by decide +kernel

/-- The CRC-32 of the digits 1 to 9 (R23 names the polynomial, the bit order and the two inversions). -/
theorem test_crc32 : crc32 [0x31, 0x32, 0x33, 0x34, 0x35, 0x36, 0x37, 0x38, 0x39] = 0xCBF43926 := by decide +kernel

/-- Halves round away from zero (R40), and a sample scaled truncates toward zero (R31). -/
theorem test_rounding : roundFrames 128 = 1 ∧ roundFrames (-128) = -1 ∧ roundFrames 127 = 0 ∧ roundFrames (-385) = -2
    ∧ scaleSample (BitVec.ofInt 24 (-3)) 1 2 = BitVec.ofInt 24 (-1) ∧ compensate 0x7FFFFF 2097152 = 0x7FFFFF := by decide

/-- 111111 111100 1 1 0 and odd parity: input 63, 60 dB, pad and phantom on (R187). -/
theorem test_preamp_word : ({ due := 0, input := 63, setting := full } : PreampWord).bits = 0xFFCD := by decide

/-- A NOTE of one byte to terminal 15: address, kind 17, length 1, the byte, and the sum that makes the total 0 (R65). -/
theorem test_message_bytes : noteMsg.bytes = [0x10F, 17, 1, 1, 237] := by decide

/-! ### Single steps -/

theorem test_powerOn_writes_contents : (after (.powerOn [(3, 0x01020304)]) busy).busRead 12 = 0x01020304 := by decide +kernel

theorem test_resetPinLow_closes_bus : (after .resetPinLow busy).ready = false ∨ (after .resetPinLow busy).resetLow = true := by
  decide +kernel

theorem test_hostRamWrite_top_word : (after (.hostRamWrite 0xFFFF 0x80000001) busy).busRead 0x3FFFC = 0x80000001 := by
  decide +kernel

theorem test_attentionClear : (after (.attentionClear 0x00F0F1) busy).regs.attention = 0x7F0F0E := by decide +kernel

theorem test_anchorCheck_clamps : (after .anchorCheck (starting goodAnchor)).peek 0x30 = 0x3F0C
    ∧ (after .anchorCheck (starting goodAnchor)).peek 0x34 = 0x40008 := by decide +kernel

theorem test_mark_parks : ((after (.mark 0) markStep).lane 0).state = .parked
    ∧ ((after (.mark 0) markStep).lane 0).done = 1 ∧ (after (.mark 0) markStep).regs.attention = 1 := by decide +kernel

theorem test_wait_writes_frames : (after (.waitElapsed 0) (waiting5 (.elapsed 5) 0 5)).peek 4116 = 5
    ∧ (after (.waitTimeout 0) (waiting5 (.button 3) 5 5)).peek 4112 = 5 := by decide +kernel

theorem test_stepBadKind_detail : (after (.stepBadKind 0) (begun (run 1) 21 0 0 [])).peek 4112 = 0x10007 := by decide +kernel

theorem test_burstReceive_forwards : ((after (.burstReceive .west 3 true (burst 2 2 9 7)) (between 2)).port .east).forward.map
    (fun b => b.head) = [0x0E] := by decide +kernel

theorem test_mapSlots_fades : ((after (.mapSlots 0) (mapStep 7)).xmit.get 7)
    = { current := .silent, next := some (.localInput 3), gain := 48 } := by decide +kernel

theorem test_playMissing_fades_from_eight : ((concealed (.holding 8)).playMissing.1).conceal = .fading 1 := by decide +kernel

/-- Switch frame 20 + 8 + 0 + 32 (R90). -/
theorem test_gainRequest_switch : ((after (.gainRequest 2 tag2 63 61 1 1) (stageWith 63 { owner := some 2 })).gain.table.get
    63).pending.map (fun c => c.switch) = some (some 60) := by decide +kernel

theorem test_claim_skips_owned : ((after (.claim 2 tag2 0x8000000000000001) (stageWith 63 { owner := some 1 })).gain.table.get
    63).owner = some 1 := by decide +kernel

theorem test_claim_takes_orphaned : (after (.claim 2 tag2 0x8000000000000001)
    (stageWith 63 { owner := some 1, orphaned := true })).gain.table.get 63 = { owner := some 2 } := by decide +kernel

theorem test_ownerAnnounce_orphaned : ((after (.ownerAnnounce 1 7 tag2 1) desk).gain.mirror.get 0).owner = some 3
    ∧ ((after (.ownerAnnounce 1 7 tag2 1) desk).gain.mirror.get 0).orphaned = true := by decide +kernel

theorem test_note_drops_when_full : (after (.note 2 77 [1]) { run 1 with noteList := ⟨4, 0⟩ }).noteList = ⟨4, 1⟩ := by
  decide +kernel

theorem test_mixSends_reasons : (after (.mixSends 2 tag2 false false [recordOf 31 1 900]) (run 1)).svc.normal.map
    (fun m => m.body) = [[2, 3, 5, 0, 1, 1]] := by decide +kernel

theorem test_cueDue_not_ready : (after (.cueDue 5) (cued 0 (.remote 2 tag2) 1 none)).svc.normal.map (fun m => m.body)
    = [[2, 3, 5, 0, 1, 4]] := by decide +kernel

theorem test_talkOpen_holds_active_mix : opened.insert 5 = { holder := some ⟨2, 0⟩ }
    ∧ (opened.talkerGroup 2 3).lost = 0x40 := by decide +kernel

theorem test_button_takes_480th_sample :
    ((after (.buttonDebounce 7 true) (buttonAt false false 478 .idle 0)).button 7).level = false
    ∧ ((after (.buttonDebounce 7 true) (buttonAt false false 479 .idle 0)).button 7).level = true
    ∧ ((after (.buttonDebounce 7 true) (buttonAt false false 479 .idle 0)).button 7).presses = 1 := by decide +kernel

theorem test_third_flap_quarantines : ((after (.signalLoss .west) (westAt .qualify 0 0 [1, 5] false)).port .west).state
    = .quarantine := by decide +kernel

/-- Origin 3 on one port of two. -/
def onePathStale : State := pathUp (pathUp (run 1) 3 .west 2 32) 3 .east 1 1

theorem test_pathTimeout_counts : ((after (.pathTimeout 3 .west) onePathStale).sup.path 3 .west).losses = 1
    ∧ (after (.pathTimeout 3 .west) onePathStale).faultLog.written = 1 := by decide +kernel

theorem test_testerWindowEnd_writes_counts : (after (.testerWindowEnd .west) windowOver).peek 8200 = 5
    ∧ (after (.testerWindowEnd .west) windowOver).peek 8212 = 0xFFFFFFFF := by decide +kernel

/-- The words of an entry that a host has written over are written again at the next end and begin (R13, R14). -/
theorem test_mark_rewrites_entry : (after (.mark 0) (markStep.poke 284 0xFFFFFFFF)).peek 284 = 0 := by decide +kernel

/-- The skew pairs the two ports' copies of one frame number; of frame 8 the other port has none (R39). -/
theorem test_skew_pairs_one_frame : (((follows .west true none).clockArrival 2 .west 7 40).clock.skew) = some (300 - (256 * 7 - 40))
    ∧ (((follows .west true none).clockArrival 2 .west 8 40).clock.skew) = none := by decide +kernel

theorem test_meterPassBegin_fills_eight :
    ((after .meterPassBegin (sweeping nine true (Vector.replicate 8 none))).meter.detectors.get 7).map (fun d => d.channel)
      = some 0x701
    ∧ ((after .meterPassBegin (sweeping nine true (Vector.replicate 8 none))).sweep 0).map (fun x => x.next) = some 8 := by
  decide +kernel

/-! ### Witnesses: work inside a frame, and the further clauses of this kind -/

/-- Lane 0 has a step of map fades, its entry 63 at a gain. -/
def fadingAt (gain : Nat) (outputs : Bool) : State :=
  { working (run 1) join0 (if outputs then .patchOutputs [63] 1 else .mapSlots [63] 1) with
    xmit := (run 1).xmit.set 63 (fadeOf none gain)
    delivery := (run 1).delivery.set 63 { current := .none, next := none, gain := gain } }

theorem witness_IdleStepOpensFrame_rounds :
    (markStep.roundWork = [.mark 0] ∧ markStep.begunKind? 0 = some 1 ∧ markStep.pending = [] ∧ markStep.inbox = [])
    ∧ ({ markStep with rounds := 65535 }.roundWork = [.mark 0] ∧ { markStep with rounds := 65536 }.roundWork = []
      ∧ { markStep with rounds := 65536 }.resetLow = false ∧ { markStep with rounds := 65536 }.isRunning = true)
    ∧ ((fadingAt 48 false).roundWork = [.mapSlotsSettled 0] ∧ (fadingAt 47 false).roundWork = []
      ∧ (fadingAt 48 true).roundWork = [.patchOutputsSettled 0] ∧ (fadingAt 47 true).roundWork = []) := by decide +kernel

/-- A WAIT on button 7 with a timeout, begun some frames ago. -/
def waitFor (timeout : Word) (age : Nat) : State :=
  begun { run 1 with lanes := (run 1).lanes.set 0 { (run 1).lane 0 with age := age } } 2 0 3
    (leBytes 4 7 ++ leBytes 4 timeout.toNat)

theorem witness_WaitBeginsAndEnds_timeouts :
    ((waitFor 5 5).hasStep 0 2 4096 = true ∧ wordAt ((waitFor 5 5).stepAt 4096).payload 4 = 5
      ∧ waitCond ((waitFor 5 5).stepAt 4096).param (wordAt ((waitFor 5 5).stepAt 4096).payload 0) = some (.button 7)
      ∧ (waitFor 5 5).holdsAtOnce 0 (.button 7) = false ∧ ((waitFor 5 5).lane 0).age = 5)
    ∧ ((waitFor 6 5).hasStep 0 2 4096 = true ∧ wordAt ((waitFor 6 5).stepAt 4096).payload 4 = 6 ∧ ((waitFor 6 5).lane 0).age = 5)
    ∧ ((5 : Word) ≠ 0 ∧ (5 : Word).toNat ≤ 5 ∧ 5 < (6 : Word).toNat)
    ∧ ((7 : Word).toNat = (7 : Fin 8).val ∧ (3 : Word).toNat = (3 : Fin 4).val ∧ 7 < (8 : Word).toNat ∧ 3 < (4 : Word).toNat)
    ∧ ((waiting5 (.elapsed 5) 5 4).resetLow = false ∧ (waiting5 (.elapsed 5) 5 4).isRunning = true
      ∧ (waiting5 (.elapsed 5) 5 4).works 0 join0 (.wait (.elapsed 5) 5) = true
      ∧ (5 : Word).toNat ≤ ((waiting5 (.elapsed 5) 5 4).lane 0).age + 1
      ∧ (waiting5 (.frame 1) 0 4).works 0 join0 (.wait (.frame 1) 0) = true
      ∧ ((1 : Word) - ((waiting5 (.frame 1) 0 4).clock.frame + 1)).toInt ≤ 0) := by decide +kernel

theorem witness_ViewsFollowState_runs : (run 1).isRunning = true ∧ State.reset.isRunning = false := by decide

/-- The preamp line with two words due for input 63. -/
def twoWords : State :=
  { run 0 with conv := { (run 0).conv with schedule := [⟨0, 63, {}⟩, ⟨0, 63, full⟩, ⟨1, 62, full⟩] } }

theorem witness_PreampWordsAreSent_records :
    twoWords.resetLow = false ∧ twoWords.conv.wordsSent = false
    ∧ (twoWords.conv.schedule.filter fun w => !later w.due twoWords.clock.frame).take 32 = [⟨0, 63, {}⟩] ++ ⟨0, 63, full⟩ :: []
    ∧ { run 0 with resetLow := true }.resetLow = true
    ∧ { run 0 with conv := { (run 0).conv with wordsSent := true } }.conv.wordsSent = true := by decide +kernel

theorem test_preampWords_last_stands : (after .preampWordSend twoWords).conv.lastWords.get 63 = full
    ∧ (after .preampWordSend twoWords).conv.lastWords.get 62 = (run 0).conv.lastWords.get 62 := by decide +kernel

/-- A READ MIXES of a length that asks for the two sends of mix 31. -/
def readsSends (length : Nat) : State :=
  begun (mixOf2.modMix 31 fun x => { x with sends := [sendOf false, sendOf true] }) 14 1 (2 + 256 * 31) (List.replicate length 0)

theorem witness_MixStepsAct_sends : ∀ n ∈ [((512 : Nat), (0 : Nat)), (519, 0), (520, 1), (527, 1), (528, 2), (536, 2)],
    (readsSends n.1).hasStep 0 14 4096 = true ∧ ((readsSends n.1).stepAt 4096).param.getLsbD 1 = true
    ∧ (31 : Fin 32).val = (((readsSends n.1).stepAt 4096).param.extractLsb' 8 5).toNat
    ∧ min ((readsSends n.1).mixRec 31).sends.length ((((readsSends n.1).header 4096).length - 512) / 8) = n.2
    ∧ ((readsSends n.1).mixRec 31).sends[1]? = some (sendOf true) := by decide +kernel

/-- The second send is fading out, at code 900 and coefficient 5; it is read where its 8 bytes fit (R126). -/
theorem test_readMixes_sends :
    (readsSends 528).sendsRead ((readsSends 528).stepAt 4096) = [0x03840003, 5, 0x83840003, 5]
    ∧ (readsSends 527).sendsRead ((readsSends 527).stepAt 4096) = [0x03840003, 5] := by decide +kernel

/-- A SET BUTTON of several entries, by their first six bytes. -/
def buttonSteps (es : List (List Byte)) : State :=
  begun (run 1) 17 1 0 (es.flatMap fun e => e ++ [0, 0, 0x60, 0, 0, 0, 1, 0, 0, 0])

/-- Its entries. -/
def entriesOf (es : List (List Byte)) : List (List Byte) := chunks 16 ((buttonSteps es).stepAt 4096).payload

/-- The entries of a payload, if no check refuses it. -/
def goodEntries (es : List (List Byte)) : Option (List ButtonEntry) :=
  match buttonEntries es with
  | .ok xs => some xs
  | .error _ => none

theorem witness_ButtonsAndLampsAct_entries :
    (∀ es ∈ [[], [[7, 3, 1, 1, 7, 1], [0x87, 3, 3, 0, 0, 0]], [[7, 3, 1, 1, 7, 1], [8, 0, 0, 0, 0, 0]],
        [[7, 2, 1, 0, 7, 0], [7, 5, 0, 0, 0, 0]], [[7, 2, 1, 0, 7, 0], [0x87, 0, 0, 0, 0, 0]]],
      (buttonSteps es).hasStep 0 17 4096 = true)
    ∧ goodEntries (entriesOf [[7, 3, 1, 1, 7, 1], [0x87, 3, 3, 0, 0, 0]])
      = some [.button 7 .levelHigh (.talk 7 .latch) true, .lamp 7 (.origin 3)]
    ∧ (∃ e ∈ entriesOf [[7, 3, 1, 1, 7, 1], [8, 0, 0, 0, 0, 0]], (byteAt e 0).extractLsb' 3 4 ≠ 0)
    ∧ ((∀ e ∈ entriesOf [[7, 2, 1, 0, 7, 0], [7, 5, 0, 0, 0, 0]], (byteAt e 0).extractLsb' 3 4 = 0)
      ∧ ∃ e ∈ entriesOf [[7, 2, 1, 0, 7, 0], [7, 5, 0, 0, 0, 0]],
        (byteAt e 0).getLsbD 7 = false ∧ detectionOf (byteAt e 1) = none)
    ∧ (∃ e ∈ entriesOf [[7, 2, 1, 0, 7, 0], [0x87, 0, 0, 0, 0, 0]], (byteAt e 0).getLsbD 7 = false
      ∧ detectionOf (byteAt e 1) = some .both ∧ actionOf e = some (.talk 7 .momentary) ∧ needsRelease (.talk 7 .momentary) = true)
    ∧ (byteAt [0x87] 0 = BitVec.ofNat 8 (128 + (7 : Fin 8).val) ∧ byteAt [7] 0 = BitVec.ofNat 8 (7 : Fin 8).val
      ∧ lampOf [0x87, 3, 3] = some (.origin 3) ∧ lampOf [0x87, 3, 4] = none ∧ actionOf [7, 0, 2, 0, 15] = some (.chain 15 0)
      ∧ actionOf [7, 0, 2, 0, 16] = none ∧ actionOf [7, 0, 1, 0, 7, 2] = some (.talk 7 .auto) ∧ actionOf [7, 0, 1, 0, 7, 3] = none) := by
  decide +kernel

/-- Both entries are applied: lamp 7 shows origin 3, button 7 has its action (R150). -/
theorem test_setButton_two : (after (.setButton 0) (buttonSteps [[7, 3, 1, 1, 7, 1], [0x87, 3, 3, 0, 0, 0]])).talk.lamps.get 7 = .origin 3
    ∧ ((after (.setButton 0) (buttonSteps [[7, 3, 1, 1, 7, 1], [0x87, 3, 3, 0, 0, 0]])).button 7).action = .talk 7 .latch
    ∧ (after (.setButton 0) (buttonSteps [[7, 3, 1, 1, 7, 1], [0x87, 3, 3, 0, 0, 0]])).peek (4096 + 20) = 2 := by decide +kernel

theorem witness_MeterSweepsRun_records :
    (∀ m ∈ [(SweepMode.oneShot, none), (.sweep, none), (.repeating, none), (.triggered, some (Trigger.button 7 2)),
        (.triggered, some (.frame 5))], ∀ limit ∈ [(0 : Nat), 4, 5], (passEnd m.1 m.2 limit [15]).isRunning = true
        ∧ (passEnd m.1 m.2 limit [15]).meter.queue = 0 :: [15]
        ∧ (passEnd m.1 m.2 limit [15]).sweep 0 = some { nine with
            mode := m.1, trigger := m.2, limit := limit, passes := 3, next := 9, state := .measuring }
        ∧ (passEnd m.1 m.2 limit [15]).meter.detectors.get 7 = some (measuring 8 0)
        ∧ (∀ i : Fin 8, i ≠ 7 → (passEnd m.1 m.2 limit [15]).meter.detectors.get i = none)
        ∧ (passEnd m.1 m.2 limit [15]).works 0 { join0 with segments := [(8192, 60)] } .meter = true)
    ∧ (measuring 8 0).left = 0 ∧ nine.channels.length ≤ 9 ∧ nine.address + 24 * 8 + 24 ≤ Config.ramSize ∧ 24 ≤ 60
    ∧ 8192 + 60 ≤ Config.ramSize := by decide +kernel

/-- The last record carries position 8, its channel, peak, overs, frame and pass 4 (R178); the step's missed count is written (R181). -/
theorem test_meter_last_record : (List.range 6).map (fun i => (after (.detectorWindowEnd 7) (passEnd .sweep none 0 [])).peek
    (0x3000 + 24 * 8 + 4 * i)) = [8, 0x701, 99, 3, 0, 4]
    ∧ (after (.detectorWindowEnd 7) ((passEnd .sweep none 0 []).poke (8192 + 20) 7)).peek (8192 + 20) = 0 := by decide +kernel

/-- Of two live requests of one sequence, the one whose frames have passed ends, the other waits on (R76, R77). -/
theorem test_requestTimeout_one_of_two :
    (after (.requestTimeout 0 5) { asking (.setInput [asked, { asked with state := .requested 5 }]) 1 9599 with
      svc := { requests := [reqOf 1 9599, { reqOf 1 9600 with number := 5 }] } }).svc.requests = [reqOf 1 9599]
    ∧ (after (.requestTimeout 0 5) { asking (.setInput [asked, { asked with state := .requested 5 }]) 1 9599 with
      svc := { requests := [reqOf 1 9599, { reqOf 1 9600 with number := 5 }] } }).op? 0
      = some (.setInput [asked, { asked with state := .ended .timeout }]) := by decide +kernel

/-- A WAIT of 1 frame ends at the first frame edge after the scan that began it (R19). -/
theorem test_wait_one_frame : Instr.waitElapsed 0 ∈ (after (.wait 0) (waitStep 1 1)).tick.pending
    ∧ Instr.waitElapsed 0 ∉ (after (.wait 0) (waitStep 1 2)).tick.pending := by decide +kernel

/-- The bytes of a GAIN ANNOUNCE, in R66's order, are the fields of its command. -/
theorem test_messageCommand_announce : messageCommand 0 9 2 [63, 60, 1, 0, 255, 2, 1, 4, 3, 2, 1, 2, 3, 5, 1]
    = some (.gainAnnounce 63 60 1 0 255 2 1 0x01020304 tag2 1) := by decide +kernel

/-- A queue of two: the first runs, the second stays. -/
theorem test_step_order : (match step { markStep with pending := [.mark 0, .laneScan] } with
    | .next t => t.pending
    | _ => []) = [.laneScan] := by decide +kernel

/-- With nothing waiting, the counter takes its next value (log entry 1). -/
theorem test_step_idle : (match step (runAt 1 0xFFFFFFFF) with
    | .next t => t.clock.frame
    | _ => 7) = 0 := by decide +kernel

/-! ### Witnesses: starting, changes of a lane's buttons, held forms, bounds -/

/-- STARTING, with some anchor words read and the reset words in the schedule or not. -/
def startingAt (n : Nat) (words : List PreampWord) : State :=
  { starting goodAnchor with anchorRead := List.replicate n 7, conv := { State.reset.conv with schedule := words } }

theorem witness_IdleStepOpensFrame_starting :
    (∀ n ∈ [(0 : Nat), 10, 11], (startingAt n []).resetLow = false ∧ (startingAt n []).regs.runState = .starting
      ∧ (startingAt n []).pending = [] ∧ (startingAt n []).inbox = [] ∧ (startingAt n []).anchorRead.length = n)
    ∧ (startingAt 0 [⟨700, 63, {}⟩]).clock.frame = 700 ∧ ((700 : Word) - 700).toInt ≤ 0 ∧ ¬ ((701 : Word) - 700).toInt ≤ 0 := by
  decide +kernel

theorem witness_PowerAndPinGiveReset_signals : ∀ x ∈ [true, false],
    (portIn { run 1 with resetLow := x } .west .dark fun r => { r with signal := true }).resetLow = x := by decide +kernel

/-- A step of a kind with a payload of a length. -/
def shortStep (kind length : Nat) : State := begun (run 1) kind 1 0 (List.replicate length 0)

theorem witness_FaultyStepFinishesBadStep_short : ∀ k ∈ [((2 : Nat), (8 : Nat)), (7, 16), (8, 16), (13, 16), (14, 512), (16, 4), (19, 28),
      (20, 24)], (shortStep k.1 (k.2 - 1)).hasBegun 0 4096 = true ∧ ((shortStep k.1 (k.2 - 1)).header 4096).kind = k.1
    ∧ ((shortStep k.1 (k.2 - 1)).header 4096).fault = none ∧ ((shortStep k.1 (k.2 - 1)).header 4096).gather = false
    ∧ ((shortStep k.1 (k.2 - 1)).stepAt 4096).payload.length < k.2 := by decide +kernel

/-- Button 7 changed to high in the sixth frame of lane 0's step. -/
def changedAfter (s : State) : State :=
  s.modLane 0 fun y => { y with firstChange := y.firstChange.set 7 (some ⟨true, 6⟩) }

theorem witness_WaitBeginsAndEnds_button :
    ((changedAfter (waitFor 0 9)).hasStep 0 2 4096 = true ∧ wordAt ((changedAfter (waitFor 0 9)).stepAt 4096).payload 4 = 0
      ∧ waitCond ((changedAfter (waitFor 0 9)).stepAt 4096).param (wordAt ((changedAfter (waitFor 0 9)).stepAt 4096).payload 0) = some (.button 7)
      ∧ (changedAfter (waitFor 0 9)).holdsAtOnce 0 (.button 7) = true ∧ (changedAfter (waitFor 0 9)).timeoutFirst 0 0 (.button 7) = false)
    ∧ ((changedAfter (waitFor 5 9)).hasStep 0 2 4096 = true ∧ wordAt ((changedAfter (waitFor 5 9)).stepAt 4096).payload 4 = 5
      ∧ waitCond ((changedAfter (waitFor 5 9)).stepAt 4096).param (wordAt ((changedAfter (waitFor 5 9)).stepAt 4096).payload 0) = some (.button 7)
      ∧ (changedAfter (waitFor 5 9)).holdsAtOnce 0 (.button 7) = true ∧ (changedAfter (waitFor 5 9)).timeoutFirst 0 5 (.button 7) = true)
    ∧ ((changedAfter (waitFor 6 9)).hasStep 0 2 4096 = true ∧ wordAt ((changedAfter (waitFor 6 9)).stepAt 4096).payload 4 = 6
      ∧ waitCond ((changedAfter (waitFor 6 9)).stepAt 4096).param (wordAt ((changedAfter (waitFor 6 9)).stepAt 4096).payload 0) = some (.button 7)
      ∧ (changedAfter (waitFor 6 9)).holdsAtOnce 0 (.button 7) = true ∧ (changedAfter (waitFor 6 9)).timeoutFirst 0 6 (.button 7) = false)
    ∧ ((changedAfter (waitFor 0 9)).lane 0).firstChange.get 7 = some ⟨true, 6⟩
    ∧ ((waitFor 0 9).lane 0).firstChange.get 7 = none
    ∧ ((waitFor 0 9).button 7).action = .none
    ∧ (((waitFor 0 9).modButton 7 fun x => { x with action := .chain 1 8192 }).button 7).action = .chain 1 8192 ∧ (1 : Fin 16) ≠ 0
    ∧ ((waitFor 0 9).lane 0).activity = .joining {} 4096
    ∧ ((gatherParked join0).lane 0).activity = .gathered join0 := by decide +kernel

theorem witness_PlayoutPlaysEveryOrigin_tracking :
    deskRef.isRunning = true ∧ deskRef.merge.playedNow = false ∧ deskRef.referenceDue 3 63 = true
    ∧ (deskRef.track 3 63).scheduled = some { value := some 60, switch := 12, deferred := false }
    ∧ deskRef.referenceDue 3 62 = false := by decide +kernel

/-- A ramp from 0 to a target over 64 steps, its third. -/
def rampTo (target : Int) : Ramp := { start := 0, target := target, step := 3, length := 64 }

theorem witness_FadesAndRampsAreLinear_retarget :
    (({ value := 5, ramp := some (rampTo 9) } : Level).ramp = some (rampTo 9) ∧ (rampTo 9).target = 9 ∧ (rampTo 9).target ≠ 8)
    ∧ (({ value := 5 } : Level).ramp = none ∧ ({ value := 5 } : Level).value = 5 ∧ ({ value := 5 } : Level).value ≠ 6)
    ∧ (none = ({} : TrackEntry).reference ∧ some (60 : Int) ≠ ({} : TrackEntry).reference) ∧ 1 ≤ 1 ∧ 1000 ≤ 1000
    ∧ (-40 : Int) ≤ -40 ∧ (20 : Int) ≤ 20 := by decide +kernel

/-- No room in either queue. -/
def noRoom (s : State) : State :=
  { s with svc := { s.svc with urgent := List.replicate 16 noteMsg, normal := List.replicate 16 noteMsg } }

theorem witness_PhantomShortActs_held : ∀ c ∈ [none, some (changeFor full 12)],
    (noRoom (shorted c)).isRunning = true ∧ (noRoom (shorted c)).cfg.id = 0 ∧ shortReport 0xFD00 = some 63
    ∧ ((noRoom (shorted c)).conv.lastWords.get 63).phantom = true
    ∧ ((noRoom (shorted c)).gain.table.get 63).state ≠ .phantomFault ∧ (noRoom (shorted c)).svc.mayPlace .urgent = false
    ∧ ((noRoom (shorted c)).gain.table.get 63).pending = c := by decide +kernel

/-- A CLAIM INPUTS of no inputs. -/
def claimNone : State := begun (run 0) 7 0 0 (List.replicate 16 0)

theorem witness_OwnershipStepsAct_room :
    (claimNone.hasStep 0 7 4096 = true ∧ claimNone.cfg.id = 0 ∧ claimNone.svc.mayPlace .normal = true ∧ claimNone.waits 0 = false
      ∧ inputSet (claimNone.stepAt 4096).payload = 0)
    ∧ (∀ k ∈ [(7 : Nat), 8], (noRoom (ownStep (run 0) k)).hasStep 0 k 4096 = true ∧ (noRoom (ownStep (run 0) k)).cfg.id = 0
      ∧ (noRoom (ownStep (run 0) k)).svc.mayPlace .normal = false ∧ (noRoom (ownStep (run 0) k)).waits 0 = false)
    ∧ ∀ k ∈ [(7 : Nat), 8], (noRoom (ownStep (pathUp desk 0 .east 1 1) k)).hasStep 0 k 4096 = true
      ∧ (noRoom (ownStep (pathUp desk 0 .east 1 1) k)).cfg.id ≠ 0 ∧ (noRoom (ownStep (pathUp desk 0 .east 1 1) k)).reachable 0 = true
      ∧ (noRoom (ownStep (pathUp desk 0 .east 1 1) k)).waits 0 = false := by decide +kernel

/-- A SET REFERENCE of the three modes, with room for some of its entries or none. -/
def threeRefs (waiting : Nat) : State :=
  { begun (runAt 1 0xFFFFFFFF) 9 0 0 [63, 0, 0, 0, 63, 1, 0x80, 0, 0, 2, 5, 0] with
    svc := { urgent := List.replicate waiting noteMsg } }

/-- Its lane waits for room with the last entry fixed. -/
def lastRef : State :=
  { working (run 1) join0 (.setReference [(63, .fixed (some (-20)))] 3 [40]) with svc := { urgentRoom := [.lane 0, .outbox] } }

theorem witness_SetReferenceQueues_several :
    (∀ n ∈ [((13 : Nat), (3 : Nat)), (14, 2), (16, 0)], (threeRefs n.1).hasStep 0 9 4096 = true
      ∧ (threeRefs n.1).svc.urgentRoom = [] ∧ min 3 (16 - (threeRefs n.1).svc.urgent.length) = n.2)
    ∧ chunks 4 ((threeRefs 14).stepAt 4096).payload = [[63, 0, 0, 0], [63, 1, 0x80, 0], [0, 2, 5, 0]]
    ∧ max (-20) (min (0x80 : Byte).toInt 60) = -20
    ∧ (lastRef.works 0 join0 (.setReference [(63, .fixed (some (-20)))] 3 [40]) = true
      ∧ lastRef.svc.urgentRoom = .lane 0 :: [.outbox] ∧ lastRef.svc.urgent.length < 16) := by decide +kernel

theorem witness_PreampWordsAreSent_desk :
    (desk.isRunning = true ∧ desk.cfg.id ≠ 0 ∧ desk.resetLow = false)
    ∧ (twoWords.isRunning = true ∧ twoWords.cfg.id = 0 ∧ ∃ w ∈ twoWords.conv.schedule, later w.due (twoWords.clock.frame + 1) = false)
    ∧ (State.reset.resetLow = false ∧ State.reset.conv.wordsSent = false ∧ State.reset.isRunning = false) := by decide +kernel

theorem witness_RoomIsGranted_classes :
    (State.placesIn { wantsRoom with svc := wantsRoom.svc.setRoom .normal [.reply] } .normal (.lane 0) = true
      ∧ State.placesIn { wantsRoom with svc := wantsRoom.svc.setRoom .urgent [] } .urgent (.lane 0) = false)
    ∧ (lastRef.lane 0).activity = .working join0 (.setReference [(63, .fixed (some (-20)))] 3 [40])
    ∧ (wantsRoom.lane 0).activity = .working join0 (.sendNote 1) := by decide +kernel

/-- A mix with a live entry that the staged scene names and one that it does not. -/
def fadesOver : Mix := { sends := [sendOf false, { sendOf true with source := 7 }], staged := some (sceneOf true) }

theorem witness_CuesAreTaken_order :
    fadesOver.sends.Pairwise (fun a b => a.source.toNat < b.source.toNat)
    ∧ [((1 : Byte), (900 : Nat)), (3, 800), (200, 0)].Pairwise (fun a b => a.1.toNat < b.1.toNat)
    ∧ (fadesOver.crossfade { sceneOf true with sends := [(1, 900), (3, 800), (200, 0)] } 64).sends.map (fun e => (e.source, e.code, e.fading))
      = [(1, 900, false), (3, 800, false), (7, 0, true), (200, 0, false)] := by decide +kernel

/-- Terminal 1's own group 3 asks for mix 5, which terminal 2 holds with the same rank. -/
def contended : State := opened.takeOpen 1 3 9 0x20

theorem witness_TalkersEnterAndLeave_moved :
    (opened.insert 5).position 2 = some 0 ∧ (contended.takeClose 2 3).insert 5 = { holder := some ⟨1, 0⟩ }
    ∧ (contended.insert 5).position 1 = some 1 ∧ ((contended.takeClose 2 3).insert 5).position 1 = some 0
    ∧ ((contended.takeClose 2 3).talkerGroup 1 3).requested.getLsbD (5 : Fin 32).val = true ∧ (1 : Fin 4) = contended.cfg.id
    ∧ (((opened.takeOpen 3 0 1 0x20).takeClose 2 3).talk.talkers.get 3).flags = 1 := by decide +kernel

theorem witness_LoopTestsRun_ask : ∀ s ∈ [neighboured, noRoom neighboured, { neighboured with svc := { entryWait := [4] } }],
    (loopStep s 1 1 480001).hasStep 0 19 4096 = true ∧ byteAt ((loopStep s 1 1 480001).stepAt 4096).payload 1 = 1
    ∧ ((loopStep s 1 1 480001).port .west).state = .up ∧ (loopStep s 1 1 480001).neighbour .west = some 2
    ∧ ((loopStep s 1 1 480001).port .west).state ≠ .loop
    ∧ (∀ o : Fin 4, o ≠ 1 → ((loopStep s 1 1 480001).sup.path o .west).up = true →
        ((loopStep s 1 1 480001).sup.path o (Port.west).other).up = true)
    ∧ byteAt ((loopStep s 1 0 480001).stepAt 4096).payload 1 = 0 ∧ 0 < s.cfg.faultCapacity ∧ 8192 + 28 ≤ 262144
    ∧ s.cfg.faultLog + 16 + 32 * s.cfg.faultCapacity ≤ 8192 + 8 := by decide +kernel

/-- The queues and the reply hold full, one request less than the table has room for, and a fault announce held. -/
def fullQueues : State :=
  let s := noRoom wantsEntry
  { s with
    svc := { s.svc with replies := List.replicate 32 noteMsg }
    gain := { s.gain with heldFaults := s.gain.heldFaults.set 63 (some { noteMsg with kind := 2 }) } }

theorem fullQueues_faults (n : Fin 64) : (fullQueues.gain.heldFaults.get n).all (fun m => decide (kindClass m.kind = .urgent)) = true := by
  revert n; decide +kernel

theorem witness_StepKeepsQueueBounds : fullQueues.queuesBounded := by
  refine ⟨by decide +kernel, by decide +kernel, by decide +kernel, by decide +kernel, fun n m h => ?_⟩
  simpa [h] using fullQueues_faults n

/-- A step from there is a next state. -/
theorem witness_StepKeepsQueueBounds_next : step fullQueues = .next fullQueues.idle := rfl

/-- Mix 31 fades over, and the insert of mix 5 has a holder and one that waits. -/
def mixedUp : State := contended.modMix 31 fun _ => fadesOver

theorem ordered_scenes (m : Fin 32) : (mixedUp.mixRec m).staged.all (fun c =>
    decide (c.sends.Pairwise (fun a b => a.1.toNat < b.1.toNat) ∧ c.sends.length ≤ 48)) = true := by
  revert m; decide +kernel

theorem witness_StepKeepsMixesAndInserts : mixedUp.mixesBounded ∧ ∀ m : Fin 32, (mixedUp.insert m).ordered := by
  refine ⟨⟨fun m => ⟨?_, ?_, fun c h => ?_⟩, by decide +kernel⟩, ?_⟩
  · revert m; decide +kernel
  · revert m; decide +kernel
  · simpa [h] using ordered_scenes m
  · unfold Insert.ordered; decide +kernel

/-- A step from there is a next state. -/
theorem witness_StepKeepsMixesAndInserts_next : step mixedUp = .next mixedUp.idle :=
  step_empty (by decide +kernel)

/-- A WAIT parked in a GATHER for 9 frames and then cancelled, or ended at a bad link, counts them, in each joined step; one on a
button that changed in its sixth frame ends OK with the new level, or TIMEOUT where that was earlier (R19). -/
theorem test_wait_parked :
    (((gatherParked { join0 with steps := [4096, 4128] }).modLane 0 fun y => { y with age := 9 }).cancelLane 0).peek (4128 + 20) = 9
    ∧ (((gatherParked join0).modLane 0 fun y => { y with age := 9 }).continueJoin 0 join0 5).peek (4096 + 20) = 9
    ∧ (after (.wait 0) (changedAfter (waitFor 6 9))).peek (4096 + 16) = 0x10000
    ∧ (after (.wait 0) (changedAfter (waitFor 5 9))).peek (4096 + 16) = 5 := by decide +kernel

/-- The lane keeps the first change of button 7 while its join is parked (R19). -/
theorem test_wait_keeps_first : ((((gatherParked join0).modLane 0 fun y => { y with age := 6 }).levelChanged 7 true).levelChanged 7 false).changed? 0 7
    = some ⟨true, 6⟩ := by decide +kernel

/-- A signal reported while the reset pin is low stands over the release (R152; log entry 8). -/
theorem test_release_keeps_signal : ((after (.resetPinRelease []) (after (.signalPresent .west) (after .resetPinLow busy))).port .west).signal = true
    ∧ ((after (.resetPinRelease []) (after (.signalPresent .west) (after .resetPinLow busy))).port .east).signal = false := by decide +kernel

/-- A running desk sends no preamp word, whatever its schedule holds (R187). -/
theorem test_desk_word_line_idle : (after .preampWordSend { twoWords with cfg := desk.cfg }).conv.wordLine = []
    ∧ (after .preampWordSend { twoWords with cfg := desk.cfg }).conv.schedule.length = 3
    ∧ (after .preampWordSend twoWords).conv.wordLine.length = 2 := by decide +kernel

/-! ### Witnesses: grants in their frame, and a button's first change -/

/-- One grant of each kind is due: a note and a request wait for the last place of each, a cue for a record. -/
def grantsDue : State :=
  { wantsEntry with
    svc := { wantsEntry.svc with urgentRoom := [.outbox], normalRoom := [.lane 0, .reply], urgent := List.replicate 15 noteMsg
                                 normal := List.replicate 15 noteMsg }
    mix := { (run 1).mix with cueWait := [0, 3] }, rounds := 65535 }

/-- All 64 entries are taken, one request is late, and a step waits for an entry. -/
def tableFull : State :=
  { wantsEntry with
    svc := { wantsEntry.svc with requests := { reqOf 4 9600 with lane := 4 } :: List.replicate 63 (reqOf 4 0) } }

theorem witness_IdleStepOpensFrame_grants :
    (grantsDue.resetLow = false ∧ grantsDue.isRunning = true ∧ grantsDue.rounds < 65536 ∧ grantsDue.pending = [] ∧ grantsDue.inbox = [])
    ∧ ((∀ q ∈ [QueueClass.urgent, .normal], grantsDue.svc.room q ≠ [] ∧ (grantsDue.svc.queue q).length < 16)
      ∧ grantsDue.svc.entryWait ≠ [] ∧ grantsDue.svc.requests.length < 64
      ∧ grantsDue.mix.cueWait ≠ [] ∧ grantsDue.mix.records.get 15 = none)
    ∧ grantsDue.roundWork = [.roomGrant .urgent, .roomGrant .normal, .pendingEntryGrant, .cueRecordGrant, .cueRecordGrant]
    ∧ (noRoom wantsRoom).roundWork = [] := by decide +kernel

theorem witness_RoomIsGranted_counts :
    grantsDue.resetLow = false ∧ grantsDue.isRunning = true ∧ grantsDue.rounds < 65536
    ∧ min (16 - (grantsDue.svc.queue .normal).length) (grantsDue.svc.room .normal).length = 1
    ∧ min (64 - grantsDue.svc.requests.length) grantsDue.svc.entryWait.length = 1 := by decide +kernel

/-- The table is full and lane 0 waits for an entry: an entry that a timeout frees is granted in the same frame (R76, R77). -/
theorem test_entryGrant_in_frame :
    tableFull.roundWork = [] ∧ (after (.requestTimeout 4 5) tableFull).roundWork = [.pendingEntryGrant] := by decide +kernel

/-- Lane 0's step is not yet at its block as button 7 is to change; lane 1 works. -/
def changing (first : Option ButtonChange) : State :=
  ((buttonAt false false 479 .idle 0).modLane 0 fun y => { y with
    state := .parked, activity := .gathered join0, age := 6, firstChange := y.firstChange.set 7 first }).modLane 1 fun y => { y with
      state := .running, activity := .joining {} 4096 }

theorem witness_ButtonsAndLampsAct_lanes :
    (∀ first ∈ [none, some (ButtonChange.mk true 2)], (changing first).isRunning = true ∧ ((changing first).button 7).sampled = false
      ∧ 1 < (changing first).passed ∧ true ≠ ((changing first).button 7).level ∧ 480 ≤ ((changing first).button 7).count + 1
      ∧ ((changing first).button 7).action = .none ∧ ((changing first).button 7).notify = false
      ∧ (∀ l : Fin 16, (changing first).op? l = none ∧ (changing first).sweep l = none)
      ∧ ((changing first).button 7).detection.detects true = some true
      ∧ ((changing first).lane 0).activity = .gathered join0 ∧ ((changing first).lane 0).firstChange.get 7 = first
      ∧ ((changing first).lane 1).activity = .joining {} 4096 ∧ ((changing first).lane 1).firstChange.get 7 = none
      ∧ ((changing first).lane 2).activity = .none) := by decide +kernel

/-- A lane parked inside a GATHER keeps the button's first change, at the frames passed since its step began, and a change kept
before stands (R15, R19). -/
theorem test_buttonDebounce_keeps_first :
    ((after (.buttonDebounce 7 true) (changing none)).lane 0).firstChange.get 7 = some ⟨true, 6⟩
    ∧ ((after (.buttonDebounce 7 true) (changing (some ⟨true, 2⟩))).lane 0).firstChange.get 7 = some ⟨true, 2⟩ := by decide +kernel

/-- The last frame of a tester's window sends its burst before the window ends (log entry 73). -/
theorem test_testerWindowEnd_after_burst :
    (match step (looping .testerFar (some 0) 47) with
      | .next t => t.pending.filter fun c => decide (c = .burstBuild ∨ c = .testerWindowEnd .west)
      | _ => []) = [.burstBuild, .testerWindowEnd .west] := by decide +kernel

/-! ### Witnesses: a tester's window, reply records, payloads of any number of entries -/

theorem witness_OwnAndInvalidBursts_untested : ∀ timer ∈ [(47 : Nat), 48],
    (looping .testerFar none timer).isRunning = true ∧ ((looping .testerFar none timer).port .west).state = .loop
    ∧ ((looping .testerFar none timer).port .west).loop = some (loopOf .testerFar none)
    ∧ (loopOf .testerFar none).firstTest = none ∧ (burst 1 1 1 5).valid true = true := by decide +kernel

/-- A FAR tester counts a burst that comes back in the last frame of its window, before its own burst of that frame (R173). -/
theorem test_burstReceive_last_frame :
    ((after (.burstReceive .west 0 true (burst 1 1 1 5)) (tested .testerFar 48)).port .west).loop.map (·.returned) = some 5
    ∧ ((after (.burstReceive .west 0 false (burst 1 1 1 5)) (tested .testerFar 48)).port .west).loop.map (·.errors) = some 2 := by
  decide +kernel

theorem witness_ForwardBufferIsSent_testers : ∀ role ∈ [LoopRole.testerNear, .testerFar],
    (looping role none 0).isRunning = true ∧ ((looping role none 0).port .west).state = .loop
    ∧ ((looping role none 0).port .west).loop = some (loopOf role none) ∧ (loopOf role none).role = role := by decide +kernel

/-- West in LOOP, the playout of frame 6 made and its burst still to come. -/
def sending (role : LoopRole) (first : Option Word) : State :=
  let s := portIn (run 1) .west .loop fun r => { r with loop := some { loopOf role none with firstTest := first } }
  { s with merge := { s.merge with playedNow := true }, clock := { s.clock with frame := 6 } }

theorem witness_LoopTestsRun_bursts :
    (∀ role ∈ [LoopRole.testerNear, .testerFar, .returner], (sending role none).isRunning = true
      ∧ (sending role none).merge.playedNow = true ∧ (sending role none).built = false ∧ (sending role none).cfg.slotCount ≤ 64
      ∧ (sending role none).cfg.talkSlot = none ∧ ((sending role none).port .west).state = .loop
      ∧ (sending role none).clock.frame = 6 ∧ ((sending role none).port .west).loop = some (loopOf role none))
    ∧ ((sending .testerNear (some 7)).port .west).loop = some { loopOf .testerNear none with firstTest := some 7 }
    ∧ earlier 6 7 = true ∧ earlier 6 6 = false := by decide +kernel

/-- A FAR test's burst is counted sent, its frame the first test frame (R171, R173). -/
theorem test_burstBuild_far : ((after .burstBuild (sending .testerFar none)).port .west).loop.map (fun x => (x.sent, x.firstTest))
    = some (6, some 6) := by decide +kernel

/-- Two talkers have flagged groups, beside messages in the urgent queue and its room list. -/
def replying (queued : Nat) (room : List Held) : State :=
  { opened with
    svc := { urgent := List.replicate queued noteMsg, urgentRoom := room }
    talk.talkers := (Bank.update opened.talk.talkers 2 fun k => { k with flags := 0x88 }).set 3 { flags := 1 } }

/-- The outbox holds a CLOSE, with room in the urgent queue or none. -/
def outboxDue (room : Bool) : State := if room then settling true .closing else noRoom (settling true .closing)

theorem witness_TalkersEnterAndLeave_replies :
    ((replying 15 []).flagged? 2 = some 3 ∧ (replying 15 []).flagged? 3 = some 0 ∧ (replying 15 []).flagged? 0 = none
      ∧ (replying 15 []).svc.mayPlace .urgent = true)
    ∧ ((replying 16 []).svc.mayPlace .urgent = false ∧ Held.talkReply 2 ∉ (replying 16 []).svc.urgentRoom
      ∧ Held.talkReply 2 ∈ (replying 16 [.talkReply 2]).svc.urgentRoom)
    ∧ ((outboxDue true).outboxNext? = some (7, 3) ∧ (outboxDue true).svc.mayPlace .urgent = true
      ∧ (outboxDue false).outboxNext? ≠ none ∧ (outboxDue false).svc.mayPlace .urgent = false ∧ opened.outboxNext? = none)
    ∧ (∀ l : Fin 16, (replying 0 []).op? l = none)
    ∧ contended.cfg.id = 1 ∧ (contended.talkerGroup 1 3).requested.getLsbD (5 : Fin 32).val = true := by decide +kernel

/-- A talker's two flagged groups are answered, the lower first, as far as the urgent queue has room (R138, R73). -/
theorem test_talkStates_queue :
    ((replying 14 []).pumpTalk.svc.urgent.drop 14).map (fun m => (m.dest, byteAt m.body 0)) = [(2, 3), (2, 7)]
    ∧ (replying 14 []).pumpTalk.svc.urgentRoom = [.talkReply 3]
    ∧ ((replying 14 []).pumpTalk.talk.talkers.get 2).flags = 0 := by decide +kernel

/-- A SET MIX here of entries by their bytes, mix 31 active before. -/
def mixesStep (es : List (List Byte)) : State := begun ((run 1).modMix 31 fun x => { x with active := true }) 10 1 0 es.flatten

/-- Two entries of mix 31: inactive with controller 3, then active again as it is. -/
def mixEntries : List (List Byte) := [[31, 0, 3, 0, 0xE8, 3, 0, 0, 1, 0, 0, 0], [31, 2, 255, 0, 0xE9, 3, 1, 0, 1, 0, 0, 0]]

theorem witness_MixSetTakesValues_any :
    ((mixesStep mixEntries).hasStep 0 10 4096 = true ∧ chunks 12 ((mixesStep mixEntries).stepAt 4096).payload = mixEntries
      ∧ ((mixesStep mixEntries).header 4096).target = (mixesStep mixEntries).cfg.id.val
      ∧ ∀ e ∈ mixEntries, (byteAt e 0).toNat = (31 : Fin 32).val ∧ ((byteAt e 2).toNat = (3 : Fin 4).val ∨ byteAt e 2 = 255))
    ∧ (((mixesStep mixEntries).mixRec 31).active = true ∧ (mixOf2.mixRec 31).active = false)
    ∧ (mixOf2.isRunning = true ∧ (mixOf2.mixRec 31).controller = 2 ∧ (31 : Byte).toNat = (31 : Fin 32).val
      ∧ ((mixOf2.modMix 31 fun x => { x with active := true }).mixRec 31).controller = 2) := by decide +kernel

/-- Three entries for inputs 63 and 5 at a desk that owns them or whose owner is none, with requests and messages that wait. -/
def threeInputs (requests queued : Nat) (waiting : List (Fin 16)) (room : List Held) : State :=
  { deskInputs [63, 5, 63] none requests queued with
    svc := { (deskInputs [63, 5, 63] none requests queued).svc with entryWait := waiting, normalRoom := room } }

theorem witness_SetInputBegins_any : (∀ n ∈ [((61 : Nat), (13 : Nat)), (62, 13), (64, 16), (61, 15)],
      (threeInputs n.1 n.2 [] []).hasStep 0 6 4096 = true ∧ (threeInputs n.1 n.2 [] []).cfg.id ≠ 0
      ∧ ((threeInputs n.1 n.2 [] []).stepAt 4096).payload.length / 8 = 3
      ∧ (List.range 3).map (fun i => (byteAt ((threeInputs n.1 n.2 [] []).stepAt 4096).payload (8 * i)).toNat) = [63, 5, 63]
      ∧ (threeInputs n.1 n.2 [] []).gain.stale = false ∧ (threeInputs n.1 n.2 [] []).reachable 0 = true
      ∧ (threeInputs n.1 n.2 [] []).waits 0 = false
      ∧ ∀ i ∈ [(63 : Fin 64), 5], ((threeInputs n.1 n.2 [] []).gain.mirror.get i).owner = none)
    ∧ ((threeInputs 0 0 [4] [.reply]).svc.entryWait ≠ [] ∧ (threeInputs 0 0 [4] [.reply]).svc.normalRoom ≠ [])
    ∧ ((stageInputs [63, 63, 63] { owner := some 0 } true).hasStep 0 6 4096 = true
      ∧ (stageInputs [63, 63, 63] { owner := some 0 } true).cfg.id = 0
      ∧ ((stageInputs [63, 63, 63] { owner := some 0 } true).stepAt 4096).payload.length / 8 = 3
      ∧ ((stageInputs [63, 63, 63] { owner := some 0 } true).gain.table.get 63).owner = some 0) := by decide +kernel

/-- Of three requests two are given with 2 entries free, and the third waits for one; the third of three entries at the stage
supersedes the second (R76, R89, R101). -/
theorem test_setInput_three :
    (after (.setInput 0) (threeInputs 62 13 [] [])).svc.normal.length = 15
    ∧ (after (.setInput 0) (threeInputs 62 13 [] [])).svc.entryWait = [0]
    ∧ (after (.setInput 0) (stageInputs [63, 63, 63] { owner := some 0 } true)).peek 8204 = 10 := by decide +kernel

/-- The second change of a lane's step waits behind the first, its entry and the first's still open. -/
def twoTaken : State := after (.setInput 0) (stageInputs [63, 63] { owner := some 0 } true)

theorem witness_SetInputBegins_superseded :
    (twoTaken.gain.table.get 63).owner = some 0 ∧ (twoTaken.gain.table.get 63).pending.isSome = true
    ∧ (twoTaken.gain.table.get 63).waiting.map (·.requester) = some (.lane 0 1)
    ∧ (match twoTaken.op? 0 with
      | some (.setInput es) => es.map (·.ended?)
      | _ => []) = [none, none]
    ∧ ((stageInputs [63] { owner := some 0 } true).gain.table.get 63).pending = none
    ∧ (stageInputs [63] { owner := some 0 } true).svc.mayPlace .urgent = true
    ∧ (stageInputs [63] { owner := some 0 } false).svc.mayPlace .urgent = false := by decide +kernel

end Sys2Proof.Tests
end

/-!
What every command of a running terminal keeps (O57): the origin mark, the level of the reset pin, and the canonical form of the
exchange RAM. One lemma for each operation of the model that branches or writes RAM; an operation that only updates other fields keeps
them by definition, and needs none.
-/

namespace Sys2Proof.Machine

-- One theorem at a time, as in the tests: side by side the proofs need more threads than a check has memory for.
set_option Elab.async false

/-- The first state has the second's origin mark and reset pin level, and a RAM in canonical form if the second's is. -/
def State.Keeps (t s : State) : Prop :=
  t.mark = s.mark ∧ t.resetLow = s.resetLow ∧ (s.canonical = true → t.canonical = true)

section Keeps

variable {s r : State}

theorem Keeps.refl (s : State) : s.Keeps s := ⟨rfl, rfl, id⟩

/-- A state with the mark, the reset pin's level and the RAM of one that keeps them. -/
theorem Keeps.of_same {t : State} (h : s.Keeps r) (hm : t.mark = s.mark := by rfl) (hp : t.resetLow = s.resetLow := by rfl)
    (hr : t.ram = s.ram := by rfl) : t.Keeps r := by
  obtain ⟨h1, h2, h3⟩ := h
  exact ⟨hm.trans h1, hp.trans h2, fun hc => by unfold State.canonical at *; rw [hr]; exact h3 hc⟩

/-! ### Branches and repetitions -/

theorem Keeps.ite {c : Prop} [Decidable c] {a b : State} (ha : a.Keeps r) (hb : b.Keeps r) : (if c then a else b).Keeps r := by
  split
  · exact ha
  · exact hb

/-- An operation repeated over a list keeps what each single one keeps. -/
theorem Keeps.foldl {α : Type} {f : State → α → State} (hf : ∀ (t : State) (x : α), t.Keeps r → (f t x).Keeps r) (xs : List α)
    (h : s.Keeps r) : (xs.foldl f s).Keeps r := by
  induction xs generalizing s with
  | nil => exact h
  | cons x xs ih => exact ih (hf s x h)

/-- A producer keeps what placing one message keeps. -/
theorem Keeps.pump {q : QueueClass} {k : Held} {wants : State → Bool} {send : State → State}
    (hs : ∀ t : State, t.Keeps r → (send t).Keeps r) (n : Nat) (h : s.Keeps r) : (pump q k wants send n s).Keeps r := by
  induction n generalizing s with
  | zero => exact h
  | succ n ih =>
    unfold Machine.pump
    split
    · exact Keeps.ite (ih (hs s h)) h
    · exact h

/-- An operation of the lane engine on one lane. -/
theorem Keeps.worksOn {l : Fin 16} {t : State} (ht : WorksOn l t s) (h : s.Keeps r) : t.Keeps r := by
  obtain ⟨hm, hp, hc⟩ := h
  have h1 : t.mark = s.mark := by rw [ht.only]
  have h2 : t.resetLow = s.resetLow := by rw [ht.only]
  exact ⟨h1.trans hm, h2.trans hp, fun hr => ht.canonical (hc hr)⟩

/-- A rewrite of views. -/
theorem Keeps.showsOnly {t : State} (ht : ShowsOnly t s) (h : s.Keeps r) : t.Keeps r := by
  obtain ⟨hm, hp, hc⟩ := h
  have h1 : t.mark = s.mark := by rw [ht.only]
  have h2 : t.resetLow = s.resetLow := by rw [ht.only]
  exact ⟨h1.trans hm, h2.trans hp, fun hr => ht.canonical (hc hr)⟩

/-! ### RAM, ATTENTION and the lists -/

theorem keeps_store {a : Nat} {bs : List Byte} (h : s.Keeps r) : (s.store a bs).Keeps r :=
  Keeps.worksOn (worksOn_store 0 s a bs) h

theorem keeps_poke {a : Nat} {w : Word} (h : s.Keeps r) : (s.poke a w).Keeps r := keeps_store h

theorem keeps_attend {i : Nat} (h : s.Keeps r) : (s.attend i).Keeps r := Keeps.ite h h

theorem keeps_addFault {w : List Word} (h : s.Keeps r) : (s.addFault w).Keeps r :=
  Keeps.ite (keeps_attend (keeps_store (keeps_store (s := { s with faultLog.written := s.faultLog.written + 1 }) h)))
    (keeps_store (s := { s with faultLog.dropped := s.faultLog.dropped + 1 }) h)

theorem keeps_addNote {q : Fin 4} {f : Word} {text : List Byte} (h : s.Keeps r) : (s.addNote q f text).Keeps r :=
  Keeps.ite (keeps_attend (keeps_store (keeps_store (s := { s with noteList.written := s.noteList.written + 1 }) h)))
    (keeps_store (s := { s with noteList.dropped := s.noteList.dropped + 1 }) h)

theorem keeps_fault {k : FaultKind} {p : Option Port} {o n : Option (Fin 4)} {w : List Word} (h : s.Keeps r) :
    (s.fault k p o n w).Keeps r := keeps_addFault h

theorem keeps_storeJoined {j : Join} {i : Nat} {bs : List Byte} (h : s.Keeps r) : (s.storeJoined j i bs).Keeps r :=
  Keeps.foldl (fun _ _ ht => keeps_store ht) _ h

/-! ### The lane engine (spec 01, R11 to R19) -/

theorem keeps_setLane {l : Fin 16} {x : Lane} (h : s.Keeps r) : (s.setLane l x).Keeps r := Keeps.worksOn (worksOn_setLane s l x) h

theorem keeps_beginAt {l : Fin 16} {a : Nat} (h : s.Keeps r) : (s.beginAt l a).Keeps r := Keeps.worksOn (worksOn_beginAt s l a) h

theorem keeps_closeJoin {l : Fin 16} {j : Join} {st : Status} {d : Nat} {n : Word} (h : s.Keeps r) :
    (s.closeJoin l j st d n).Keeps r := Keeps.worksOn (worksOn_closeJoin s l j st d n) h

theorem keeps_haltAt {l : Fin 16} {a : Nat} (h : s.Keeps r) : (s.haltAt l a).Keeps r := Keeps.worksOn (worksOn_haltAt s l a) h

theorem keeps_finish {l : Fin 16} {j : Join} {st : Status} {d : Nat} {n : Word} (h : s.Keeps r) :
    (s.finish l j st d n).Keeps r := Keeps.worksOn (worksOn_finish s l j st d n) h

theorem keeps_finishCancelled {l : Fin 16} {j : Join} {n : Word} (h : s.Keeps r) : (s.finishCancelled l j n).Keeps r :=
  Keeps.worksOn (worksOn_finishCancelled s l j n) h

theorem keeps_endStep {l : Fin 16} {st : Status} {d : Nat} {n : Word} (h : s.Keeps r) : (s.endStep l st d n).Keeps r :=
  Keeps.worksOn (worksOn_endStep s l st d n) h

theorem keeps_setOp {l : Fin 16} {j : Join} {op : Op} (h : s.Keeps r) : (s.setOp l j op).Keeps r := keeps_setLane h

theorem keeps_putOp {l : Fin 16} {op : Op} (h : s.Keeps r) : (s.putOp l op).Keeps r := by
  unfold State.putOp
  split
  · exact keeps_setLane h
  · exact h

/-- A step begun keeps what its block keeps. -/
theorem keeps_startStep {l : Fin 16} {kind : Nat} {act : Join → State → State} (ha : ∀ j : Join, (act j s).Keeps r) (h : s.Keeps r) :
    (s.startStep l kind act).Keeps r := by
  unfold State.startStep
  split
  · refine Keeps.ite ?_ h
    split
    · exact Keeps.ite (keeps_finish h) (ha _)
    · exact keeps_setLane h
    · exact keeps_finish h
    · exact keeps_haltAt (keeps_closeJoin h)
    · exact h
  · exact h

theorem keeps_continueJoin {l : Fin 16} {j : Join} {a : Nat} (h : s.Keeps r) : (s.continueJoin l j a).Keeps r :=
  Keeps.ite (keeps_haltAt (keeps_closeJoin h)) (keeps_setLane h)

theorem keeps_reread {l : Fin 16} (h : s.Keeps r) : (s.reread l).Keeps r := by
  unfold State.reread
  split
  · exact h
  · refine Keeps.ite h ?_
    split
    · exact keeps_continueJoin h
    · exact keeps_beginAt h

theorem keeps_takePost {l : Fin 16} (h : s.Keeps r) : (s.takePost l).Keeps r := by
  refine Keeps.ite h ?_
  split
  · exact h
  · exact keeps_reread (keeps_setLane h)
  · exact keeps_beginAt (keeps_setLane h)

theorem keeps_refuseKind {l : Fin 16} (h : s.Keeps r) : (s.refuseKind l).Keeps r := by
  unfold State.refuseKind
  split
  · exact Keeps.ite (keeps_startStep (fun _ => h) h) h
  · exact h

theorem keeps_beginWait {l : Fin 16} {j : Join} (h : s.Keeps r) : (s.beginWait l j).Keeps r := by
  unfold State.beginWait
  extract_lets
  split
  · exact keeps_finish h
  · exact Keeps.ite (Keeps.ite (keeps_finish h) (keeps_finish h)) (Keeps.ite (keeps_finish h) (keeps_setOp h))

theorem keeps_endFrameWait {l : Fin 16} (h : s.Keeps r) : (s.endFrameWait l).Keeps r := Keeps.ite (keeps_endStep h) h

/-! ### The service unit (spec 04) -/

theorem keeps_submit {l : Fin 16} {m : Message} (h : s.Keeps r) : (s.submit l m).Keeps r := Keeps.ite h h

theorem keeps_give {l : Fin 16} {w : Want} (h : s.Keeps r) : (s.give l w).Keeps r := keeps_submit (s := State.mk ..) h

theorem keeps_request {l : Fin 16} {w : Want} (h : s.Keeps r) : (s.request l w).Keeps r := Keeps.ite (keeps_give h) h

theorem keeps_remoteRequest {l : Fin 16} {w : Want} (h : s.Keeps r) : (s.remoteRequest l w).Keeps r :=
  Keeps.ite (keeps_request h) (keeps_endStep h)

theorem keeps_beginNote {l : Fin 16} {j : Join} (h : s.Keeps r) : (s.beginNote l j).Keeps r :=
  Keeps.ite (keeps_finish h)
    (Keeps.ite (Keeps.ite (keeps_finish (keeps_addNote h)) (keeps_finish (keeps_addNote h)))
      (Keeps.ite (keeps_finish h) (keeps_submit (keeps_setOp h))))

/-! ### The gain unit (spec 05) -/

theorem keeps_sendReference {n : Fin 64} {v : Option Int} (h : s.Keeps r) : (s.sendReference n v).Keeps r := Keeps.of_same h

theorem keeps_writeOutcomes {os ns : List InputStep} (h : s.Keeps r) : (s.writeOutcomes os ns).Keeps r := by
  induction os generalizing s ns with
  | nil => exact h
  | cons o os ih =>
    cases ns with
    | nil => exact h
    | cons n ns =>
      unfold State.writeOutcomes
      refine ih ?_
      split
      · exact keeps_store h
      · exact h

theorem keeps_settleEntries {l : Fin 16} {f : Nat → InputStep → InputStep} (h : s.Keeps r) : (s.settleEntries l f).Keeps r := by
  unfold State.settleEntries
  split
  · exact Keeps.ite (keeps_endStep (keeps_putOp (keeps_writeOutcomes h))) (keeps_putOp (keeps_writeOutcomes h))
  · exact h

theorem keeps_settleAllEntries {f : InputStep → InputStep} (h : s.Keeps r) : (s.settleAllEntries f).Keeps r :=
  Keeps.foldl (fun _ _ ht => keeps_settleEntries ht) _ h

theorem keeps_endEntry {l : Fin 16} {i : Nat} {st : Status} (h : s.Keeps r) : (s.endEntry l i st).Keeps r := keeps_settleEntries h

theorem keeps_refuse {q : Requester} {n : Fin 64} {st : Status} (h : s.Keeps r) : (s.refuse q n st).Keeps r := by
  cases q with
  | remote => exact h
  | lane => exact keeps_endEntry h
  | forgotten => exact h

theorem keeps_announce {n : Fin 64} (h : s.Keeps r) : (s.announce n).Keeps r := by
  unfold State.announce
  extract_lets
  split
  · exact h
  · exact Keeps.of_same h

theorem keeps_pumpPending {n : Fin 64} (h : s.Keeps r) : (s.pumpPending n).Keeps r := Keeps.pump (fun _ ht => keeps_announce ht) _ h

theorem keeps_takeGain {n : Fin 64} {x : Setting} {q : Requester} (h : s.Keeps r) : (s.takeGain n x q).Keeps r := by
  refine Keeps.ite (keeps_refuse h) ?_
  split
  · exact keeps_pumpPending (s := s.modInput n _) h
  · split
    · exact keeps_refuse (s := s.modInput n _) h
    · exact h

theorem keeps_endApplied {q : Requester} (h : s.Keeps r) : (s.endApplied q).Keeps r := by
  cases q with
  | remote => exact h
  | lane => exact keeps_endEntry h
  | forgotten => exact h

theorem keeps_promote {n : Fin 64} (h : s.Keeps r) : (s.promote n).Keeps r := by
  unfold State.promote
  extract_lets
  split
  · exact h
  · exact Keeps.ite (keeps_pumpPending (s := State.modInput _ n _) h) (keeps_refuse (s := s.modInput n _) h)

theorem keeps_applyPending {n : Fin 64} (h : s.Keeps r) : (s.applyPending n).Keeps r := by
  unfold State.applyPending
  extract_lets
  split
  · exact h
  · exact keeps_promote (keeps_endApplied (Keeps.ite h h))

theorem keeps_lateGain {n : Fin 64} {f : Word} (h : s.Keeps r) : (s.lateGain n f).Keeps r := keeps_fault (s := State.mk ..) h

theorem keeps_applyScheduled {n : Fin 64} (h : s.Keeps r) : (s.applyScheduled n).Keeps r := by
  unfold State.applyScheduled
  extract_lets
  split
  · exact h
  · exact keeps_settleAllEntries (Keeps.ite (keeps_lateGain (Keeps.ite h h)) (Keeps.ite h h))

theorem keeps_endMute {n : Fin 64} (h : s.Keeps r) : (s.endMute n).Keeps r := Keeps.ite h h

theorem keeps_retestSwitches {f : Word} (h : s.Keeps r) : (s.retestSwitches f).Keeps r := Keeps.ite h h

theorem keeps_applyReference {u : Fin 4} {n : Fin 64} (h : s.Keeps r) : (s.applyReference u n).Keeps r := by
  unfold State.applyReference
  split
  · exact h
  · exact h

theorem keeps_sendRefRefresh (h : s.Keeps r) : s.sendRefRefresh.Keeps r := by
  unfold State.sendRefRefresh
  split
  · exact h
  · exact Keeps.of_same h

theorem keeps_pumpRefRefresh (h : s.Keeps r) : s.pumpRefRefresh.Keeps r := Keeps.pump (fun _ ht => keeps_sendRefRefresh ht) _ h

theorem keeps_startRefRefresh (h : s.Keeps r) : s.startRefRefresh.Keeps r := keeps_pumpRefRefresh (s := State.mk ..) h

theorem keeps_sendGainRefresh (h : s.Keeps r) : s.sendGainRefresh.Keeps r := by
  unfold State.sendGainRefresh
  split
  · exact h
  · exact Keeps.of_same h

theorem keeps_pumpGainRefresh (h : s.Keeps r) : s.pumpGainRefresh.Keeps r := Keeps.pump (fun _ ht => keeps_sendGainRefresh ht) _ h

theorem keeps_startGainRefresh (h : s.Keeps r) : s.startGainRefresh.Keeps r := keeps_pumpGainRefresh (s := State.mk ..) h

theorem keeps_sendFaultAnnounce {n : Fin 64} (h : s.Keeps r) : (s.sendFaultAnnounce n).Keeps r := by
  unfold State.sendFaultAnnounce
  split
  · exact h
  · exact h

theorem keeps_pumpFault {n : Fin 64} (h : s.Keeps r) : (s.pumpFault n).Keeps r := Keeps.pump (fun _ ht => keeps_sendFaultAnnounce ht) _ h

theorem keeps_announceFault {n : Fin 64} (h : s.Keeps r) : (s.announceFault n).Keeps r := by
  unfold State.announceFault
  extract_lets
  split
  · exact keeps_pumpFault (s := State.mk ..) h
  · split
    · exact keeps_pumpFault (s := State.mk ..) h
    · exact h

theorem keeps_phantomShort {n : Fin 64} (h : s.Keeps r) : (s.phantomShort n).Keeps r :=
  keeps_fault (keeps_announceFault (s := State.modInput _ n _) h)

theorem keeps_orphan {t : Fin 4} {lost : Bool} (h : s.Keeps r) : (s.orphan t lost).Keeps r := Keeps.ite h h

theorem keeps_gainReach {o : Fin 4} {up : Bool} (h : s.Keeps r) : (s.gainReach o up).Keeps r := by
  have h1 : (if s.isStage then
      let a := s.orphan o (!up)
      if up then a.startGainRefresh else a
    else if !up && decide (o = 0) then s.mirrorStale
    else s).Keeps r :=
    Keeps.ite (Keeps.ite (keeps_startGainRefresh (keeps_orphan h)) (keeps_orphan h)) (Keeps.ite h h)
  exact Keeps.ite (keeps_startRefRefresh h1) h1

theorem keeps_takeRequest {q : Fin 4} {t : Tag} {i g p f : Byte} (h : s.Keeps r) : (s.takeRequest q t i g p f).Keeps r := by
  unfold State.takeRequest
  split
  · exact h
  · exact keeps_takeGain h

theorem keeps_takeClaim {q : Fin 4} {t : Tag} {i : BitVec 64} (h : s.Keeps r) : (s.takeClaim q t i).Keeps r :=
  Keeps.ite (keeps_startGainRefresh (s := State.reply _ _) h) h

theorem keeps_answerGain {t : Tag} {f : Word} (h : s.Keeps r) : (s.answerGain t f).Keeps r := by
  unfold State.answerGain
  split
  · exact h
  · exact keeps_settleEntries (s := s.freeEntry _ _) h

theorem keeps_supersede {old : Option Scheduled} {f : Word} (h : s.Keeps r) : (s.supersede old f).Keeps r := by
  unfold State.supersede
  split
  · exact h
  · refine Keeps.ite ?_ h
    split
    · exact keeps_settleEntries h
    · exact h

theorem keeps_freshen {n : Fin 64} (h : s.Keeps r) : (s.freshen n).Keeps r := Keeps.ite (Keeps.ite h h) h

theorem keeps_takeAnnounce {i g p f o st x : Byte} {w : Word} {t : Tag} {k : Byte} (h : s.Keeps r) :
    (s.takeAnnounce i g p f o st x w t k).Keeps r := by
  unfold State.takeAnnounce
  split
  · exact Keeps.ite h (keeps_supersede (keeps_freshen (s := s.modMirror _ _) h))
  · exact h

theorem keeps_takeRefused {t : Tag} {x : Byte} (h : s.Keeps r) : (s.takeRefused t x).Keeps r := by
  unfold State.takeRefused
  split
  · exact h
  · exact keeps_settleEntries (s := s.freeEntry _ _) h

theorem keeps_endClaim {l : Fin 16} {x : BitVec 64} (h : s.Keeps r) : (s.endClaim l x).Keeps r := by
  unfold State.endClaim
  split
  · exact keeps_endStep (keeps_storeJoined h)
  · exact h

theorem keeps_answerOwner {t : Tag} {x : BitVec 64} (h : s.Keeps r) : (s.answerOwner t x).Keeps r := by
  unfold State.answerOwner
  split
  · exact h
  · exact keeps_endClaim (s := s.freeEntry _ _) h

theorem keeps_takeOwners {o : Byte} {x : BitVec 64} (h : s.Keeps r) : (s.takeOwners o x).Keeps r := by
  unfold State.takeOwners
  split
  · exact h
  · exact h

theorem keeps_takeReference {q : Fin 4} {i v : Byte} {f : Word} (h : s.Keeps r) : (s.takeReference q i v f).Keeps r := by
  unfold State.takeReference
  split
  · exact h
  · exact h

theorem keeps_takeReport {w : BitVec 16} (h : s.Keeps r) : (s.takeReport w).Keeps r := by
  unfold State.takeReport
  split
  · exact Keeps.ite (keeps_phantomShort h) h
  · exact h

theorem keeps_endReferences (h : s.Keeps r) : s.endReferences.Keeps r :=
  Keeps.foldl (fun t l ht => by
    split
    · exact Keeps.ite (keeps_endStep ht) ht
    · exact ht) _ h

theorem keeps_sendInputs {l : Fin 16} {n : Nat} (h : s.Keeps r) : (State.sendInputs l n s).Keeps r := by
  induction n generalizing s with
  | zero => exact h
  | succ n ih =>
    unfold State.sendInputs
    split
    · refine Keeps.ite h ?_
      split
      · exact h
      · split
        · exact h
        · exact ih (keeps_request (keeps_putOp h))
    · exact h

theorem keeps_moreInputs {l : Fin 16} (h : s.Keeps r) : (s.moreInputs l).Keeps r := by
  unfold State.moreInputs
  split
  · exact keeps_sendInputs h
  · exact h

theorem keeps_sendHeadReference {l : Fin 16} (h : s.Keeps r) : (s.sendHeadReference l).Keeps r := by
  unfold State.sendHeadReference
  split
  · exact keeps_sendReference (keeps_putOp h)
  · exact h

theorem keeps_sendReferences {l : Fin 16} {n : Nat} (h : s.Keeps r) : (State.sendReferences l n s).Keeps r := by
  induction n generalizing s with
  | zero => exact h
  | succ n ih =>
    unfold State.sendReferences
    split
    · exact Keeps.ite (ih (keeps_sendHeadReference h)) (keeps_putOp h)
    · exact h

theorem keeps_moreReferences {l : Fin 16} (h : s.Keeps r) : (s.moreReferences l).Keeps r := by
  unfold State.moreReferences
  split
  · exact keeps_sendReferences h
  · exact h

theorem keeps_takeEntries {l : Fin 16} {es : List InputStep} (h : s.Keeps r) : (s.takeEntries l es).Keeps r :=
  Keeps.foldl (fun _ _ ht => keeps_takeGain ht) _ h

theorem keeps_beginInputs {l : Fin 16} {j : Join} (h : s.Keeps r) : (s.beginInputs l j).Keeps r := by
  have h1 : ∀ es : List InputStep, ((s.openOutcomes es).setOp l j (.setInput es)).Keeps r := fun es =>
    keeps_setOp (Keeps.foldl (fun _ _ ht => keeps_store ht) es h)
  exact Keeps.ite (keeps_finish h) (Keeps.ite (keeps_finish h) (Keeps.ite (keeps_finish h) (Keeps.ite (keeps_finish h)
    (Keeps.ite (keeps_takeEntries (h1 _)) (keeps_moreInputs (h1 _))))))

theorem keeps_remoteClaim {l : Fin 16} {j : Join} {rel : Bool} {i : BitVec 64} (h : s.Keeps r) : (s.remoteClaim l j rel i).Keeps r :=
  keeps_remoteRequest (keeps_setOp h)

theorem keeps_stageClaim {l : Fin 16} {j : Join} {rel : Bool} {i x : BitVec 64} (h : s.Keeps r) :
    (s.stageClaim l j rel i x).Keeps r :=
  Keeps.ite (keeps_submit (keeps_setOp h)) (keeps_endClaim (keeps_submit (keeps_setOp h)))

theorem keeps_beginClaim {l : Fin 16} {j : Join} (h : s.Keeps r) : (s.beginClaim l j).Keeps r := by
  have h1 : ∀ i : BitVec 64, ((s.claimTable 0 i).stageClaim l j false i (s.granted 0 i)).Keeps r := fun i =>
    keeps_stageClaim (s := s.claimTable 0 i) h
  exact Keeps.ite (Keeps.ite (keeps_startGainRefresh (h1 _)) (h1 _)) (keeps_remoteClaim h)

theorem keeps_beginRelease {l : Fin 16} {j : Join} (h : s.Keeps r) : (s.beginRelease l j).Keeps r :=
  Keeps.ite (keeps_stageClaim (s := s.releaseTable 0 _) h) (keeps_remoteClaim h)

theorem keeps_beginReferences {l : Fin 16} {j : Join} (h : s.Keeps r) : (s.beginReferences l j).Keeps r :=
  Keeps.ite (keeps_finish h) (Keeps.ite (keeps_finish h) (Keeps.ite (keeps_finish h) (keeps_moreReferences (keeps_setOp h))))

/-! ### The mix engine (spec 06) -/

theorem keeps_modMix {m : Fin 32} {f : Mix → Mix} (h : s.Keeps r) : (s.modMix m f).Keeps r := Keeps.of_same h

theorem keeps_applySends {q : Option (Fin 4)} {a : MixAnswer} {rs : List SendRecord} (h : s.Keeps r) :
    (s.applySends q a rs).1.Keeps r := by
  induction rs generalizing s a with
  | nil => exact h
  | cons x xs ih =>
    unfold State.applySends
    split
    · exact ih h
    · split
      · exact ih h
      · exact ih (keeps_modMix h)

theorem keeps_stageRecords {m : Fin 32} {a : MixAnswer} {rs : List SendRecord} (h : s.Keeps r) :
    (s.stageRecords m a rs).1.Keeps r := by
  induction rs generalizing s a with
  | nil => exact h
  | cons x xs ih =>
    unfold State.stageRecords
    split
    · exact h
    · split
      · exact ih h
      · split
        · exact ih (keeps_modMix h)
        · exact ih h

theorem keeps_closeStaging {m : Fin 32} {last : Bool} {a : MixAnswer} (h : s.Keeps r) : (s.closeStaging m last a).1.Keeps r := by
  unfold State.closeStaging
  split
  · exact h
  · split
    · exact h
    · exact h

theorem keeps_takeStaged {q : Fin 4} {last : Bool} {rs : List SendRecord} (h : s.Keeps r) : (s.takeStaged q last rs).1.Keeps r := by
  unfold State.takeStaged
  extract_lets
  split
  · exact h
  · split
    · split
      · exact h
      · exact keeps_closeStaging (keeps_stageRecords (keeps_modMix h))
    · split
      · exact h
      · split
        · exact h
        · split
          · exact h
          · exact keeps_closeStaging (keeps_stageRecords h)
    · exact h

theorem keeps_mixAck {q : Fin 4} {t : Tag} {a : MixAnswer} (h : s.Keeps r) : (s.mixAck q t a).Keeps r := Keeps.of_same h

theorem keeps_endMixStep {l : Fin 16} {a : MixAnswer} {u : Option Status} (h : s.Keeps r) : (s.endMixStep l a u).Keeps r :=
  keeps_endStep h

theorem keeps_finishRecord {k : Fin 16} (h : s.Keeps r) : (s.finishRecord k).Keeps r := by
  unfold State.finishRecord
  split
  · exact h
  · refine Keeps.ite h ?_
    split
    · exact keeps_endMixStep (s := State.mk ..) h
    · exact h
    · exact h

theorem keeps_settleCue {k : Fin 16} {f : MixAnswer → MixAnswer} (h : s.Keeps r) : (s.settleCue k f).Keeps r := by
  unfold State.settleCue
  split
  · exact h
  · exact keeps_finishRecord (s := State.mk ..) h

theorem keeps_giveCue {k : Fin 16} {c : CueSpec} {m : Fin 32} (h : s.Keeps r) : (s.giveCue k c m).Keeps r := by
  unfold State.giveCue
  extract_lets
  split
  · exact h
  · exact keeps_settleCue (keeps_modMix h)

theorem keeps_cueMixes {k : Fin 16} {w : CueRequester} {c : CueSpec} {ms : List (Fin 32)} {a : MixAnswer} (h : s.Keeps r) :
    (s.cueMixes k w c ms a).Keeps r := Keeps.foldl (s := State.mk ..) (fun _ _ ht => keeps_giveCue ht) ms h

theorem keeps_takeCue {m : Fin 32} (h : s.Keeps r) : (s.takeCue m).Keeps r := by
  unfold State.takeCue
  split
  · exact h
  · extract_lets s1
    have h1 : s1.Keeps r := h
    split
    · exact Keeps.ite (keeps_settleCue (keeps_modMix h1)) (keeps_settleCue h1)
    · exact keeps_settleCue h1

theorem keeps_nextPart {l : Fin 16} (h : s.Keeps r) : (s.nextPart l).Keeps r := by
  unfold State.nextPart
  split
  · split
    · exact keeps_endMixStep h
    · exact Keeps.ite (keeps_request (keeps_putOp h)) (keeps_endMixStep h)
  · exact h

theorem keeps_partAnswered {l : Fin 16} {a b c : Nat} (h : s.Keeps r) : (s.partAnswered l a b c).Keeps r := by
  unfold State.partAnswered
  split
  · exact keeps_nextPart (keeps_putOp h)
  · exact h

theorem keeps_partUnanswered {l : Fin 16} {st : Status} (h : s.Keeps r) : (s.partUnanswered l st).Keeps r := by
  unfold State.partUnanswered
  split
  · exact keeps_endMixStep h
  · exact h

theorem keeps_startParts {l : Fin 16} {j : Join} {u : Fin 4} {k : Nat} {st : Bool} {bs : List (List Byte)} (h : s.Keeps r) :
    (s.startParts l j u k st bs).Keeps r := Keeps.ite (keeps_nextPart (keeps_setOp h)) (keeps_endStep (keeps_setOp h))

theorem keeps_takeSends {q : Fin 4} {t : Tag} {st last : Bool} {ws : List Word} (h : s.Keeps r) :
    (s.takeSends q t st last ws).Keeps r := by
  unfold State.takeSends
  extract_lets rs done
  have hd : done.1.Keeps r := by
    cases st with
    | true => exact keeps_takeStaged h
    | false => exact keeps_applySends h
  exact keeps_mixAck hd

theorem keeps_cueLane {l : Fin 16} {w : Word} {c : CueSpec} {k : Fin 16} (h : s.Keeps r) : (s.cueLane l w c k).Keeps r :=
  keeps_cueMixes (keeps_putOp h)

theorem keeps_takeMixCue {q : Fin 4} {t : Tag} {w : Word} {n : Byte} {f d : Word} (h : s.Keeps r) :
    (s.takeMixCue q t w n f d).Keeps r := by
  refine Keeps.ite (keeps_mixAck h) (Keeps.ite (keeps_mixAck h) ?_)
  split
  · exact keeps_mixAck h
  · exact keeps_cueMixes h

theorem keeps_takeMixAck {t : Tag} {a b c : Byte} (h : s.Keeps r) : (s.takeMixAck t a b c).Keeps r := by
  unfold State.takeMixAck
  split
  · exact h
  · exact keeps_partAnswered (s := s.freeEntry _ _) h

theorem keeps_grantRecord (h : s.Keeps r) : s.grantRecord.Keeps r := by
  unfold State.grantRecord
  split
  · extract_lets _ s1
    have h1 : s1.Keeps r := Keeps.of_same h
    split
    · exact keeps_cueLane h1
    · exact h1
  · exact h

/-! ### The talk unit (spec 07) -/

theorem keeps_modGroup {g : Fin 8} {f : Group → Group} (h : s.Keeps r) : (s.modGroup g f).Keeps r := Keeps.of_same h

theorem keeps_modButton {b : Fin 8} {f : Button → Button} (h : s.Keeps r) : (s.modButton b f).Keeps r := Keeps.of_same h

theorem keeps_endTalkStep {l : Fin 16} (h : s.Keeps r) : (s.endTalkStep l).Keeps r := by
  unfold State.endTalkStep
  split
  · exact Keeps.ite (keeps_endStep h) (Keeps.ite (keeps_endStep h) h)
  · exact h

theorem keeps_endTalkSteps (h : s.Keeps r) : s.endTalkSteps.Keeps r := Keeps.foldl (fun _ _ ht => keeps_endTalkStep ht) _ h

theorem keeps_flag {t : Fin 4} {g : Fin 8} (h : s.Keeps r) : (s.flag t g).Keeps r := Keeps.ite (Keeps.ite h h) h

theorem keeps_flagMix {t : Fin 4} {m : Fin 32} (h : s.Keeps r) : (s.flagMix t m).Keeps r :=
  Keeps.foldl (fun _ _ ht => Keeps.ite (keeps_flag ht) ht) _ h

theorem keeps_setInsert {m : Fin 32} {i : Insert} (h : s.Keeps r) : (s.setInsert m i).Keeps r :=
  Keeps.foldl (fun _ _ ht => Keeps.ite ht (keeps_flagMix ht)) _ (Keeps.ite h h)

theorem keeps_followPresent {t : Fin 4} {b a : Word} (h : s.Keeps r) : (s.followPresent t b a).Keeps r :=
  Keeps.foldl (fun _ _ ht => Keeps.ite (keeps_setInsert ht) (Keeps.ite (keeps_setInsert ht) ht)) _ h

theorem keeps_setTalkerGroup {t : Fin 4} {g : Fin 8} {x : TalkerGroup} (h : s.Keeps r) : (s.setTalkerGroup t g x).Keeps r :=
  Keeps.of_same h

theorem keeps_takeOpen {t : Fin 4} {g : Fin 8} {q : Byte} {w : Word} (h : s.Keeps r) : (s.takeOpen t g q w).Keeps r :=
  keeps_flag (keeps_followPresent (keeps_setTalkerGroup h))

theorem keeps_takeClose {t : Fin 4} {g : Fin 8} (h : s.Keeps r) : (s.takeClose t g).Keeps r :=
  Keeps.of_same (keeps_followPresent (b := s.presentSet t) (keeps_setTalkerGroup (s := s) h))

theorem keeps_loseInsert {m : Fin 32} (h : s.Keeps r) : (s.loseInsert m).Keeps r :=
  Keeps.foldl (fun _ _ ht => Keeps.foldl (fun _ _ ht' =>
    Keeps.ite (keeps_flag (keeps_setTalkerGroup ht')) (Keeps.ite (keeps_flag ht') ht')) _ ht) _ (Keeps.ite h h)

theorem keeps_sendTalkState {t : Fin 4} (h : s.Keeps r) : (s.sendTalkState t).Keeps r := by
  unfold State.sendTalkState
  split
  · exact h
  · exact h

theorem keeps_pumpTalkReply {t : Fin 4} (h : s.Keeps r) : (s.pumpTalkReply t).Keeps r := Keeps.pump (fun _ ht => keeps_sendTalkState ht) _ h

theorem keeps_sendOutbox (h : s.Keeps r) : s.sendOutbox.Keeps r := by
  unfold State.sendOutbox
  split
  · exact h
  · extract_lets
    split
    · exact h
    · exact h

theorem keeps_pumpOutbox (h : s.Keeps r) : s.pumpOutbox.Keeps r :=
  Keeps.foldl (fun t b ht => by
    split
    · exact Keeps.ite ht (keeps_modButton ht)
    · exact ht) _ (Keeps.pump (fun _ ht => keeps_sendOutbox ht) _ h)

theorem keeps_pumpTalk (h : s.Keeps r) : s.pumpTalk.Keeps r :=
  keeps_endTalkSteps (Keeps.foldl (fun _ _ ht => keeps_pumpTalkReply ht) _ (keeps_pumpOutbox h))

theorem keeps_openAt {g : Fin 8} {u : Fin 4} (h : s.Keeps r) : (s.openAt g u).Keeps r :=
  Keeps.ite (keeps_takeOpen (keeps_modGroup h)) (Keeps.ite (keeps_modGroup h) (keeps_modGroup h))

theorem keeps_openGroup {g : Fin 8} (h : s.Keeps r) : (s.openGroup g).Keeps r :=
  keeps_pumpTalk (Keeps.foldl (fun _ _ ht => keeps_openAt ht) _ (keeps_modGroup h))

theorem keeps_closeAt {g : Fin 8} {u : Fin 4} (h : s.Keeps r) : (s.closeAt g u).Keeps r := Keeps.ite (keeps_takeClose h) (keeps_modGroup h)

theorem keeps_closeGroup {g : Fin 8} (h : s.Keeps r) : (s.closeGroup g).Keeps r :=
  keeps_pumpTalk (Keeps.foldl (fun _ _ ht => keeps_closeAt ht) _ (keeps_modGroup h))

theorem keeps_addOpener {g : Fin 8} {o : Opener} (h : s.Keeps r) : (s.addOpener g o).Keeps r :=
  Keeps.ite (keeps_modGroup h) (keeps_openGroup (keeps_modGroup h))

theorem keeps_removeOpener {g : Fin 8} {o : Opener} (h : s.Keeps r) : (s.removeOpener g o).Keeps r :=
  Keeps.ite (keeps_closeGroup (keeps_modGroup h)) (keeps_modGroup h)

theorem keeps_talkTargetReach {u : Fin 4} {up : Bool} (h : s.Keeps r) : (s.talkTargetReach u up).Keeps r :=
  Keeps.foldl (fun _ _ ht => Keeps.ite (Keeps.ite (keeps_modGroup ht) ht)
    (Keeps.ite (keeps_modGroup (keeps_modGroup ht)) (keeps_modGroup ht))) _ h

theorem keeps_talkerGone {t : Fin 4} (h : s.Keeps r) : (s.talkerGone t).Keeps r :=
  Keeps.of_same (keeps_followPresent (t := t) (b := s.presentSet t) (a := 0) (s := { s with talk.talkers := s.talk.talkers.set t {} })
    (Keeps.of_same h))

theorem keeps_talkReach {o : Fin 4} {up : Bool} (h : s.Keeps r) : (s.talkReach o up).Keeps r :=
  keeps_pumpTalk (Keeps.ite (keeps_talkTargetReach h) (keeps_talkerGone (keeps_talkTargetReach h)))

theorem keeps_talkPress {b g : Fin 8} {m : TalkMode} (h : s.Keeps r) : (s.talkPress b g m).Keeps r := keeps_modButton (keeps_addOpener h)

theorem keeps_talkStop {b g : Fin 8} (h : s.Keeps r) : (s.talkStop b g).Keeps r := keeps_removeOpener (keeps_modButton h)

theorem keeps_talkEvent {b g : Fin 8} {m : TalkMode} {p : Bool} (h : s.Keeps r) : (s.talkEvent b g m p).Keeps r := by
  unfold State.talkEvent
  split
  · exact keeps_talkPress h
  · exact keeps_talkStop h
  · split
    · exact keeps_talkStop h
    · exact h
    · exact Keeps.ite (keeps_modButton h) (keeps_talkStop h)
  · exact h

theorem keeps_cuePress {b : Fin 8} {w : Word} {n : Nat} (h : s.Keeps r) : (s.cuePress b w n).Keeps r := by
  refine Keeps.ite h ?_
  split
  · exact keeps_cueMixes h
  · exact keeps_modButton h

theorem keeps_act {b : Fin 8} {p : Bool} (h : s.Keeps r) : (s.act b p).Keeps r := by
  unfold State.act
  split
  · exact h
  · exact keeps_talkEvent h
  · exact Keeps.ite (Keeps.ite (keeps_beginAt h) (keeps_modButton h)) h
  · exact Keeps.ite (keeps_cuePress h) h

theorem keeps_detected {b : Fin 8} {p : Bool} (h : s.Keeps r) : (s.detected b p).Keeps r := by
  have h1 : (if p then s.modButton b fun x => { x with presses := x.presses + 1 } else s).Keeps r := Keeps.ite (keeps_modButton h) h
  exact Keeps.ite (keeps_attend (keeps_act h1)) (keeps_act h1)

theorem keeps_endButtonWaits {b : Fin 8} {v : Bool} (h : s.Keeps r) : (s.endButtonWaits b v).Keeps r :=
  Keeps.foldl (fun t l ht => by
    split
    · exact Keeps.ite (keeps_endStep ht) ht
    · exact ht) _ h

theorem keeps_setMixValues {m : Fin 32} {a : Bool} {x y z : Nat} (h : s.Keeps r) : (s.setMixValues m a x y z).Keeps r := by
  unfold State.setMixValues
  extract_lets was s1 s2
  have h2 : s2.Keeps r := Keeps.ite (a := s1.retargetDuck m) (b := s1) h h
  exact Keeps.ite (keeps_loseInsert h2) h2

theorem keeps_takeMixSet {q : Fin 4} {t : Tag} {m a : Byte} {x y z : BitVec 16} (h : s.Keeps r) :
    (s.takeMixSet q t m a x y z).Keeps r := by
  unfold State.takeMixSet
  split
  · exact keeps_mixAck h
  · exact Keeps.ite (keeps_mixAck h) (keeps_mixAck (keeps_pumpTalk (keeps_setMixValues h)))

theorem keeps_applyMixEntry {b : List Byte} (h : s.Keeps r) : (s.applyMixEntry b).Keeps r := by
  unfold State.applyMixEntry
  split
  · exact h
  · extract_lets s1
    have h1 : s1.Keeps r := by
      unfold s1
      split
      · exact h
      · exact h
    exact keeps_setMixValues h1

theorem keeps_beginSetMix {l : Fin 16} {j : Join} (h : s.Keeps r) : (s.beginSetMix l j).Keeps r := by
  unfold State.beginSetMix
  extract_lets
  split
  · exact keeps_finish h
  · refine Keeps.ite (keeps_finish (keeps_pumpTalk (Keeps.foldl (fun _ _ ht => keeps_applyMixEntry ht) _ h))) ?_
    split
    · exact keeps_startParts h
    · exact h

theorem keeps_beginLoad {l : Fin 16} {j : Join} (h : s.Keeps r) : (s.beginLoad l j).Keeps r := by
  refine Keeps.ite (keeps_finish h) (Keeps.ite (keeps_finish (keeps_applySends h)) ?_)
  split
  · exact keeps_startParts h
  · exact h

theorem keeps_stageHere {l : Fin 16} {j : Join} {m : Fin 32} {rs : List SendRecord} (h : s.Keeps r) : (s.stageHere l j m rs).Keeps r :=
  Keeps.ite (keeps_finish h) (Keeps.ite (keeps_finish h) (keeps_finish (keeps_modMix h)))

theorem keeps_beginScene {l : Fin 16} {j : Join} (h : s.Keeps r) : (s.beginScene l j).Keeps r := by
  unfold State.beginScene
  extract_lets
  split
  · exact keeps_finish h
  · refine Keeps.ite (keeps_stageHere h) ?_
    split
    · exact keeps_startParts h
    · exact h

theorem keeps_beginCue {l : Fin 16} {j : Join} (h : s.Keeps r) : (s.beginCue l j).Keeps r := by
  refine Keeps.ite (keeps_finish h) (Keeps.ite ?_ ?_)
  · split
    · exact keeps_cueLane (keeps_setOp h)
    · exact Keeps.of_same (keeps_setOp (l := l) (j := j) h)
  · split
    · exact keeps_startParts h
    · exact h

theorem keeps_beginRead {l : Fin 16} {j : Join} (h : s.Keeps r) : (s.beginRead l j).Keeps r :=
  have h1 : ∀ ws : List Word, (s.storeWords j 0 ws).Keeps r := fun _ => keeps_storeJoined h
  keeps_finish (Keeps.ite (Keeps.of_same (h1 _)) (h1 _))

theorem keeps_talkerOpens {q : Fin 4} {g x : Byte} {w : Word} (h : s.Keeps r) : (s.talkerOpens q g x w).Keeps r := by
  unfold State.talkerOpens
  split
  · exact keeps_pumpTalk (keeps_takeOpen h)
  · exact h

theorem keeps_talkerCloses {q : Fin 4} {g : Byte} (h : s.Keeps r) : (s.talkerCloses q g).Keeps r := by
  unfold State.talkerCloses
  split
  · exact keeps_pumpTalk (keeps_takeClose h)
  · exact h

theorem keeps_takeState {q : Fin 4} {g x : Byte} {a b : Word} (h : s.Keeps r) : (s.takeState q g x a b).Keeps r := by
  unfold State.takeState
  split
  · exact h
  · exact Keeps.ite (keeps_endTalkSteps (keeps_modGroup h)) h

theorem keeps_answerTimeout {g : Fin 8} {u : Fin 4} (h : s.Keeps r) : (s.answerTimeout g u).Keeps r :=
  keeps_pumpTalk (keeps_modGroup h)

theorem keeps_beginGroup {l : Fin 16} {j : Join} (h : s.Keeps r) : (s.beginGroup l j).Keeps r := by
  unfold State.beginGroup
  extract_lets
  split
  · exact keeps_finish h
  · refine Keeps.ite (keeps_finish h) ?_
    split
    · exact keeps_finish h
    · exact Keeps.ite (keeps_finish h) (Keeps.ite (keeps_finish h) (keeps_finish (Keeps.ite h h)))

theorem keeps_endAction {b : Fin 8} (h : s.Keeps r) : (s.endAction b).Keeps r :=
  Keeps.foldl (fun _ _ ht => Keeps.ite (keeps_removeOpener ht) ht) _ (keeps_modButton h)

theorem keeps_applyButton {e : ButtonEntry} (h : s.Keeps r) : (s.applyButton e).Keeps r := by
  cases e with
  | lamp => exact h
  | button i d a n =>
    have h1 : ((s.endAction i).modButton i fun x => { x with detection := d, action := a, notify := n }).Keeps r :=
      keeps_modButton (keeps_endAction h)
    exact Keeps.ite (keeps_detected h1) h1

theorem keeps_beginButtons {l : Fin 16} {j : Join} (h : s.Keeps r) : (s.beginButtons l j).Keeps r := by
  unfold State.beginButtons
  split
  · exact keeps_finish h
  · exact keeps_finish (Keeps.foldl (fun _ _ ht => keeps_applyButton ht) _ h)

theorem keeps_beginTalk {l : Fin 16} {j : Join} (h : s.Keeps r) : (s.beginTalk l j).Keeps r := by
  unfold State.beginTalk
  split
  · exact keeps_finish h
  · exact Keeps.ite (keeps_endTalkSteps (keeps_addOpener (keeps_setOp h))) (keeps_finish (keeps_removeOpener h))

/-! ### The meter unit (spec 09) -/

theorem keeps_setSweep {l : Fin 16} {x : Option Sweep} (h : s.Keeps r) : (s.setSweep l x).Keeps r := Keeps.of_same h

theorem keeps_queueSweep {l : Fin 16} {x : Sweep} (h : s.Keeps r) : (s.queueSweep l x).Keeps r := Keeps.of_same h

theorem keeps_writeResult {x : Sweep} {d : Measuring} (h : s.Keeps r) : (s.writeResult x d).Keeps r :=
  keeps_store (keeps_store (keeps_store h))

theorem keeps_clearResults {x : Sweep} (h : s.Keeps r) : (s.clearResults x).Keeps r := Keeps.foldl (fun _ _ ht => keeps_store ht) _ h

theorem keeps_endSweep {l : Fin 16} {x : Sweep} (h : s.Keeps r) : (s.endSweep l x).Keeps r :=
  keeps_endStep (Keeps.of_same (keeps_storeJoined (j := s.join l) (i := 20) (bs := [x.missed].flatMap fun w => leBytes 4 w.toNat) h))

theorem keeps_passComplete {l : Fin 16} {x : Sweep} (h : s.Keeps r) : (s.passComplete l x).Keeps r := by
  unfold State.passComplete
  extract_lets
  split
  · exact keeps_endSweep h
  · exact keeps_endSweep h
  · exact Keeps.ite (keeps_endSweep h) (Keeps.ite (keeps_setSweep h) (Keeps.of_same h))
  · split
    · exact Keeps.ite (keeps_endSweep h) (Keeps.of_same h)
    · exact keeps_endSweep h

theorem keeps_beginPass (h : s.Keeps r) : s.beginPass.Keeps r := by
  unfold State.beginPass
  split
  · exact h
  · split
    · exact h
    · exact Keeps.of_same h

theorem keeps_windowEnd {k : Fin 8} {d : Measuring} (h : s.Keeps r) : (s.windowEnd k d).Keeps r := by
  unfold State.windowEnd
  split
  · exact h
  · split
    · exact h
    · rename_i x _
      have h1 : (s.writeResult x d).Keeps r := keeps_writeResult h
      generalize s.writeResult x d = s1 at h1
      exact Keeps.ite (Keeps.of_same h1) (Keeps.ite (keeps_passComplete (Keeps.of_same h1)) (Keeps.of_same h1))

theorem keeps_buttonTrigger {b : Fin 8} {v : Bool} {l : Fin 16} (h : s.Keeps r) : (s.buttonTrigger b v l).Keeps r := by
  unfold State.buttonTrigger
  split
  · split
    · refine Keeps.ite ?_ h
      split
      · exact keeps_queueSweep h
      · exact keeps_setSweep h
    · exact h
  · exact h

theorem keeps_frameTrigger {l : Fin 16} (h : s.Keeps r) : (s.frameTrigger l).Keeps r := by
  unfold State.frameTrigger
  split
  · exact Keeps.ite (keeps_queueSweep h) h
  · exact h

theorem keeps_createSweep {l : Fin 16} {j : Join} {x : Sweep} (h : s.Keeps r) : (s.createSweep l j x).Keeps r := by
  have h1 : (((s.storeWords j 20 [0]).clearResults x).setOp l j .meter).Keeps r :=
    keeps_setOp (keeps_clearResults (keeps_storeJoined h))
  exact Keeps.ite (keeps_frameTrigger (keeps_setSweep h1)) (keeps_queueSweep h1)

theorem keeps_beginMeter {l : Fin 16} {j : Join} (h : s.Keeps r) : (s.beginMeter l j).Keeps r := by
  refine Keeps.ite (keeps_finish h) ?_
  split
  · exact keeps_finish h
  · exact keeps_createSweep h
  · exact keeps_finish h

theorem keeps_detectorDone {k : Fin 8} (h : s.Keeps r) : (s.detectorDone k).Keeps r := by
  unfold State.detectorDone
  split
  · exact Keeps.ite (keeps_windowEnd h) h
  · exact h

theorem keeps_levelChanged {b : Fin 8} {v : Bool} (h : s.Keeps r) : (s.levelChanged b v).Keeps r := by
  unfold State.levelChanged
  extract_lets s0 s1 s2
  have h1 : s1.Keeps r := h
  have h2 : s2.Keeps r := by
    unfold s2
    split
    · exact keeps_detected h1
    · exact h1
  exact Keeps.foldl (fun _ _ ht => keeps_buttonTrigger ht) _ (keeps_endButtonWaits h2)

theorem keeps_debounce {b : Fin 8} {v : Bool} (h : s.Keeps r) : (s.debounce b v).Keeps r :=
  have h1 := keeps_modButton (b := b) (f := fun y => { y with sampled := true }) h
  Keeps.ite h (Keeps.ite (keeps_modButton h1) (Keeps.ite (keeps_modButton h1) (Keeps.ite (keeps_modButton h1) (keeps_levelChanged h1))))

/-! ### The clock unit and the supervisor (spec 02, R36 to R43; spec 08, R160 to R164) -/

theorem keeps_requestEnds {q : Request} {st : Status} (h : s.Keeps r) : (s.requestEnds q st).Keeps r :=
  Keeps.ite (keeps_settleEntries (s := s.freeEntry _ _) h)
    (Keeps.ite (keeps_partUnanswered (s := s.freeEntry _ _) h) (keeps_endStep (s := s.freeEntry _ _) h))

theorem keeps_timeOut {l : Fin 16} {q : Byte} (h : s.Keeps r) : (s.timeOut l q).Keeps r := by
  unfold State.timeOut
  split
  · exact keeps_requestEnds h
  · exact h

theorem keeps_endReachWaits {o : Fin 4} {up : Bool} (h : s.Keeps r) : (s.endReachWaits o up).Keeps r :=
  Keeps.foldl (fun t l ht => by
    split
    · exact Keeps.ite (keeps_endStep ht) ht
    · exact Keeps.ite (keeps_endStep ht) ht
    · exact ht) _ h

theorem keeps_clockRecord {c : Clock} (h : s.Keeps r) : (s.clockRecord c).Keeps r := Keeps.ite h (keeps_fault h)

theorem keeps_chooseSource (h : s.Keeps r) : s.chooseSource.Keeps r := by
  refine Keeps.ite h ?_
  split
  · exact keeps_clockRecord (s := State.mk ..) h
  · exact keeps_clockRecord (s := State.mk ..) h

theorem keeps_clockPathLost {o : Fin 4} {p : Port} (h : s.Keeps r) : (s.clockPathLost o p).Keeps r := by
  refine Keeps.ite ?_ h
  split
  · exact h
  · exact h

theorem keeps_changeDelay {d : Nat} (h : s.Keeps r) : (s.changeDelay d).Keeps r := Keeps.ite h (keeps_retestSwitches (s := State.mk ..) h)

theorem keeps_frameJump {f : Word} (h : s.Keeps r) : (s.frameJump f).Keeps r :=
  Keeps.foldl (fun _ _ ht => keeps_frameTrigger (keeps_endFrameWait ht)) _ (keeps_retestSwitches (keeps_fault (s := State.mk ..) h))

theorem keeps_follow40 {d : Int} {f : Word} (h : s.Keeps r) : (s.follow40 d f).Keeps r := Keeps.ite (keeps_frameJump h) h

theorem keeps_clockArrival {o : Fin 4} {p : Port} {f : Word} {x : BitVec 8} (h : s.Keeps r) : (s.clockArrival o p f x).Keeps r := by
  refine Keeps.ite h ?_
  extract_lets diff _ s1
  have h1 : s1.Keeps r := Keeps.of_same h
  split
  · exact h1
  · refine Keeps.ite (keeps_follow40 (Keeps.ite ?_ h1)) (Keeps.ite ?_ h1)
    · exact Keeps.of_same h1
    · exact Keeps.of_same h1

theorem keeps_reachReport {o : Fin 4} {up : Bool} (h : s.Keeps r) : (s.reachReport o up).Keeps r := by
  have h1 : (if up then s else s.serviceReach o).Keeps r := Keeps.ite h (Keeps.foldl (fun _ _ ht => keeps_requestEnds ht) _ h)
  exact keeps_endReachWaits (keeps_talkReach (s := State.mixReach _ _ _) (keeps_gainReach (keeps_chooseSource h1)))

theorem keeps_reachChange {o : Fin 4} {p : Port} {up : Bool} (h : s.Keeps r) : (s.reachChange o p up).Keeps r :=
  keeps_reachReport (Keeps.ite (keeps_fault (s := s) h) (keeps_fault h))

theorem keeps_pathRecord {o : Fin 4} {p : Port} {up : Bool} (h : s.Keeps r) : (s.pathRecord o p up).Keeps r := keeps_fault h

theorem keeps_losePath {o : Fin 4} {p : Port} (h : s.Keeps r) : (s.losePath o p).Keeps r := by
  have h1 : (((s.modPath o p fun x => { x with up := false, losses := x.losses + 1 }).pathRecord o p false).clockPathLost o p).Keeps r :=
    keeps_clockPathLost (keeps_pathRecord (s := s.modPath _ _ _) h)
  exact Keeps.ite h1 (keeps_reachChange h1)

theorem keeps_pathArrival {o : Fin 4} {p : Port} {n : Nat} {w : Word} (h : s.Keeps r) : (s.pathArrival o p n w).Keeps r := by
  unfold State.pathArrival
  extract_lets was _ s1 s2 s4 s3
  have h2 : s2.Keeps r := Keeps.of_same h
  have h4 : s4.Keeps r := keeps_pathRecord h2
  have h3 : s3.Keeps r := Keeps.ite h2 (Keeps.ite h4 (keeps_reachChange h4))
  exact Keeps.ite (keeps_changeDelay h3) h3

theorem keeps_losePaths {p : Port} (h : s.Keeps r) : (s.losePaths p).Keeps r :=
  Keeps.foldl (fun _ _ ht => Keeps.ite (keeps_losePath ht) ht) _ h

theorem keeps_setClosure {d : Direction} {c : Closure} (h : s.Keeps r) : (s.setClosure d c).Keeps r := by
  cases d with
  | eastward => exact h
  | westward => exact h

theorem keeps_closureReport {p : Port} {n : Nat} {f : Word} (h : s.Keeps r) : (s.closureReport p n f).Keeps r :=
  Keeps.ite h (keeps_setClosure h)

theorem keeps_conflict {p : Port} {m : BitVec 16} (h : s.Keeps r) : (s.conflict p m).Keeps r := by
  have h1 := keeps_attend (i := 22) h
  exact Keeps.ite h1 (keeps_fault (s := State.setPort _ _ _) h1)

/-! ### The ring ports (spec 08) -/

theorem keeps_leftUp {p : Port} (h : s.Keeps r) : (s.leftUp p).Keeps r :=
  keeps_losePaths (keeps_setClosure (s := s.setPort _ _) h)

theorem keeps_reportDark {p : Port} {n : Option (Fin 4)} {k : Nat} (h : s.Keeps r) : (s.reportDark p n k).Keeps r :=
  Keeps.ite h (keeps_fault (s := s.setPort _ _) h)

theorem keeps_enterDark {p : Port} (h : s.Keeps r) : (s.enterDark p).Keeps r := by
  have h1 : ((s.setPort p ((s.port p).enter .dark)).reportDark p (s.neighbour p) (s.port p).timer).Keeps r :=
    keeps_reportDark (s := s.setPort _ _) h
  exact Keeps.ite (keeps_leftUp h1) h1

theorem keeps_enterUp {p : Port} (h : s.Keeps r) : (s.enterUp p).Keeps r := keeps_fault (s := s.setPort _ _) h

theorem keeps_flap {p : Port} {c : FlapCause} (h : s.Keeps r) : (s.flap p c).Keeps r := by
  unfold State.flap
  extract_lets x was near r1 _ r2 s3
  have h3 : s3.Keeps r := by
    refine Keeps.ite (keeps_fault (s := s.setPort _ _) h) ?_
    split
    · exact keeps_reportDark (s := s.setPort _ _) h
    · exact keeps_fault (s := s.setPort _ _) h
  exact Keeps.ite (keeps_leftUp h3) h3

theorem keeps_checkFailed {p : Port} (h : s.Keeps r) : (s.checkFailed p).Keeps r := Keeps.ite (keeps_flap (s := s.setPort _ _) h) h

theorem keeps_receiveAcquire {p : Port} {b : Burst} {v : Bool} (h : s.Keeps r) : (s.receiveAcquire p b v).Keeps r := Keeps.ite h h

theorem keeps_receiveQualify {p : Port} {b : Burst} {v : Bool} (h : s.Keeps r) : (s.receiveQualify p b v).Keeps r :=
  Keeps.ite h (Keeps.ite h (Keeps.ite (Keeps.ite (keeps_enterUp (s := State.mk ..) h) h) h))

theorem keeps_forward {p : Port} {b : Burst} (h : s.Keeps r) : (s.forward p b).Keeps r := Keeps.ite h (Keeps.ite h h)

theorem keeps_enterLoop {p : Port} {x : LoopRole} {n : Nat} {l : Option (Fin 16)} (h : s.Keeps r) : (s.enterLoop p x n l).Keeps r :=
  Keeps.ite (keeps_leftUp (s := s.setPort _ _) h) h

theorem keeps_writeLoop {x : LoopRec} (h : s.Keeps r) : (s.writeLoop x).Keeps r := by
  unfold State.writeLoop
  split
  · exact keeps_storeJoined h
  · exact h

theorem keeps_endTester {x : LoopRec} {o : LoopOutcome} (h : s.Keeps r) : (s.endTester x o).Keeps r := by
  unfold State.endTester
  split
  · exact keeps_endStep h
  · exact keeps_endStep h
  · exact h

theorem keeps_endLoop {p : Port} {o : LoopOutcome} (h : s.Keeps r) : (s.endLoop p o).Keeps r := by
  unfold State.endLoop
  split
  · exact h
  · rename_i x _
    have h1 : (s.writeLoop x).Keeps r := keeps_writeLoop h
    have h2 : (if o = .broken then (s.writeLoop x).enterDark p else (s.writeLoop x).enterAcquire p).Keeps r :=
      Keeps.ite (keeps_enterDark h1) h1
    exact keeps_endTester (keeps_fault (s := State.setPort _ _ _) h2)

theorem keeps_giveBurst {p : Port} {b : Burst} (h : s.Keeps r) : (s.giveBurst p b).Keeps r := by
  unfold State.giveBurst
  extract_lets
  split
  · exact h
  · split
    · exact Keeps.ite h h
    · exact h
  · exact h

theorem keeps_sendForward {p : Port} (h : s.Keeps r) : (s.sendForward p).Keeps r := by
  refine Keeps.ite h ?_
  split
  · exact Keeps.ite h h
  · exact h

theorem keeps_loseSignal {p : Port} (h : s.Keeps r) : (s.loseSignal p).Keeps r := by
  unfold State.loseSignal
  split
  · exact keeps_flap h
  · exact keeps_flap h
  · split
    · split
      · exact h
      · exact keeps_endLoop h
      · exact keeps_endLoop h
    · exact h
  · exact h
  · exact h
  · exact h

theorem keeps_startLoop {l : Fin 16} {j : Join} {p : Port} {far : Bool} {n : Nat} (h : s.Keeps r) : (s.startLoop l j p far n).Keeps r := by
  have h1 : ((s.storeWords j 8 [0, 0, 0, 0, snap n]).setOp l j (.loopTest p n)).Keeps r := keeps_setOp (keeps_storeJoined h)
  refine Keeps.ite ?_ (keeps_enterLoop h1)
  split
  · exact keeps_remoteRequest h1
  · exact h1

theorem keeps_beginLoop {l : Fin 16} {j : Join} (h : s.Keeps r) : (s.beginLoop l j).Keeps r := by
  unfold State.beginLoop
  extract_lets
  split
  · exact keeps_finish h
  · refine Keeps.ite (keeps_finish h) ?_
    split
    · exact keeps_finish h
    · exact keeps_startLoop h

theorem keeps_takeLoopRequest {q : Fin 4} {t : Tag} {p : Byte} {d : Word} (h : s.Keeps r) : (s.takeLoopRequest q t p d).Keeps r := by
  unfold State.takeLoopRequest
  split
  · exact h
  · exact Keeps.ite h h

theorem keeps_answerLoop {l : Fin 16} {x : Byte} (h : s.Keeps r) : (s.answerLoop l x).Keeps r := by
  unfold State.answerLoop
  split
  · exact Keeps.ite (keeps_endStep h) (Keeps.ite (keeps_enterLoop h) (keeps_endStep h))
  · exact h

theorem keeps_takeLoopReply {t : Tag} {x : Byte} (h : s.Keeps r) : (s.takeLoopReply t x).Keeps r := by
  unfold State.takeLoopReply
  split
  · exact h
  · exact keeps_answerLoop (s := s.freeEntry _ _) h

theorem keeps_dealWith {p : Port} {x : BitVec 8} {b : Burst} (h : s.Keeps r) : (s.dealWith p x b).Keeps r :=
  Keeps.ite (Keeps.ite (keeps_closureReport h) (keeps_conflict h))
    (keeps_forward (keeps_pathArrival (s := State.mk ..) (keeps_clockArrival (s := s) h)))

theorem keeps_receiveLoop {p : Port} {w : Bool} {b : Burst} (h : s.Keeps r) : (s.receiveLoop p w b).Keeps r := by
  unfold State.receiveLoop
  extract_lets
  split
  · split
    · exact h
    · exact h
    · exact h
  · exact h

theorem keeps_receive {p : Port} {x : BitVec 8} {w : Bool} {b : Burst} (h : s.Keeps r) : (s.receive p x w b).Keeps r := by
  have h1 : ∀ v : Bool, (s.countCheck p v).Keeps r := fun _ => h
  unfold State.receive
  extract_lets
  split
  · exact h
  · exact keeps_receiveAcquire (h1 _)
  · exact keeps_receiveQualify (h1 _)
  · exact Keeps.ite (keeps_dealWith (h1 _)) (keeps_checkFailed (h1 _))
  · exact h1 _
  · exact keeps_receiveLoop h

/-! ### Cancels and scans (spec 01, R12, R16) -/

theorem keeps_cancelLoop {l : Fin 16} {p : Port} (h : s.Keeps r) : (s.cancelLoop l p).Keeps r := by
  unfold State.cancelLoop
  split
  · exact Keeps.ite (keeps_endLoop h) h
  · exact h

theorem keeps_cancelCue {l : Fin 16} {k : Option (Fin 16)} (h : s.Keeps r) : (s.cancelCue l k).Keeps r := by
  cases k with
  | none => exact h
  | some => exact h

theorem keeps_withdraw {l : Fin 16} (h : s.Keeps r) : (s.withdraw l).Keeps r := Keeps.of_same h

theorem keeps_forgetLane {l : Fin 16} (h : s.Keeps r) : (s.forgetLane l).Keeps r := Keeps.of_same h

theorem keeps_dropSweep {l : Fin 16} (h : s.Keeps r) : (s.dropSweep l).Keeps r := Keeps.of_same h

theorem keeps_cancelOp {l : Fin 16} {op : Op} (h : s.Keeps r) : (s.cancelOp l op).1.Keeps r := by
  cases op with
  | wait => exact h
  | mapSlots => exact h
  | patchOutputs => exact h
  | sendNote => exact keeps_withdraw h
  | setInput => exact keeps_forgetLane (keeps_withdraw (keeps_writeOutcomes h))
  | claim => exact keeps_withdraw h
  | setReference => exact keeps_withdraw h
  | mixRemote => exact keeps_withdraw h
  | cueScene => exact keeps_cancelCue h
  | talkOpen => exact h
  | loopTest => exact keeps_cancelLoop (keeps_withdraw h)
  | meter =>
    simp only [State.cancelOp]
    split
    · exact keeps_dropSweep (keeps_storeJoined h)
    · exact h

theorem keeps_cancelLane {l : Fin 16} (h : s.Keeps r) : (s.cancelLane l).Keeps r := by
  unfold State.cancelLane
  extract_lets
  split
  · exact keeps_finishCancelled (keeps_cancelOp h)
  · exact keeps_finishCancelled h
  · exact keeps_finishCancelled h
  · exact Keeps.ite h (keeps_setLane h)

theorem keeps_scanLane {l : Fin 16} (h : s.Keeps r) : (s.scanLane l).Keeps r := by
  unfold State.scanLane
  extract_lets s1
  have h1 : s1.Keeps r := Keeps.ite h (keeps_cancelLane (keeps_poke h))
  exact keeps_takePost h1

theorem keeps_scanLanes (h : s.Keeps r) : s.scanLanes.Keeps r := Keeps.foldl (s := State.mk ..) (fun _ _ ht => keeps_scanLane ht) _ h

/-! ### Playout, burst and map steps (spec 02, spec 03) -/

theorem keeps_completeMessage {o : Fin 4} {m : Nat × List Byte} (h : s.Keeps r) : (s.completeMessage o m).Keeps r :=
  Keeps.ite (Keeps.of_same h) (Keeps.of_same h)

theorem keeps_takeStream {p : Word} {f : Bank 4 PlayedFrame} {o : Fin 4} (h : s.Keeps r) : (s.takeStream p f o).Keeps r := by
  refine Keeps.ite h (Keeps.foldl (fun _ _ ht => keeps_completeMessage ht) _ ?_)
  exact Keeps.of_same h

theorem keeps_applyReferences (h : s.Keeps r) : s.applyReferences.Keeps r :=
  Keeps.foldl (fun _ _ ht => Keeps.foldl (fun _ _ ht' => Keeps.ite (keeps_applyReference ht') ht') _ ht) _ h

theorem keeps_applyGains (h : s.Keeps r) : s.applyGains.Keeps r :=
  Keeps.foldl (fun _ _ ht => Keeps.ite (Keeps.ite (keeps_applyPending ht) ht) (Keeps.ite (keeps_applyScheduled ht) ht)) _ h

theorem keeps_endMutes (h : s.Keeps r) : s.endMutes.Keeps r := Keeps.foldl (fun _ _ ht => Keeps.ite (keeps_endMute ht) ht) _ h

theorem keeps_advanceRamps (h : s.Keeps r) : s.advanceRamps.Keeps r := Keeps.of_same h

theorem keeps_takeCues (h : s.Keeps r) : s.takeCues.Keeps r := Keeps.foldl (fun _ _ ht => Keeps.ite (keeps_takeCue ht) ht) _ h

theorem keeps_beforePlayout {tdm : List Sample} (h : s.Keeps r) : (s.beforePlayout tdm).Keeps r := by
  unfold State.beforePlayout
  extract_lets _ s1
  have h1 : s1.Keeps r := Keeps.of_same h
  exact keeps_takeCues (keeps_advanceRamps (keeps_endMutes (keeps_applyGains (keeps_applyReferences h1))))

theorem keeps_computeMixes {f : Bank 4 PlayedFrame} (h : s.Keeps r) : (s.computeMixes f).Keeps r := Keeps.of_same h

theorem keeps_deliver {f : Bank 4 PlayedFrame} (h : s.Keeps r) : (s.deliver f).Keeps r := Keeps.of_same h

theorem keeps_measure {f : Bank 4 PlayedFrame} (h : s.Keeps r) : (s.measure f).Keeps r := Keeps.of_same h

theorem keeps_playoutEnd {p : Word} (h : s.Keeps r) :
    ({ s.endReferences with merge.playedNow := true, merge.point := p + 1, gain.switched := [] } : State).Keeps r := by
  have h1 : s.endReferences.Keeps r := keeps_endReferences h
  generalize s.endReferences = s1 at h1
  exact Keeps.of_same h1

theorem keeps_playFrames {p : Word} {records : Bank 4 MergeRec} {frames : Bank 4 PlayedFrame} (h : s.Keeps r) :
    ((indices 4).foldl (fun (st : State) o => st.takeStream p frames o)
      ((({ s with merge.records := records }.computeMixes frames).deliver frames).measure frames)).Keeps r :=
  Keeps.foldl (fun _ _ ht => keeps_takeStream ht) _
    (keeps_measure (keeps_deliver (keeps_computeMixes (Keeps.of_same h))))

theorem keeps_playout {tdm : List Sample} (h : s.Keeps r) : (s.playout tdm).Keeps r := by
  have h1 (p records frames) := keeps_playoutEnd (p := p)
    (keeps_playFrames (p := p) (records := records) (frames := frames) (keeps_beforePlayout (tdm := tdm) h))
  unfold State.playout
  generalize s.beforePlayout tdm = s1 at h1 ⊢
  exact h1 _ _ _

theorem keeps_messageSent {m : Message} (h : s.Keeps r) : (s.messageSent m).Keeps r := by
  unfold State.messageSent
  split
  · exact h
  · split
    · exact h
    · exact Keeps.ite h (keeps_requestEnds h)
  · split
    · exact keeps_endStep h
    · exact h
  · exact h
  · exact Keeps.ite (keeps_enterLoop h) h

theorem keeps_messageDiscarded {m : Message} (h : s.Keeps r) : (s.messageDiscarded m).Keeps r := by
  unfold State.messageDiscarded
  split
  · split
    · exact keeps_requestEnds h
    · exact h
  · split
    · exact keeps_endStep h
    · exact h
  · exact h

theorem keeps_serviceEvent {e : ServiceEvent} (h : s.Keeps r) : (s.serviceEvent e).Keeps r := by
  cases e with
  | sent => exact keeps_messageSent h
  | discarded => exact keeps_messageDiscarded h

theorem keeps_build (h : s.Keeps r) : s.build.Keeps r :=
  Keeps.foldl (s := State.mk ..) (fun _ _ ht => keeps_serviceEvent ht) _
    (keeps_giveBurst (keeps_giveBurst (s := State.mk ..) h))

theorem keeps_settleSlots {l : Fin 16} (h : s.Keeps r) : (s.settleSlots l).Keeps r := by
  unfold State.settleSlots
  split
  · exact Keeps.ite (keeps_endStep h) h
  · exact h

theorem keeps_beginSlots {l : Fin 16} {j : Join} (h : s.Keeps r) : (s.beginSlots l j).Keeps r := by
  unfold State.beginSlots
  extract_lets
  split
  · exact keeps_finish h
  · exact keeps_settleSlots (keeps_setOp (s := State.mk ..) h)

theorem keeps_settleOutputs {l : Fin 16} (h : s.Keeps r) : (s.settleOutputs l).Keeps r := by
  unfold State.settleOutputs
  split
  · exact Keeps.ite (keeps_endStep h) h
  · exact h

theorem keeps_beginOutputs {l : Fin 16} {j : Join} (h : s.Keeps r) : (s.beginOutputs l j).Keeps r := by
  unfold State.beginOutputs
  split
  · exact keeps_finish h
  · exact keeps_settleOutputs (keeps_setOp (s := State.mk ..) h)

/-! ### Grants of room and entries (spec 04, R73, R76) -/

theorem keeps_afterPlaced {l : Fin 16} (h : s.Keeps r) : (s.afterPlaced l).Keeps r := by
  unfold State.afterPlaced
  split
  · exact keeps_moreInputs h
  · exact keeps_endClaim h
  · exact h

theorem keeps_placeHeld {l : Fin 16} (h : s.Keeps r) : (s.placeHeld l).Keeps r := by
  unfold State.placeHeld
  split
  · exact keeps_moreReferences (keeps_sendHeadReference h)
  · split
    · exact keeps_afterPlaced (s := State.enqueue _ _) h
    · exact h

theorem keeps_placeReply {q : QueueClass} (h : s.Keeps r) : (s.placeReply q).Keeps r := by
  unfold State.placeReply
  split
  · exact h
  · exact h

theorem keeps_place {q : QueueClass} {k : Held} (h : s.Keeps r) : (s.place q k).Keeps r := by
  cases k with
  | lane => exact keeps_placeHeld h
  | pendingGain => exact Keeps.ite (keeps_announce h) h
  | faultAnnounce => exact keeps_sendFaultAnnounce h
  | gainRefresh => exact keeps_pumpGainRefresh (keeps_sendGainRefresh h)
  | refRefresh => exact keeps_pumpRefRefresh (keeps_sendRefRefresh h)
  | outbox => exact keeps_pumpOutbox (keeps_sendOutbox h)
  | talkReply => exact keeps_pumpTalkReply (keeps_sendTalkState h)
  | reply => exact keeps_placeReply h

theorem keeps_grantRoom {q : QueueClass} (h : s.Keeps r) : (s.grantRoom q).Keeps r := by
  obtain ⟨-, he⟩ | ⟨k, rest, t, -, -, rfl, he⟩ := grantRoom_cases s q
  · rw [he]; exact h
  · rw [he]; exact Keeps.ite (keeps_place (s := State.mk ..) h) h

theorem keeps_grantEntry (h : s.Keeps r) : s.grantEntry.Keeps r := by
  unfold State.grantEntry
  split
  · exact h
  · refine Keeps.ite ?_ h
    extract_lets _ s1
    have h1 : s1.Keeps r := Keeps.of_same h
    split
    · exact keeps_moreInputs (keeps_give h1)
    · exact h1

theorem keeps_rewrite {v : View} (h : s.Keeps r) : (s.rewrite v).Keeps r := Keeps.showsOnly (showsOnly_rewrite s v) h

theorem keeps_viewChanged {v : View} (h : s.Keeps r) : (s.viewChanged v).Keeps r := Keeps.showsOnly (showsOnly_viewChanged s v) h

/-! ### Operations without a branch -/

theorem keeps_takeRelease {q : Fin 4} {t : Tag} {i : BitVec 64} (h : s.Keeps r) : (s.takeRelease q t i).Keeps r := Keeps.of_same h

theorem keeps_toggleFlash (h : s.Keeps r) : s.toggleFlash.Keeps r := Keeps.of_same h

theorem keeps_beginRanks {l : Fin 16} {j : Join} (h : s.Keeps r) : (s.beginRanks l j).Keeps r := keeps_finish (s := State.mk ..) h

theorem keeps_setPort {p : Port} {x : PortRec} (h : s.Keeps r) : (s.setPort p x).Keeps r := Keeps.of_same h

theorem keeps_enterAcquire {p : Port} (h : s.Keeps r) : (s.enterAcquire p).Keeps r := keeps_setPort h

theorem keeps_clearConflict {p : Port} (h : s.Keeps r) : (s.clearConflict p).Keeps r := keeps_setPort h

theorem keeps_openClosure {d : Direction} (h : s.Keeps r) : (s.openClosure d).Keeps r := keeps_setClosure h

/-! ### The start of a run (spec 01, R8 to R11, R20, R21) -/

theorem keeps_pokeAll {a : Nat} {ws : List Word} (h : s.Keeps r) : (s.pokeAll a ws).Keeps r := keeps_store h

theorem keeps_writeView {v : View} (h : s.Keeps r) : (s.writeView v).Keeps r := Keeps.showsOnly (showsOnly_writeView s v) h

theorem keeps_initList {base capacity : Nat} (h : s.Keeps r) : (s.initList base capacity).Keeps r := keeps_pokeAll h

theorem keeps_initLane {l : Fin 16} (h : s.Keeps r) : (s.initLane l).Keeps r :=
  keeps_poke (keeps_pokeAll (s := State.mk ..) h)

theorem keeps_prepareRam (h : s.Keeps r) : s.prepareRam.Keeps r := by
  unfold State.prepareRam
  have h1 : s.writeInUse.Keeps r := keeps_pokeAll h
  have h2 := Keeps.foldl (f := fun st l => st.initLane l) (fun _ _ ht => keeps_initLane ht) (indices 16) h1
  exact keeps_writeView (keeps_writeView (keeps_writeView (keeps_initList (keeps_initList h2))))

theorem keeps_enterRunning (h : s.Keeps r) : s.enterRunning.Keeps r :=
  keeps_attend (keeps_attend (keeps_attend (Keeps.of_same h)))

theorem keeps_beginRun {c : RunConfig} (h : s.Keeps r) : (s.beginRun c).Keeps r :=
  keeps_enterRunning (keeps_prepareRam (Keeps.of_same h))

theorem keeps_reject {v : Verdict} (h : s.Keeps r) : (s.reject v).Keeps r := Keeps.of_same h

theorem keeps_checkAnchor (h : s.Keeps r) : s.checkAnchor.Keeps r := by
  unfold State.checkAnchor
  split
  · exact keeps_beginRun h
  · exact keeps_reject h

theorem keeps_controlWrite {w : Word} (h : s.Keeps r) : (s.controlWrite w).Keeps r := by
  unfold State.controlWrite
  refine Keeps.ite (Keeps.of_same h) ?_
  have h1 : State.Keeps { s with regs.mask := w.extractLsb' 8 24 } r := Keeps.of_same h
  generalize State.mk .. = s1 at h1
  split
  · exact Keeps.of_same h1
  · exact h1
  · exact h1
  · exact Keeps.of_same h1

end Keeps

/-! ### Safe steps -/

/-- A state that is reached safely from another: its RAM stays canonical, a part held in reset stays at rest, the mark stands. -/
structure State.Safe (t s : State) : Prop where
  canonical : s.canonical = true → t.canonical = true
  heldInReset : s.heldInReset = true → t.heldInReset = true
  mark : t.mark = s.mark

theorem heldInReset_iff (s : State) : s.heldInReset = true ↔ (s.resetLow = true → s.regs = {}) := by
  unfold State.heldInReset
  cases s.resetLow <;> simp

theorem Safe.refl (s : State) : s.Safe s := ⟨id, id, rfl⟩

theorem Safe.trans {u t s : State} (h1 : u.Safe t) (h2 : t.Safe s) : u.Safe s :=
  ⟨fun h => h1.canonical (h2.canonical h), fun h => h1.heldInReset (h2.heldInReset h), h1.mark.trans h2.mark⟩

/-- An operation that keeps the registers of a part held in reset. -/
theorem safe_of_keeps {t s : State} (h : t.Keeps s) (hr : s.heldInReset = true → s.resetLow = true → t.regs = s.regs) : t.Safe s := by
  obtain ⟨hm, hp, hc⟩ := h
  refine ⟨hc, fun hh => ?_, hm⟩
  rw [heldInReset_iff, hp]
  intro hl
  rw [hr hh hl]
  exact (heldInReset_iff s).mp hh hl

/-- A part held in reset is STOPPED. -/
theorem stopped_of_heldInReset {s : State} (h : s.heldInReset = true) (hl : s.resetLow = true) : s.regs.runState = .stopped := by
  rw [(heldInReset_iff s).mp h hl]

/-- An operation that is made in another run state alone. -/
theorem safe_of_keeps_of_runState {t s : State} (h : t.Keeps s) (hr : s.regs.runState ≠ .stopped) : t.Safe s :=
  safe_of_keeps h fun hh hl => absurd (stopped_of_heldInReset hh hl) hr

/-- A command of a running terminal whose operation keeps the three. -/
theorem safe_running {f : State → State} (hf : ∀ {t r : State}, t.Keeps r → (f t).Keeps r) (s : State) : (running f s).Safe s := by
  unfold running
  split
  next hrun =>
    have hr : s.regs.runState = .running := by simpa [State.isRunning] using hrun
    have h : (viewing f s).Keeps s := Keeps.showsOnly (showsOnly_withViews (f s) s) (hf (Keeps.refl s))
    exact safe_of_keeps_of_runState h (by simp [hr])
  next => exact Safe.refl s

/-- The power-on state, with RAM that is canonical where the state's is (R6, R191). -/
theorem safe_poweredOn {s : State} {resetLow : Bool} {ram : List Host.Cell} {ports : Both PortRec} {schedule : List PreampWord}
    (h : s.canonical = true → Memory.wf ram = true) : (s.poweredOn resetLow ram ports schedule).Safe s :=
  ⟨h, fun _ => (heldInReset_iff _).mpr fun _ => rfl, rfl⟩

theorem safe_hostControl (s : State) (w : Word) : (s.hostControl w).Safe s := by
  unfold State.hostControl
  split
  next => exact Safe.refl s
  next hl => exact safe_of_keeps (keeps_controlWrite (Keeps.refl s)) fun _ h => absurd h hl

theorem safe_hostWrite (s : State) (a : Nat) (w : Word) : (s.hostWrite a w).Safe s := by
  unfold State.hostWrite
  split
  next => exact Safe.refl s
  next hl => exact safe_of_keeps (keeps_poke (Keeps.refl s)) fun _ h => absurd h hl

/-- A change of fields that leaves registers, mark, reset pin and RAM. -/
theorem Safe.of_same {t s : State} (hm : t.mark = s.mark := by rfl) (hp : t.resetLow = s.resetLow := by rfl)
    (hr : t.ram = s.ram := by rfl) (hg : t.regs = s.regs := by rfl) : t.Safe s :=
  safe_of_keeps (Keeps.of_same (Keeps.refl s) hm hp hr) fun _ _ => hg

theorem Safe.ite {s a b : State} {c : Prop} [Decidable c] (ha : a.Safe s) (hb : b.Safe s) : (if c then a else b).Safe s := by
  split
  · exact ha
  · exact hb

/-! ### Every command, and the idle step -/

section

variable (s : State)

theorem safe_resetPinRelease (contents : List (BitVec 16 × Word)) :
    (if s.resetLow then s.poweredOn false (ramOf contents) s.portsAtRest (resetWords 0) else s).Safe s :=
  Safe.ite (safe_poweredOn fun _ => ramOf_wf contents) (Safe.refl s)

theorem safe_attentionClear (value : Word) :
    (if s.resetLow then s else { s with regs.attention := s.regs.attention &&& ~~~ value.extractLsb' 0 23 } : State).Safe s := by
  split
  next => exact Safe.refl s
  next hl => exact safe_of_keeps (Keeps.of_same (Keeps.refl s)) fun _ h => absurd h hl

theorem safe_anchorCheck : (if s.regs.runState = .starting then s.checkAnchor else s).Safe s := by
  split
  next hs => exact safe_of_keeps_of_runState (keeps_checkAnchor (Keeps.refl s)) (by simp [hs])
  next => exact Safe.refl s

/-- A begun step that is handed to its block. -/
theorem safe_startStep {l : Fin 16} {kind : Nat} {act : Join → State → State}
    (ha : ∀ {t r : State} {j : Join}, t.Keeps r → (act j t).Keeps r) : (running (fun st => st.startStep l kind act) s).Safe s :=
  safe_running (fun h => keeps_startStep (fun _ => ha h) h) s

/-- Every command answers a next state, and that is reached safely. -/
theorem exec_safe (c : Instr) : ∃ t : State, exec c s = .next t ∧ t.Safe s := by
  cases c with
  | powerOn => exact ⟨_, rfl, safe_poweredOn fun _ => ramOf_wf _⟩
  | resetPinLow => exact ⟨_, rfl, safe_poweredOn id⟩
  | resetPinRelease => exact ⟨_, rfl, safe_resetPinRelease s _⟩
  | hostRamWrite => exact ⟨_, rfl, safe_hostWrite s _ _⟩
  | softReset => exact ⟨_, rfl, safe_hostControl s _⟩
  | runStart => exact ⟨_, rfl, safe_hostControl s _⟩
  | runStop => exact ⟨_, rfl, safe_hostControl s _⟩
  | attentionMaskWrite => exact ⟨_, rfl, safe_hostControl s _⟩
  | attentionClear => exact ⟨_, rfl, safe_attentionClear s _⟩
  | ignoredRegisterWrite => exact ⟨_, rfl, Safe.refl s⟩
  | anchorCheck => exact ⟨_, rfl, safe_anchorCheck s⟩
  | laneScan => exact ⟨_, rfl, safe_running (fun h => Keeps.ite (keeps_scanLanes h) h) s⟩
  | stepBadKind => exact ⟨_, rfl, safe_running (fun h => keeps_refuseKind h) s⟩
  | mark => exact ⟨_, rfl, safe_startStep s fun h => keeps_finish h⟩
  | wait => exact ⟨_, rfl, safe_startStep s fun h => keeps_beginWait h⟩
  | waitElapsed => exact ⟨_, rfl, safe_running (fun h => Keeps.ite (keeps_endStep h) h) s⟩
  | waitFrameReached => exact ⟨_, rfl, safe_running (fun h => keeps_endFrameWait h) s⟩
  | waitTimeout => exact ⟨_, rfl, safe_running (fun h => Keeps.ite (keeps_endStep h) h) s⟩
  | viewRewriteFollowup => exact ⟨_, rfl, safe_running (fun h => Keeps.ite (keeps_rewrite h) h) s⟩
  | burstBuild => exact ⟨_, rfl, safe_running (fun h => Keeps.ite (keeps_build h) h) s⟩
  | burstReceive => exact ⟨_, rfl, safe_running (fun h => keeps_receive h) s⟩
  | forwardBufferSend => exact ⟨_, rfl, safe_running (fun h => keeps_sendForward h) s⟩
  | mapSlots => exact ⟨_, rfl, safe_startStep s fun h => keeps_beginSlots h⟩
  | mapSlotsSettled => exact ⟨_, rfl, safe_running (fun h => keeps_settleSlots h) s⟩
  | playout => exact ⟨_, rfl, safe_running (fun h => Keeps.ite h (keeps_playout h)) s⟩
  | patchOutputs => exact ⟨_, rfl, safe_startStep s fun h => keeps_beginOutputs h⟩
  | patchOutputsSettled => exact ⟨_, rfl, safe_running (fun h => keeps_settleOutputs h) s⟩
  | gainRequest => exact ⟨_, rfl, safe_running (fun h => Keeps.ite (keeps_takeRequest h) h) s⟩
  | gainAnnounce => exact ⟨_, rfl, safe_running (fun h => Keeps.ite h (keeps_takeAnnounce (keeps_answerGain h))) s⟩
  | gainRefused => exact ⟨_, rfl, safe_running (fun h => keeps_takeRefused h) s⟩
  | claim => exact ⟨_, rfl, safe_running (fun h => Keeps.ite (keeps_takeClaim h) h) s⟩
  | release => exact ⟨_, rfl, safe_running (fun h => Keeps.ite (keeps_takeRelease h) h) s⟩
  | ownerAnnounce => exact ⟨_, rfl, safe_running (fun h => Keeps.ite h (keeps_takeOwners (keeps_answerOwner h))) s⟩
  | reference => exact ⟨_, rfl, safe_running (fun h => keeps_takeReference h) s⟩
  | mixSends => exact ⟨_, rfl, safe_running (fun h => keeps_takeSends h) s⟩
  | mixSet => exact ⟨_, rfl, safe_running (fun h => keeps_takeMixSet h) s⟩
  | mixCue => exact ⟨_, rfl, safe_running (fun h => keeps_takeMixCue h) s⟩
  | mixAck => exact ⟨_, rfl, safe_running (fun h => keeps_takeMixAck h) s⟩
  | talkOpen => exact ⟨_, rfl, safe_running (fun h => keeps_talkerOpens h) s⟩
  | talkClose => exact ⟨_, rfl, safe_running (fun h => keeps_talkerCloses h) s⟩
  | talkState => exact ⟨_, rfl, safe_running (fun h => keeps_takeState h) s⟩
  | loopRequest => exact ⟨_, rfl, safe_running (fun h => keeps_takeLoopRequest h) s⟩
  | loopReply => exact ⟨_, rfl, safe_running (fun h => keeps_takeLoopReply h) s⟩
  | note => exact ⟨_, rfl, safe_running (fun h => keeps_addNote h) s⟩
  | roomGrant => exact ⟨_, rfl, safe_running (fun h => keeps_grantRoom h) s⟩
  | pendingEntryGrant => exact ⟨_, rfl, safe_running (fun h => keeps_grantEntry h) s⟩
  | requestTimeout => exact ⟨_, rfl, safe_running (fun h => keeps_timeOut h) s⟩
  | sendNote => exact ⟨_, rfl, safe_startStep s fun h => keeps_beginNote h⟩
  | scheduledChangeApply => exact ⟨_, rfl, safe_running (fun h => Keeps.ite (keeps_applyScheduled h) h) s⟩
  | pendingChangeApply => exact ⟨_, rfl, safe_running (fun h => Keeps.ite (keeps_applyPending h) h) s⟩
  | phantomMuteEnd => exact ⟨_, rfl, safe_running (fun h => Keeps.ite (keeps_endMute h) h) s⟩
  | phantomShortReport => exact ⟨_, rfl, safe_running (fun h => keeps_takeReport h) s⟩
  | scheduledReferenceApply => exact ⟨_, rfl, safe_running (fun h => Keeps.ite (keeps_endReferences (keeps_applyReference h)) h) s⟩
  | setInput => exact ⟨_, rfl, safe_startStep s fun h => keeps_beginInputs h⟩
  | claimInputs => exact ⟨_, rfl, safe_startStep s fun h => keeps_beginClaim h⟩
  | releaseInputs => exact ⟨_, rfl, safe_startStep s fun h => keeps_beginRelease h⟩
  | setReference => exact ⟨_, rfl, safe_startStep s fun h => keeps_beginReferences h⟩
  | preampWordSend => exact ⟨_, rfl, Safe.ite (Safe.refl s) Safe.of_same⟩
  | cueDue => exact ⟨_, rfl, safe_running (fun h => Keeps.ite (keeps_takeCue h) h) s⟩
  | cueRecordGrant => exact ⟨_, rfl, safe_running (fun h => keeps_grantRecord h) s⟩
  | setMix => exact ⟨_, rfl, safe_startStep s fun h => keeps_beginSetMix h⟩
  | loadSends => exact ⟨_, rfl, safe_startStep s fun h => keeps_beginLoad h⟩
  | stageScene => exact ⟨_, rfl, safe_startStep s fun h => keeps_beginScene h⟩
  | cueScene => exact ⟨_, rfl, safe_startStep s fun h => keeps_beginCue h⟩
  | readMixes => exact ⟨_, rfl, safe_startStep s fun h => keeps_beginRead h⟩
  | talkAnswerTimeout => exact ⟨_, rfl, safe_running (fun h => Keeps.ite (keeps_answerTimeout h) h) s⟩
  | buttonDebounce => exact ⟨_, rfl, Safe.trans (safe_running (fun h => keeps_debounce h) _) Safe.of_same⟩
  | lampFlashToggle => exact ⟨_, rfl, safe_running (fun h => Keeps.ite (keeps_toggleFlash h) h) s⟩
  | setTalkGroup => exact ⟨_, rfl, safe_startStep s fun h => keeps_beginGroup h⟩
  | setRanks => exact ⟨_, rfl, safe_startStep s fun h => keeps_beginRanks h⟩
  | setButton => exact ⟨_, rfl, safe_startStep s fun h => keeps_beginButtons h⟩
  | talk => exact ⟨_, rfl, safe_startStep s fun h => keeps_beginTalk h⟩
  | signalLoss => exact ⟨_, rfl, Safe.trans (safe_running (fun h => keeps_loseSignal h) _) Safe.of_same⟩
  | signalPresent => exact ⟨_, rfl, Safe.trans (safe_running (fun h => Keeps.ite (keeps_enterAcquire h) h) _) Safe.of_same⟩
  | darkProbe => exact ⟨_, rfl, safe_running (fun h => Keeps.ite (keeps_enterAcquire h) h) s⟩
  | acquireTimeout => exact ⟨_, rfl, safe_running (fun h => Keeps.ite (keeps_enterDark h) h) s⟩
  | quarantineEnd => exact ⟨_, rfl, safe_running (fun h => Keeps.ite (keeps_enterAcquire h) h) s⟩
  | pathTimeout => exact ⟨_, rfl, safe_running (fun h => Keeps.ite (keeps_losePath h) h) s⟩
  | closureTimeout => exact ⟨_, rfl, safe_running (fun h => Keeps.ite (keeps_openClosure h) h) s⟩
  | conflictFlagClear => exact ⟨_, rfl, safe_running (fun h => Keeps.ite (keeps_clearConflict h) h) s⟩
  | ringViewRefresh => exact ⟨_, rfl, safe_running (fun h => Keeps.ite (keeps_viewChanged h) h) s⟩
  | loopTest => exact ⟨_, rfl, safe_startStep s fun h => keeps_beginLoop h⟩
  | returnLoopEnd => exact ⟨_, rfl, safe_running (fun h => Keeps.ite (keeps_endLoop h) h) s⟩
  | testerWindowEnd => exact ⟨_, rfl, safe_running (fun h => Keeps.ite (keeps_endLoop h) h) s⟩
  | meter => exact ⟨_, rfl, safe_startStep s fun h => keeps_beginMeter h⟩
  | meterPassBegin => exact ⟨_, rfl, safe_running (fun h => Keeps.ite (keeps_beginPass h) h) s⟩
  | detectorWindowEnd => exact ⟨_, rfl, safe_running (fun h => keeps_detectorDone h) s⟩
  | meterFrameTrigger => exact ⟨_, rfl, safe_running (fun h => keeps_frameTrigger h) s⟩
  | wordClockPresent => exact ⟨_, rfl, Safe.ite (Safe.refl s) Safe.of_same⟩
  | wordClockAbsent => exact ⟨_, rfl, Safe.ite (Safe.refl s) Safe.of_same⟩
  | wordClockPhaseLock => exact ⟨_, rfl, Safe.ite Safe.of_same (Safe.refl s)⟩

/-- A frame edge (log entry 1). -/
theorem safe_tick : s.tick.Safe s := by
  unfold State.tick
  split
  next => exact Safe.refl s
  next =>
    split
    · exact Safe.of_same
    · unfold State.readAnchorWord
      split
      · exact Safe.of_same
      · exact Safe.of_same
    · exact Safe.of_same

/-- What a step does with nothing waiting. -/
theorem safe_idle : s.idle.Safe s := by
  obtain ⟨-, h⟩ | ⟨-, -, h⟩ | ⟨-, -, h⟩ := idle_cases s
  · rw [h]; exact Safe.of_same
  · rw [h]; exact Safe.of_same
  · rw [h]; exact safe_tick s

/-- Every step answers a state that is reached safely. -/
theorem step_safe : ∃ t : State, step s = .next t ∧ t.Safe s := by
  cases hp : s.pending with
  | nil => exact ⟨_, step_empty hp, safe_idle s⟩
  | cons c rest =>
    obtain ⟨t, he, ht⟩ := exec_safe { s with pending := rest } c
    exact ⟨t, by rw [← he]; simp [step, hp], Safe.trans ht Safe.of_same⟩

end

/-- Settles O57: every command's operation keeps mark, reset pin and canonical RAM, and is not made while the pin is low. -/
theorem stepKeepsInvariant : Obligations.StepKeepsInvariant := by
  intro s t hc hh he
  obtain ⟨u, hu, hs⟩ := step_safe s
  obtain rfl : u = t := by simpa [hu] using he
  exact ⟨hs.canonical hc, hs.heldInReset hh, hs.mark⟩

end Sys2Proof.Machine

/-!
The exchange RAM by words (spec 01, R1): what a store leaves of the other bytes, and what a word reads after stores of words.
-/

namespace Sys2Proof.Machine

set_option Elab.async false

/-! ### Bytes outside a store -/

theorem outsideArea_iff {x base size : Nat} : outsideArea x base size = true ↔ x < base ∨ base + size ≤ x := by
  simp [outsideArea]

theorem readByte_store_outside (s : State) {a x : Nat} {bs : List Byte} (h : outsideArea x a bs.length = true) :
    readByte (s.store a bs).ram x = readByte s.ram x := by
  rw [outsideArea_iff] at h
  exact (readByte_storeBytes s.ram a bs x).trans (if_neg (by omega))

theorem readByte_poke_outside (s : State) {a x : Nat} {w : Word} (h : outsideArea x a 4 = true) :
    readByte (s.poke a w).ram x = readByte s.ram x :=
  readByte_store_outside s (by simpa using h)

/-- The bytes of words one after another. -/
def bytesOf (ws : List Word) : List Byte := ws.flatMap fun w => leBytes 4 w.toNat

@[simp] theorem bytesOf_length (ws : List Word) : (bytesOf ws).length = 4 * ws.length := by
  induction ws with
  | nil => rfl
  | cons w ws ih =>
    have h : bytesOf (w :: ws) = leBytes 4 w.toNat ++ bytesOf ws := rfl
    rw [h, List.length_append, leBytes_length, ih, List.length_cons]
    omega

theorem pokeAll_eq (s : State) (a : Nat) (ws : List Word) : s.pokeAll a ws = s.store a (bytesOf ws) := rfl

theorem readByte_pokeAll_outside (s : State) {a x : Nat} {ws : List Word} (h : outsideArea x a (4 * ws.length) = true) :
    readByte (s.pokeAll a ws).ram x = readByte s.ram x :=
  readByte_store_outside (bs := bytesOf ws) s (by rwa [bytesOf_length])

/-! ### Words -/

/-- A word is read from its four bytes. -/
theorem peek_congr {t s : State} {a b : Nat} (h : ∀ i < 4, readByte t.ram (a + i) = readByte s.ram (b + i)) :
    t.peek a = s.peek b := by
  unfold State.peek readWord
  rw [readBytes_eq, readBytes_eq, List.map_congr_left fun i hi => h i (List.mem_range.mp hi)]

theorem peek_store_apart (s : State) {a b : Nat} {bs : List Byte} (h : b + 4 ≤ a ∨ a + bs.length ≤ b) :
    (s.store a bs).peek b = s.peek b :=
  peek_congr fun i hi => readByte_store_outside s (outsideArea_iff.mpr (by omega))

theorem peek_poke_apart (s : State) {a b : Nat} {w : Word} (h : b + 4 ≤ a ∨ a + 4 ≤ b) : (s.poke a w).peek b = s.peek b :=
  peek_store_apart s (by simpa using h)

theorem peek_pokeAll_apart (s : State) {a b : Nat} {ws : List Word} (h : b + 4 ≤ a ∨ a + 4 * ws.length ≤ b) :
    (s.pokeAll a ws).peek b = s.peek b :=
  peek_store_apart s (by rwa [← bytesOf_length] at h)

/-- A store of a list of bytes is a store of its parts. -/
theorem readByte_store_append (s : State) (a : Nat) (bs cs : List Byte) (x : Nat) :
    readByte (s.store a (bs ++ cs)).ram x = readByte ((s.store a bs).store (a + bs.length) cs).ram x := by
  show readByte (storeBytes s.ram a (bs ++ cs)) x = readByte (storeBytes (storeBytes s.ram a bs) (a + bs.length) cs) x
  simp only [readByte_storeBytes, List.length_append]
  by_cases h1 : x < a + bs.length
  · have h2 : ¬ (a + bs.length ≤ x ∧ x < a + bs.length + cs.length) := by omega
    by_cases h3 : a ≤ x
    · have h4 : a ≤ x ∧ x < a + (bs.length + cs.length) := by omega
      have h5 : a ≤ x ∧ x < a + bs.length := ⟨h3, h1⟩
      simp only [h2, h4, h5, and_self, if_true, if_false]
      rw [List.getD_append _ _ _ _ (by omega)]
    · simp [h3, h2]
  · have h2 : ¬ (a ≤ x ∧ x < a + bs.length) := by omega
    by_cases h3 : x < a + bs.length + cs.length
    · have h4 : a ≤ x ∧ x < a + (bs.length + cs.length) := by omega
      have h5 : a + bs.length ≤ x ∧ x < a + bs.length + cs.length := by omega
      simp only [h4, h5, and_self, if_true]
      rw [List.getD_append_right _ _ _ _ (by omega), Nat.sub_sub]
    · have h4 : ¬ (a ≤ x ∧ x < a + (bs.length + cs.length)) := by omega
      rw [if_neg h4, if_neg (by omega), if_neg h2]

/-- Words stored one after another: each reads back where it stands. -/
theorem peek_pokeAll (s : State) {a i : Nat} {ws : List Word} (hi : i < ws.length) (h : a + 4 * i + 4 ≤ Config.ramSize) :
    (s.pokeAll a ws).peek (a + 4 * i) = ws.getD i 0 := by
  induction ws generalizing s a i with
  | nil => simp at hi
  | cons w ws ih =>
    have hs : (s.pokeAll a (w :: ws)).peek (a + 4 * i) = ((s.poke a w).pokeAll (a + 4) ws).peek (a + 4 * i) :=
      peek_congr fun k _ => by
        have := readByte_store_append s a (leBytes 4 w.toNat) (bytesOf ws) (a + 4 * i + k)
        rwa [leBytes_length] at this
    rw [hs]
    cases i with
    | zero => rw [peek_pokeAll_apart _ (by omega)]; exact peek_poke s a w (by omega)
    | succ i =>
      rw [show a + 4 * (i + 1) = a + 4 + 4 * i by omega, List.getD_cons_succ]
      exact ih _ (by simpa using hi) (by omega)

end Sys2Proof.Machine

/-!
What reset leaves, and what the supply, the reset pin and the host bus do (O3 to O8).
-/

namespace Sys2Proof.Machine

set_option Elab.async false

/-! ### The host bus -/

theorem busRead_of_lt (s : State) {offset : Nat} (h : offset < Config.ramSize) : s.busRead offset = s.peek offset := if_pos h

/-- A whole word of the RAM stored and read back over the bus (R1). -/
theorem busRead_poke (s : State) (w : BitVec 16) (v : Word) : (s.poke (4 * w.toNat) v).busRead (4 * w.toNat) = v := by
  have hw : w.toNat < 65536 := w.isLt
  have hsize : Config.ramSize = 262144 := rfl
  rw [busRead_of_lt _ (by omega)]
  exact peek_poke s _ v (by omega)

theorem busData_low {s : State} (h : s.resetLow = true) (offset : Nat) : s.busData offset = none := if_pos h

theorem busData_high {s : State} (h : s.resetLow = false) (offset : Nat) : s.busData offset = some (s.busRead offset) := by
  simp [State.busData, h]

theorem hostRamWrite_low {s : State} (h : s.resetLow = true) (w : BitVec 16) (v : Word) :
    exec (.hostRamWrite w v) s = .next s := by
  show Host.Outcome.next (s.hostWrite (4 * w.toNat) v) = .next s
  rw [State.hostWrite, if_pos h]

theorem hostRamWrite_high {s : State} (h : s.resetLow = false) (w : BitVec 16) (v : Word) :
    exec (.hostRamWrite w v) s = .next (s.poke (4 * w.toNat) v) := by
  show Host.Outcome.next (s.hostWrite (4 * w.toNat) v) = _
  rw [State.hostWrite, if_neg (by simp [h])]

/-! ### Writes to CONTROL -/

theorem hostControl_high {s : State} (h : s.resetLow = false) (v : Word) : s.hostControl v = s.controlWrite v := by
  simp [State.hostControl, h]

theorem controlWrite_reset (s : State) {v : Word} (h : v.getLsbD 1 = true) : s.controlWrite v = s.softReset := by
  simp [State.controlWrite, h]

theorem controlWrite_start {s : State} {v : Word} (h1 : v.getLsbD 1 = false) (h0 : v.getLsbD 0 = true)
    (hs : s.regs.runState = .stopped) : s.controlWrite v = { s with regs.mask := v.extractLsb' 8 24 }.start := by
  simp only [State.controlWrite, h1, h0, hs]
  rfl

theorem controlWrite_stop {s : State} {v : Word} (h1 : v.getLsbD 1 = false) (h0 : v.getLsbD 0 = false)
    (hs : s.regs.runState ≠ .stopped) : s.controlWrite v = { s with regs.mask := v.extractLsb' 8 24 }.stop := by
  simp only [State.controlWrite, h1, h0]
  cases hr : s.regs.runState with
  | stopped => exact absurd hr hs
  | starting => rfl
  | running => rfl

/-- A write that neither starts nor stops the part. -/
theorem controlWrite_mask {s : State} {v : Word} (h1 : v.getLsbD 1 = false) (h0 : v.getLsbD 0 = decide (s.regs.runState ≠ .stopped)) :
    s.controlWrite v = { s with regs.mask := v.extractLsb' 8 24 } := by
  simp only [State.controlWrite, h1, h0]
  cases s.regs.runState <;> rfl

/-- A written 1 makes a bit of ATTENTION 0 (R5). -/
theorem attentionClear_getLsbD (x : BitVec 23) (v : Word) {i : Nat} (hi : i < 23) :
    (x &&& ~~~ v.extractLsb' 0 23).getLsbD i = (x.getLsbD i && !v.getLsbD i) := by
  simp [hi]

/-! ### FRAME -/

/-- A frame edge leaves the local frame counter where it stands while the part is not RUNNING (R2). -/
theorem tick_frame_idle {s : State} (h : s.isRunning = false) : s.tick.clock.frame = s.clock.frame := by
  unfold State.tick
  split
  next => rfl
  next =>
    split
    next hr => simp [State.isRunning, hr] at h
    next =>
      unfold State.readAnchorWord
      split
      · rfl
      · rfl
    next => rfl

theorem tick_frame_running {s : State} (hl : s.resetLow = false) (h : s.isRunning = true) :
    s.tick.clock.frame = s.clock.frame + 1 := by
  have hr : s.regs.runState = .running := by simpa [State.isRunning] using h
  unfold State.tick
  rw [if_neg (by simp [hl]), hr]
  rfl

/-! ### The anchor check (R8) -/

theorem execAnchorCheck_starting {s : State} (h : s.regs.runState = .starting) : exec .anchorCheck s = .next s.checkAnchor := by
  show Host.Outcome.next (if s.regs.runState = .starting then s.checkAnchor else s) = _
  rw [if_pos h]

theorem checkAnchor_bad {s : State} (h : verdictOf s.anchor ≠ .anchorOk) : s.checkAnchor = s.reject (verdictOf s.anchor) := by
  unfold State.checkAnchor
  split
  next hv => exact absurd hv h
  next => rfl

theorem checkAnchor_good {s : State} (h : verdictOf s.anchor = .anchorOk) : s.checkAnchor = s.beginRun (configOf s.anchor) := by
  unfold State.checkAnchor
  rw [h]

section Checks

variable {words : List Word}

/-- A field of an anchor word that begins at bit 0. -/
theorem anchorField_low (word width : Nat) : anchorField words word 0 width = (words.getD word 0).toNat % 2 ^ width := by
  simp [anchorField]

/-- A field that ends with its word. -/
theorem anchorField_high {word low width : Nat} (h : low + width = 32) :
    anchorField words word low width = (words.getD word 0).toNat / 2 ^ low := by
  unfold anchorField
  refine Nat.mod_eq_of_lt (Nat.div_lt_of_lt_mul ?_)
  rw [← Nat.pow_add, h]
  exact (words.getD word 0).isLt

theorem anchorField_whole (word : Nat) : anchorField words word 0 32 = (words.getD word 0).toNat := by
  rw [anchorField_high rfl, Nat.pow_zero, Nat.div_one]

/-- The six areas as a function of their number (R8). -/
theorem areasOf_eq {off size : Nat → Nat} (ho : ∀ i : Nat, off i = (words.getD (4 + i) 0).toNat)
    (h0 : size 0 = 512) (h1 : size 1 = 1024) (h2 : size 2 = 256) (h3 : size 3 = 512)
    (h4 : size 4 = 16 + 32 * max 8 (min ((words.getD 10 0).toNat % 65536) 256))
    (h5 : size 5 = 16 + 64 * max 4 (min ((words.getD 10 0).toNat / 65536) 64)) :
    areasOf words = (List.range 6).map fun i => (off i, size i) := by
  have hf : faultCapacityOf words = max 8 (min ((words.getD 10 0).toNat % 65536) 256) := by
    rw [faultCapacityOf, anchorField_low]; rfl
  have hn : noteCapacityOf words = max 4 (min ((words.getD 10 0).toNat / 65536) 64) := by
    rw [noteCapacityOf, anchorField_high rfl]; rfl
  simp [areasOf, anchorField_whole, List.range_succ, ho, h0, h1, h2, h3, h4, h5, hf, hn]

theorem areaBad_iff (a : Nat × Nat) : areaBad a = true ↔ a.1 % 4 ≠ 0 ∨ a.1 < 256 ∨ 262144 < a.1 + a.2 := by
  simp only [areaBad, Bool.or_eq_true, bne_iff_ne, decide_eq_true_eq, or_assoc]
  rfl

theorem areasMeet_iff (a b : Nat × Nat) : areasMeet a b = true ↔ a.1 < b.1 + b.2 ∧ b.1 < a.1 + a.2 := by
  simp [areasMeet]

/-- Two areas of a list share a byte: some pair of it does. -/
theorem anyMeet_iff (as : List (Nat × Nat)) : anyMeet as = true ↔ ¬ as.Pairwise fun a b => areasMeet a b = false := by
  induction as with
  | nil => simp [anyMeet]
  | cons a as ih =>
    rw [anyMeet, Bool.or_eq_true, ih, List.pairwise_cons, List.any_eq_true, not_and_or]
    simp

/-- No two of the areas numbered below n share a byte. -/
theorem anyMeet_numbered (off size : Nat → Nat) (n : Nat) :
    anyMeet ((List.range n).map fun i => (off i, size i)) = true
      ↔ ∃ i k : Nat, i < n ∧ k < n ∧ i ≠ k ∧ off i < off k + size k ∧ off k < off i + size i := by
  rw [anyMeet_iff, List.pairwise_map, List.pairwise_iff_getElem]
  simp only [List.length_range, List.getElem_range, ← Bool.not_eq_true, areasMeet_iff]
  constructor
  · intro h
    by_contra hno
    exact h fun i k hi hk hik hm => hno ⟨i, k, hi, hk, Nat.ne_of_lt hik, hm.1, hm.2⟩
  · rintro ⟨i, k, hi, hk, hne, h1, h2⟩ hall
    obtain hik | hki := Nat.lt_or_gt_of_ne hne
    · exact hall i k hi hk hik ⟨h1, h2⟩
    · exact hall k i hk hi hki ⟨h2, h1⟩

/-- The fourth check: where the first three pass, the areas decide (R8). -/
theorem verdictOf_areas (h0 : words.getD 0 0 = 0x04805A17) (h1 : (words.getD 1 0).toNat % 65536 = 1)
    (h2 : (words.getD 2 0).toNat % 256 ≤ 3) (h3 : (words.getD 2 0).toNat / 256 % 256 ≤ 64)
    (h4 : (words.getD 2 0).toNat / 65536 % 256 = 255
      ∨ (words.getD 2 0).toNat / 65536 % 256 < (words.getD 2 0).toNat / 256 % 256) :
    verdictOf words = if (areasOf words).any areaBad || anyMeet (areasOf words) then .badLayout else .anchorOk := by
  unfold verdictOf
  rw [if_neg, if_neg, if_neg]
  · simp only [anchorField]; omega
  · simp only [anchorField]; omega
  · rintro (h | h)
    · exact h h0
    · exact h (by rwa [anchorField_low])

end Checks


/-! ### The settled obligations -/

/-- Settles O3, by evaluation of the reset state. -/
theorem resetShowsStopped : Obligations.ResetShowsStopped := by
  refine ⟨by decide, by decide, by decide, by decide, by decide, by decide, by decide, fun p => ?_, fun l => ?_, by decide⟩
  · cases p <;> decide
  · revert l; decide

/-- Settles O4: each of the three commands gives the power-on state, by the level of the reset pin. -/
theorem powerAndPinGiveReset : Obligations.PowerAndPinGiveReset := by
  intro contents s
  have hon : exec (.powerOn contents) s
      = .next (s.poweredOn s.resetLow (ramOf contents) ⟨{}, {}⟩ (if s.resetLow then [] else resetWords 0)) := rfl
  have hrel : exec (.resetPinRelease contents) s
      = .next (if s.resetLow then s.poweredOn false (ramOf contents) s.portsAtRest (resetWords 0) else s) := rfl
  refine ⟨fun h => ?_, fun h => ?_, rfl, fun h => ?_, fun h => ?_⟩
  · rw [hon, h]; rfl
  · rw [hon, h]; rfl
  · rw [hrel, if_pos h]; rfl
  · rw [hrel, if_neg (by simp [h])]

/-- Settles O5, by the rules of a store of one word. -/
theorem hostWriteReadsBack : Obligations.HostWriteReadsBack := by
  refine ⟨fun s w v => ⟨fun h => ?_, fun h => hostRamWrite_low h w v⟩, fun s w v t h ht => ?_,
    fun s => ⟨busData_low, busData_high⟩⟩
  · exact ⟨_, hostRamWrite_high h w v, rfl, busRead_poke s w v, fun a ha => readByte_poke_outside s ha⟩
  · rw [hostRamWrite_high h] at ht
    obtain rfl : s.poke (4 * w.toNat) v = t := by simpa using ht
    rw [busData_high (s := s.poke _ v) h, busRead_poke]

/-- Settles O7, by the row of R3's table that each command is. -/
theorem registerWritesAct : Obligations.RegisterWritesAct := by
  refine ⟨fun s v hl => ⟨fun h1 => ?_, fun h1 h0 hs => ?_, fun h1 h0 hs => ?_, fun h1 h0 => ?_⟩, fun s v hl => ?_⟩
  · show Host.Outcome.next (s.hostControl v) = _
    rw [hostControl_high hl, controlWrite_reset s h1, State.softReset, State.stopped, hl]; rfl
  · show Host.Outcome.next (s.hostControl v) = _
    rw [hostControl_high hl, controlWrite_start h1 h0 hs]; rfl
  · show Host.Outcome.next (s.hostControl v) = _
    rw [hostControl_high hl, controlWrite_stop h1 h0 hs, State.stop, State.stopped, hl]; rfl
  · show Host.Outcome.next (s.hostControl v) = _
    rw [hostControl_high hl, controlWrite_mask h1 h0]
  · refine ⟨_, rfl, ?_⟩
    simp only [hl]
    exact ⟨rfl, fun i hi => attentionClear_getLsbD _ v hi⟩

/-- Settles O8: the checks in their order, and the areas by their numbers. -/
theorem badAnchorIsRejected : Obligations.BadAnchorIsRejected := by
  refine ⟨fun s hs => ⟨⟨fun words h => ?_, fun words h0 h1 h => ?_, fun words h0 h1 h2 h => ?_⟩, fun h => ?_⟩,
    fun words h0 h1 h2 h3 h => ?_, fun words off size h0 h1 h2 h3 h4 ho hs0 hs1 hs2 hs3 hs4 hs5 => ?_⟩
  · unfold verdictOf
    rw [if_pos]
    rwa [anchorField_low]
  · unfold verdictOf
    rw [if_neg (by simp only [anchorField_low]; tauto), if_pos (by rwa [anchorField_low])]
  · unfold verdictOf
    rw [if_neg (by simp only [anchorField_low]; tauto), if_neg (by rw [anchorField_low]; omega)]
    exact if_pos (Or.inl h)
  · rw [execAnchorCheck_starting hs, checkAnchor_bad h]; rfl
  · unfold verdictOf
    rw [if_neg (by simp only [anchorField_low]; tauto), if_neg (by rw [anchorField_low]; omega)]
    exact if_pos (Or.inr ⟨h3, h⟩)
  · have hareas := areasOf_eq ho hs0 hs1 hs2 hs3 hs4 hs5
    have hbad : (areasOf words).any areaBad = true
        ↔ ∃ i : Nat, i < 6 ∧ (off i % 4 ≠ 0 ∨ off i < 256 ∨ 262144 < off i + size i) := by
      simp only [hareas, List.any_map, List.any_eq_true, List.mem_range, Function.comp_apply, areaBad_iff]
    have hmeet := anyMeet_numbered off size 6
    rw [← hareas] at hmeet
    rw [verdictOf_areas h0 h1 h2 h3 h4]
    refine ⟨fun h => if_pos (by simp [hbad.mpr h]), fun h => if_pos (by simp [hmeet.mpr h]), fun h5 h6 => if_neg ?_⟩
    rw [Bool.or_eq_true, hbad, hmeet]
    rintro (⟨i, hi, h⟩ | ⟨i, k, hi, hk, hne, h, h'⟩)
    · have := h5 i hi; omega
    · have := h6 i k hi hk hne; omega

end Sys2Proof.Machine

/-!
The views (spec 01, R21): what a rewrite does to a view's record and area, how the views follow a command, and what their bodies hold
(O16, O17).
-/

namespace Sys2Proof.Machine

set_option Elab.async false

/-! ### ATTENTION -/

theorem getLsbD_setBit {n : Nat} (v : BitVec n) (i k : Nat) :
    (setBit v i).getLsbD k = (v.getLsbD k || decide (k < n ∧ i = k)) := by
  rw [setBit, BitVec.getLsbD_or, BitVec.getLsbD_ofNat, Nat.testBit_two_pow, Bool.decide_and]

theorem attend_running {s : State} (h : s.isRunning = true) (i : Nat) :
    s.attend i = { s with regs.attention := setBit s.regs.attention i } := if_pos h

/-- A source sets its bit of a running terminal. -/
theorem attend_getLsbD_self {s : State} (h : s.isRunning = true) {i : Nat} (hi : i < 23) :
    (s.attend i).regs.attention.getLsbD i = true := by
  rw [attend_running h]
  simp [getLsbD_setBit, hi]

/-- A bit that is set stays set. -/
theorem attend_getLsbD_mono {s : State} {k : Nat} (h : s.regs.attention.getLsbD k = true) (i : Nat) :
    (s.attend i).regs.attention.getLsbD k = true := by
  unfold State.attend
  split
  · simp [getLsbD_setBit, h]
  · exact h

theorem viewBit_lt (v : View) : viewBit v < 23 := by cases v <;> decide

/-! ### Records -/

theorem setView_view (s : State) (v w : View) (r : ViewRec) : (s.setView v r).view w = if w = v then r else s.view w := by
  cases v <;> cases w <;> rfl

theorem setView_view_self (s : State) (v : View) (r : ViewRec) : (s.setView v r).view v = r := by simp [setView_view]

theorem setView_view_other (s : State) {v w : View} (h : w ≠ v) (r : ViewRec) : (s.setView v r).view w = s.view w := by
  simp [setView_view, h]

/-- What a rewrite or a follow-up may change leaves the run state. -/
theorem ShowsOnly.isRunning {t s : State} (h : ShowsOnly t s) : t.isRunning = s.isRunning := by rw [h.only]; rfl

theorem ShowsOnly.viewBody {t s : State} (h : ShowsOnly t s) (v : View) : t.viewBody v = s.viewBody v := by
  rw [h.only]; cases v <;> rfl

theorem ShowsOnly.viewTrigger {t s : State} (h : ShowsOnly t s) (v : View) : t.viewTrigger v = s.viewTrigger v := by
  rw [h.only]; cases v <;> rfl

/-- A view's record after a rewrite. -/
def ViewRec.rewritten (r : ViewRec) : ViewRec := { count := r.count + 2, rewriting := true, again := false }

/-- A view's record after a change to what it shows. -/
def ViewRec.changed (r : ViewRec) : ViewRec := if r.rewriting then { r with again := true } else r.rewritten

theorem attend_view (s : State) (i : Nat) (v : View) : (s.attend i).view v = s.view v := by
  unfold State.attend
  split <;> cases v <;> rfl

theorem writeView_view_self (s : State) (v : View) : (s.writeView v).view v = (s.view v).rewritten :=
  setView_view_self _ v _

theorem writeView_view_other (s : State) {v w : View} (h : w ≠ v) : (s.writeView v).view w = s.view w :=
  (setView_view_other _ h _).trans (by cases w <;> rfl)

theorem rewrite_view_self (s : State) (v : View) : (s.rewrite v).view v = (s.view v).rewritten :=
  (attend_view _ _ v).trans (writeView_view_self s v)

theorem rewrite_view_other (s : State) {v w : View} (h : w ≠ v) : (s.rewrite v).view w = s.view w :=
  (attend_view _ _ w).trans (writeView_view_other s h)

theorem viewChanged_view_self (s : State) (v : View) : (s.viewChanged v).view v = (s.view v).changed := by
  unfold State.viewChanged ViewRec.changed
  split
  · exact setView_view_self s v _
  · exact rewrite_view_self s v

theorem viewChanged_view_other (s : State) {v w : View} (h : w ≠ v) : (s.viewChanged v).view w = s.view w := by
  unfold State.viewChanged
  split
  · exact setView_view_other s h _
  · exact rewrite_view_other s h

/-! ### The area of a view -/

theorem setView_ram (s : State) (v : View) (r : ViewRec) : (s.setView v r).ram = s.ram := by cases v <;> rfl

theorem writeView_peek_eq (s : State) (v : View) (a : Nat) :
    (s.writeView v).peek a
      = (((s.poke (s.viewBase v) ((s.view v).count + 1)).pokeAll (s.viewBase v + 4) (s.viewBody v)).poke (s.viewBase v)
          ((s.view v).count + 2)).peek a :=
  peek_congr fun _ _ => by rw [State.writeView, setView_ram]

theorem writeView_peek_count (s : State) {v : View} (h : s.viewBase v + 4 ≤ Config.ramSize) :
    (s.writeView v).peek (s.viewBase v) = (s.view v).count + 2 := by
  rw [writeView_peek_eq, peek_poke _ _ _ h]

theorem writeView_peek_body (s : State) {v : View} {i : Nat} (hi : i < (s.viewBody v).length)
    (h : s.viewBase v + 8 + 4 * i ≤ Config.ramSize) :
    (s.writeView v).peek (s.viewBase v + 4 + 4 * i) = (s.viewBody v).getD i 0 := by
  rw [writeView_peek_eq, peek_poke_apart _ (by omega), peek_pokeAll _ hi (by omega)]

theorem readByte_writeView_outside (s : State) {v : View} {a : Nat}
    (h : outsideArea a (s.viewBase v) (4 + 4 * (s.viewBody v).length) = true) :
    readByte (s.writeView v).ram a = readByte s.ram a := by
  rw [outsideArea_iff] at h
  rw [State.writeView, setView_ram, readByte_poke_outside _ (outsideArea_iff.mpr (by omega)),
    readByte_pokeAll_outside _ (outsideArea_iff.mpr (by omega)), readByte_poke_outside _ (outsideArea_iff.mpr (by omega))]

theorem attend_ram (s : State) (i : Nat) : (s.attend i).ram = s.ram := by
  unfold State.attend
  split <;> rfl

theorem rewrite_ram (s : State) (v : View) : (s.rewrite v).ram = (s.writeView v).ram := attend_ram _ _

theorem rewrite_peek (s : State) (v : View) (a : Nat) : (s.rewrite v).peek a = (s.writeView v).peek a :=
  peek_congr fun _ _ => by rw [rewrite_ram]

/-- A rewrite sets its view's ATTENTION bit. -/
theorem rewrite_attention {s : State} (h : s.isRunning = true) (v : View) :
    (s.rewrite v).regs.attention.getLsbD (viewBit v) = true :=
  attend_getLsbD_self ((showsOnly_writeView s v).isRunning.trans h) (viewBit_lt v)

/-! ### How the views follow a command -/

/-- What a view shows differs from an earlier state's. -/
def State.showsOther (t before : State) (v : View) : Bool := t.isRunning && t.viewTrigger v != before.viewTrigger v

theorem followView_eq (t b : State) (v : View) : t.followView b v = if t.showsOther b v then t.viewChanged v else t := rfl

theorem ShowsOnly.showsOther {u t : State} (h : ShowsOnly u t) (b : State) (v : View) : u.showsOther b v = t.showsOther b v := by
  rw [State.showsOther, h.isRunning, h.viewTrigger]; rfl

theorem followView_view_self (t b : State) (v : View) :
    (t.followView b v).view v = if t.showsOther b v then (t.view v).changed else t.view v := by
  rw [followView_eq]
  split
  · exact viewChanged_view_self t v
  · rfl

theorem followView_view_other (t b : State) {v w : View} (h : w ≠ v) : (t.followView b v).view w = t.view w := by
  rw [followView_eq]
  split
  · exact viewChanged_view_other t h
  · rfl

/-- Each view's record after a command, by the state that the command left. -/
theorem withViews_view (t b : State) (v : View) :
    (t.withViews b).view v = if t.showsOther b v then (t.view v).changed else t.view v := by
  have h1 : ShowsOnly (t.followView b .input) t := showsOnly_followView t b .input
  have h2 : ShowsOnly ((t.followView b .input).followView b .ring) t := (showsOnly_followView _ b .ring).trans h1
  unfold State.withViews
  cases v with
  | input =>
    rw [followView_view_other _ _ (by decide), followView_view_other _ _ (by decide), followView_view_self]
  | ring =>
    rw [followView_view_other _ _ (by decide), followView_view_self, h1.showsOther, followView_view_other _ _ (by decide)]
  | talk =>
    rw [followView_view_self, h2.showsOther, followView_view_other _ _ (by decide), followView_view_other _ _ (by decide)]

theorem followView_attention_mono {t : State} {k : Nat} (h : t.regs.attention.getLsbD k = true) (b : State) (v : View) :
    (t.followView b v).regs.attention.getLsbD k = true := by
  unfold State.followView State.viewChanged
  split
  · split
    · cases v <;> exact h
    · refine attend_getLsbD_mono ?_ _
      cases v <;> exact h
  · exact h

theorem followView_attention_self {t b : State} {v : View} (h : t.showsOther b v = true) (hr : (t.view v).rewriting = false) :
    (t.followView b v).regs.attention.getLsbD (viewBit v) = true := by
  have hrun : t.isRunning = true := by
    unfold State.showsOther at h
    exact (Bool.and_eq_true_iff.mp h).1
  rw [followView_eq, if_pos h, State.viewChanged, if_neg (by simp [hr])]
  exact rewrite_attention hrun v

/-- A view that is rewritten sets its ATTENTION bit. -/
theorem withViews_attention {t b : State} {v : View} (h : t.showsOther b v = true) (hr : (t.view v).rewriting = false) :
    (t.withViews b).regs.attention.getLsbD (viewBit v) = true := by
  have h1 : ShowsOnly (t.followView b .input) t := showsOnly_followView t b .input
  have h2 : ShowsOnly ((t.followView b .input).followView b .ring) t := (showsOnly_followView _ b .ring).trans h1
  unfold State.withViews
  cases v with
  | input => exact followView_attention_mono (followView_attention_mono (followView_attention_self h hr) _ _) _ _
  | ring =>
    refine followView_attention_mono (followView_attention_self ((h1.showsOther b .ring).trans h) ?_) _ _
    rwa [followView_view_other _ _ (by decide)]
  | talk =>
    refine followView_attention_self ((h2.showsOther b .talk).trans h) ?_
    rwa [followView_view_other _ _ (by decide), followView_view_other _ _ (by decide)]

/-! ### Bodies made of rows -/

section Rows

variable {n k : Nat} {f : Fin n → List Word}

/-- A body of rows of one length, from row i on. -/
theorem drop_rows (hf : ∀ i : Fin n, (f i).length = k) (i : Nat) :
    ((indices n).flatMap f).drop (k * i) = ((indices n).drop i).flatMap f := by
  generalize indices n = rows
  induction i generalizing rows with
  | zero => rfl
  | succ i ih =>
    cases rows with
    | nil => simp
    | cons r rows =>
      rw [List.flatMap_cons, Nat.mul_succ, Nat.add_comm, ← List.drop_drop, List.drop_append_of_le_length (hf r).ge,
        ← hf r, List.drop_length, List.nil_append, List.drop_succ_cons, hf r]
      exact ih rows

theorem indices_drop (i : Fin n) : (indices n).drop i.val = i :: (indices n).drop (i.val + 1) := by
  have hi : i.val < (indices n).length := by simp [indices]
  rw [List.drop_eq_getElem_cons hi]
  simp [indices]

/-- Row i of a body of rows. -/
theorem take_drop_rows (hf : ∀ i : Fin n, (f i).length = k) (i : Fin n) :
    (((indices n).flatMap f).drop (k * i.val)).take k = f i := by
  rw [drop_rows hf, indices_drop, List.flatMap_cons, ← hf i]
  exact List.take_left

/-- Word j of row i. -/
theorem getD_rows (hf : ∀ i : Fin n, (f i).length = k) (i : Fin n) {j : Nat} (hj : j < k) :
    ((indices n).flatMap f).getD (k * i.val + j) 0 = (f i).getD j 0 := by
  have h : (((indices n).flatMap f).drop (k * i.val)).getD j 0 = (f i).getD j 0 := by
    rw [drop_rows hf, indices_drop, List.flatMap_cons, List.getD_append _ _ _ _ (by rw [hf i]; exact hj)]
  rw [← h, List.getD_eq_getElem?_getD, List.getD_eq_getElem?_getD, List.getElem?_drop]

theorem length_rows (hf : ∀ i : Fin n, (f i).length = k) : ((indices n).flatMap f).length = n * k := by
  simp [List.length_flatMap, hf, indices]

end Rows

/-- A bank as a list, by the numbers of its entries. -/
theorem bank_toList {n : Nat} {α : Type} (v : Bank n α) : v.toList = (indices n).map v.get := by
  apply List.ext_getElem
  · simp [indices]
  · intro i h1 h2
    simp [indices, Bank.get_eq]

/-! ### The input view (R100) -/

theorem stage_iff (s : State) : s.isStage = true ↔ s.cfg.id = 0 := by simp [State.isStage]

theorem inputWords_length (s : State) (n : Fin 64) : (s.inputWords n).length = 3 := rfl

theorem inputBody_length (s : State) : s.inputBody.length = 195 := by
  simp [State.inputBody, length_rows (inputWords_length s)]

/-- A word of the rows of the input view. -/
theorem inputBody_getD (s : State) (n : Fin 64) {j : Nat} (hj : j < 3) :
    s.inputBody.getD (3 + j + 3 * n.val) 0 = (s.inputWords n).getD j 0 := by
  rw [show 3 + j + 3 * n.val = (3 * n.val + j) + 3 by omega]
  exact getD_rows (inputWords_length s) n hj

/-! ### The ring view (R166) -/

/-- The row of this terminal itself. -/
theorem rowWords_own {s : State} {o : Fin 4} (h : o = s.cfg.id) :
    s.rowWords o = [s.rowWord0 o, 0, 0] ++ s.mergeCounters o
      ++ [s.svc.sent, s.svc.discards, s.svc.replyDrops, s.ports.east.failures, s.ports.west.failures,
          s.ports.east.drops, s.ports.west.drops] := if_pos h

/-- The summary that row word 1 shows: 0 where none has come (log entry 68). -/
def State.lastSummary (s : State) (o : Fin 4) : Word :=
  match s.sup.summaries.get o with
  | some (x, _) => x
  | none => 0

/-- The row of another origin. -/
theorem rowWords_other {s : State} {o : Fin 4} (h : o ≠ s.cfg.id) :
    s.rowWords o = [s.rowWord0 o, s.lastSummary o, s.summaryAge o] ++ s.mergeCounters o
      ++ [s.svc.taken.get o, s.svc.framing.get o, s.svc.unusable.get o, sinceWord (s.sup.path o .east).since,
          sinceWord (s.sup.path o .west).since, (s.sup.path o .east).losses.setWidth 32,
          (s.sup.path o .west).losses.setWidth 32] := if_neg h

theorem rowWords_length (s : State) (o : Fin 4) : (s.rowWords o).length = 15 := by
  by_cases h : o = s.cfg.id
  · rw [rowWords_own h]; rfl
  · rw [rowWords_other h]; rfl

theorem ringBody_length (s : State) : s.ringBody.length = 63 := by
  simp [State.ringBody, length_rows (rowWords_length s)]

/-- A row of the ring view. -/
theorem ringBody_row (s : State) (o : Fin 4) : (s.ringBody.drop (3 + 15 * o.val)).take 15 = s.rowWords o := by
  rw [Nat.add_comm]
  exact take_drop_rows (rowWords_length s) o

/-! ### The talk view (R147) -/

theorem talkBody_eq (s : State) : s.talkBody
    = [ BitVec.ofNat 32 (bitNat (s.gateTarget != 0)),
        BitVec.ofNat 32 (s.rank 0 + field (s.rank 1) 4 + field (s.rank 2) 8 + field (s.rank 3) 12),
        BitVec.ofNat 32 (((indices 8).map fun i => field (s.lamp i).code (2 * i.val)).foldl (· + ·) 0) ]
      ++ ((indices 8).flatMap fun g => (s.group g).viewWords) ++ ((indices 32).flatMap fun m => [(s.insert m).viewWord])
      ++ (indices 8).flatMap fun b => (s.button b).viewWords := by
  simp only [State.talkBody, bank_toList, List.flatMap_map, List.map_map]
  rfl

theorem talkBody_length (s : State) : s.talkBody.length = 67 := by
  rw [talkBody_eq]
  simp [length_rows (n := 8) (k := 2), length_rows (n := 32) (k := 1), Group.viewWords, Button.viewWords]

theorem viewBody_length (s : State) (v : View) :
    (s.viewBody v).length = match v with
      | .input => 195
      | .ring => 63
      | .talk => 67 := by
  cases v with
  | input => exact inputBody_length s
  | ring => exact ringBody_length s
  | talk => exact talkBody_length s

/-! ### Fields of words -/

theorem field_eq (v k : Nat) : field v k = 2 ^ k * v := Nat.mul_comm v _

theorem bitNat_eq (b : Bool) : bitNat b = b.toNat := by cases b <;> rfl

theorem foldl_add_eq_sum (xs : List Nat) : xs.foldl (· + ·) 0 = xs.sum := List.sum_eq_foldl.symm

/-- Fields of two bits. -/
theorem field_pairs (v i : Nat) : field v (2 * i) = v * 4 ^ i := by rw [field, Nat.pow_mul]

theorem freshCount_desk {s : State} (h : s.cfg.id ≠ 0) :
    s.freshCount = ((List.finRange 64).filter fun n => (s.gain.mirror.get n).fresh).length := by
  rw [State.freshCount, if_neg (by simpa [stage_iff] using h), bank_toList, List.filter_map, List.length_map]
  rfl

theorem freshCount_stage {s : State} (h : s.cfg.id = 0) : s.freshCount = 64 := if_pos ((stage_iff s).mpr h)

/-- The fields of the ring view's first word. -/
theorem ringWord1_fields (s : State) : s.ringWord1
    = BitVec.ofNat 32 ((s.port .east).state.code + 2 ^ 4 * (s.port .west).state.code
        + 2 ^ 8 * s.sup.eastward.closed.toNat + 2 ^ 9 * s.sup.westward.closed.toNat + 2 ^ 12 * s.ringSize + 2 ^ 16 * s.reachSet
        + 2 ^ 20 * idCode (s.neighbour .east) + 2 ^ 24 * idCode (s.neighbour .west)
        + 2 ^ 28 * (s.port .east).conflictReported.toNat + 2 ^ 29 * (s.port .west).conflictReported.toNat) := by
  simp only [State.ringWord1, field_eq, bitNat_eq]
  rfl

theorem ringWord3_fields (s : State) : s.ringWord3
    = idCode (s.eastOrder 1) + 2 ^ 4 * idCode (s.eastOrder 2) + 2 ^ 8 * idCode (s.eastOrder 3)
        + 2 ^ 16 * s.clock.state.code + 2 ^ 20 * idCode s.clock.source := by
  simp only [State.ringWord3, field_eq]

/-- The fields of row word 0: an own row shows no paths. -/
theorem rowWord0_fields (s : State) (o : Fin 4) : s.rowWord0 o
    = BitVec.ofNat 32 ((s.sup.present.get o).toNat + 2 * (s.reachable o).toNat
        + if o = s.cfg.id then 0 else 4 * (s.sup.path o .east).up.toNat + 8 * (s.sup.path o .west).up.toNat
          + 16 * (s.sup.path o .east).hop + 64 * (s.sup.path o .west).hop) := by
  simp only [State.rowWord0, field_eq, bitNat_eq, Nat.mul_comm _ 4]
  rfl

theorem ringTrigger_fields (s : State) : s.ringTrigger
    = [BitVec.ofNat 32 ((s.port .east).state.code + 2 ^ 4 * (s.port .west).state.code
          + 2 ^ 8 * s.sup.eastward.closed.toNat + 2 ^ 9 * s.sup.westward.closed.toNat + 2 ^ 12 * s.ringSize + 2 ^ 16 * s.reachSet
          + 2 ^ 20 * idCode (s.neighbour .east) + 2 ^ 24 * idCode (s.neighbour .west)
          + 2 ^ 28 * (s.port .east).conflictReported.toNat + 2 ^ 29 * (s.port .west).conflictReported.toNat),
        BitVec.ofNat 32 (idCode (s.eastOrder 1) + 2 ^ 4 * idCode (s.eastOrder 2) + 2 ^ 8 * idCode (s.eastOrder 3)
          + 2 ^ 16 * s.clock.state.code + 2 ^ 20 * idCode s.clock.source)]
      ++ (List.finRange 4).map fun o => BitVec.ofNat 32 ((s.sup.present.get o).toNat + 2 * (s.reachable o).toNat
          + if o = s.cfg.id then 0 else 4 * (s.sup.path o .east).up.toNat + 8 * (s.sup.path o .west).up.toNat
            + 16 * (s.sup.path o .east).hop + 64 * (s.sup.path o .west).hop) := by
  rw [State.ringTrigger, ringWord1_fields, ringWord3_fields]
  congr 1
  exact List.map_congr_left fun o _ => rowWord0_fields s o

/-- Settles O17, by the views' triggers and each view's record after a command. -/
theorem viewsFollowState : Obligations.ViewsFollowState := by
  refine ⟨fun s => ⟨rfl, rfl, ringTrigger_fields s⟩, fun f s => ⟨running_of f, not_running f⟩, fun t before => ?_⟩
  refine ⟨⟨_, rfl, (showsOnly_withViews t before).only⟩, fun v h => ?_, withViews_same, fun v hrun h => ?_⟩
  · rw [withViews_view, if_neg (by simp [State.showsOther, h])]
  · have hs : t.showsOther before v = true := by simp [State.showsOther, hrun, h]
    rw [withViews_view, if_pos hs, ViewRec.changed]
    refine ⟨fun hr => ⟨?_, withViews_attention hs hr⟩, fun hr => if_pos hr⟩
    rw [if_neg (by simp [hr])]
    rfl

/-! ### The words of the three bodies (O16) -/

section Input

variable {s : State} (n : Fin 64)

theorem inputBody_word0_stage (h : s.cfg.id = 0) :
    s.inputBody.getD (3 + 3 * n.val) 0 = (s.gain.table.get n).viewWords.1 := by
  rw [show 3 + 3 * n.val = 3 + 0 + 3 * n.val by omega, inputBody_getD s n (by omega), State.inputWords,
    if_pos ((stage_iff s).mpr h)]
  rfl

theorem inputBody_word1_stage (h : s.cfg.id = 0) :
    s.inputBody.getD (4 + 3 * n.val) 0 = (s.gain.table.get n).viewWords.2 := by
  rw [show 4 + 3 * n.val = 3 + 1 + 3 * n.val by omega, inputBody_getD s n (by omega), State.inputWords,
    if_pos ((stage_iff s).mpr h)]
  rfl

theorem inputBody_word0_desk (h : s.cfg.id ≠ 0) :
    s.inputBody.getD (3 + 3 * n.val) 0 = (s.gain.mirror.get n).viewWords.1 := by
  rw [show 3 + 3 * n.val = 3 + 0 + 3 * n.val by omega, inputBody_getD s n (by omega), State.inputWords,
    if_neg (by simpa [stage_iff] using h)]
  rfl

theorem inputBody_word1_desk (h : s.cfg.id ≠ 0) :
    s.inputBody.getD (4 + 3 * n.val) 0 = (s.gain.mirror.get n).viewWords.2 := by
  rw [show 4 + 3 * n.val = 3 + 1 + 3 * n.val by omega, inputBody_getD s n (by omega), State.inputWords,
    if_neg (by simpa [stage_iff] using h)]
  rfl

theorem inputBody_word2 :
    s.inputBody.getD (5 + 3 * n.val) 0 = (s.track s.cfg.id n).viewWord (s.setting n).effective := by
  rw [show 5 + 3 * n.val = 3 + 2 + 3 * n.val by omega, inputBody_getD s n (by omega)]
  rfl

end Input

theorem inputEntry_viewWords (e : InputEntry) : e.viewWords.1
    = BitVec.ofNat 32 (e.setting.gain + 256 * e.setting.pad.toNat + 512 * e.setting.phantom.toNat
        + 1024 * e.state.code + 4096 * e.orphaned.toNat + 8192 * idCode e.owner + 65536 * e.pending.isSome.toNat
        + 131072 * e.waiting.isSome.toNat) := by
  simp only [InputEntry.viewWords, field_eq, bitNat_eq]
  rfl

theorem mirrorEntry_viewWords (e : MirrorEntry) : e.viewWords.1
    = BitVec.ofNat 32 (e.setting.gain + 256 * e.setting.pad.toNat + 512 * e.setting.phantom.toNat
        + 1024 * e.state.code + 4096 * e.orphaned.toNat + 8192 * idCode e.owner + 65536 * e.scheduled.isSome.toNat
        + 262144 * e.fresh.toNat) := by
  simp only [MirrorEntry.viewWords, field_eq, bitNat_eq]
  rfl

/-- Word 2 of an input without a reference. -/
theorem trackEntry_viewWord_none {r : TrackEntry} (h : r.reference = none) (e : Int) : r.viewWord e
    = BitVec.ofNat 32 (127 + (65536 * r.limited.toNat + 131072 * r.ramp.isSome.toNat + 262144 * r.scheduled.isSome.toNat)) := by
  simp only [TrackEntry.viewWord, field_eq, bitNat_eq, h, compOf, refByte, ← Nat.add_assoc]
  rfl

theorem trackEntry_viewWord_some {r : TrackEntry} {v : Int} (h : r.reference = some v) (e : Int) : r.viewWord e
    = BitVec.ofNat 32 ((BitVec.ofInt 8 v).toNat + 256 * (BitVec.ofInt 8 (max (-40) (min 20 (v - e)))).toNat
        + (65536 * r.limited.toNat + 131072 * r.ramp.isSome.toNat + 262144 * r.scheduled.isSome.toNat)) := by
  simp only [TrackEntry.viewWord, field_eq, bitNat_eq, h, compOf, clampInt, refByte, ← Nat.add_assoc, min_comm (v - e)]
  rfl

theorem inputBody_head (s : State) : s.inputBody.take 3
    = [BitVec.ofNat 32 (bitNat (!s.isStage && s.gain.stale) + field (bitNat s.isStage) 1 + field s.freshCount 8),
       s.gain.lateGains, 0] := rfl

theorem inputBody_head_stage {s : State} (h : s.cfg.id = 0) :
    s.inputBody.take 3 = [BitVec.ofNat 32 (2 + 256 * 64), s.gain.lateGains, 0] := by
  rw [inputBody_head, freshCount_stage h, (stage_iff s).mpr h]
  rfl

theorem inputBody_head_desk {s : State} (h : s.cfg.id ≠ 0) :
    s.inputBody.take 3 = [BitVec.ofNat 32 (s.gain.stale.toNat
      + 256 * ((List.finRange 64).filter fun n => (s.gain.mirror.get n).fresh).length), s.gain.lateGains, 0] := by
  have hst : s.isStage = false := by rw [← Bool.not_eq_true, stage_iff]; exact h
  rw [inputBody_head, freshCount_desk h, hst]
  simp [field_eq, bitNat_eq]

theorem setting_eq (s : State) (n : Fin 64) :
    s.setting n = if s.cfg.id = 0 then (s.gain.table.get n).setting else (s.gain.mirror.get n).setting := by
  simp only [State.setting, stage_iff]

/-! The ring view, row by row. -/

/-- The fields of a round trip (log entry 49). -/
theorem tripField_eq {t : Option Word} {n : Nat} (h : t = none ∧ n = 65535 ∨ ∃ x : Word, t = some x ∧ n = x.toNat % 65536) :
    tripField t = n := by
  obtain ⟨rfl, rfl⟩ | ⟨x, rfl, rfl⟩ := h
  · rfl
  · rfl

/-- A count of frames in a word (log entry 67). -/
theorem sinceWord_eq {t : Option Nat} {w : Word} (h : t = none ∧ w = 0xFFFFFFFF ∨ ∃ n : Nat, t = some n ∧ w = BitVec.ofNat 32 n) :
    sinceWord t = w := by
  obtain ⟨rfl, rfl⟩ | ⟨n, rfl, rfl⟩ := h
  · rfl
  · rfl

theorem summary_words {s : State} {o : Fin 4} {last age : Word}
    (h : s.sup.summaries.get o = none ∧ last = 0 ∧ age = 0xFFFFFFFF
      ∨ ∃ n : Nat, s.sup.summaries.get o = some (last, n) ∧ age = BitVec.ofNat 32 n) :
    s.lastSummary o = last ∧ s.summaryAge o = age := by
  obtain ⟨hs, rfl, rfl⟩ | ⟨n, hs, rfl⟩ := h
  · simp [State.lastSummary, State.summaryAge, hs]
  · simp [State.lastSummary, State.summaryAge, hs, snap]

theorem rowWord0_own {s : State} {o : Fin 4} (h : o = s.cfg.id) :
    s.rowWord0 o = BitVec.ofNat 32 ((s.sup.present.get o).toNat + 2 * (s.reachable o).toNat) := by
  rw [rowWord0_fields, if_pos h, Nat.add_zero]

theorem rowWord0_other {s : State} {o : Fin 4} (h : o ≠ s.cfg.id) :
    s.rowWord0 o = BitVec.ofNat 32 ((s.sup.present.get o).toNat + 2 * (s.reachable o).toNat
      + 4 * (s.sup.path o .east).up.toNat + 8 * (s.sup.path o .west).up.toNat
      + 16 * (s.sup.path o .east).hop + 64 * (s.sup.path o .west).hop) := by
  rw [rowWord0_fields, if_neg h]
  simp only [Nat.add_assoc]

theorem ringBody_word2 (s : State) : s.ringBody.getD 2 0
    = BitVec.ofNat 32 (idCode (s.eastOrder 1) + 2 ^ 4 * idCode (s.eastOrder 2) + 2 ^ 8 * idCode (s.eastOrder 3)
        + 2 ^ 16 * s.clock.state.code + 2 ^ 20 * idCode s.clock.source + 2 ^ 24 * (s.port .east).flaps.length
        + 2 ^ 26 * (s.port .west).flaps.length) := by
  rw [← ringWord3_fields, ← field_eq _ 24, ← field_eq _ 26]
  rfl

/-! The talk view, block by block. -/

theorem talkBody_head (s : State) : s.talkBody.take 3
    = [BitVec.ofNat 32 (if s.gateTarget = 0 then 0 else 1),
       BitVec.ofNat 32 (s.rank 0 + 16 * s.rank 1 + 256 * s.rank 2 + 4096 * s.rank 3),
       BitVec.ofNat 32 ((List.finRange 8).map fun i => (s.lamp i).code * 4 ^ i.val).sum] := by
  have hg : bitNat (s.gateTarget != 0) = if s.gateTarget = 0 then 0 else 1 := by
    by_cases h : s.gateTarget = 0 <;> simp [h, bitNat]
  have htake : s.talkBody.take 3
      = [BitVec.ofNat 32 (bitNat (s.gateTarget != 0)),
         BitVec.ofNat 32 (s.rank 0 + field (s.rank 1) 4 + field (s.rank 2) 8 + field (s.rank 3) 12),
         BitVec.ofNat 32 (((indices 8).map fun i => field (s.lamp i).code (2 * i.val)).foldl (· + ·) 0)] := rfl
  rw [htake, hg, foldl_add_eq_sum, field_eq, field_eq, field_eq]
  simp only [field_pairs]
  rfl

/-- A list's words behind a part of a known length. -/
theorem getD_append_skip {xs : List Word} {n : Nat} (h : xs.length = n) (ys : List Word) (i : Nat) :
    (xs ++ ys).getD (n + i) 0 = ys.getD i 0 := by
  rw [List.getD_append_right _ _ _ _ (by omega), h, Nat.add_sub_cancel_left]

/-- The talk view's blocks: three words, the groups, the inserts and the buttons. -/
theorem talkBody_blocks (s : State) : ∃ head : List Word, head.length = 3
    ∧ s.talkBody = head ++ (((indices 8).flatMap fun g => (s.group g).viewWords)
        ++ (((indices 32).flatMap fun m => [(s.insert m).viewWord]) ++ (indices 8).flatMap fun b => (s.button b).viewWords)) :=
  ⟨_, rfl, by rw [talkBody_eq, List.append_assoc, List.append_assoc]⟩

/-- A word of the block of groups. -/
theorem talkBody_group (s : State) (g : Fin 8) {j : Nat} (hj : j < 2) :
    s.talkBody.getD (3 + (2 * g.val + j)) 0 = (s.group g).viewWords.getD j 0 := by
  have hrow : ∀ g : Fin 8, (s.group g).viewWords.length = 2 := fun _ => rfl
  obtain ⟨head, hh, he⟩ := talkBody_blocks s
  rw [he, getD_append_skip hh, List.getD_append _ _ _ _ (by rw [length_rows hrow]; omega)]
  exact getD_rows hrow g hj

/-- A word of the block of inserts. -/
theorem talkBody_insert (s : State) (m : Fin 32) : s.talkBody.getD (3 + (16 + m.val)) 0 = (s.insert m).viewWord := by
  have hrow : ∀ g : Fin 8, (s.group g).viewWords.length = 2 := fun _ => rfl
  have hins : ∀ m : Fin 32, [(s.insert m).viewWord].length = 1 := fun _ => rfl
  obtain ⟨head, hh, he⟩ := talkBody_blocks s
  rw [he, getD_append_skip hh, getD_append_skip (length_rows hrow), List.getD_append _ _ _ _ (by rw [length_rows hins]; omega),
    show m.val = 1 * m.val + 0 by omega, getD_rows hins m (by omega)]
  rfl

/-- A word of the block of buttons. -/
theorem talkBody_button (s : State) (b : Fin 8) {j : Nat} (hj : j < 2) :
    s.talkBody.getD (3 + (16 + (32 + (2 * b.val + j)))) 0 = (s.button b).viewWords.getD j 0 := by
  have hrow : ∀ g : Fin 8, (s.group g).viewWords.length = 2 := fun _ => rfl
  have hins : ∀ m : Fin 32, [(s.insert m).viewWord].length = 1 := fun _ => rfl
  have hbut : ∀ b : Fin 8, (s.button b).viewWords.length = 2 := fun _ => rfl
  obtain ⟨head, hh, he⟩ := talkBody_blocks s
  rw [he, getD_append_skip hh, getD_append_skip (length_rows hrow), getD_append_skip (length_rows hins)]
  exact getD_rows hbut b hj

theorem group_viewWords (x : Group) : x.viewWords
    = [BitVec.ofNat 32 ((decide (x.buttons ≠ 0) || x.lanes).toNat + 2 ^ 8 * x.buttons.toNat
        + 2 ^ 16 * x.lanes.toNat + 2 ^ 17 * x.targets.length + 2 ^ 24 * x.seq.toNat),
       BitVec.ofNat 32 (x.targets.mapIdx fun i t => t.state.code * 4 ^ i).sum] := by
  have hopen : x.isOpen = (decide (x.buttons ≠ 0) || x.lanes) := by
    have hne : (x.buttons != 0) = decide (x.buttons ≠ 0) := Bool.eq_iff_iff.mpr (by rw [bne_iff_ne, decide_eq_true_iff])
    rw [Group.isOpen, Bool.or_comm, hne]
  simp only [Group.viewWords, field_pairs, foldl_add_eq_sum, field_eq _ 8, field_eq _ 16, field_eq _ 17, field_eq _ 24, bitNat_eq,
    hopen]

theorem insert_viewWord (x : Insert) : x.viewWord
    = BitVec.ofNat 32 (idCode (x.holder.map fun p => p.talker) + 16 * idCode ((x.waiting[0]?).map fun p => p.talker)
        + 256 * idCode ((x.waiting[1]?).map fun p => p.talker) + 4096 * idCode ((x.waiting[2]?).map fun p => p.talker)) := by
  simp only [Insert.viewWord, field_eq]
  rfl

theorem button_viewWords (x : Button) : x.viewWords
    = [BitVec.ofNat 32 (x.state.code + 16 * x.level.toNat + 65536 * x.presses.toNat), x.missed.setWidth 32] := by
  simp only [Button.viewWords, field_eq, bitNat_eq]
  rfl

/-! ### The rewrites that are owed (O16) -/

theorem viewRewriteFollowup_eq {s : State} {v : View} (hrun : s.isRunning = true) (hr : (s.view v).rewriting = false)
    (ha : (s.view v).again = true) : exec (.viewRewriteFollowup v) s = .next (s.rewrite v) := by
  show Host.Outcome.next (running (fun st => if (st.view v).again && !(st.view v).rewriting then st.rewrite v else st) s) = _
  rw [running_of _ hrun, if_pos (by simp [ha, hr]), withViews_same (showsOnly_rewrite s v).viewTrigger]

theorem ringViewRefresh_eq {s : State} (hrun : s.isRunning = true) (hr : (s.view .ring).rewriting = false)
    (hq : 48000 ≤ s.sup.refreshAge) : exec .ringViewRefresh s = .next (s.rewrite .ring) := by
  show Host.Outcome.next (running (fun st => if Config.quietFrames ≤ st.sup.refreshAge then st.viewChanged .ring else st) s) = _
  rw [running_of _ hrun, if_pos (show Config.quietFrames ≤ s.sup.refreshAge from hq),
    withViews_same (showsOnly_viewChanged s .ring).viewTrigger, State.viewChanged, if_neg (by simp [hr])]

/-- Settles O16, by the rules of a rewrite and of the three bodies' words. -/
theorem viewIsRewritten : Obligations.ViewIsRewritten := by
  refine ⟨fun s v hrun hr => ⟨viewRewriteFollowup_eq hrun hr, fun hv hq => ?_, ?_, ?_, rewrite_attention hrun v, fun h => ?_,
      fun i hi h => ?_, fun a ha => ?_⟩,
    ⟨⟨rfl, fun _ => rfl⟩, rfl, rfl, rfl, rfl, rfl, rfl, fun _ => rfl⟩, fun s body hb => ?_, fun s body hb => ?_, fun s body hb => ?_⟩
  · subst hv; exact ringViewRefresh_eq hrun hr hq
  · rw [rewrite_view_self]; rfl
  · rw [rewrite_view_self]; rfl
  · rw [rewrite_peek, writeView_peek_count s h]
  · rw [rewrite_peek, writeView_peek_body s hi h]
  · rw [rewrite_ram, readByte_writeView_outside s ha]
  · obtain rfl : body = s.inputBody := hb
    refine ⟨inputBody_length s, inputBody_head_stage, inputBody_head_desk, fun n =>
      ⟨fun e h he => ?_, fun e h he => ?_, fun r e flags hr he hf => ?_⟩⟩
    · rw [inputBody_word0_stage n h, inputBody_word1_stage n h, ← he]
      exact ⟨inputEntry_viewWords e, fun hp => by simp only [InputEntry.viewWords, hp],
        fun c hp => by simp only [InputEntry.viewWords, hp]⟩
    · rw [inputBody_word0_desk n h, inputBody_word1_desk n h, ← he]
      exact ⟨mirrorEntry_viewWords e, fun hp => by simp only [MirrorEntry.viewWords, hp],
        fun c hp => by simp only [MirrorEntry.viewWords, hp]⟩
    · rw [inputBody_word2, setting_eq, ← he, hf, State.track, ← hr]
      exact ⟨fun h => trackEntry_viewWord_none h e, fun v h => trackEntry_viewWord_some h e⟩
  · obtain rfl : body = s.ringBody := hb
    refine ⟨ringBody_length s, ringWord1_fields s, fun e w he hw => ?_, ringBody_word2 s,
      fun o row counters r hrow hr hc => ⟨fun ho => ?_, fun e w last age since sinceW ho he hw hl hs hsw => ?_⟩⟩
    · rw [← tripField_eq he, ← tripField_eq hw, ← field_eq]; rfl
    · rw [hrow, ringBody_row, rowWords_own ho, rowWord0_own ho, hc, hr]; rfl
    · obtain ⟨hlast, hage⟩ := summary_words hl
      rw [hrow, ringBody_row, rowWords_other ho, rowWord0_other ho, hc, hr, ← he, ← hw, hlast, hage, sinceWord_eq hs, sinceWord_eq hsw]
      rfl
  · obtain rfl : body = s.talkBody := hb
    refine ⟨talkBody_length s, talkBody_head s, fun g x hx => ?_, fun m x hx => ?_, fun b x hx => ?_⟩
    · have h0 := talkBody_group s g (j := 0) (by omega)
      have h1 := talkBody_group s g (j := 1) (by omega)
      rw [← hx, group_viewWords] at h0 h1
      exact ⟨h0, by rw [show 4 + 2 * g.val = 3 + (2 * g.val + 1) by omega]; exact h1⟩
    · rw [show 19 + m.val = 3 + (16 + m.val) by omega, talkBody_insert, ← hx, insert_viewWord]
    · have h0 := talkBody_button s b (j := 0) (by omega)
      have h1 := talkBody_button s b (j := 1) (by omega)
      rw [← hx, button_viewWords] at h0 h1
      rw [show 51 + 2 * b.val = 3 + (16 + (32 + (2 * b.val + 0))) by omega,
        show 52 + 2 * b.val = 3 + (16 + (32 + (2 * b.val + 1))) by omega]
      exact ⟨h0, h1⟩

end Sys2Proof.Machine

/-!
The start of a run (spec 01, R8 to R11, R20, R21): what a good anchor says, what each part of the preparation writes, and what stands
(O6, O9).
-/

namespace Sys2Proof.Machine

set_option Elab.async false

/-! ### What a good anchor says (R8, R9) -/

section Anchor

variable {words : List Word}

/-- Every check has passed. -/
theorem anchorOk_checks (h : verdictOf words = .anchorOk) :
    anchorField words 2 0 8 ≤ 3 ∧ anchorField words 2 8 8 ≤ 64 ∧ (areasOf words).any areaBad = false
      ∧ anyMeet (areasOf words) = false := by
  dsimp only [verdictOf] at h
  split at h
  · cases h
  · split at h
    · cases h
    · split at h
      · cases h
      · split at h
        · cases h
        next h2 h3 h4 =>
          rw [Bool.not_eq_true, Bool.or_eq_false_iff] at h4
          exact ⟨by omega, by omega, h4⟩

/-- Where the areas of a run lie: the offset of each of the six, by its number (R8). -/
def RunConfig.offset (c : RunConfig) : Nat → Nat
  | 0 => c.laneTable
  | 1 => c.inputView
  | 2 => c.ringView
  | 3 => c.talkView
  | 4 => c.faultLog
  | _ => c.noteList

/-- The sizes of the six areas. -/
def RunConfig.size (c : RunConfig) : Nat → Nat
  | 0 => 512
  | 1 => 1024
  | 2 => 256
  | 3 => 512
  | 4 => 16 + 32 * c.faultCapacity
  | _ => 16 + 64 * c.noteCapacity

/-- The six areas lie behind the anchor, inside the RAM and apart from each other. -/
structure RunConfig.Placed (c : RunConfig) : Prop where
  inside : ∀ i : Nat, i < 6 → 256 ≤ c.offset i ∧ c.offset i + c.size i ≤ 262144
  apart : ∀ i k : Nat, i < 6 → k < 6 → i ≠ k → c.offset i + c.size i ≤ c.offset k ∨ c.offset k + c.size k ≤ c.offset i

theorem areasOf_config (words : List Word) :
    areasOf words = (List.range 6).map fun i => ((configOf words).offset i, (configOf words).size i) := rfl

theorem placed_of_good (h : verdictOf words = .anchorOk) : (configOf words).Placed := by
  obtain ⟨-, -, hbad, hmeet⟩ := anchorOk_checks h
  rw [areasOf_config] at hbad hmeet
  refine ⟨fun i hi => ?_, fun i k hi hk hne => ?_⟩
  · have hb := List.any_eq_false.mp hbad ((configOf words).offset i, (configOf words).size i)
      (List.mem_map.mpr ⟨i, List.mem_range.mpr hi, rfl⟩)
    rw [areaBad_iff] at hb
    simp only at hb
    omega
  · have hm := anyMeet_numbered (configOf words).offset (configOf words).size 6
    rw [hmeet] at hm
    by_contra hno
    exact absurd (hm.mpr ⟨i, k, hi, hk, hne, by omega, by omega⟩) (by simp)

/-- The id of a good anchor. -/
theorem configOf_id (h : verdictOf words = .anchorOk) : (configOf words).id.val = (words.getD 2 0).toNat % 256 := by
  obtain ⟨hid, -⟩ := anchorOk_checks h
  have hlt : anchorField words 2 0 8 < 4 := by omega
  have hcfg : (configOf words).id = (index? 4 (anchorField words 2 0 8)).getD 0 := rfl
  rw [hcfg, index?, dif_pos hlt]
  exact anchorField_low 2 8

end Anchor

/-! ### Words of the preparation -/

/-- A word none of whose bytes is written reads as before. -/
theorem peek_of_outside {t s : State} {base size b : Nat}
    (h : ∀ x : Nat, outsideArea x base size = true → readByte t.ram x = readByte s.ram x) (hb : b + 4 ≤ base ∨ base + size ≤ b) :
    t.peek b = s.peek b :=
  peek_congr fun _ _ => h _ (outsideArea_iff.mpr (by omega))

theorem readByte_writeInUse_outside (s : State) {x : Nat} (h : outsideArea x 0x30 8 = true) :
    readByte s.writeInUse.ram x = readByte s.ram x :=
  readByte_pokeAll_outside s h

theorem readByte_initList_outside (s : State) (base capacity : Nat) {x : Nat} (h : outsideArea x base 16 = true) :
    readByte (s.initList base capacity).ram x = readByte s.ram x :=
  readByte_pokeAll_outside s h

/-- A list header holds its capacity and three counts of 0 (R20). -/
theorem initList_peek (s : State) {base : Nat} (capacity : Nat) (h : base + 16 ≤ Config.ramSize) :
    (s.initList base capacity).peek base = BitVec.ofNat 32 capacity ∧ (s.initList base capacity).peek (base + 4) = 0
      ∧ (s.initList base capacity).peek (base + 8) = 0 ∧ (s.initList base capacity).peek (base + 12) = 0 := by
  have key : ∀ i : Nat, i < 4 → (s.initList base capacity).peek (base + 4 * i) = [BitVec.ofNat 32 capacity, 0, 0, 0].getD i 0 :=
    fun i hi => peek_pokeAll s hi (by omega)
  exact ⟨key 0 (by omega), key 1 (by omega), key 2 (by omega), key 3 (by omega)⟩

/-! ### Lanes (R11) -/

theorem initLane_entry (s : State) (k l : Fin 16) : (s.initLane k).entry l = s.entry l := rfl

theorem readByte_initLane_outside (s : State) (l : Fin 16) {x : Nat} (h1 : outsideArea x (s.entry l + 8) 4 = true)
    (h2 : outsideArea x (s.entry l + 16) 16 = true) : readByte (s.initLane l).ram x = readByte s.ram x :=
  (readByte_poke_outside _ h1).trans (readByte_pokeAll_outside _ h2)

/-- The words of a lane entry that a start of a run makes 0: the cancel word and the part-written words. -/
def laneWords : List Nat := [8, 16, 20, 24, 28]

theorem initLane_peek_self (s : State) {l : Fin 16} (h : s.entry l + 32 ≤ Config.ramSize) {w : Nat} (hw : w ∈ laneWords) :
    (s.initLane l).peek (s.entry l + w) = 0 := by
  by_cases h8 : w = 8
  · subst h8; exact peek_poke _ _ _ (by omega)
  · have hi : ∃ i : Nat, i < 4 ∧ w = 16 + 4 * i := by
      simp only [laneWords, List.mem_cons, List.not_mem_nil, or_false] at hw
      exact ⟨(w - 16) / 4, by omega, by omega⟩
    obtain ⟨i, hi, rfl⟩ := hi
    have hz : ([0, 0, 0, 0] : List Word).getD i 0 = 0 := by
      obtain rfl | rfl | rfl | rfl : i = 0 ∨ i = 1 ∨ i = 2 ∨ i = 3 := by omega
      all_goals rfl
    have hp := peek_pokeAll { s with lanes := s.lanes.set l { lastSeen := s.postCount l } } (a := s.entry l + 16) (i := i)
      (ws := [0, 0, 0, 0]) hi (by omega)
    rw [hz] at hp
    rw [← hp, Nat.add_assoc]
    exact peek_poke_apart _ (Or.inr (by omega))

/-- No lane's preparation writes a post count. -/
theorem initLane_postCount (s : State) (k l : Fin 16) : (s.initLane k).postCount l = s.postCount l :=
  peek_congr fun i hi => by
    have hk : s.entry k = s.cfg.laneTable + 32 * k.val := rfl
    have hl : s.entry l = s.cfg.laneTable + 32 * l.val := rfl
    rw [initLane_entry]
    exact readByte_initLane_outside s k (outsideArea_iff.mpr (by omega)) (outsideArea_iff.mpr (by omega))

/-- A lane's context at the start of a run, after its own preparation or another lane's. -/
theorem initLane_lane (s : State) (k l : Fin 16) :
    (s.initLane k).lane l = if l = k then { lastSeen := s.postCount l } else s.lane l := by
  have h : (s.initLane k).lane l = (s.lanes.set k { lastSeen := s.postCount k }).get l := rfl
  rw [h, Bank.set_get]
  split
  next he => rw [he]
  next => rfl

/-- The lanes are prepared. -/
def State.initLanes (s : State) (ls : List (Fin 16)) : State := ls.foldl (fun st l => st.initLane l) s

theorem initLanes_cons (s : State) (k : Fin 16) (ls : List (Fin 16)) : s.initLanes (k :: ls) = (s.initLane k).initLanes ls := rfl

theorem lanesOnly_initLane (s : State) (k : Fin 16) : (s.initLane k).lanesOnly s := rfl

theorem lanesOnly_initLanes (s : State) (ls : List (Fin 16)) : (s.initLanes ls).lanesOnly s := by
  induction ls generalizing s with
  | nil => rfl
  | cons k ls ih => exact (ih (s.initLane k)).trans (lanesOnly_initLane s k)

theorem cfg_of_lanesOnly {t s : State} (h : t.lanesOnly s) : t.cfg = s.cfg := by
  unfold State.lanesOnly at h
  rw [h]

theorem initLanes_cfg (s : State) (ls : List (Fin 16)) : (s.initLanes ls).cfg = s.cfg := cfg_of_lanesOnly (lanesOnly_initLanes s ls)

theorem entry_congr {t s : State} (h : t.cfg = s.cfg) (l : Fin 16) : t.entry l = s.entry l := by
  rw [State.entry, State.entry, h]

theorem initLanes_entry (s : State) (ls : List (Fin 16)) (l : Fin 16) : (s.initLanes ls).entry l = s.entry l :=
  entry_congr (initLanes_cfg s ls) l

theorem readByte_initLanes_outside (s : State) {ls : List (Fin 16)} {x : Nat}
    (h : ∀ l ∈ ls, outsideArea x (s.entry l + 8) 4 = true ∧ outsideArea x (s.entry l + 16) 16 = true) :
    readByte (s.initLanes ls).ram x = readByte s.ram x := by
  induction ls generalizing s with
  | nil => rfl
  | cons k ls ih =>
    obtain ⟨h1, h2⟩ := h k (List.mem_cons_self ..)
    rw [initLanes_cons, ih (s.initLane k) fun l hl => h l (List.mem_cons_of_mem _ hl), readByte_initLane_outside s k h1 h2]

theorem initLanes_lane (s : State) {ls : List (Fin 16)} {l : Fin 16} (h : l ∈ ls ∨ s.lane l = { lastSeen := s.postCount l }) :
    (s.initLanes ls).lane l = { lastSeen := s.postCount l } := by
  induction ls generalizing s with
  | nil => exact h.resolve_left (List.not_mem_nil)
  | cons k ls ih =>
    rw [initLanes_cons, ih (s.initLane k), initLane_postCount]
    rw [initLane_lane, initLane_postCount]
    by_cases hk : l = k
    · exact Or.inr (by rw [if_pos hk])
    · rw [if_neg hk]
      exact h.imp_left fun hl => (List.mem_cons.mp hl).resolve_left hk

theorem initLanes_peek (s : State) {ls : List (Fin 16)} (hls : ls.Nodup) {l : Fin 16} (hl : l ∈ ls)
    (h : s.entry l + 32 ≤ Config.ramSize) {w : Nat} (hw : w ∈ laneWords) : (s.initLanes ls).peek (s.entry l + w) = 0 := by
  induction ls generalizing s with
  | nil => cases hl
  | cons k ls ih =>
    obtain ⟨hk, hnd⟩ := List.nodup_cons.mp hls
    rw [initLanes_cons]
    obtain rfl | hl := List.mem_cons.mp hl
    · rw [← initLane_peek_self s h hw]
      refine peek_congr fun i hi => readByte_initLanes_outside _ fun m hm => ?_
      have hml : m.val ≠ l.val := fun he => hk (Fin.ext he ▸ hm)
      have he1 : (s.initLane l).entry m = s.cfg.laneTable + 32 * m.val := rfl
      have he2 : s.entry l = s.cfg.laneTable + 32 * l.val := rfl
      simp only [laneWords, List.mem_cons, List.not_mem_nil, or_false] at hw
      rw [outsideArea_iff, outsideArea_iff]
      omega
    · exact ih (s.initLane k) hnd hl h

/-! ### Lists and views (R20, R21) -/

/-- The two list headers are written. -/
def State.initLists (s : State) (c : RunConfig) : State :=
  (s.initList c.faultLog c.faultCapacity).initList c.noteList c.noteCapacity

/-- The three views are written. -/
def State.writeViews (s : State) : State := ((s.writeView .input).writeView .ring).writeView .talk

theorem prepareRam_eq (s : State) : s.prepareRam = ((s.writeInUse.initLanes (indices 16)).initLists s.cfg).writeViews := rfl

theorem readByte_initLists_outside (s : State) {c : RunConfig} {x : Nat} (h1 : outsideArea x c.faultLog 16 = true)
    (h2 : outsideArea x c.noteList 16 = true) : readByte (s.initLists c).ram x = readByte s.ram x :=
  (readByte_initList_outside _ _ _ h2).trans (readByte_initList_outside _ _ _ h1)

/-- The bytes of a view's change count and body. -/
def viewSize : View → Nat
  | .input => 784
  | .ring => 256
  | .talk => 272

theorem viewSize_eq (s : State) (v : View) : 4 + 4 * (s.viewBody v).length = viewSize v := by
  rw [viewBody_length]
  cases v <;> rfl

theorem showsOnly_writeViews (s : State) : ShowsOnly s.writeViews s :=
  (showsOnly_writeView _ _).trans ((showsOnly_writeView _ _).trans (showsOnly_writeView s _))

theorem ShowsOnly.viewBase {t s : State} (h : ShowsOnly t s) (v : View) : t.viewBase v = s.viewBase v := by
  rw [h.only]; cases v <;> rfl

theorem readByte_writeViews_outside (s : State) {x : Nat} (h : ∀ v : View, outsideArea x (s.viewBase v) (viewSize v) = true) :
    readByte s.writeViews.ram x = readByte s.ram x := by
  have h1 : ShowsOnly (s.writeView .input) s := showsOnly_writeView s .input
  have h2 : ShowsOnly ((s.writeView .input).writeView .ring) s := (showsOnly_writeView _ .ring).trans h1
  rw [State.writeViews, readByte_writeView_outside _ (by rw [viewSize_eq, h2.viewBase]; exact h .talk),
    readByte_writeView_outside _ (by rw [viewSize_eq, h1.viewBase]; exact h .ring),
    readByte_writeView_outside _ (by rw [viewSize_eq]; exact h .input)]

/-- The words a rewrite leaves in a view: the change count and the body. -/
def State.viewWords (s : State) (v : View) : List Word := ((s.view v).count + 2) :: s.viewBody v

theorem writeView_peek (s : State) {v : View} {i : Nat} (hi : i < (s.viewWords v).length)
    (h : s.viewBase v + viewSize v ≤ Config.ramSize) : (s.writeView v).peek (s.viewBase v + 4 * i) = (s.viewWords v).getD i 0 := by
  have hlen : (s.viewWords v).length = (s.viewBody v).length + 1 := rfl
  rw [← viewSize_eq s] at h
  cases i with
  | zero => exact writeView_peek_count s (by omega)
  | succ i =>
    rw [show s.viewBase v + 4 * (i + 1) = s.viewBase v + 4 + 4 * i by omega]
    exact writeView_peek_body s (by omega) (by omega)

theorem writeView_peek_kept (s : State) {v : View} {b : Nat} (h : b + 4 ≤ s.viewBase v ∨ s.viewBase v + viewSize v ≤ b) :
    (s.writeView v).peek b = s.peek b :=
  peek_of_outside (fun _ hx => readByte_writeView_outside s (by rw [viewSize_eq]; exact hx)) h

theorem writeView_viewWords (s : State) {v w : View} (h : w ≠ v) : (s.writeView v).viewWords w = s.viewWords w := by
  rw [State.viewWords, writeView_view_other s h, (showsOnly_writeView s v).viewBody]; rfl

/-- The areas of the views are apart and inside the RAM. -/
structure State.ViewsApart (s : State) : Prop where
  inside : ∀ v : View, s.viewBase v + viewSize v ≤ Config.ramSize
  apart : ∀ v w : View, v ≠ w → s.viewBase v + viewSize v ≤ s.viewBase w ∨ s.viewBase w + viewSize w ≤ s.viewBase v

/-- The words of each view once the three are written. -/
theorem writeViews_peek (s : State) (ha : s.ViewsApart) {v : View} {i : Nat} (hi : i < (s.viewWords v).length) :
    s.writeViews.peek (s.viewBase v + 4 * i) = (s.viewWords v).getD i 0 := by
  have h1 : ShowsOnly (s.writeView .input) s := showsOnly_writeView s .input
  have h2 : ShowsOnly ((s.writeView .input).writeView .ring) s := (showsOnly_writeView _ .ring).trans h1
  have hword : 4 * i + 4 ≤ viewSize v := by
    have hlen : (s.viewWords v).length = (s.viewBody v).length + 1 := rfl
    rw [← viewSize_eq s]; omega
  unfold State.writeViews
  cases v with
  | input =>
    have hr := ha.apart .input .ring (by decide)
    have ht := ha.apart .input .talk (by decide)
    rw [writeView_peek_kept _ (by rw [h2.viewBase]; omega), writeView_peek_kept _ (by rw [h1.viewBase]; omega),
      writeView_peek s hi (ha.inside .input)]
  | ring =>
    have ht := ha.apart .ring .talk (by decide)
    have hw : (s.writeView .input).viewWords .ring = s.viewWords .ring := writeView_viewWords s (by decide)
    rw [writeView_peek_kept _ (by rw [h2.viewBase]; omega), ← h1.viewBase,
      writeView_peek _ (by rwa [hw]) (by rw [h1.viewBase]; exact ha.inside .ring), hw]
  | talk =>
    have hw : ((s.writeView .input).writeView .ring).viewWords .talk = s.viewWords .talk := by
      rw [writeView_viewWords _ (by decide), writeView_viewWords s (by decide)]
    rw [← h2.viewBase, writeView_peek _ (by rwa [hw]) (by rw [h2.viewBase]; exact ha.inside .talk), hw]

theorem writeViews_view (s : State) (v : View) : s.writeViews.view v = (s.view v).rewritten := by
  unfold State.writeViews
  cases v with
  | input => rw [writeView_view_other _ (by decide), writeView_view_other _ (by decide), writeView_view_self]
  | ring => rw [writeView_view_other _ (by decide), writeView_view_self, writeView_view_other _ (by decide)]
  | talk => rw [writeView_view_self, writeView_view_other _ (by decide), writeView_view_other _ (by decide)]

/-! ### The areas of a run's state -/

/-- The number of a view's area. -/
def viewArea : View → Nat
  | .input => 1
  | .ring => 2
  | .talk => 3

theorem viewArea_offset (s : State) (v : View) : s.cfg.offset (viewArea v) = s.viewBase v := by cases v <;> rfl

theorem viewArea_size (c : RunConfig) (v : View) : viewSize v ≤ c.size (viewArea v) := by
  cases v with
  | input => exact (by omega : 784 ≤ 1024)
  | ring => exact Nat.le_refl 256
  | talk => exact (by omega : 272 ≤ 512)

theorem viewArea_lt (v : View) : 0 < viewArea v ∧ viewArea v < 4 := by cases v <;> decide

theorem viewArea_ne {v w : View} (h : v ≠ w) : viewArea v ≠ viewArea w := by
  cases v <;> cases w <;> simp_all [viewArea]

section Placed

variable {c : RunConfig}

/-- A word inside one area lies outside every other. -/
theorem RunConfig.Placed.word_apart (hp : c.Placed) {i k b : Nat} (hi : i < 6) (hk : k < 6) (hne : i ≠ k)
    (hb : c.offset i ≤ b ∧ b + 4 ≤ c.offset i + c.size i) : b + 4 ≤ c.offset k ∨ c.offset k + c.size k ≤ b := by
  have := hp.apart i k hi hk hne
  omega

theorem RunConfig.Placed.viewsApart {s : State} (hp : s.cfg.Placed) : s.ViewsApart := by
  refine ⟨fun v => ?_, fun v w h => ?_⟩
  · have h1 := hp.inside (viewArea v) (by have := viewArea_lt v; omega)
    have h2 := viewArea_size s.cfg v
    rw [viewArea_offset] at h1
    show _ ≤ 262144
    omega
  · have h1 := hp.apart (viewArea v) (viewArea w) (by have := viewArea_lt v; omega) (by have := viewArea_lt w; omega) (viewArea_ne h)
    have h2 := viewArea_size s.cfg v
    have h3 := viewArea_size s.cfg w
    rw [viewArea_offset, viewArea_offset] at h1
    omega

end Placed

theorem viewBase_congr {t s : State} (h : t.cfg = s.cfg) (v : View) : t.viewBase v = s.viewBase v := by
  cases v with
  | input => exact congrArg RunConfig.inputView h
  | ring => exact congrArg RunConfig.ringView h
  | talk => exact congrArg RunConfig.talkView h

theorem initLists_cfg (s : State) (c : RunConfig) : (s.initLists c).cfg = s.cfg := rfl

/-! ### The RAM a run begins with -/

/-- The state before the views of a run are written. -/
def State.beforeViews (s : State) : State := (s.writeInUse.initLanes (indices 16)).initLists s.cfg

theorem prepareRam_views (s : State) : s.prepareRam = s.beforeViews.writeViews := rfl

theorem beforeViews_cfg (s : State) : s.beforeViews.cfg = s.cfg :=
  (initLists_cfg _ _).trans (initLanes_cfg s.writeInUse _)

section Run

variable {s : State}

/-- A byte that lies in no part that is written. -/
theorem readByte_prepareRam_outside {x : Nat} (h1 : outsideArea x 0x30 8 = true)
    (h2 : ∀ l : Fin 16, outsideArea x (s.entry l + 8) 4 = true ∧ outsideArea x (s.entry l + 16) 16 = true)
    (h3 : outsideArea x s.cfg.faultLog 16 = true) (h4 : outsideArea x s.cfg.noteList 16 = true)
    (h5 : ∀ v : View, outsideArea x (s.viewBase v) (viewSize v) = true) : readByte s.prepareRam.ram x = readByte s.ram x := by
  rw [prepareRam_views, readByte_writeViews_outside _ (fun v => by rw [viewBase_congr (beforeViews_cfg s)]; exact h5 v),
    State.beforeViews, readByte_initLists_outside _ h3 h4,
    readByte_initLanes_outside s.writeInUse (ls := indices 16) (fun l _ => h2 l), readByte_writeInUse_outside s h1]

/-- A word apart from the lists and the views: it stands once the lanes have been prepared. -/
theorem prepareRam_peek_early {b : Nat} (h3 : b + 4 ≤ s.cfg.faultLog ∨ s.cfg.faultLog + 16 ≤ b)
    (h4 : b + 4 ≤ s.cfg.noteList ∨ s.cfg.noteList + 16 ≤ b)
    (h5 : ∀ v : View, b + 4 ≤ s.viewBase v ∨ s.viewBase v + viewSize v ≤ b) :
    s.prepareRam.peek b = (s.writeInUse.initLanes (indices 16)).peek b := by
  refine peek_congr fun i hi => ?_
  rw [prepareRam_views, readByte_writeViews_outside _ fun v => by
      have := h5 v
      rw [viewBase_congr (beforeViews_cfg s)]
      exact outsideArea_iff.mpr (by omega),
    State.beforeViews, readByte_initLists_outside _ (outsideArea_iff.mpr (by omega)) (outsideArea_iff.mpr (by omega))]

/-- A word apart from the views: it stands once the lists have been written. -/
theorem prepareRam_peek_lists {b : Nat} (h5 : ∀ v : View, b + 4 ≤ s.viewBase v ∨ s.viewBase v + viewSize v ≤ b) :
    s.prepareRam.peek b = s.beforeViews.peek b := by
  refine peek_congr fun i hi => ?_
  rw [prepareRam_views, readByte_writeViews_outside _ fun v => by
      have := h5 v
      rw [viewBase_congr (beforeViews_cfg s)]
      exact outsideArea_iff.mpr (by omega)]

section Placed

variable (hp : s.cfg.Placed)

include hp

/-- A word in an area other than a view's lies apart from the views. -/
theorem apart_of_views {i b : Nat} (hi : i = 0 ∨ i = 4 ∨ i = 5) (hb : s.cfg.offset i ≤ b ∧ b + 4 ≤ s.cfg.offset i + s.cfg.size i)
    (v : View) : b + 4 ≤ s.viewBase v ∨ s.viewBase v + viewSize v ≤ b := by
  have hv := viewArea_lt v
  have h1 := hp.word_apart (i := i) (k := viewArea v) (by omega) (by omega) (by omega) hb
  have h2 := viewArea_size s.cfg v
  rw [viewArea_offset] at h1
  omega

theorem anchor_apart_of_views {b : Nat} (hb : b + 4 ≤ 256) (v : View) :
    b + 4 ≤ s.viewBase v ∨ s.viewBase v + viewSize v ≤ b := by
  have h1 := hp.inside (viewArea v) (by have := viewArea_lt v; omega)
  rw [viewArea_offset] at h1
  omega

/-- The in-use words are the last written there (R9). -/
theorem prepareRam_peek_inUse {i : Nat} (hi : i < 2) : s.prepareRam.peek (0x30 + 4 * i)
    = [BitVec.ofNat 32 (s.cfg.delay + field s.cfg.latency 8),
       BitVec.ofNat 32 (s.cfg.faultCapacity + field s.cfg.noteCapacity 16)].getD i 0 := by
  have hlane := hp.inside 0 (by omega)
  have hfault := hp.inside 4 (by omega)
  have hnote := hp.inside 5 (by omega)
  simp only [RunConfig.offset] at hlane hfault hnote
  rw [prepareRam_peek_early (by omega) (by omega) (anchor_apart_of_views hp (by omega))]
  have hsize : Config.ramSize = 262144 := rfl
  rw [← peek_pokeAll s (a := 0x30) (ws := [_, _]) hi (by omega)]
  refine peek_congr fun k hk => readByte_initLanes_outside s.writeInUse fun l _ => ?_
  have he : s.writeInUse.entry l = s.cfg.laneTable + 32 * l.val := rfl
  rw [outsideArea_iff, outsideArea_iff]
  omega

/-- The cancel word and the part-written words of a lane entry are 0 (R11). -/
theorem prepareRam_peek_lane (l : Fin 16) {w : Nat} (hw : w ∈ laneWords) : s.prepareRam.peek (s.entry l + w) = 0 := by
  have hl := hp.inside 0 (by omega)
  have hsize : Config.ramSize = 262144 := rfl
  have he : s.entry l = s.cfg.laneTable + 32 * l.val := rfl
  have hw' : w ≤ 28 := by
    simp only [laneWords, List.mem_cons, List.not_mem_nil, or_false] at hw
    omega
  have hb : s.cfg.offset 0 ≤ s.entry l + w ∧ s.entry l + w + 4 ≤ s.cfg.offset 0 + s.cfg.size 0 := by
    simp only [RunConfig.offset, RunConfig.size]
    omega
  have h3 := hp.word_apart (k := 4) (by omega) (by omega) (by omega) hb
  have h4 := hp.word_apart (k := 5) (by omega) (by omega) (by omega) hb
  simp only [RunConfig.offset, RunConfig.size] at hl h3 h4
  rw [prepareRam_peek_early (by omega) (by omega) (apart_of_views hp (Or.inl rfl) hb)]
  exact initLanes_peek s.writeInUse (List.nodup_finRange 16) (List.mem_finRange l) (by rw [hsize]; show s.entry l + 32 ≤ _; omega) hw

/-- The two list headers hold their capacities and counts of 0 (R20). -/
theorem prepareRam_peek_headers {a n : Nat}
    (h : a = s.cfg.faultLog ∧ n = s.cfg.faultCapacity ∨ a = s.cfg.noteList ∧ n = s.cfg.noteCapacity) :
    s.prepareRam.peek a = BitVec.ofNat 32 n ∧ s.prepareRam.peek (a + 4) = 0 ∧ s.prepareRam.peek (a + 8) = 0
      ∧ s.prepareRam.peek (a + 12) = 0 := by
  have h4 := hp.inside 4 (by omega)
  have h5 := hp.inside 5 (by omega)
  have h45 := hp.apart 4 5 (by omega) (by omega) (by omega)
  have hsize : Config.ramSize = 262144 := rfl
  simp only [RunConfig.offset, RunConfig.size] at h4 h5 h45
  have hlists : ∀ w : Nat, w ≤ 12 → s.prepareRam.peek (a + w) = s.beforeViews.peek (a + w) := fun w hw => by
    refine prepareRam_peek_lists fun v => ?_
    obtain ⟨rfl, -⟩ | ⟨rfl, -⟩ := h
    · exact apart_of_views hp (i := 4) (by omega) (by simp only [RunConfig.offset, RunConfig.size]; omega) v
    · exact apart_of_views hp (i := 5) (by omega) (by simp only [RunConfig.offset, RunConfig.size]; omega) v
  have h0 := hlists 0 (by omega)
  rw [Nat.add_zero] at h0
  rw [h0, hlists 4 (by omega), hlists 8 (by omega), hlists 12 (by omega)]
  obtain ⟨rfl, rfl⟩ | ⟨rfl, rfl⟩ := h
  · have hnote : ∀ w : Nat, w ≤ 12 → s.beforeViews.peek (s.cfg.faultLog + w)
        = ((s.writeInUse.initLanes (indices 16)).initList s.cfg.faultLog s.cfg.faultCapacity).peek (s.cfg.faultLog + w) :=
      fun w hw => peek_of_outside (fun _ hx => readByte_initList_outside _ _ _ hx) (by omega)
    have hn0 := hnote 0 (by omega)
    rw [Nat.add_zero] at hn0
    rw [hn0, hnote 4 (by omega), hnote 8 (by omega), hnote 12 (by omega)]
    exact initList_peek _ _ (by omega)
  · exact initList_peek _ _ (by omega)

end Placed

/-- Everything the preparation of a run in RAM and its entry into RUNNING can change. -/
structure Prepares (t s : State) : Prop where
  only : t = { s with
    lanes := t.lanes, ram := t.ram, inputView := t.inputView, ringView := t.ringView, talkView := t.talkView
    sup := { s.sup with refreshAge := t.sup.refreshAge }
    regs := { s.regs with attention := t.regs.attention, runState := t.regs.runState, verdict := t.regs.verdict } }

theorem Prepares.trans {u t s : State} (h1 : Prepares u t) (h2 : Prepares t s) : Prepares u s := ⟨by rw [h1.only, h2.only]⟩

theorem Prepares.of_lanesOnly {t s : State} (h : t.lanesOnly s) : Prepares t s := by
  unfold State.lanesOnly at h
  exact ⟨by rw [h]⟩

theorem Prepares.of_showsOnly {t s : State} (h : ShowsOnly t s) : Prepares t s := ⟨by rw [h.only]⟩

theorem Prepares.viewBody {t s : State} (h : Prepares t s) (v : View) : t.viewBody v = s.viewBody v := by
  rw [h.only]; cases v <;> rfl

theorem Prepares.cfg {t s : State} (h : Prepares t s) : t.cfg = s.cfg := by rw [h.only]

theorem lanesOnly_initList (s : State) (base n : Nat) : (s.initList base n).lanesOnly s := rfl

theorem lanesOnly_beforeViews (s : State) : s.beforeViews.lanesOnly s :=
  (lanesOnly_initList _ _ _).trans ((lanesOnly_initList _ _ _).trans ((lanesOnly_initLanes _ _).trans rfl))

theorem view_of_lanesOnly {t s : State} (h : t.lanesOnly s) (v : View) : t.view v = s.view v := by
  unfold State.lanesOnly at h
  rw [h]; cases v <;> rfl

theorem beforeViews_view (s : State) (v : View) : s.beforeViews.view v = s.view v := view_of_lanesOnly (lanesOnly_beforeViews s) v

theorem beforeViews_viewWords (s : State) (v : View) : s.beforeViews.viewWords v = s.viewWords v := by
  rw [State.viewWords, beforeViews_view, (Prepares.of_lanesOnly (lanesOnly_beforeViews s)).viewBody, State.viewWords]

/-- Each view's words as a run begins (R21). -/
theorem prepareRam_peek_view (hp : s.cfg.Placed) {v : View} {i : Nat} (hi : i < (s.viewWords v).length) :
    s.prepareRam.peek (s.viewBase v + 4 * i) = (s.viewWords v).getD i 0 := by
  rw [prepareRam_views, ← viewBase_congr (beforeViews_cfg s), ← beforeViews_viewWords]
  refine writeViews_peek _ (RunConfig.Placed.viewsApart ?_) (by rwa [beforeViews_viewWords])
  rwa [beforeViews_cfg]

theorem prepares_prepareRam (s : State) : Prepares s.prepareRam s :=
  (Prepares.of_showsOnly (showsOnly_writeViews _)).trans (.of_lanesOnly (lanesOnly_beforeViews s))

theorem ShowsOnly.lane {t s : State} (h : ShowsOnly t s) (l : Fin 16) : t.lane l = s.lane l := by rw [h.only]; rfl

theorem initLists_lane (s : State) (c : RunConfig) (l : Fin 16) : (s.initLists c).lane l = s.lane l := rfl

theorem prepareRam_lane (l : Fin 16) : s.prepareRam.lane l = { lastSeen := s.writeInUse.postCount l } := by
  rw [prepareRam_views, (showsOnly_writeViews _).lane, State.beforeViews, initLists_lane]
  exact initLanes_lane s.writeInUse (Or.inl (List.mem_finRange l))

end Run

/-! ### RUNNING (R10) -/

theorem prepares_attend (s : State) (i : Nat) : Prepares (s.attend i) s := .of_lanesOnly (worksOn_attend 0 s i).only

theorem enterRunning_ram (s : State) : s.enterRunning.ram = s.ram := by
  rw [State.enterRunning, attend_ram, attend_ram, attend_ram]

theorem enterRunning_view (s : State) (v : View) : s.enterRunning.view v = s.view v := by
  rw [State.enterRunning, attend_view, attend_view, attend_view]
  cases v <;> rfl

/-- RUNNING, with the three views' bits of ATTENTION. -/
theorem enterRunning_eq (s : State) : s.enterRunning = { s with
    regs := { s.regs with
      runState := .running, verdict := .anchorOk
      attention := setBit (setBit (setBit s.regs.attention 21) 18) 20 } } := rfl

theorem prepares_enterRunning (s : State) : Prepares s.enterRunning s := by
  rw [enterRunning_eq]
  exact ⟨rfl⟩

theorem enterRunning_attention (s : State) (v : View) : s.enterRunning.regs.attention.getLsbD (viewBit v) = true := by
  rw [enterRunning_eq]
  simp only [getLsbD_setBit]
  cases v <;> simp [viewBit]

theorem enterRunning_lane (s : State) (l : Fin 16) : s.enterRunning.lane l = s.lane l := by rw [enterRunning_eq]; rfl

theorem prepares_beginRun (s : State) (c : RunConfig) : Prepares (s.beginRun c) (s.prepareBlocks c) :=
  (prepares_enterRunning _).trans (prepares_prepareRam _)

theorem beginRun_peek (s : State) (c : RunConfig) (a : Nat) : (s.beginRun c).peek a = (s.prepareBlocks c).prepareRam.peek a :=
  peek_congr fun _ _ => by rw [State.beginRun, enterRunning_ram]

/-- The map a run begins with, entry by entry (R10). -/
theorem startMap_get (identity : Bool) (slotCount : Nat) (i : Fin 64) : (startMap identity slotCount).get i
    = if identity = true ∧ i.val < slotCount then { current := .localInput i, next := none, gain := 48 }
      else { current := .silent, next := none, gain := 48 } := by
  have hi : index? 64 i.val = some i := by simp [index?]
  have hsilent : ∀ f : Fade SlotSource, (Vector.replicate 64 f : Bank 64 (Fade SlotSource)).get i = f := fun f => by
    simp [Bank.get_eq]
  rw [startMap, Bank.mapNum_get, hi, hsilent]
  simp only [Bool.and_eq_true, decide_eq_true_eq]
  rfl

/-! ### The run state a good anchor gives -/

section Begun

variable (s : State) (c : RunConfig)

theorem prepareBlocks_peek (a : Nat) : (s.prepareBlocks c).peek a = s.peek a := rfl

theorem beginRun_cfg : (s.beginRun c).cfg = c := (prepares_beginRun s c).cfg

theorem beginRun_view (v : View) : (s.beginRun c).view v = (s.view v).rewritten := by
  rw [State.beginRun, enterRunning_view, prepareRam_views, writeViews_view, beforeViews_view]
  cases v <;> rfl

/-- The fields of the blocks that a run begins with (R10, R105). -/
theorem beginRun_blocks : (s.beginRun c).clock = { s.clock with state := if c.id = 0 then .master else .deputy }
    ∧ (s.beginRun c).ports = ⟨{ s.ports.east with state := .acquire }, { s.ports.west with state := .acquire }⟩
    ∧ (s.beginRun c).mix = { s.mix with mixes := Bank.mapAll (fun x : Mix => { x with controller := c.id }) s.mix.mixes }
    ∧ (s.beginRun c).merge
        = { s.merge with delay := c.delay, point := minusFrames s.clock.frame c.delay + 1, playedNow := true }
    ∧ (s.beginRun c).xmit = startMap c.identity c.slotCount
    ∧ (s.beginRun c).conv.schedule = (if c.id = 0 then resetWords s.clock.frame else s.conv.schedule) := by
  rw [(prepares_beginRun s c).only]
  exact ⟨rfl, rfl, rfl, rfl, rfl, rfl⟩

theorem beginRun_scan : (s.beginRun c).built = true ∧ (s.beginRun c).scanDue = false ∧ (s.beginRun c).scanPhase = 23 := by
  rw [(prepares_beginRun s c).only]
  exact ⟨rfl, rfl, rfl⟩

theorem beginRun_regs : (s.beginRun c).regs.runState = .running ∧ (s.beginRun c).regs.verdict = .anchorOk
    ∧ (s.beginRun c).regs.run = s.regs.run ∧ (s.beginRun c).regs.mask = s.regs.mask := by
  refine ⟨?_, ?_, ?_, ?_⟩
  · rw [State.beginRun, enterRunning_eq]
  · rw [State.beginRun, enterRunning_eq]
  · rw [(prepares_beginRun s c).only]; rfl
  · rw [(prepares_beginRun s c).only]; rfl

theorem beginRun_attention (v : View) : (s.beginRun c).regs.attention.getLsbD (viewBit v) = true := enterRunning_attention _ v

theorem beginRun_ram : (s.beginRun c).ram = (s.prepareBlocks c).prepareRam.ram := by rw [State.beginRun, enterRunning_ram]

theorem beginRun_lane (hp : c.Placed) (l : Fin 16) :
    (s.beginRun c).lane l = { lastSeen := s.peek (c.laneTable + 32 * l.val + 4) } := by
  have hl := hp.inside 0 (by omega)
  simp only [RunConfig.offset] at hl
  rw [State.beginRun, enterRunning_lane, prepareRam_lane]
  congr 1
  exact peek_of_outside (fun _ hx => readByte_writeInUse_outside (s.prepareBlocks c) hx)
    (Or.inr (show 48 + 8 ≤ c.laneTable + 32 * l.val + 4 by omega))

end Begun

/-- The in-use words of a run, in the anchor (R9). -/
theorem beginRun_peek_inUse (s : State) {c : RunConfig} (hp : c.Placed) :
    (s.beginRun c).peek 0x30 = BitVec.ofNat 32 (c.delay + 256 * c.latency)
      ∧ (s.beginRun c).peek 0x34 = BitVec.ofNat 32 (c.faultCapacity + 65536 * c.noteCapacity) := by
  rw [beginRun_peek, beginRun_peek]
  have h0 := prepareRam_peek_inUse (s := s.prepareBlocks c) hp (i := 0) (by omega)
  have h1 := prepareRam_peek_inUse (s := s.prepareBlocks c) hp (i := 1) (by omega)
  rw [field_eq, field_eq] at h0 h1
  exact ⟨h0, h1⟩

/-- The words of a view as a run begins. -/
theorem beginRun_peek_view (s : State) {c : RunConfig} (hp : c.Placed) (v : View) :
    (s.beginRun c).peek ((s.prepareBlocks c).viewBase v) = (s.view v).count + 2
      ∧ ∀ i : Nat, i < ((s.beginRun c).viewBody v).length →
        (s.beginRun c).peek ((s.prepareBlocks c).viewBase v + 4 + 4 * i) = ((s.beginRun c).viewBody v).getD i 0 := by
  have hview : (s.prepareBlocks c).view v = s.view v := by cases v <;> rfl
  have hword := fun i hi => prepareRam_peek_view (s := s.prepareBlocks c) hp (v := v) (i := i) hi
  rw [(prepares_beginRun s c).viewBody]
  refine ⟨?_, fun i hi => ?_⟩
  · rw [beginRun_peek, ← hview]
    exact hword 0 (Nat.succ_pos _)
  · rw [beginRun_peek, show (s.prepareBlocks c).viewBase v + 4 + 4 * i = (s.prepareBlocks c).viewBase v + 4 * (i + 1) by omega]
    exact hword (i + 1) (Nat.succ_lt_succ hi)

/-- The rest of the anchor stands. -/
theorem readByte_beginRun_anchor (s : State) {c : RunConfig} (hp : c.Placed) {x : Nat} (hx : x < 256)
    (h : outsideArea x 0x30 8 = true) : readByte (s.beginRun c).ram x = readByte s.ram x := by
  have hlane : 256 ≤ c.laneTable ∧ _ := hp.inside 0 (by omega)
  have hfault : 256 ≤ c.faultLog ∧ _ := hp.inside 4 (by omega)
  have hnote : 256 ≤ c.noteList ∧ _ := hp.inside 5 (by omega)
  rw [beginRun_ram]
  refine readByte_prepareRam_outside (s := s.prepareBlocks c) h (fun l => ?_) (outsideArea_iff.mpr (Or.inl ?_))
    (outsideArea_iff.mpr (Or.inl ?_)) fun v => outsideArea_iff.mpr (Or.inl ?_)
  · have he : (s.prepareBlocks c).entry l = c.laneTable + 32 * l.val := rfl
    rw [outsideArea_iff, outsideArea_iff]
    omega
  · exact Nat.lt_of_lt_of_le hx hfault.1
  · exact Nat.lt_of_lt_of_le hx hnote.1
  · have hv := hp.inside (viewArea v) (by have := viewArea_lt v; omega)
    rw [show c.offset (viewArea v) = (s.prepareBlocks c).viewBase v from viewArea_offset (s.prepareBlocks c) v] at hv
    omega

/-- The values in use, by the words of the anchor (R8, R9). -/
theorem configOf_words {words : List Word} {w : Nat → Nat} (h : verdictOf words = .anchorOk)
    (hw : ∀ i : Nat, w i = (words.getD i 0).toNat) :
    (configOf words).id.val = w 2 % 256 ∧ (configOf words).slotCount = w 2 / 256 % 256
      ∧ (configOf words).talkSlot = (if w 2 / 65536 % 256 = 255 then none else some (w 2 / 65536 % 256))
      ∧ (configOf words).identity = decide (w 2 / 2 ^ 24 % 2 = 1) ∧ (configOf words).delay = max 8 (min (w 3 % 256) 63)
      ∧ (configOf words).latency = min (w 3 / 256 % 256) 63
      ∧ (configOf words).faultCapacity = max 8 (min (w 10 % 65536) 256)
      ∧ (configOf words).noteCapacity = max 4 (min (w 10 / 65536) 64)
      ∧ (configOf words).laneTable = w 4 ∧ (configOf words).inputView = w 5 ∧ (configOf words).ringView = w 6
      ∧ (configOf words).talkView = w 7 ∧ (configOf words).faultLog = w 8 ∧ (configOf words).noteList = w 9 := by
  have harea : ∀ i : Nat, anchorField words (4 + i) 0 32 = w (4 + i) := fun i => by rw [anchorField_whole, hw]
  refine ⟨by rw [configOf_id h, hw], by rw [hw]; rfl, by rw [hw]; rfl, by rw [hw]; rfl, ?_, ?_, ?_, ?_,
    harea 0, harea 1, harea 2, harea 3, harea 4, harea 5⟩
  · rw [hw]
    exact congrArg (fun n => max 8 (min n 63)) (anchorField_low 3 8)
  · rw [hw]; exact Nat.zero_max _
  · rw [hw]
    exact congrArg (fun n => max 8 (min n 256)) (anchorField_low 10 16)
  · rw [hw]
    exact congrArg (fun n => max 4 (min n 64)) (anchorField_high rfl)

/-- Settles O6: the bus values of the two registers, and FRAME's part in each command that could move it. -/
theorem identAndFrameReadOnly : Obligations.IdentAndFrameReadOnly := by
  refine ⟨fun _ _ _ => rfl, fun _ => ⟨rfl, rfl⟩, fun contents s t h => ?_, fun _ => ⟨rfl, rfl⟩, fun _ h => tick_frame_idle h,
    fun s c => ?_, fun _ hl h => tick_frame_running hl h⟩
  · obtain rfl : s.poweredOn s.resetLow (ramOf contents) ⟨{}, {}⟩ (if s.resetLow then [] else resetWords 0) = t :=
      Host.Outcome.next.inj h
    rfl
  · rw [(beginRun_blocks s c).1]

/-- Settles O9, by what each part of the preparation writes and leaves. -/
theorem goodAnchorStartsRun : Obligations.GoodAnchorStartsRun := by
  have hexec : ∀ s : State, s.regs.runState = .starting → verdictOf s.anchor = .anchorOk →
      exec .anchorCheck s = .next (s.beginRun (configOf s.anchor)) := fun s hs hv => by
    rw [execAnchorCheck_starting hs, checkAnchor_good hv]
  refine ⟨⟨fun s hs hv => ⟨_, hexec s hs hv, ?_⟩, fun s hs hv => ⟨_, hexec s hs hv, ?_⟩⟩,
    fun s w hs hv hw => ⟨_, configOf s.anchor, hexec s hs hv, beginRun_cfg _ _, ?_⟩⟩
  · have hp := placed_of_good hv
    obtain ⟨hrs, hvd, hrun, hmask⟩ := beginRun_regs s (configOf s.anchor)
    obtain ⟨hclock, hports, -⟩ := beginRun_blocks s (configOf s.anchor)
    obtain ⟨h30, h34⟩ := beginRun_peek_inUse s hp
    have hatt := beginRun_attention s (configOf s.anchor)
    rw [beginRun_cfg, State.port, State.port, hclock, hports]
    exact ⟨hrs, hvd, hrun, hmask, rfl, rfl, rfl, rfl, rfl, h30, h34, fun l => beginRun_lane s _ hp l, hatt .ring, hatt .talk, hatt .input,
      fun a ha h => readByte_beginRun_anchor s hp ha h⟩
  · obtain ⟨hclock, -, hmix, hmerge, -, hconv⟩ := beginRun_blocks s (configOf s.anchor)
    obtain ⟨hbuilt, hdue, hphase⟩ := beginRun_scan s (configOf s.anchor)
    rw [beginRun_cfg, hmerge, hclock, hconv, hbuilt, hdue, hphase]
    refine ⟨fun m => ?_, rfl, rfl, rfl, rfl, rfl, rfl, rfl⟩
    rw [State.mixRec, hmix]
    exact Bank.mapAll_get _ _ m
  · have hp := placed_of_good hv
    obtain ⟨-, -, -, -, hxmit, -⟩ := beginRun_blocks s (configOf s.anchor)
    obtain ⟨hid, hslots, htalk, hident, hdelay, hlat, hfault, hnote, h4, h5, h6, h7, h8, h9⟩ := configOf_words hv hw
    refine ⟨hid, hslots, htalk, hident, hdelay, hlat, h4, h5, h6, h7, h8, h9, hfault, hnote, fun l entry he => ?_, fun a n han => ?_,
      fun i => ?_, fun v a ha hc => ?_, fun a ha hl hi hr ht hf hn => ?_⟩
    · rw [← h4] at he
      have hz : ∀ k ∈ laneWords, (s.beginRun (configOf s.anchor)).peek (entry + k) = 0 := fun k hk => by
        rw [beginRun_peek, he]
        exact prepareRam_peek_lane (s := s.prepareBlocks _) hp l hk
      exact ⟨hz 8 (by decide), hz 16 (by decide), hz 20 (by decide), hz 24 (by decide), hz 28 (by decide)⟩
    · rw [← h8, ← h9] at han
      simp only [beginRun_peek]
      exact prepareRam_peek_headers (s := s.prepareBlocks _) hp han
    · rw [hxmit, startMap_get]
    · rw [← h5, ← h6, ← h7] at ha
      have hbase : a = (s.prepareBlocks (configOf s.anchor)).viewBase v := by
        obtain ⟨rfl, rfl⟩ | ⟨rfl, rfl⟩ | ⟨rfl, rfl⟩ := ha <;> rfl
      have hview : (s.prepareBlocks (configOf s.anchor)).view v = s.view v := by cases v <;> rfl
      obtain ⟨hcount, hbody⟩ := beginRun_peek_view s hp v
      rw [hbase, beginRun_view, hcount, hc]
      exact ⟨rfl, by rw [ViewRec.rewritten, hc]; rfl, hbody⟩
    · rw [beginRun_ram]
      rw [← h8] at hf
      rw [← h9] at hn
      rw [← h5] at hi
      rw [← h6] at hr
      rw [← h7] at ht
      rw [← h4] at hl
      refine readByte_prepareRam_outside (s := s.prepareBlocks _) ha hl hf hn fun v => ?_
      cases v with
      | input => exact hi
      | ring => exact hr
      | talk => exact ht

end Sys2Proof.Machine

/-!
The lane engine's operations one by one (spec 01, R11 to R16): the lane context each leaves, the words of the entry and of the step
headers it writes, and the bytes it leaves.
-/

namespace Sys2Proof.Machine

set_option Elab.async false

/-! ### Entry words that change -/

theorem pokeChanged_only (t : State) (a : Nat) (os ns : List Word) :
    t.pokeChanged a os ns = { t with ram := (t.pokeChanged a os ns).ram } := by
  induction os generalizing t a ns with
  | nil => rfl
  | cons o os ih =>
    cases ns with
    | nil => rfl
    | cons n ns =>
      rw [State.pokeChanged, ih]
      split <;> rfl

theorem pokeChanged_same (t : State) (a : Nat) (ws : List Word) : t.pokeChanged a ws ws = t := by
  induction ws generalizing t a with
  | nil => rfl
  | cons w ws ih => rw [State.pokeChanged, if_pos rfl, ih]

theorem readByte_pokeChanged_outside (t : State) {a x : Nat} {os ns : List Word} (h : outsideArea x a (4 * os.length) = true) :
    readByte (t.pokeChanged a os ns).ram x = readByte t.ram x := by
  induction os generalizing t a ns with
  | nil => rfl
  | cons o os ih =>
    rw [outsideArea_iff, List.length_cons] at h
    cases ns with
    | nil => rfl
    | cons n ns =>
      rw [State.pokeChanged, ih _ (outsideArea_iff.mpr (by omega))]
      split
      · rfl
      · exact readByte_poke_outside t (outsideArea_iff.mpr (by omega))

/-- A word is written where it differs from what it was. -/
theorem pokeChanged_peek (t : State) {a : Nat} {os ns : List Word} (hlen : os.length = ns.length) {i : Nat} (hi : i < os.length)
    (h : a + 4 * i + 4 ≤ Config.ramSize) :
    (t.pokeChanged a os ns).peek (a + 4 * i) = if os.getD i 0 = ns.getD i 0 then t.peek (a + 4 * i) else ns.getD i 0 := by
  induction os generalizing t a ns i with
  | nil => cases hi
  | cons o os ih =>
    cases ns with
    | nil => cases hlen
    | cons n ns =>
      rw [State.pokeChanged]
      cases i with
      | zero =>
        rw [peek_of_outside (fun x hx => readByte_pokeChanged_outside _ hx) (by omega)]
        simp only [List.getD_cons_zero]
        split
        · rfl
        · exact peek_poke t a n (by omega)
      | succ i =>
        rw [show a + 4 * (i + 1) = a + 4 + 4 * i by omega, ih _ (Nat.succ_inj.mp hlen) (Nat.lt_of_succ_lt_succ hi) (by omega)]
        simp only [List.getD_cons_succ]
        split
        · split
          · rfl
          · exact peek_poke_apart t (by omega)
        · rfl

/-! ### A lane's context and entry (R11) -/

theorem peek_withLanes (s : State) (v : Bank 16 Lane) (a : Nat) : ({ s with lanes := v } : State).peek a = s.peek a := rfl

section SetLane

variable (s : State) (l : Fin 16) (x : Lane)

theorem setLane_only : s.setLane l x = { s with lanes := s.lanes.set l x, ram := (s.setLane l x).ram } := pokeChanged_only _ _ _ _

theorem setLane_entry (k : Fin 16) : (s.setLane l x).entry k = s.entry k := entry_congr (by rw [setLane_only]) k

theorem setLane_regs : (s.setLane l x).regs = s.regs := by rw [setLane_only]

theorem readByte_setLane_outside {a : Nat} (h : outsideArea a (s.entry l + 16) 16 = true) :
    readByte (s.setLane l x).ram a = readByte s.ram a :=
  readByte_pokeChanged_outside _ h

theorem peek_setLane_apart {b : Nat} (h : b + 4 ≤ s.entry l + 16 ∨ s.entry l + 32 ≤ b) : (s.setLane l x).peek b = s.peek b :=
  peek_of_outside (fun _ hx => readByte_setLane_outside s l x hx) (by omega)

theorem setLane_postCount (k : Fin 16) : (s.setLane l x).postCount k = s.postCount k := by
  have hl : s.entry l = s.cfg.laneTable + 32 * l.val := rfl
  have hk : s.entry k = s.cfg.laneTable + 32 * k.val := rfl
  rw [State.postCount, setLane_entry, peek_setLane_apart s l x (by omega)]
  rfl

/-- A context whose words are those of the old one writes no RAM. -/
theorem setLane_same_words (h : (s.lane l).words = x.words) : s.setLane l x = { s with lanes := s.lanes.set l x } := by
  rw [State.setLane, h, pokeChanged_same]

/-- Word i of the part-written words of the entry. -/
theorem setLane_peek {i : Nat} (hi : i < 4) (h : s.entry l + 32 ≤ Config.ramSize) :
    (s.setLane l x).peek (s.entry l + 16 + 4 * i)
      = if (s.lane l).words.getD i 0 = x.words.getD i 0 then s.peek (s.entry l + 16 + 4 * i) else x.words.getD i 0 := by
  have hlen : (s.lane l).words.length = x.words.length := rfl
  rw [State.setLane, pokeChanged_peek _ hlen hi (by omega), peek_withLanes]

theorem setLane_lane_other {k : Fin 16} (h : k ≠ l) : (s.setLane l x).lane k = s.lane k := (worksOn_setLane s l x).others k h

end SetLane

/-- Two contexts set one after the other. -/
theorem lanes_set_set (v : Bank 16 Lane) (l : Fin 16) (x y : Lane) : (v.set l x).set l y = v.set l y := by
  apply Bank.ext_get
  intro k
  simp only [Bank.set_get]
  split <;> rfl

/-! ### A faulty address (R13) -/

section HaltAt

variable (s : State) (l : Fin 16) (a : Nat)

theorem poke_lane (b : Nat) (w : Word) (k : Fin 16) : (s.poke b w).lane k = s.lane k := rfl

theorem pokeAll_lane (b : Nat) (ws : List Word) (k : Fin 16) : (s.pokeAll b ws).lane k = s.lane k := rfl

theorem attend_lane (i : Nat) (k : Fin 16) : (s.attend i).lane k = s.lane k := by
  unfold State.attend
  split <;> rfl

theorem attend_peek (i b : Nat) : (s.attend i).peek b = s.peek b := peek_congr fun _ _ => by rw [attend_ram]

theorem haltAt_lane : (s.haltAt l a).lane l
    = { s.lane l with state := .halted, activity := .none, current := a, lastStatus := .badStep, lastDetail := 5 } := by
  rw [State.haltAt, attend_lane, pokeAll_lane, setLane_lane]

theorem isRunning_of_lanesOnly {t s : State} (h : t.lanesOnly s) : t.isRunning = s.isRunning := by
  unfold State.lanesOnly at h
  rw [h]; rfl

theorem haltAt_attention (h : s.isRunning = true) : (s.haltAt l a).regs.attention.getLsbD l.val = true := by
  have hl : l.val < 23 := by omega
  have ho : ∀ (x : Lane) (b : Nat) (ws : List Word), ((s.setLane l x).pokeAll b ws).lanesOnly s :=
    fun x b ws => (worksOn_pokeAll l _ b ws).only.trans (worksOn_setLane s l x).only
  exact attend_getLsbD_self ((isRunning_of_lanesOnly (ho ..)).trans h) hl

theorem readByte_haltAt_outside {b : Nat} (h : outsideArea b (s.entry l + 16) 16 = true) :
    readByte (s.haltAt l a).ram b = readByte s.ram b := by
  have h' := outsideArea_iff.mp h
  rw [State.haltAt, attend_ram, readByte_pokeAll_outside _ (outsideArea_iff.mpr (by simp only [List.length_cons, List.length_nil]; omega)),
    readByte_setLane_outside s l _ h]

/-- The entry of a lane halted at a faulty address, whatever it held. -/
theorem haltAt_peek (h : s.entry l + 32 ≤ Config.ramSize) {i : Nat} (hi : i < 3) :
    (s.haltAt l a).peek (s.entry l + 20 + 4 * i) = [snap LaneState.halted.code, snap a, resultWord .badStep 5].getD i 0 := by
  rw [State.haltAt, attend_peek]
  exact peek_pokeAll _ hi (by omega)

end HaltAt

/-! ### A step begun (R13) -/

section BeginAt

variable {s : State} {l : Fin 16} {a : Nat}

/-- A lane's context as a step begins. -/
def Lane.begun (x : Lane) (a : Nat) : Lane :=
  { x with state := .running, activity := .joining {} a, current := a, parked := none, age := 0
           firstChange := Vector.replicate 8 none }

theorem beginAt_bad (h : linkBad a = true) : s.beginAt l a = s.haltAt l a := if_pos h

theorem beginAt_good (h : linkBad a = false) :
    s.beginAt l a = (s.setLane l ((s.lane l).begun a)).pokeAll (s.entry l + 20) [snap LaneState.running.code, snap a] :=
  if_neg (by simp [h])

theorem beginAt_lane (h : linkBad a = false) : (s.beginAt l a).lane l = (s.lane l).begun a := by
  rw [beginAt_good h, pokeAll_lane, setLane_lane]

/-- A good step's begin changes lane contexts and RAM alone. -/
theorem beginAt_only (h : linkBad a = false) :
    s.beginAt l a = { s with lanes := s.lanes.set l ((s.lane l).begun a), ram := (s.beginAt l a).ram } := by
  rw [beginAt_good h, setLane_only]
  rfl

theorem readByte_beginAt_outside {b : Nat} (h : outsideArea b (s.entry l + 16) 16 = true) :
    readByte (s.beginAt l a).ram b = readByte s.ram b := by
  have h' := outsideArea_iff.mp h
  by_cases hb : linkBad a = true
  · rw [beginAt_bad hb, readByte_haltAt_outside s l a h]
  · rw [beginAt_good (by simpa using hb),
      readByte_pokeAll_outside _ (outsideArea_iff.mpr (by simp only [List.length_cons, List.length_nil]; omega)),
      readByte_setLane_outside s l _ h]

theorem beginAt_peek (hb : linkBad a = false) (h : s.entry l + 32 ≤ Config.ramSize) {i : Nat} (hi : i < 2) :
    (s.beginAt l a).peek (s.entry l + 20 + 4 * i) = [snap LaneState.running.code, snap a].getD i 0 := by
  rw [beginAt_good hb, peek_pokeAll _ hi (by omega)]

end BeginAt

/-! ### Result fields (R14, R15) -/

section Results

variable (s : State) (st : Status) (d : Nat) (n : Word)

theorem writeResults_only (steps : List Nat) :
    s.writeResults st d n steps = { s with ram := (s.writeResults st d n steps).ram } := by
  induction steps generalizing s with
  | nil => rfl
  | cons a steps ih => rw [State.writeResults, ih]; rfl

theorem readByte_writeResults_outside {steps : List Nat} {x : Nat} (h : ∀ i ∈ steps, outsideArea x (i + 16) 12 = true) :
    readByte (s.writeResults st d n steps).ram x = readByte s.ram x := by
  induction steps generalizing s with
  | nil => rfl
  | cons a steps ih =>
    rw [State.writeResults, ih _ fun i hi => h i (List.mem_cons_of_mem _ hi)]
    exact readByte_pokeAll_outside s (h a (List.mem_cons_self ..))

/-- The three result words of a step: status with detail, count, end frame. -/
def State.resultWords (s : State) (st : Status) (d : Nat) (n : Word) : List Word := [resultWord st d, n, s.clock.frame]

/-- The result fields of the steps of a join whose headers lie apart from each other. -/
theorem writeResults_peek {steps : List Nat} (hp : steps.Pairwise fun i k => i + 32 ≤ k ∨ k + 32 ≤ i) {a : Nat} (ha : a ∈ steps)
    (h : a + 28 ≤ Config.ramSize) {i : Nat} (hi : i < 3) :
    (s.writeResults st d n steps).peek (a + 16 + 4 * i) = (s.resultWords st d n).getD i 0 := by
  induction steps generalizing s with
  | nil => cases ha
  | cons b steps ih =>
    obtain ⟨hb, hrest⟩ := List.pairwise_cons.mp hp
    rw [State.writeResults]
    obtain rfl | ha := List.mem_cons.mp ha
    · rw [← peek_pokeAll s (a := a + 16) (ws := s.resultWords st d n) hi (by omega)]
      refine peek_congr fun k hk => readByte_writeResults_outside _ st d n fun c hc => outsideArea_iff.mpr ?_
      have := hb c hc
      omega
    · exact ih (s.pokeAll (b + 16) [resultWord st d, n, s.clock.frame]) hrest ha

end Results

/-! ### The end of a step, up to where the lane goes (R14) -/

/-- An ATTENTION bit that a test sets. -/
def State.attendIf (s : State) (c : Bool) (i : Nat) : State := if c then s.attend i else s

theorem attendIf_lane (s : State) (c : Bool) (i : Nat) (k : Fin 16) : (s.attendIf c i).lane k = s.lane k := by
  unfold State.attendIf
  split
  · exact attend_lane s i k
  · rfl

theorem attendIf_ram (s : State) (c : Bool) (i : Nat) : (s.attendIf c i).ram = s.ram := by
  unfold State.attendIf
  split
  · exact attend_ram s i
  · rfl

theorem attendIf_peek (s : State) (c : Bool) (i b : Nat) : (s.attendIf c i).peek b = s.peek b :=
  peek_congr fun _ _ => by rw [attendIf_ram]

/-- The done count takes its new value, in the context and in the entry at e, whatever it held. -/
def State.countDone (s : State) (l : Fin 16) (e : Nat) (done : Word) : State :=
  (s.setLane l { s.lane l with done := done }).poke (e + 16) done

/-- A lane's context with the status and detail of a finished step; the step has no message or request in hand any more. -/
def Lane.ended (x : Lane) (st : Status) (d : Nat) : Lane :=
  { x with lastStatus := st, lastDetail := d, held := none, want := none }

/-- The last status is noted, in the context and in the entry at e, whatever it held. -/
def State.noteStatus (s : State) (l : Fin 16) (e : Nat) (st : Status) (d : Nat) : State :=
  (s.setLane l ((s.lane l).ended st d)).poke (e + 28) (resultWord st d)

/-- A lane's context once a join of a number of steps has finished. -/
def Lane.closed (x : Lane) (steps : Nat) (st : Status) (d : Nat) : Lane :=
  { x with done := x.done + BitVec.ofNat 32 steps, lastStatus := st, lastDetail := d, held := none, want := none }

section CloseJoin

variable (s : State) (l : Fin 16) (j : Join) (st : Status) (d : Nat) (n : Word)

/-- The parts of a join's end: results, done count, last status, ATTENTION. -/
theorem closeJoin_eq : s.closeJoin l j st d n
    = (((s.writeResults st d n j.steps).countDone l ((s.writeResults st d n j.steps).entry l)
        (((s.writeResults st d n j.steps).lane l).done + BitVec.ofNat 32 j.steps.length)).noteStatus l
          ((s.writeResults st d n j.steps).entry l) st d).attendIf (j.notify || !st.good) l.val := rfl

theorem writeResults_lane (steps : List Nat) (k : Fin 16) : (s.writeResults st d n steps).lane k = s.lane k := by
  rw [writeResults_only]; rfl

theorem writeResults_entry (steps : List Nat) (k : Fin 16) : (s.writeResults st d n steps).entry k = s.entry k := by
  rw [writeResults_only]; rfl

theorem countDone_lane (e : Nat) (done : Word) : (s.countDone l e done).lane l = { s.lane l with done := done } := by
  rw [State.countDone, poke_lane, setLane_lane]

theorem noteStatus_lane (e : Nat) : (s.noteStatus l e st d).lane l = (s.lane l).ended st d := by
  rw [State.noteStatus, poke_lane, setLane_lane]

theorem countDone_entry (e : Nat) (done : Word) (k : Fin 16) : (s.countDone l e done).entry k = s.entry k := by
  rw [State.countDone, ← setLane_entry s l { s.lane l with done := done } k]
  rfl

theorem closeJoin_lane : (s.closeJoin l j st d n).lane l = (s.lane l).closed j.steps.length st d := by
  rw [closeJoin_eq, attendIf_lane, noteStatus_lane, countDone_lane, writeResults_lane]
  rfl

theorem closeJoin_entry (k : Fin 16) : (s.closeJoin l j st d n).entry k = s.entry k :=
  entry_congr (cfg_of_lanesOnly (worksOn_closeJoin s l j st d n).only) k

theorem closeJoin_isRunning : (s.closeJoin l j st d n).isRunning = s.isRunning :=
  isRunning_of_lanesOnly (worksOn_closeJoin s l j st d n).only

/-- A status other than OK and PARTIAL, and a NOTIFY, set the lane's ATTENTION bit. -/
theorem closeJoin_attention (hrun : s.isRunning = true) (h : j.notify = true ∨ st.good = false) :
    (s.closeJoin l j st d n).regs.attention.getLsbD l.val = true := by
  have hc : (j.notify || !st.good) = true := by
    obtain h | h := h <;> simp [h]
  have hl : l.val < 23 := by omega
  have ho : ∀ (e e' : Nat) (done : Word), (((s.writeResults st d n j.steps).countDone l e done).noteStatus l e' st d).lanesOnly s :=
    fun e e' done => (worksOn_poke l _ _ _).only.trans ((worksOn_setLane _ l _).only.trans
      ((worksOn_poke l _ _ _).only.trans ((worksOn_setLane _ l _).only.trans (worksOn_writeResults l s st d n j.steps).only)))
  rw [closeJoin_eq, State.attendIf, hc, if_pos rfl]
  exact attend_getLsbD_self ((isRunning_of_lanesOnly (ho ..)).trans hrun) hl

theorem readByte_countDone_outside (done : Word) {x : Nat} (h : outsideArea x (s.entry l + 16) 16 = true) :
    readByte (s.countDone l (s.entry l) done).ram x = readByte s.ram x := by
  have h' := outsideArea_iff.mp h
  rw [State.countDone, readByte_poke_outside _ (outsideArea_iff.mpr (by omega)), readByte_setLane_outside s l _ h]

theorem readByte_noteStatus_outside {x : Nat} (h : outsideArea x (s.entry l + 16) 16 = true) :
    readByte (s.noteStatus l (s.entry l) st d).ram x = readByte s.ram x := by
  have h' := outsideArea_iff.mp h
  rw [State.noteStatus, readByte_poke_outside _ (outsideArea_iff.mpr (by omega)), readByte_setLane_outside s l _ h]

/-- The RAM of a closed join: its steps' results, then words of the lane's entry. -/
theorem readByte_closeJoin {x : Nat} (h : outsideArea x (s.entry l + 16) 16 = true) :
    readByte (s.closeJoin l j st d n).ram x = readByte (s.writeResults st d n j.steps).ram x := by
  have he : (s.writeResults st d n j.steps).entry l = s.entry l := writeResults_entry s st d n j.steps l
  rw [closeJoin_eq, attendIf_ram, he]
  generalize s.writeResults st d n j.steps = t at he ⊢
  rw [← he] at h ⊢
  rw [← countDone_entry t l (t.entry l) ((t.lane l).done + BitVec.ofNat 32 j.steps.length) l] at h
  have h2 := readByte_noteStatus_outside (t.countDone l (t.entry l) ((t.lane l).done + BitVec.ofNat 32 j.steps.length)) l st d h
  rw [countDone_entry] at h h2
  rw [h2, readByte_countDone_outside t l _ h]

theorem readByte_closeJoin_outside {x : Nat} (h : outsideArea x (s.entry l + 16) 16 = true)
    (hs : ∀ i ∈ j.steps, outsideArea x (i + 16) 12 = true) :
    readByte (s.closeJoin l j st d n).ram x = readByte s.ram x := by
  rw [readByte_closeJoin s l j st d n h, readByte_writeResults_outside s st d n hs]

/-- The result fields of a closed join's steps, where they lie apart from the lane's entry and from each other. -/
theorem closeJoin_peek_step (hp : j.steps.Pairwise fun i k => i + 32 ≤ k ∨ k + 32 ≤ i) {a : Nat} (ha : a ∈ j.steps)
    (h : a + 28 ≤ Config.ramSize) (he : a + 28 ≤ s.entry l + 16 ∨ s.entry l + 32 ≤ a + 16) {i : Nat} (hi : i < 3) :
    (s.closeJoin l j st d n).peek (a + 16 + 4 * i) = (s.resultWords st d n).getD i 0 := by
  rw [← writeResults_peek s st d n hp ha h hi]
  exact peek_of_outside (fun x hx => readByte_closeJoin s l j st d n hx) (by omega)

theorem closeJoin_peek_done (h : s.entry l + 32 ≤ Config.ramSize) :
    (s.closeJoin l j st d n).peek (s.entry l + 16) = (s.lane l).done + BitVec.ofNat 32 j.steps.length := by
  have he : (s.writeResults st d n j.steps).entry l = s.entry l := writeResults_entry s st d n j.steps l
  rw [closeJoin_eq, attendIf_peek, ← writeResults_lane s st d n j.steps l, ← he]
  rw [← he] at h
  generalize s.writeResults st d n j.steps = t at h ⊢
  generalize (t.lane l).done + BitVec.ofNat 32 j.steps.length = done
  have hcount : (t.countDone l (t.entry l) done).peek (t.entry l + 16) = done := peek_poke _ _ _ (by omega)
  have hentry : (t.countDone l (t.entry l) done).entry l = t.entry l := countDone_entry t l _ done l
  generalize t.countDone l (t.entry l) done = u at hcount hentry
  rw [State.noteStatus, peek_poke_apart _ (by omega), ← hentry]
  have hpeek := setLane_peek u l ((u.lane l).ended st d) (i := 0) (by omega) (by omega)
  have hw : (u.lane l).words.getD 0 0 = ((u.lane l).ended st d).words.getD 0 0 := rfl
  rw [if_pos hw] at hpeek
  rw [← hentry] at hcount
  exact hpeek.trans hcount

theorem closeJoin_peek_status (h : s.entry l + 32 ≤ Config.ramSize) :
    (s.closeJoin l j st d n).peek (s.entry l + 28) = resultWord st d := by
  rw [closeJoin_eq, attendIf_peek, writeResults_entry]
  exact peek_poke _ _ _ (by omega)

theorem closeJoin_clock : (s.closeJoin l j st d n).clock = s.clock := by
  have h := (worksOn_closeJoin s l j st d n).only
  unfold State.lanesOnly at h
  rw [h]

end CloseJoin

/-! ### Parking (R14) -/

section Park

variable (s : State) (l : Fin 16) (a : Nat)

/-- A lane's context once it has parked on a step. -/
def Lane.parkedOn (x : Lane) (a : Nat) : Lane := { x with state := .parked, activity := .none, parked := some a }

/-- The lane parks: the first part of `State.park`. -/
def State.settleOn (s : State) (l : Fin 16) (a : Nat) : State := s.setLane l ((s.lane l).parkedOn a)

theorem settleOn_lane : (s.settleOn l a).lane l = (s.lane l).parkedOn a := setLane_lane s l _

theorem settleOn_postCount : (s.settleOn l a).postCount l = s.postCount l := setLane_postCount s l _ l

/-- The last seen post count takes a new value: no word of the entry changes. -/
def State.seePost (s : State) (l : Fin 16) (post : Word) : State :=
  { s with lanes := s.lanes.set l { s.lane l with lastSeen := post } }

theorem setLane_lastSeen (post : Word) : s.setLane l { s.lane l with lastSeen := post } = s.seePost l post :=
  setLane_same_words s l _ rfl

theorem seePost_peek (post : Word) (b : Nat) : (s.seePost l post).peek b = s.peek b := peek_withLanes s _ b

theorem seePost_lane (post : Word) : (s.seePost l post).lane l = { s.lane l with lastSeen := post } := by
  have h : (s.seePost l post).lane l = (s.lanes.set l { s.lane l with lastSeen := post }).get l := rfl
  rw [h, Bank.set_get, if_pos rfl]

theorem park_eq : s.park l a
    = if s.postCount l = (s.lane l).lastSeen then s.settleOn l a
      else if (s.settleOn l a).peek a = 0 then (s.settleOn l a).seePost l (s.postCount l)
      else ((s.settleOn l a).seePost l (s.postCount l)).beginAt l ((s.settleOn l a).peek a).toNat := by
  have hpark : s.park l a = if (s.settleOn l a).postCount l = ((s.settleOn l a).lane l).lastSeen then s.settleOn l a
      else
        let s2 := (s.settleOn l a).setLane l { (s.settleOn l a).lane l with lastSeen := (s.settleOn l a).postCount l }
        if s2.peek a = 0 then s2 else s2.beginAt l (s2.peek a).toNat := rfl
  have hseen : ((s.settleOn l a).lane l).lastSeen = (s.lane l).lastSeen := by rw [settleOn_lane]; rfl
  rw [hpark, settleOn_postCount, hseen, setLane_lastSeen]
  simp only [seePost_peek]

/-- The lane stays PARKED where the post count is the last seen. -/
theorem park_stays (h : s.postCount l = (s.lane l).lastSeen) : s.park l a = s.settleOn l a := by rw [park_eq, if_pos h]

theorem readByte_park_outside {b : Nat} (h : outsideArea b (s.entry l + 16) 16 = true) :
    readByte (s.park l a).ram b = readByte s.ram b := by
  have hset : readByte (s.settleOn l a).ram b = readByte s.ram b := readByte_setLane_outside s l _ h
  rw [park_eq]
  split
  · exact hset
  · split
    · exact hset
    · have he : ((s.settleOn l a).seePost l (s.postCount l)).entry l = s.entry l := setLane_entry s l _ l
      rw [readByte_beginAt_outside (by rwa [he])]
      exact hset

theorem readByte_follow_outside {b : Nat} (h : outsideArea b (s.entry l + 16) 16 = true) :
    readByte (s.follow l a).ram b = readByte s.ram b := by
  unfold State.follow
  split
  · exact readByte_park_outside s l a h
  · exact readByte_beginAt_outside h

end Park

/-! ### The end of a step (R14, R16) -/

section Finish

variable (s : State) (l : Fin 16) (j : Join) (st : Status) (d : Nat) (n : Word)

theorem finish_halts (hg : st.good = false) (hh : j.haltOnError = true) : s.finish l j st d n
    = (s.closeJoin l j st d n).setLane l { (s.closeJoin l j st d n).lane l with state := .halted, activity := .none } :=
  if_pos (by simp [hg, hh])

theorem finish_follows (h : st.good = true ∨ j.haltOnError = false) :
    s.finish l j st d n = (s.closeJoin l j st d n).follow l j.last :=
  if_neg (by obtain h | h := h <;> simp [h])

theorem finish_cases :
    (∃ x : Lane, s.finish l j st d n = (s.closeJoin l j st d n).setLane l x ∧ x.done = ((s.closeJoin l j st d n).lane l).done)
    ∨ s.finish l j st d n = (s.closeJoin l j st d n).follow l j.last := by
  by_cases h : st.good = true ∨ j.haltOnError = false
  · exact Or.inr (finish_follows s l j st d n h)
  · simp only [not_or, Bool.not_eq_true, Bool.not_eq_false] at h
    exact Or.inl ⟨_, finish_halts s l j st d n h.1 h.2, rfl⟩

theorem readByte_finish {b : Nat} (h : outsideArea b (s.entry l + 16) 16 = true) :
    readByte (s.finish l j st d n).ram b = readByte (s.closeJoin l j st d n).ram b := by
  rw [← closeJoin_entry s l j st d n l] at h
  obtain ⟨x, he, -⟩ | he := finish_cases s l j st d n
  · rw [he, readByte_setLane_outside _ l _ h]
  · rw [he, readByte_follow_outside _ l _ h]

end Finish

end Sys2Proof.Machine

/-!
The end of a step (O15), faulty steps (O12) and MARK (O13): spec 01, R13 to R15 and R18.
-/

namespace Sys2Proof.Machine

set_option Elab.async false

/-! ### Where the lane goes leaves its done count and its ATTENTION bit -/

section Follow

variable (s : State) (l : Fin 16) (a : Nat)

theorem beginAt_done : ((s.beginAt l a).lane l).done = (s.lane l).done := by
  by_cases h : linkBad a = true
  · rw [beginAt_bad h, haltAt_lane]
  · rw [beginAt_lane (by simpa using h)]; rfl

theorem park_done : ((s.park l a).lane l).done = (s.lane l).done := by
  have hset : ((s.settleOn l a).lane l).done = (s.lane l).done := by rw [settleOn_lane]; rfl
  rw [park_eq]
  split
  · exact hset
  · split
    · rw [seePost_lane]; exact hset
    · rw [beginAt_done, seePost_lane]; exact hset

theorem follow_done : ((s.follow l a).lane l).done = (s.lane l).done := by
  unfold State.follow
  split
  · exact park_done s l a
  · exact beginAt_done s l _

variable {s l a} {k : Nat} (h : s.regs.attention.getLsbD k = true)

include h

theorem haltAt_attention_mono : (s.haltAt l a).regs.attention.getLsbD k = true := by
  unfold State.haltAt
  refine attend_getLsbD_mono ?_ _
  rw [(State.pokeAll_frame _ _ _).2.2.2.2.1, setLane_regs]
  exact h

theorem beginAt_attention_mono : (s.beginAt l a).regs.attention.getLsbD k = true := by
  by_cases hb : linkBad a = true
  · rw [beginAt_bad hb]; exact haltAt_attention_mono h
  · rw [beginAt_only (by simpa using hb)]; exact h

theorem park_attention_mono : (s.park l a).regs.attention.getLsbD k = true := by
  have hset : (s.settleOn l a).regs = s.regs := setLane_regs s l _
  rw [park_eq]
  split
  · rwa [hset]
  · split
    · show (s.settleOn l a).regs.attention.getLsbD k = true
      rwa [hset]
    · refine beginAt_attention_mono ?_
      show (s.settleOn l a).regs.attention.getLsbD k = true
      rwa [hset]

theorem follow_attention_mono : (s.follow l a).regs.attention.getLsbD k = true := by
  unfold State.follow
  split
  · exact park_attention_mono h
  · exact beginAt_attention_mono h

end Follow

section Finish

variable (s : State) (l : Fin 16) (j : Join) (st : Status) (d : Nat) (n : Word)

theorem finish_done : ((s.finish l j st d n).lane l).done = (s.lane l).done + BitVec.ofNat 32 j.steps.length := by
  have hc : ((s.closeJoin l j st d n).lane l).done = (s.lane l).done + BitVec.ofNat 32 j.steps.length := by
    rw [closeJoin_lane]; rfl
  obtain ⟨x, he, hx⟩ | he := finish_cases s l j st d n
  · rw [he, setLane_lane, hx, hc]
  · rw [he, follow_done, hc]

theorem finish_attention (hrun : s.isRunning = true) (h : j.notify = true ∨ st.good = false) :
    (s.finish l j st d n).regs.attention.getLsbD l.val = true := by
  have hc := closeJoin_attention s l j st d n hrun h
  obtain ⟨x, he, -⟩ | he := finish_cases s l j st d n
  · rw [he, setLane_regs]; exact hc
  · rw [he]; exact follow_attention_mono hc

theorem finish_halted_lane (hg : st.good = false) (hh : j.haltOnError = true) : (s.finish l j st d n).lane l
    = { s.lane l with
        state := .halted, activity := .none, done := (s.lane l).done + BitVec.ofNat 32 j.steps.length,
        lastStatus := st, lastDetail := d, held := none, want := none } := by
  rw [finish_halts s l j st d n hg hh, setLane_lane, closeJoin_lane]
  rfl

theorem resultWord_eq : resultWord st d = BitVec.ofNat 32 (st.code + 65536 * d) := by
  rw [resultWord, field_eq]
  rfl

/-- The result fields of a lone step, where its header lies clear of the lane's entry. -/
theorem finish_peek_lone {a : Nat} (hj : j.steps = [a]) (h : a + 32 ≤ Config.ramSize)
    (he : s.entry l + 32 ≤ a + 16 ∨ a + 28 ≤ s.entry l + 16) {i : Nat} (hi : i < 3) :
    (s.finish l j st d n).peek (a + 16 + 4 * i) = (s.resultWords st d n).getD i 0 := by
  rw [← closeJoin_peek_step s l j st d n (a := a) (by simp [hj]) (by simp [hj]) (by omega) (by omega) hi]
  exact peek_of_outside (fun x hx => readByte_finish s l j st d n hx) (by omega)

theorem readByte_finish_outside {b : Nat} (h : outsideArea b (s.entry l + 16) 16 = true)
    (hs : ∀ i ∈ j.steps, outsideArea b (i + 16) 12 = true) : readByte (s.finish l j st d n).ram b = readByte s.ram b := by
  rw [readByte_finish s l j st d n h, readByte_closeJoin_outside s l j st d n h hs]

end Finish

/-! ### Joins (R15) -/

/-- The payload bytes of a step by its header: none for a MARK. -/
def stepBytes (ram : List Host.Cell) (h : Header) : List Byte :=
  if h.kind != 1 && h.length != 0 then readBytes ram h.payload h.length else []

theorem add_payload (j : Join) (ram : List Host.Cell) (a : Nat) (h : Header) :
    (j.add ram a h).payload = (if j.steps.isEmpty then [] else j.payload) ++ stepBytes ram h := by
  unfold Join.add stepBytes
  by_cases hr : (h.kind != 1 && h.length != 0) = true
  · by_cases hj : j.steps.isEmpty = true
    · simp only [hr, hj, if_true]
    · simp only [hr, hj, if_true]; rfl
  · by_cases hj : j.steps.isEmpty = true
    · simp only [hr, hj, if_true]; rfl
    · simp [hr, hj]

/-- The fields of a lone step's join. -/
theorem stepAt_fields (s : State) (a : Nat) : (s.stepAt a).steps = [a] ∧ (s.stepAt a).notify = (s.header a).notify
    ∧ (s.stepAt a).haltOnError = (s.header a).haltOnError ∧ (s.stepAt a).param = (s.header a).param
    ∧ (s.stepAt a).target = (s.header a).target ∧ (s.stepAt a).payload = stepBytes s.ram (s.header a) :=
  ⟨rfl, rfl, rfl, rfl, rfl, (add_payload {} s.ram a (s.header a)).trans (List.nil_append _)⟩

/-- A step joined after others: the first step's fields stand, and its payload follows theirs. -/
theorem add_joined {j : Join} (hj : j.steps.isEmpty = false) (ram : List Host.Cell) (a : Nat) (h : Header) :
    (j.add ram a h).steps = j.steps ++ [a] ∧ (j.add ram a h).kind = j.kind ∧ (j.add ram a h).notify = j.notify
      ∧ (j.add ram a h).haltOnError = j.haltOnError ∧ (j.add ram a h).param = j.param ∧ (j.add ram a h).target = j.target
      ∧ (j.add ram a h).payload = j.payload ++ stepBytes ram h := by
  have hp := add_payload j ram a h
  rw [hj] at hp
  have hj' : Join.add j ram a h = { j with
      steps := j.steps ++ [a], segments := (j.add ram a h).segments, payload := (j.add ram a h).payload } := by
    simp [Join.add, hj]
  exact ⟨by rw [hj'], by rw [hj'], by rw [hj'], by rw [hj'], by rw [hj'], by rw [hj'], hp⟩

/-- A good step of the join's kind without GATHER closes the join. -/
theorem joinFrom_closes {s : State} {fuel a : Nat} {j : Join} (hk : (s.header a).kind = j.kind)
    (hf : (s.header a).fault = none) (hg : (s.header a).gather = false) :
    s.joinFrom (fuel + 1) j a = .ready (j.add s.ram a (s.header a)) := by
  simp [State.joinFrom, hk, hf, hg]

/-- A faulty linked step of the join's kind ends the join with its own detail. -/
theorem joinFrom_fails {s : State} {fuel a d : Nat} {j : Join} (hk : (s.header a).kind = j.kind)
    (hf : (s.header a).fault = some d) : s.joinFrom (fuel + 1) j a = .failed (j.add s.ram a (s.header a)) d := by
  simp [State.joinFrom, hk, hf]

section Gather

variable {s : State} {a b : Nat} (hf : (s.header a).fault = none) (hg : (s.header a).gather = true) (hl : (s.header a).link = b)

include hf hg hl

/-- A first GATHER step is read on at its good link. -/
theorem joinFrom_first (h0 : b ≠ 0) (hb : linkBad b = false) : s.joinFrom joinFuel {} a = s.joinFrom 65535 (s.stepAt a) b := by
  have h := joinFrom_link (s := s) (fuel := 65535) (a := a) (j := {}) (Or.inl rfl) hf hg (by rwa [hl]) (by rwa [hl])
  rw [hl] at h
  exact h

/-- A first GATHER step with link 0 parks the join (R15). -/
theorem joinFrom_gathered (h0 : b = 0) : s.joinFrom joinFuel {} a = .gathered (s.stepAt a) := by
  show s.joinFrom (65535 + 1) {} a = _
  simp [State.joinFrom, hf, hg, hl, h0, State.stepAt]

/-- A first GATHER step with a faulty link. -/
theorem joinFrom_badLink (h0 : b ≠ 0) (hb : linkBad b = true) : s.joinFrom joinFuel {} a = .badLink (s.stepAt a) b := by
  show s.joinFrom (65535 + 1) {} a = _
  simp [State.joinFrom, hf, hg, hl, h0, hb, State.stepAt]

/-- Two steps of one kind that a GATHER joins (R15). -/
theorem joinFrom_pair (h0 : b ≠ 0) (hb : linkBad b = false) (hk : (s.header b).kind = (s.header a).kind)
    (hfb : (s.header b).fault = none) (hgb : (s.header b).gather = false) :
    s.joinFrom joinFuel {} a = .ready ((s.stepAt a).add s.ram b (s.header b)) := by
  rw [joinFrom_first hf hg hl h0 hb]
  exact joinFrom_closes (fuel := 65534) (by rw [hk, stepAt_kind]) hfb hgb

end Gather

/-- The fields of two joined steps. -/
theorem pair_fields (s : State) (a b : Nat) :
    ((s.stepAt a).add s.ram b (s.header b)).steps = [a, b]
      ∧ ((s.stepAt a).add s.ram b (s.header b)).kind = (s.header a).kind
      ∧ ((s.stepAt a).add s.ram b (s.header b)).payload = (s.stepAt a).payload ++ (s.stepAt b).payload
      ∧ ((s.stepAt a).add s.ram b (s.header b)).notify = (s.header a).notify
      ∧ ((s.stepAt a).add s.ram b (s.header b)).haltOnError = (s.header a).haltOnError
      ∧ ((s.stepAt a).add s.ram b (s.header b)).param = (s.header a).param
      ∧ ((s.stepAt a).add s.ram b (s.header b)).target = (s.header a).target := by
  obtain ⟨hs, hn, hh, hp, ht, -⟩ := stepAt_fields s a
  obtain ⟨-, -, -, -, -, hb⟩ := stepAt_fields s b
  obtain ⟨gs, gk, gn, gh, gp, gt, gb⟩ := add_joined (j := s.stepAt a) (by rw [hs]; rfl) s.ram b (s.header b)
  rw [hs] at gs
  rw [gs, gk, gn, gh, gp, gt, gb, stepAt_kind, hn, hh, hp, ht, hb]
  exact ⟨rfl, rfl, rfl, rfl, rfl, rfl, rfl⟩

/-! ### Parking, as a change of one entry word -/

theorem stateCode_inj {x y : LaneState} (h : (BitVec.ofNat 32 x.code : Word) = BitVec.ofNat 32 y.code) : x = y := by
  revert h
  cases x <;> cases y <;> simp [LaneState.code]

/-- A context that differs from the old one in no word but the state's. -/
theorem setLane_state_word {s : State} {l : Fin 16} {x : Lane} (hd : x.done = (s.lane l).done) (hc : x.current = (s.lane l).current)
    (hs : x.lastStatus = (s.lane l).lastStatus) (ht : x.lastDetail = (s.lane l).lastDetail) :
    s.setLane l x = if (s.lane l).state = x.state then { s with lanes := s.lanes.set l x }
      else { s with lanes := s.lanes.set l x }.poke (s.entry l + 20) (BitVec.ofNat 32 x.state.code) := by
  have hcode : (BitVec.ofNat 32 (s.lane l).state.code : Word) = BitVec.ofNat 32 x.state.code ↔ (s.lane l).state = x.state :=
    ⟨stateCode_inj, fun h => by rw [h]⟩
  simp only [State.setLane, Lane.words, State.pokeChanged, hd, hc, hs, ht, hcode, if_true, Nat.add_assoc]

/-- The lane parked on a step: its context, and the state's word of its entry where the lane was not PARKED. -/
theorem settleOn_eq (s : State) (l : Fin 16) (a : Nat) : s.settleOn l a = { s with
    lanes := s.lanes.set l ((s.lane l).parkedOn a)
    ram := if (s.lane l).state = .parked then s.ram else storeBytes s.ram (s.entry l + 20) [2, 0, 0, 0] } := by
  have h := setLane_state_word (s := s) (l := l) (x := (s.lane l).parkedOn a) rfl rfl rfl rfl
  rw [State.settleOn, h]
  by_cases hp : (s.lane l).state = .parked
  · rw [if_pos hp]
    exact (if_pos hp).trans rfl
  · have hbytes : leBytes 4 (BitVec.ofNat 32 LaneState.parked.code : Word).toNat = [2, 0, 0, 0] := by decide
    rw [if_neg hp, ← hbytes]
    exact (if_neg hp).trans rfl

/-- The last seen post count taken after the lane has parked. -/
theorem settleOn_seePost (s : State) (l : Fin 16) (a : Nat) : (s.settleOn l a).seePost l (s.postCount l) = { s with
    lanes := s.lanes.set l { (s.lane l).parkedOn a with lastSeen := s.postCount l }
    ram := if (s.lane l).state = .parked then s.ram else storeBytes s.ram (s.entry l + 20) [2, 0, 0, 0] } := by
  rw [State.seePost, settleOn_lane, settleOn_eq, lanes_set_set]

/-! ### What O15 states -/

/-- What a park leaves, by the post count and the link it reads (R14). -/
theorem park_reads {s u : State} {l : Fin 16} {a : Nat} {x : Lane} (ha : a + 4 ≤ s.entry l + 16 ∨ s.entry l + 32 ≤ a)
    (hx : x = { s.lane l with state := .parked, activity := .none, parked := some a, lastSeen := s.postCount l })
    (hu : u = { s with lanes := s.lanes.set l x, ram := u.ram })
    (hram : u.ram = (if (s.lane l).state = .parked then s.ram else storeBytes s.ram (s.entry l + 20) [2, 0, 0, 0])) :
    (s.postCount l = (s.lane l).lastSeen ∨ s.peek a = 0 → s.park l a = u)
      ∧ (s.postCount l ≠ (s.lane l).lastSeen → s.peek a ≠ 0 → s.park l a = u.beginAt l (s.peek a).toNat) := by
  have hpeek : (s.settleOn l a).peek a = s.peek a := peek_setLane_apart s l _ ha
  have hseen : (s.settleOn l a).seePost l (s.postCount l) = u := by
    rw [settleOn_seePost, ← hram, hu, hx]; rfl
  rw [park_eq, hpeek, hseen]
  constructor
  · intro h
    split
    next hpost =>
      rw [← hseen, settleOn_seePost, settleOn_eq, hpost]
      rfl
    next hpost => rw [if_pos (h.resolve_left hpost)]
  · intro hpost hlink
    rw [if_neg hpost, if_neg hlink]

/-- The result fields of a lone step, and the bytes its end leaves (R14). -/
theorem finish_lone {s : State} {l : Fin 16} {j : Join} {a : Nat} (st : Status) (d : Nat) (n : Word) (hj : j.steps = [a])
    (h : a + 32 ≤ Config.ramSize) (he : s.entry l + 32 ≤ a + 16 ∨ a + 28 ≤ s.entry l + 16) :
    (s.finish l j st d n).peek (a + 16) = BitVec.ofNat 32 (st.code + 65536 * d)
      ∧ (s.finish l j st d n).peek (a + 20) = n
      ∧ (s.finish l j st d n).peek (a + 24) = s.clock.frame
      ∧ ∀ b : Nat, outsideArea b (a + 16) 12 = true → outsideArea b (s.entry l + 16) 16 = true →
          readByte (s.finish l j st d n).ram b = readByte s.ram b := by
  have hres := fun i hi => finish_peek_lone s l j st d n hj h he (i := i) hi
  refine ⟨(hres 0 (by omega)).trans (resultWord_eq st d), hres 1 (by omega), hres 2 (by omega), fun b ha hb => ?_⟩
  exact readByte_finish_outside s l j st d n hb (by simpa [hj] using ha)

/-- Settles O15. -/
theorem finishedStepIsReported : Obligations.FinishedStepIsReported := by
  unfold Obligations.FinishedStepIsReported
  refine ⟨⟨⟨fun s l j st d n => ?_, fun s l j a st d n => finish_lone st d n⟩, fun s l j st d n link h hlink => ?_,
    fun s l a => ?_, fun s l j st d n h => ?_, fun s a b hf hg hl h0 hb hk hfb hgb => ?_⟩,
    fun s u l a x _ => park_reads⟩
  · have hw := worksOn_finish s l j st d n
    exact ⟨finish_done s l j st d n, hw.others, hw.only, finish_attention s l j st d n, finish_halted_lane s l j st d n⟩
  · rw [finish_follows s l j st d n h]
    exact ⟨fun h0 => if_pos (hlink.trans h0), fun h0 => by rw [← hlink] at h0 ⊢; exact if_neg h0⟩
  · refine ⟨beginAt_bad, fun hb => ⟨beginAt_lane hb, (worksOn_beginAt s l a).others, fun h => ?_⟩⟩
    exact ⟨beginAt_peek hb h (i := 0) (by omega), beginAt_peek hb h (i := 1) (by omega)⟩
  · exact ⟨closeJoin_peek_done s l j st d n h, (closeJoin_peek_status s l j st d n h).trans (resultWord_eq st d),
      closeJoin_lane s l j st d n⟩
  · obtain ⟨hsteps, hkind, hpay, hnot, hhalt, hpar, htar⟩ := pair_fields s a b
    exact ⟨_, joinFrom_pair hf hg hl h0 hb hk hfb hgb, hsteps, hkind, hpay, hnot, hhalt, hpar, htar⟩

end Sys2Proof.Machine

/-!
Steps read and handed to their blocks (spec 01, R13, R15): the commands of the step kinds, steps and joins the lane engine refuses
(O12), and MARK (O13).
-/

namespace Sys2Proof.Machine

set_option Elab.async false

/-! ### The command of a kind -/

section Command

variable {s t : State} {l : Fin 16} {a kind : Nat}

/-- Each kind of the table hands its step to a block. -/
theorem exec_stepCommand (l : Fin 16) (h0 : kind ≠ 0) (h : kind ≤ 20) : ∃ act : Join → State → State, ∀ s : State,
    exec (stepCommand kind l) s = .next (running (fun st => st.startStep l kind act) s) := by
  interval_cases kind
  · exact absurd rfl h0
  all_goals exact ⟨_, fun _ => rfl⟩

/-- Every other kind has the command STEP_BAD_KIND. -/
theorem stepCommand_outside (l : Fin 16) (h : kind = 0 ∨ 20 < kind) : stepCommand kind l = .stepBadKind l := by
  obtain rfl | h := h
  · rfl
  · obtain ⟨k, rfl⟩ := Nat.exists_eq_add_of_lt h
    rw [show 20 + k + 1 = k + 21 by omega]
    rfl

theorem refuseKind_startStep (h : s.hasBegun l a = true) (hk : (s.header a).kind = 0 ∨ 20 < (s.header a).kind) :
    s.refuseKind l = s.startStep l (s.header a).kind fun _ st => st := by
  unfold State.refuseKind
  rw [(begunKind_of h).2]
  exact if_pos hk

theorem hasBegun_running (h : s.hasBegun l a = true) : s.isRunning = true := by
  rw [State.hasBegun, Bool.and_eq_true] at h
  exact h.1

/-- The command of the begun step's kind reads the step, and hands it to its block. -/
theorem stepCommand_startStep (h : s.hasBegun l a = true) : ∃ act : Join → State → State,
    exec (stepCommand (s.header a).kind l) s = .next ((s.startStep l (s.header a).kind act).withViews s) := by
  have hrun := hasBegun_running h
  by_cases hk : (s.header a).kind = 0 ∨ 20 < (s.header a).kind
  · refine ⟨fun _ st => st, ?_⟩
    rw [stepCommand_outside l hk, ← refuseKind_startStep h hk]
    exact congrArg Host.Outcome.next (running_of (fun st => st.refuseKind l) hrun)
  · rw [not_or, Nat.not_lt] at hk
    obtain ⟨act, hact⟩ := exec_stepCommand l hk.1 hk.2
    exact ⟨act, by rw [hact, running_of _ hrun]⟩

/-- A step that never reaches its block: the views stand. -/
theorem stepCommand_refused (h : s.hasBegun l a = true) (ht : ∀ act, s.startStep l (s.header a).kind act = t)
    (hw : WorksOn l t s) : exec (stepCommand (s.header a).kind l) s = .next t := by
  obtain ⟨act, hact⟩ := stepCommand_startStep h
  rw [hact, ht, withViews_worksOn hw]

end Command

/-! ### How a begun step is read (R15) -/

section Read

variable {s : State} {l : Fin 16} {a : Nat} {j : Join} (act : Join → State → State) (h : s.hasBegun l a = true)

include h

theorem startStep_failed {d : Nat} (hj : s.joinFrom joinFuel {} a = .failed j d) :
    s.startStep l (s.header a).kind act = s.finish l j .badStep d (s.brokenCount l j) := by
  unfold State.startStep
  simp only [(begunKind_of h).1, (begunKind_of h).2, hj, if_true]

theorem startStep_gathered (hj : s.joinFrom joinFuel {} a = .gathered j) : s.startStep l (s.header a).kind act
    = s.setLane l { s.lane l with state := .parked, activity := .gathered j, parked := some j.last } := by
  unfold State.startStep
  simp only [(begunKind_of h).1, (begunKind_of h).2, hj, if_true]

theorem startStep_badLink {b : Nat} (hj : s.joinFrom joinFuel {} a = .badLink j b) :
    s.startStep l (s.header a).kind act = (s.closeJoin l j .badStep 5 (s.brokenCount l j)).haltAt l b := by
  unfold State.startStep
  simp only [(begunKind_of h).1, (begunKind_of h).2, hj, if_true]

theorem startStep_closed (hj : s.joinFrom joinFuel {} a = .ready j) (hn : lengthNeeded (s.header a).kind ≤ j.payload.length) :
    s.startStep l (s.header a).kind act = act j s := by
  unfold State.startStep
  simp only [(begunKind_of h).1, (begunKind_of h).2, hj, if_true, if_neg (Nat.not_lt.mpr hn)]

end Read

/-! ### Steps refused (R13) -/

section Refused

variable {s : State} {l : Fin 16} {a b d : Nat} {j : Join} {n : Word}

/-- The count of a refused step is that of its kind. -/
theorem brokenCount_of_kind {kind : Nat} (hj : j.kind = kind) (hn : n = if kind = 2 then BitVec.ofNat 32 (s.lane l).age else 0) :
    s.brokenCount l j = n := by
  rw [hn, ← hj]; rfl

/-- A step of a kind outside the table is faulty by its kind. -/
theorem fault_outside {x : Header} (hk : x.kind = 0 ∨ 20 < x.kind) : x.fault = some 1 := if_pos hk

/-- A step or join that fails is finished BAD STEP. -/
theorem exec_failed (h : s.hasBegun l a = true) (hj : s.joinFrom joinFuel {} a = .failed j d) (hk : j.kind = (s.header a).kind)
    (hn : n = if (s.header a).kind = 2 then BitVec.ofNat 32 (s.lane l).age else 0) :
    exec (stepCommand (s.header a).kind l) s = .next (s.finish l j .badStep d n) :=
  stepCommand_refused h (fun act => by rw [startStep_failed act h hj, brokenCount_of_kind hk hn]) (worksOn_finish s l j .badStep d n)

/-- The payload bytes that the rules of the kinds give. -/
theorem lengthNeeded_table :
    ∀ p ∈ [(2, 8), (7, 16), (8, 16), (13, 16), (14, 512), (16, 4), (19, 28), (20, 24)], lengthNeeded p.1 = p.2 := by
  decide

theorem exec_tooShort {need : Nat} (h : s.hasBegun l a = true) (hneed : lengthNeeded (s.header a).kind = need)
    (hf : (s.header a).fault = none) (hg : (s.header a).gather = false) (hlen : (s.stepAt a).payload.length < need)
    (hn : n = if (s.header a).kind = 2 then BitVec.ofNat 32 (s.lane l).age else 0) :
    exec (stepCommand (s.header a).kind l) s = .next (s.finish l (s.stepAt a) .badStep 2 n) := by
  refine stepCommand_refused h (fun act => ?_) (worksOn_finish s l _ .badStep 2 n)
  rw [startStep_lone act h hf hg, hneed, if_pos hlen, brokenCount_of_kind (stepAt_kind s a) hn]

/-- A GATHER with link 0 parks the lane with the join in hand. -/
theorem exec_gathered (h : s.hasBegun l a = true) (hf : (s.header a).fault = none) (hg : (s.header a).gather = true)
    (h0 : (s.header a).link = 0) : exec (stepCommand (s.header a).kind l) s
      = .next (s.setLane l { s.lane l with state := .parked, activity := .gathered (s.stepAt a), parked := some a }) :=
  stepCommand_refused h (fun act => startStep_gathered act h (joinFrom_gathered hf hg rfl h0)) (worksOn_setLane s l _)

/-- A GATHER with a faulty link finishes the join and halts the lane. -/
theorem exec_badLink (h : s.hasBegun l a = true) (hf : (s.header a).fault = none) (hg : (s.header a).gather = true)
    (h0 : (s.header a).link ≠ 0) (hb : linkBad (s.header a).link = true)
    (hn : n = if (s.header a).kind = 2 then BitVec.ofNat 32 (s.lane l).age else 0) :
    exec (stepCommand (s.header a).kind l) s
      = .next ((s.closeJoin l (s.stepAt a) .badStep 5 n).haltAt l (s.header a).link) := by
  refine stepCommand_refused h (fun act => ?_) ((worksOn_haltAt _ l _).trans (worksOn_closeJoin s l _ .badStep 5 n))
  rw [startStep_badLink act h (joinFrom_badLink hf hg rfl h0 hb), brokenCount_of_kind (stepAt_kind s a) hn]

end Refused

/-- Settles O12. -/
theorem faultyStepFinishesBadStep : Obligations.FaultyStepFinishesBadStep := by
  unfold Obligations.FaultyStepFinishesBadStep
  refine ⟨fun s l a d n h hf hn => ⟨exec_failed h (joinFrom_faulty hf) (stepAt_kind s a) hn, fun hk => ?_⟩,
    fun s l a kind need n hm h hk hf hg hlen hn => ?_, fun s l a n h hf hg hn => ⟨fun h0 => ?_, fun h0 hb => ?_, fun b hl h0 hb => ?_⟩,
    fun s l a => ⟨haltAt_lane s l a, haltAt_attention s l a, fun he => ?_⟩⟩
  · obtain rfl : 1 = d := Option.some.inj ((fault_outside hk).symm.trans hf)
    have hn0 : n = 0 := by rw [hn, if_neg (by omega)]
    have he := exec_failed h (joinFrom_faulty hf) (stepAt_kind s a) hn
    rw [stepCommand_outside l hk, hn0] at he
    exact ⟨rfl, he⟩
  · subst hk
    exact exec_tooShort h (lengthNeeded_table _ hm) hf hg hlen hn
  · refine ⟨_, exec_gathered h hf hg h0, (setLane_only s l _).trans ?_, setLane_lane s l _, (worksOn_setLane s l _).others,
      fun b hb => readByte_setLane_outside s l _ hb⟩
    rw [setLane_only]
  · exact exec_badLink h hf hg h0 hb hn
  · have hfirst := joinFrom_first hf hg hl h0 hb
    refine ⟨fun hk => exec_failed h ?_ (stepAt_kind s a) hn, fun d hk hfb => exec_failed h ?_ (pair_fields s a b).2.1 hn⟩
    · exact hfirst.trans (joinFrom_other (fuel := 65534) rfl (by rwa [stepAt_kind]))
    · exact hfirst.trans (joinFrom_fails (fuel := 65534) (by rwa [stepAt_kind]) hfb)
  · exact ⟨haltAt_peek s l a he (i := 0) (by omega), haltAt_peek s l a he (i := 1) (by omega),
      haltAt_peek s l a he (i := 2) (by omega)⟩

/-! ### MARK (R18) -/

section Mark

variable {s : State} {l : Fin 16} {a b : Nat}

theorem fault_mark {x : Header} (hk : x.kind = 1) : x.fault = none := by simp [Header.fault, targetBad, hk]

theorem stepBytes_mark (ram : List Host.Cell) {x : Header} (hk : x.kind = 1) : stepBytes ram x = [] := by simp [stepBytes, hk]

theorem stepAt_payload_mark (hk : (s.header a).kind = 1) : (s.stepAt a).payload = [] := by
  obtain ⟨-, -, -, -, -, hp⟩ := stepAt_fields s a
  rw [hp, stepBytes_mark s.ram hk]

/-- MARK, once its links are read to the end. -/
theorem exec_mark {j : Join} (h : s.hasBegun l a = true) (hk : (s.header a).kind = 1) (hj : s.joinFrom joinFuel {} a = .ready j) :
    exec (.mark l) s = .next (s.finish l j .ok 0 0) := by
  have hstart := startStep_closed (fun i t => t.finish l i .ok 0 0) h hj (by rw [hk]; exact Nat.zero_le _)
  rw [hk] at hstart
  have hexec : exec (.mark l) s = .next (running (fun st => st.startStep l 1 fun i t => t.finish l i .ok 0 0) s) := rfl
  rw [hexec, running_of _ (hasBegun_running h), hstart, withViews_worksOn (worksOn_finish s l j .ok 0 0)]

/-- A finished step with link 0 whose lane is not posted parks its lane. -/
theorem finish_parks {j : Join} {n : Word} (h0 : (s.closeJoin l j .ok 0 n).peek j.last = 0)
    (hp : (s.closeJoin l j .ok 0 n).postCount l = (s.lane l).lastSeen) :
    (s.finish l j .ok 0 n).lane l = ((s.closeJoin l j .ok 0 n).lane l).parkedOn j.last := by
  have hseen : ((s.closeJoin l j .ok 0 n).lane l).lastSeen = (s.lane l).lastSeen := by rw [closeJoin_lane]; rfl
  have hfollow : (s.closeJoin l j .ok 0 n).follow l j.last = (s.closeJoin l j .ok 0 n).park l j.last := if_pos h0
  rw [finish_follows s l j .ok 0 n (Or.inl rfl), hfollow, park_stays _ l _ (by rw [hp, hseen]), settleOn_lane]

end Mark

/-- Settles O13. -/
theorem markEndsOk : Obligations.MarkEndsOk := by
  unfold Obligations.MarkEndsOk
  refine ⟨fun s l a h hk hg => ⟨?_, stepAt_payload_mark hk, fun hnotify => ?_, fun h0 hp => ?_⟩,
    fun s l a b h hk hg hl h0 hb hkb hgb => ?_⟩
  · exact exec_mark h hk (joinFrom_lone (fault_mark hk) hg)
  · exact finish_attention s l _ .ok 0 0 (hasBegun_running h) (Or.inl hnotify)
  · have hlane := finish_parks (j := s.stepAt a) h0 hp
    exact ⟨by rw [hlane]; rfl, by rw [hlane]; rfl⟩
  · obtain ⟨hsteps, -, hpay, hnotify, hhalt, -, -⟩ := pair_fields s a b
    have hj := joinFrom_pair (fault_mark hk) hg hl h0 hb (hkb.trans hk.symm) (fault_mark hkb) hgb
    refine ⟨_, exec_mark h hk hj, hsteps, ?_, hnotify, hhalt, ?_⟩
    · rw [hpay, stepAt_payload_mark hk, stepAt_payload_mark hkb]
      rfl
    · rw [finish_done, hsteps]
      rfl

end Sys2Proof.Machine

/-!
Scans (spec 01, R12 and R16): what LANE_SCAN does where one lane alone is posted or cancelled, a lane posted (O10) and a lane
cancelled (O11).
-/

namespace Sys2Proof.Machine

set_option Elab.async false

/-! ### A scan of which one lane alone is concerned -/

/-- A fold whose function acts at one place of a list. -/
theorem foldl_one {α β : Type} {f : α → β → α} {s : α} {l : β} (hb : ∀ k : β, k ≠ l → f s k = s)
    (ha : ∀ k : β, k ≠ l → f (f s l) k = f s l) {ls : List β} (hn : ls.Nodup) (hl : l ∈ ls) : ls.foldl f s = f s l := by
  have hrest : ∀ ks : List β, l ∉ ks → ks.foldl f (f s l) = f s l := by
    intro ks
    induction ks with
    | nil => intro _; rfl
    | cons k ks ih =>
      intro hk
      rw [List.mem_cons, not_or] at hk
      rw [List.foldl_cons, ha k (Ne.symm hk.1)]
      exact ih hk.2
  induction ls with
  | nil => cases hl
  | cons k ls ih =>
    obtain ⟨hk, hn⟩ := List.nodup_cons.mp hn
    rw [List.foldl_cons]
    obtain rfl | hl := List.mem_cons.mp hl
    · exact hrest ls hk
    · rw [hb k (fun h => hk (h ▸ hl))]
      exact ih hn hl

theorem indices_nodup (n : Nat) : (indices n).Nodup := List.nodup_finRange n

theorem mem_indices {n : Nat} (l : Fin n) : l ∈ indices n := List.mem_finRange l

/-- A lane with no cancel word set and no new post count. -/
structure State.quietAt (s : State) (k : Fin 16) : Prop where
  uncancelled : s.peek (s.entry k + 8) = 0
  unposted : s.postCount k = (s.lane k).lastSeen

/-- The post counts and cancel words of the other lanes are left. -/
def State.leavesPosts (t s : State) (l : Fin 16) : Prop :=
  ∀ k : Fin 16, k ≠ l → ∀ i : Nat, 4 ≤ i → i < 12 → readByte t.ram (s.entry k + i) = readByte s.ram (s.entry k + i)

section One

variable {s t : State} {k l : Fin 16}

/-- The host's words of an entry lie outside the part-written words and the cancel words of the others. -/
theorem outside_otherEntry (s : State) (h : k ≠ l) {i : Nat} (h4 : 4 ≤ i) (h12 : i < 12) :
    outsideArea (s.entry k + i) (s.entry l + 16) 16 = true ∧ outsideArea (s.entry k + i) (s.entry l + 8) 4 = true := by
  have hkl : k.val ≠ l.val := fun he => h (Fin.ext he)
  have hk : s.entry k = s.cfg.laneTable + 32 * k.val := rfl
  have hl : s.entry l = s.cfg.laneTable + 32 * l.val := rfl
  exact ⟨outsideArea_iff.mpr (by omega), outsideArea_iff.mpr (by omega)⟩

theorem leavesPosts_of_entry (h : ∀ b : Nat, outsideArea b (s.entry l + 16) 16 = true → readByte t.ram b = readByte s.ram b) :
    t.leavesPosts s l :=
  fun _ hk _ h4 h12 => h _ (outside_otherEntry s hk h4 h12).1

theorem peek_worksOn_entry (hb : t.leavesPosts s l) (hk : k ≠ l) {i : Nat} (h4 : 4 ≤ i) (h8 : i ≤ 8) :
    t.peek (s.entry k + i) = s.peek (s.entry k + i) :=
  peek_congr fun x hx => by
    rw [Nat.add_assoc]
    exact hb k hk (i + x) (by omega) (by omega)

/-- A lane scanned leaves the others quiet. -/
theorem quietAt_after (hw : WorksOn l t s) (hb : t.leavesPosts s l) (hk : k ≠ l) (hq : s.quietAt k) : t.quietAt k := by
  have he : t.entry k = s.entry k := entry_congr (cfg_of_lanesOnly hw.only) k
  constructor
  · rw [he, peek_worksOn_entry hb hk (by omega) (by omega), hq.uncancelled]
  · rw [State.postCount, he, peek_worksOn_entry hb hk (by omega) (by omega), hw.others k hk]
    exact hq.unposted

theorem takePost_seen (h : s.postCount l = (s.lane l).lastSeen) : s.takePost l = s := if_pos h

theorem scanLane_uncancelled (h : s.peek (s.entry l + 8) = 0) : s.scanLane l = s.takePost l := by
  unfold State.scanLane
  rw [if_pos h]

theorem scanLane_cancelled (h : s.peek (s.entry l + 8) ≠ 0) :
    s.scanLane l = ((s.poke (s.entry l + 8) 0).cancelLane l).takePost l := by
  unfold State.scanLane
  rw [if_neg h]

/-- A quiet lane is left by its scan. -/
theorem scanLane_quiet (h : s.quietAt l) : s.scanLane l = s := by
  rw [scanLane_uncancelled h.uncancelled, takePost_seen h.unposted]

/-- The state at which a due scan begins. -/
def State.scanTaken (s : State) : State := { s with scanDue := false }

@[simp] theorem scanTaken_lane (s : State) (k : Fin 16) : s.scanTaken.lane k = s.lane k := rfl

@[simp] theorem scanTaken_entry (s : State) (k : Fin 16) : s.scanTaken.entry k = s.entry k := rfl

@[simp] theorem scanTaken_peek (s : State) (a : Nat) : s.scanTaken.peek a = s.peek a := rfl

@[simp] theorem scanTaken_postCount (s : State) (k : Fin 16) : s.scanTaken.postCount k = s.postCount k := rfl

theorem exec_laneScan (hrun : s.isRunning = true) (hdue : s.scanDue = true) :
    leaves .laneScan s ((indices 16).foldl State.scanLane s.scanTaken) := by
  have hexec : exec .laneScan s = .next (running (fun st => if st.scanDue then st.scanLanes else st) s) := rfl
  rw [leaves, hexec, running_of _ hrun, if_pos hdue]
  rfl

/-- The scans of all lanes, where one lane alone is concerned. -/
theorem foldl_scanLane_one (hq : ∀ k : Fin 16, k ≠ l → s.quietAt k) (hw : WorksOn l (s.scanLane l) s)
    (hb : (s.scanLane l).leavesPosts s l) : (indices 16).foldl State.scanLane s = s.scanLane l :=
  foldl_one (fun k hk => scanLane_quiet (hq k hk)) (fun k hk => scanLane_quiet (quietAt_after hw hb hk (hq k hk)))
    (indices_nodup 16) (mem_indices l)

theorem quietAt_taken (h : s.quietAt k) : s.scanTaken.quietAt k := by
  constructor
  · rw [scanTaken_entry, scanTaken_peek, h.uncancelled]
  · rw [scanTaken_postCount, scanTaken_lane, h.unposted]

theorem scanTaken_viewTrigger (s : State) (v : View) : s.scanTaken.viewTrigger v = s.viewTrigger v := by
  cases v <;> rfl

/-- A due scan of which one lane alone is concerned is that lane's. -/
theorem laneScan_one (hrun : s.isRunning = true) (hdue : s.scanDue = true) (hq : ∀ k : Fin 16, k ≠ l → s.quietAt k)
    (ht : s.scanTaken.scanLane l = t) (hw : WorksOn l t s.scanTaken) (hb : t.leavesPosts s.scanTaken l) :
    leaves .laneScan s t ∧ exec .laneScan s = .next t := by
  subst ht
  have hleaves := exec_laneScan hrun hdue
  rw [foldl_scanLane_one (fun k hk => quietAt_taken (hq k hk)) hw hb] at hleaves
  have hviews : (s.scanTaken.scanLane l).withViews s = s.scanTaken.scanLane l :=
    withViews_same fun v => (viewTrigger_worksOn hw v).trans (scanTaken_viewTrigger s v)
  refine ⟨hleaves, ?_⟩
  rw [leaves, hviews] at hleaves
  exact hleaves

end One

/-! ### Posts (R12) -/

section Posted

variable {s : State} {l : Fin 16}

/-- A lane with its post count seen, begun at its start address. -/
theorem takePost_begins (h : s.postCount l ≠ (s.lane l).lastSeen) (hst : (s.lane l).state = .idle ∨ (s.lane l).state = .halted) :
    s.takePost l = (s.seePost l (s.postCount l)).beginAt l (s.peek (s.entry l)).toNat := by
  have hpost : s.takePost l = if s.postCount l = (s.lane l).lastSeen then s
      else match (s.lane l).state with
        | .running => s
        | .parked => (s.seePost l (s.postCount l)).reread l
        | _ => (s.seePost l (s.postCount l)).beginAt l (s.peek (s.entry l)).toNat := by
    rw [← setLane_lastSeen]
    rfl
  rw [hpost, if_neg h]
  obtain hst | hst := hst <;> rw [hst]

/-- A parked lane with a new post count re-reads its link. -/
theorem takePost_rereads (h : s.postCount l ≠ (s.lane l).lastSeen) (hst : (s.lane l).state = .parked) :
    s.takePost l = (s.seePost l (s.postCount l)).reread l := by
  rw [← setLane_lastSeen]
  unfold State.takePost
  rw [if_neg h]
  simp only [hst]

theorem seePost_parked (post : Word) : ((s.seePost l post).lane l).parked = (s.lane l).parked := by rw [seePost_lane]

theorem seePost_activity (post : Word) : ((s.seePost l post).lane l).activity = (s.lane l).activity := by rw [seePost_lane]

theorem seePost_entry (post : Word) (k : Fin 16) : (s.seePost l post).entry k = s.entry k := rfl

theorem worksOn_seePost (s : State) (l : Fin 16) (post : Word) : WorksOn l (s.seePost l post) s := by
  rw [← setLane_lastSeen]
  exact worksOn_setLane s l _

/-- How a parked lane's re-read link is taken, by the link and the join in hand. -/
theorem reread_stays {a : Nat} (hp : (s.lane l).parked = some a) (h0 : s.peek a = 0) : s.reread l = s := by
  unfold State.reread
  simp [hp, h0]

theorem reread_begins {a : Nat} (hp : (s.lane l).parked = some a) (h0 : s.peek a ≠ 0)
    (hj : ∀ j : Join, (s.lane l).activity ≠ .gathered j) : s.reread l = s.beginAt l (s.peek a).toNat := by
  have h0' : (s.peek a).toNat ≠ 0 := fun h => h0 (BitVec.eq_of_toNat_eq h)
  unfold State.reread
  simp only [hp, if_neg h0']

theorem reread_continues {a : Nat} {j : Join} (hp : (s.lane l).parked = some a) (h0 : s.peek a ≠ 0)
    (hj : (s.lane l).activity = .gathered j) : s.reread l = s.continueJoin l j (s.peek a).toNat := by
  have h0' : (s.peek a).toNat ≠ 0 := fun h => h0 (BitVec.eq_of_toNat_eq h)
  unfold State.reread
  simp only [hp, if_neg h0', hj]

end Posted

/-! ### What a taken post leaves (O10) -/

section Taken

variable {v : State} {l : Fin 16} {p : Word} {a : Nat}

/-- The first state has the second's everything but lane contexts and RAM. -/
def State.lanesRam (t s : State) : Prop := t = { s with lanes := t.lanes, ram := t.ram }

theorem State.lanesRam.trans {u t s : State} (h1 : u.lanesRam t) (h2 : t.lanesRam s) : u.lanesRam s := by
  unfold State.lanesRam at *
  rw [h1, h2]

theorem lanesRam_setLane (s : State) (k : Fin 16) (x : Lane) : (s.setLane k x).lanesRam s := by
  unfold State.lanesRam
  rw [setLane_only]

theorem lanesRam_pokeAll (s : State) (b : Nat) (ws : List Word) : (s.pokeAll b ws).lanesRam s := rfl

theorem lanesRam_poke (s : State) (b : Nat) (w : Word) : (s.poke b w).lanesRam s := rfl

theorem lanesRam_seePost (v : State) (l : Fin 16) (p : Word) : (v.seePost l p).lanesRam v := rfl

theorem lanesRam_beginAt (hb : linkBad a = false) : (v.beginAt l a).lanesRam v := by
  rw [beginAt_good hb]
  exact (lanesRam_pokeAll _ _ _).trans (lanesRam_setLane v l _)

/-- A posted lane's step begun at a good address. -/
theorem lanesRam_begun (hb : linkBad a = false) : ((v.seePost l p).beginAt l a).lanesRam v :=
  (lanesRam_beginAt hb).trans (lanesRam_seePost v l p)

theorem begun_lane (hb : linkBad a = false) : ((v.seePost l p).beginAt l a).lane l
    = { v.lane l with
        state := .running, activity := .joining {} a, parked := none, age := 0, firstChange := Vector.replicate 8 none
        current := a, lastSeen := p } := by
  rw [beginAt_lane hb, seePost_lane]
  rfl

theorem worksOn_begun : WorksOn l ((v.seePost l p).beginAt l a) v := (worksOn_beginAt _ l a).trans (worksOn_seePost v l p)

theorem readByte_begun {b : Nat} (h : outsideArea b (v.entry l + 16) 16 = true) :
    readByte ((v.seePost l p).beginAt l a).ram b = readByte v.ram b :=
  readByte_beginAt_outside (s := v.seePost l p) h

/-- A posted lane halted at a faulty address. -/
theorem posted_halts_lane : ((v.seePost l p).haltAt l a).lane l
    = { v.lane l with state := .halted, activity := .none, current := a, lastSeen := p, lastStatus := .badStep, lastDetail := 5 } := by
  rw [haltAt_lane, seePost_lane]

/-! A join that a faulty link ends. -/

variable {j : Join} {st : Status} {d : Nat} {n : Word}

/-- A step header lies clear of the lane table. -/
def State.clearOfLanes (s : State) (i : Nat) : Prop := i + 32 ≤ s.cfg.laneTable ∨ s.cfg.laneTable + 512 ≤ i

theorem clearOfLanes_entry {i : Nat} (h : v.clearOfLanes i) (k : Fin 16) : i + 32 ≤ v.entry k ∨ v.entry k + 32 ≤ i := by
  have hk : v.entry k = v.cfg.laneTable + 32 * k.val := rfl
  have := k.isLt
  obtain h | h := h
  · omega
  · omega

theorem readByte_closeHalt_outside {b : Nat} (h : outsideArea b (v.entry l + 16) 16 = true)
    (hs : ∀ i ∈ j.steps, outsideArea b (i + 16) 12 = true) :
    readByte ((v.closeJoin l j st d n).haltAt l a).ram b = readByte v.ram b := by
  rw [readByte_haltAt_outside _ l a (by rwa [closeJoin_entry]), readByte_closeJoin_outside v l j st d n h hs]

theorem closeHalt_peek {i : Nat} (hp : j.steps.Pairwise fun i k => i + 32 ≤ k ∨ k + 32 ≤ i) (hi : i ∈ j.steps)
    (h : i + 32 ≤ Config.ramSize) (hc : v.clearOfLanes i) {k : Nat} (hk : k < 3) :
    ((v.closeJoin l j st d n).haltAt l a).peek (i + 16 + 4 * k) = (v.resultWords st d n).getD k 0 := by
  have hclear := clearOfLanes_entry hc l
  have hentry : (v.closeJoin l j st d n).entry l = v.entry l := closeJoin_entry v l j st d n l
  rw [← closeJoin_peek_step v l j st d n hp hi (by omega) (by omega) hk]
  exact peek_of_outside (fun x hx => readByte_haltAt_outside _ l a hx) (by omega)

theorem closeHalt_lane : ((v.closeJoin l j st d n).haltAt l a).lane l = { (v.lane l).closed j.steps.length st d with
    state := .halted, activity := .none, current := a, lastStatus := .badStep, lastDetail := 5 } := by
  rw [haltAt_lane, closeJoin_lane]

theorem worksOn_closeHalt : WorksOn l ((v.closeJoin l j st d n).haltAt l a) v :=
  (worksOn_haltAt _ l a).trans (worksOn_closeJoin v l j st d n)

/-- A step that lies clear of the lane table has its result words outside every entry. -/
theorem leavesPosts_of_steps {t : State} (hc : ∀ i ∈ j.steps, v.clearOfLanes i)
    (h : ∀ b : Nat, outsideArea b (v.entry l + 16) 16 = true → outsideArea b (v.entry l + 8) 4 = true →
      (∀ i ∈ j.steps, outsideArea b (i + 16) 12 = true) → readByte t.ram b = readByte v.ram b) : t.leavesPosts v l := by
  intro k hk x h4 h12
  obtain ⟨h1, h2⟩ := outside_otherEntry v hk h4 h12
  refine h _ h1 h2 fun i hi => outsideArea_iff.mpr ?_
  have := clearOfLanes_entry (hc i hi) k
  omega

theorem brokenCount_seePost : (v.seePost l p).brokenCount l j = if j.kind = 2 then BitVec.ofNat 32 (v.lane l).age else 0 := by
  unfold State.brokenCount
  rw [seePost_lane]
  rfl

end Taken

section Posts

variable {s : State} {l : Fin 16} {a : Nat} (hrun : s.isRunning = true) (hdue : s.scanDue = true)
  (hc : ∀ k : Fin 16, s.peek (s.entry k + 8) = 0) (hp : ∀ k : Fin 16, k ≠ l → s.postCount k = (s.lane k).lastSeen)
  (hl : s.postCount l ≠ (s.lane l).lastSeen)

include hrun hdue hc hp

/-- A due scan at which no cancel word is set and one lane alone is posted. -/
theorem laneScan_posted {t : State} (ht : s.scanTaken.takePost l = t) (hw : WorksOn l t s.scanTaken)
    (hb : t.leavesPosts s.scanTaken l) : exec .laneScan s = .next t := by
  have hc0 : s.scanTaken.peek (s.scanTaken.entry l + 8) = 0 := by
    rw [scanTaken_entry, scanTaken_peek]; exact hc l
  exact (laneScan_one hrun hdue (fun k hk => ⟨hc k, hp k hk⟩) ((scanLane_uncancelled hc0).trans ht) hw hb).2

include hl

/-- An IDLE or HALTED lane begins at its start address. -/
theorem laneScan_begins (hst : (s.lane l).state = .idle ∨ (s.lane l).state = .halted) : exec .laneScan s
    = .next ((s.scanTaken.seePost l (s.postCount l)).beginAt l (s.peek (s.entry l)).toNat) := by
  have h := takePost_begins (s := s.scanTaken) (l := l) (by rwa [scanTaken_postCount, scanTaken_lane]) (by rwa [scanTaken_lane])
  rw [scanTaken_postCount, scanTaken_entry, scanTaken_peek] at h
  exact laneScan_posted hrun hdue hc hp h worksOn_begun (leavesPosts_of_entry fun _ => readByte_begun)

variable (hst : (s.lane l).state = .parked)

include hst

theorem laneScan_rereads {t : State} (ht : (s.scanTaken.seePost l (s.postCount l)).reread l = t) (hw : WorksOn l t s.scanTaken)
    (hb : t.leavesPosts s.scanTaken l) : exec .laneScan s = .next t := by
  have h := takePost_rereads (s := s.scanTaken) (l := l) (by rwa [scanTaken_postCount, scanTaken_lane]) (by rwa [scanTaken_lane])
  rw [scanTaken_postCount, ht] at h
  exact laneScan_posted hrun hdue hc hp h hw hb

variable (hpark : (s.lane l).parked = some a)

include hpark

/-- A PARKED lane whose link still reads 0. -/
theorem laneScan_stays (h0 : s.peek a = 0) : exec .laneScan s = .next (s.scanTaken.seePost l (s.postCount l)) := by
  refine laneScan_rereads hrun hdue hc hp hl hst (reread_stays (a := a) ?_ ?_) (worksOn_seePost _ l _)
    (leavesPosts_of_entry fun _ _ => rfl)
  · rw [seePost_parked, scanTaken_lane]; exact hpark
  · rw [seePost_peek, scanTaken_peek]; exact h0

variable (h0 : s.peek a ≠ 0)

include h0

/-- A PARKED lane whose link is begun, or halts it. -/
theorem laneScan_follows (hj : ∀ j : Join, (s.lane l).activity ≠ .gathered j) : exec .laneScan s
    = .next ((s.scanTaken.seePost l (s.postCount l)).beginAt l (s.peek a).toNat) := by
  have h := reread_begins (s := s.scanTaken.seePost l (s.postCount l)) (l := l) (a := a)
    (by rw [seePost_parked, scanTaken_lane]; exact hpark) (by rw [seePost_peek, scanTaken_peek]; exact h0)
    (by rw [seePost_activity, scanTaken_lane]; exact hj)
  rw [seePost_peek, scanTaken_peek] at h
  exact laneScan_rereads hrun hdue hc hp hl hst h worksOn_begun (leavesPosts_of_entry fun _ => readByte_begun)

variable {j : Join} (hj : (s.lane l).activity = .gathered j)

include hj

/-- A lane parked inside a GATHER re-reads the link. -/
theorem laneScan_continues {t : State}
    (ht : (s.scanTaken.seePost l (s.postCount l)).continueJoin l j (s.peek a).toNat = t) (hw : WorksOn l t s.scanTaken)
    (hb : t.leavesPosts s.scanTaken l) : exec .laneScan s = .next t := by
  have h := reread_continues (s := s.scanTaken.seePost l (s.postCount l)) (l := l) (a := a) (j := j)
    (by rw [seePost_parked, scanTaken_lane]; exact hpark) (by rw [seePost_peek, scanTaken_peek]; exact h0)
    (by rw [seePost_activity, scanTaken_lane]; exact hj)
  rw [seePost_peek, scanTaken_peek, ht] at h
  exact laneScan_rereads hrun hdue hc hp hl hst h hw hb

end Posts

end Sys2Proof.Machine

/-!
A posted lane (O10): what a scan leaves of it (spec 01, R12, R13 and R15).
-/

namespace Sys2Proof.Machine

set_option Elab.async false

section Continue

variable {v : State} {l : Fin 16} {j : Join} {a : Nat}

/-- A lane's context as the join in its hand goes on at a link. -/
def Lane.continued (x : Lane) (j : Join) (a : Nat) : Lane := { x with state := .running, activity := .joining j a, parked := none }

theorem continueJoin_good (h : linkBad a = false) : v.continueJoin l j a = v.setLane l ((v.lane l).continued j a) :=
  if_neg (by simp [h])

theorem continueJoin_bad (h : linkBad a = true) :
    v.continueJoin l j a = (v.closeJoin l j .badStep 5 (v.brokenCount l j)).haltAt l a :=
  if_pos h

theorem worksOn_posted_setLane (v : State) (l : Fin 16) (p : Word) (x : Lane) : WorksOn l ((v.seePost l p).setLane l x) v :=
  (worksOn_setLane _ l x).trans (worksOn_seePost v l p)

theorem worksOn_posted_haltAt (v : State) (l : Fin 16) (p : Word) (a : Nat) : WorksOn l ((v.seePost l p).haltAt l a) v :=
  (worksOn_haltAt _ l a).trans (worksOn_seePost v l p)

theorem worksOn_posted_closeHalt (v : State) (l : Fin 16) (p n : Word) (a : Nat) (j : Join) :
    WorksOn l (((v.seePost l p).closeJoin l j .badStep 5 n).haltAt l a) v :=
  worksOn_closeHalt.trans (worksOn_seePost v l p)

end Continue

section Clauses

variable {s t : State} {l : Fin 16} {a : Nat} {p : Word}

theorem lanesRam_scanTaken (h : t.lanesRam s.scanTaken) : t = { s with scanDue := false, lanes := t.lanes, ram := t.ram } := h

theorem lanesOnly_scanTaken (h : t.lanesOnly s.scanTaken) : t = { s with
    scanDue := false, lanes := t.lanes, ram := t.ram, regs := { s.regs with attention := t.regs.attention } } := h

theorem others_scanTaken (h : WorksOn l t s.scanTaken) : ∀ k : Fin 16, k ≠ l → t.lane k = s.lane k := h.others

theorem scanTaken_seePost : s.scanTaken.seePost l p
    = { s with scanDue := false, lanes := s.lanes.set l { s.lane l with lastSeen := p } } := rfl

theorem seePost_isRunning : (s.scanTaken.seePost l p).isRunning = s.isRunning := rfl

/-- The words of the entry of a lane that begins a step at an address read as a word. -/
theorem begun_words {w : Word} (hb : linkBad w.toNat = false) (h : s.cfg.laneTable + 512 ≤ Config.ramSize) :
    ((s.scanTaken.seePost l p).beginAt l w.toNat).peek (s.entry l + 20) = 1
      ∧ ((s.scanTaken.seePost l p).beginAt l w.toNat).peek (s.entry l + 24) = w := by
  have he : s.entry l = s.cfg.laneTable + 32 * l.val := rfl
  have hr : (s.scanTaken.seePost l p).entry l + 32 ≤ Config.ramSize := by
    rw [seePost_entry, scanTaken_entry]; omega
  refine ⟨beginAt_peek hb hr (i := 0) (by omega), (beginAt_peek hb hr (i := 1) (by omega)).trans ?_⟩
  exact (BitVec.ofNat_toNat 32 w).trans (BitVec.setWidth_eq w)

end Clauses

/-- Settles O10. -/
theorem scanBeginsPostedLane : Obligations.ScanBeginsPostedLane := by
  unfold Obligations.ScanBeginsPostedLane
  refine ⟨fun s l hrun hdue hc hp hl hst hb => ?_, fun s l a hrun hdue hc hp hl hst hpark => ⟨fun h0 => ?_, fun h0 hb => ?_,
    fun hb h0 => ⟨fun hj => ?_, fun j hj hclear => ?_⟩⟩⟩
  · exact ⟨_, laneScan_begins hrun hdue hc hp hl hst, lanesRam_scanTaken (lanesRam_begun hb), begun_lane hb,
      others_scanTaken worksOn_begun, fun b hout => readByte_begun hout⟩
  · exact laneScan_stays hrun hdue hc hp hl hst hpark h0
  · by_cases hg : ∃ j : Join, (s.lane l).activity = .gathered j
    · obtain ⟨j, hj⟩ := hg
      have hcont := continueJoin_good (v := s.scanTaken.seePost l (s.postCount l)) (l := l) (j := j) hb
      have hw := worksOn_posted_setLane s.scanTaken l (s.postCount l)
        (((s.scanTaken.seePost l (s.postCount l)).lane l).continued j (s.peek a).toNat)
      refine ⟨_, laneScan_continues hrun hdue hc hp hl hst hpark h0 hj hcont hw
          (leavesPosts_of_entry fun b hout => readByte_setLane_outside _ l _ hout),
        lanesRam_scanTaken ((lanesRam_setLane _ l _).trans (lanesRam_seePost s.scanTaken l _)), others_scanTaken hw,
        fun b hout => readByte_setLane_outside _ l _ hout, fun hno => absurd hj (hno j), fun i hi => ?_⟩
      obtain rfl : j = i := Activity.gathered.inj (hj.symm.trans hi)
      rw [setLane_lane, seePost_lane]
      rfl
    · have hj : ∀ j : Join, (s.lane l).activity ≠ .gathered j := fun j h => hg ⟨j, h⟩
      exact ⟨_, laneScan_follows hrun hdue hc hp hl hst hpark h0 hj, lanesRam_scanTaken (lanesRam_begun hb),
        others_scanTaken worksOn_begun, fun b hout => readByte_begun hout,
        fun _ => ⟨begun_lane hb, fun h => begun_words hb h⟩, fun j h => absurd h (hj j)⟩
  · have hfollows := laneScan_follows hrun hdue hc hp hl hst hpark h0 hj
    rw [beginAt_bad hb] at hfollows
    have hw := worksOn_posted_haltAt s.scanTaken l (s.postCount l) (s.peek a).toNat
    exact ⟨_, hfollows, lanesOnly_scanTaken hw.only, posted_halts_lane, others_scanTaken hw, haltAt_attention _ l _ hrun,
      fun b hout => readByte_haltAt_outside _ l _ hout⟩
  · have hcont := continueJoin_bad (v := s.scanTaken.seePost l (s.postCount l)) (l := l) (j := j) hb
    rw [brokenCount_seePost, scanTaken_lane] at hcont
    have hw := worksOn_posted_closeHalt s.scanTaken l (s.postCount l)
      (if j.kind = 2 then BitVec.ofNat 32 (s.lane l).age else 0) (s.peek a).toNat j
    have hlane := closeHalt_lane (v := s.scanTaken.seePost l (s.postCount l)) (l := l) (j := j) (st := .badStep) (d := 5)
      (n := if j.kind = 2 then BitVec.ofNat 32 (s.lane l).age else 0) (a := (s.peek a).toNat)
    rw [seePost_lane] at hlane
    refine ⟨_, laneScan_continues hrun hdue hc hp hl hst hpark h0 hj hcont hw
        (leavesPosts_of_steps hclear fun b h16 _ hs => readByte_closeHalt_outside h16 hs),
      lanesOnly_scanTaken hw.only, congrArg Lane.state hlane, congrArg Lane.activity hlane,
      congrArg Lane.current hlane, congrArg Lane.done hlane, congrArg Lane.lastStatus hlane, congrArg Lane.lastDetail hlane,
      congrArg Lane.lastSeen hlane, others_scanTaken hw, ?_, fun hpw i hi hram => ?_⟩
    · exact haltAt_attention _ l _ ((closeJoin_isRunning _ l j .badStep 5 _).trans hrun)
    · have hres := fun k hk => closeHalt_peek (v := s.scanTaken.seePost l (s.postCount l)) (l := l) (a := (s.peek a).toNat)
        (st := .badStep) (d := 5) (n := if j.kind = 2 then BitVec.ofNat 32 (s.lane l).age else 0) hpw hi hram (hclear i hi) (k := k) hk
      exact ⟨hres 0 (by omega), hres 1 (by omega), hres 2 (by omega)⟩

end Sys2Proof.Machine

/-!
Cancels (spec 01, R12 and R16): what a block's withdrawal leaves of its lane, how a cancelled lane ends, and the scan that takes a
cancel word (O11).
-/

namespace Sys2Proof.Machine

set_option Elab.async false

/-! ### A block stops working on a cancelled step -/

/-- A lane's done count stands, and the terminal runs on as it ran. -/
structure State.CountStands (l : Fin 16) (t s : State) : Prop where
  done : (t.lane l).done = (s.lane l).done
  runs : t.isRunning = s.isRunning

namespace State.CountStands

variable {l : Fin 16} {s t u : State}

theorem refl (l : Fin 16) (s : State) : CountStands l s s := ⟨rfl, rfl⟩

theorem trans (h1 : CountStands l u t) (h2 : CountStands l t s) : CountStands l u s :=
  ⟨h1.done.trans h2.done, h1.runs.trans h2.runs⟩

/-- What leaves lane contexts and registers leaves the count. -/
theorem of_same (hl : t.lanes = s.lanes) (hr : t.regs = s.regs) : CountStands l t s :=
  ⟨by rw [State.lane, hl, State.lane], by rw [State.isRunning, hr, State.isRunning]⟩

end State.CountStands

section Withdrawn

variable (s : State) (l : Fin 16)

theorem attend_stands (i : Nat) : State.CountStands l (s.attend i) s := 
  ⟨by rw [attend_lane], isRunning_of_lanesOnly (worksOn_attend l s i).only⟩

theorem foldl_stands {α : Type} (f : State → α → State) (hf : ∀ (t : State) (x : α), State.CountStands l (f t x) t)
    (xs : List α) : State.CountStands l (xs.foldl f s) s := by
  induction xs generalizing s with
  | nil => exact .refl l s
  | cons x xs ih => exact (ih _).trans (hf s x)

theorem storeJoined_stands (j : Join) (i : Nat) (bs : List Byte) : State.CountStands l (s.storeJoined j i bs) s :=
  
  foldl_stands s l (fun st (k : Nat × Byte) => st.store (j.address (i + k.1)) [k.2]) (fun _ _ => .of_same rfl rfl) _

theorem writeOutcomes_stands (os ns : List InputStep) : State.CountStands l (s.writeOutcomes os ns) s := by
  induction os generalizing s ns with
  | nil => exact .refl l s
  | cons o os ih =>
    cases ns with
    | nil => exact .refl l s
    | cons n ns =>
      rw [State.writeOutcomes]
      refine (ih _ ns).trans ?_
      split
      · exact .of_same rfl rfl
      · exact .refl l s

theorem addFault_stands (r : List Word) : State.CountStands l (s.addFault r) s := by
  unfold State.addFault
  extract_lets base
  split
  · exact (attend_stands _ l 16).trans (.of_same rfl rfl)
  · exact .of_same rfl rfl

theorem withdraw_stands : State.CountStands l (s.withdraw l) s := by
  have hl : (s.withdraw l).lane l = (Bank.update s.lanes l fun x => { x with held := none, want := none }).get l := rfl
  have hr : (s.withdraw l).regs = s.regs := rfl
  constructor
  · rw [hl, Bank.update_get, if_pos rfl]
    rfl
  · rw [State.isRunning, hr, State.isRunning]

theorem writeLoop_stands (x : LoopRec) : State.CountStands l (s.writeLoop x) s := by
  unfold State.writeLoop
  split
  · exact storeJoined_stands s l _ _ _
  · exact .refl l s

/-- A loop test that a cancel ends ends no step. -/
theorem endLoop_cancelled_stands (p : Port) : State.CountStands l (s.endLoop p .cancelled) s := by
  unfold State.endLoop
  split
  · exact .refl l s
  next x _ =>
    have htest : ∀ t : State, t.endTester x .cancelled = t := fun t => by
      unfold State.endTester
      cases x.lane <;> rfl
    simp only [htest]
    refine (addFault_stands _ l _).trans (.trans ?_ (writeLoop_stands s l x))
    exact .of_same rfl rfl

theorem cancelLoop_stands (p : Port) : State.CountStands l (s.cancelLoop l p) s := by
  unfold State.cancelLoop
  split
  · split
    · exact endLoop_cancelled_stands s l p
    · exact .refl l s
  · exact .refl l s

theorem cancelCue_stands (k : Option (Fin 16)) : State.CountStands l (s.cancelCue l k) s := by
  cases k <;> exact .of_same rfl rfl

/-- Whatever a block does on a cancel, the lane's done count stands. -/
theorem cancelOp_stands (op : Op) : State.CountStands l (s.cancelOp l op).1 s := by
  cases op with
  | wait => exact .refl l s
  | mapSlots => exact .refl l s
  | patchOutputs => exact .refl l s
  | sendNote => exact withdraw_stands s l
  | setInput =>
    have hforget : ∀ t : State, State.CountStands l (t.forgetLane l) t := fun t => .of_same rfl rfl
    exact (hforget _).trans ((withdraw_stands _ l).trans (writeOutcomes_stands s l _ _))
  | claim => exact withdraw_stands s l
  | setReference => exact withdraw_stands s l
  | mixRemote => exact withdraw_stands s l
  | cueScene => exact cancelCue_stands s l _
  | talkOpen => exact .refl l s
  | loopTest => exact (cancelLoop_stands _ l _).trans (withdraw_stands s l)
  | meter =>
    simp only [State.cancelOp]
    split
    · have hdrop : ∀ t : State, State.CountStands l (t.dropSweep l) t := fun t => .of_same rfl rfl
      exact (hdrop _).trans (storeJoined_stands s l _ _ _)
    · exact .refl l s

end Withdrawn

/-! ### The end of a cancelled step (R16) -/

/-- A lane's context once its step has been cancelled. -/
def Lane.cancelled (x : Lane) (steps : Nat) : Lane :=
  { x.closed steps .cancelled 0 with state := .idle, activity := .none, parked := none }

section Cancelled

variable (s : State) (l : Fin 16) (j : Join) (n : Word)

theorem finishCancelled_eq : s.finishCancelled l j n
    = (s.closeJoin l j .cancelled 0 n).setLane l ((s.lane l).cancelled j.steps.length) := by
  have h : s.finishCancelled l j n = (s.closeJoin l j .cancelled 0 n).setLane l
    { (s.closeJoin l j .cancelled 0 n).lane l with state := .idle, activity := .none, parked := none } := rfl
  rw [h, closeJoin_lane]
  rfl

theorem finishCancelled_lane : (s.finishCancelled l j n).lane l = (s.lane l).cancelled j.steps.length := by
  rw [finishCancelled_eq, setLane_lane]

theorem finishCancelled_attention (hrun : s.isRunning = true) :
    (s.finishCancelled l j n).regs.attention.getLsbD l.val = true := by
  rw [finishCancelled_eq, setLane_regs]
  exact closeJoin_attention s l j .cancelled 0 n hrun (Or.inr rfl)

theorem finishCancelled_entry (k : Fin 16) : (s.finishCancelled l j n).entry k = s.entry k :=
  entry_congr (cfg_of_lanesOnly (worksOn_finishCancelled s l j n).only) k

theorem readByte_finishCancelled_outside {b : Nat} (h : outsideArea b (s.entry l + 16) 16 = true)
    (hs : ∀ i ∈ j.steps, outsideArea b (i + 16) 12 = true) : readByte (s.finishCancelled l j n).ram b = readByte s.ram b := by
  rw [finishCancelled_eq, readByte_setLane_outside _ l _ (by rwa [closeJoin_entry]),
    readByte_closeJoin_outside s l j .cancelled 0 n h hs]

/-- The result fields of a cancelled join's steps. -/
theorem finishCancelled_peek_step (hp : j.steps.Pairwise fun i k => i + 32 ≤ k ∨ k + 32 ≤ i) {i : Nat} (hi : i ∈ j.steps)
    (h : i + 32 ≤ Config.ramSize) (hc : s.clearOfLanes i) {k : Nat} (hk : k < 3) :
    (s.finishCancelled l j n).peek (i + 16 + 4 * k) = (s.resultWords .cancelled 0 n).getD k 0 := by
  have hclear := clearOfLanes_entry hc l
  have hentry := closeJoin_entry s l j .cancelled 0 n l
  rw [← closeJoin_peek_step s l j .cancelled 0 n hp hi (by omega) (by omega) hk, finishCancelled_eq]
  exact peek_setLane_apart _ l _ (by omega)

/-- The part-written words of a cancelled lane's entry, the one of its current step apart. -/
theorem finishCancelled_peek_entry (h : s.entry l + 32 ≤ Config.ramSize) :
    (s.finishCancelled l j n).peek (s.entry l + 16) = (s.lane l).done + BitVec.ofNat 32 j.steps.length
      ∧ (s.finishCancelled l j n).peek (s.entry l + 28) = 9
      ∧ ((s.lane l).state ≠ .idle → (s.finishCancelled l j n).peek (s.entry l + 20) = 0) := by
  have hentry := closeJoin_entry s l j .cancelled 0 n l
  have hword := fun i hi => setLane_peek (s.closeJoin l j .cancelled 0 n) l ((s.lane l).cancelled j.steps.length) (i := i) hi
    (by rwa [hentry])
  rw [hentry, ← finishCancelled_eq, closeJoin_lane] at hword
  refine ⟨(hword 0 (by omega)).trans ?_, (hword 3 (by omega)).trans ?_, fun hst => (hword 1 (by omega)).trans ?_⟩
  · exact (if_pos rfl).trans (closeJoin_peek_done s l j .cancelled 0 n h)
  · exact (if_pos rfl).trans (closeJoin_peek_status s l j .cancelled 0 n h)
  · exact if_neg fun hcode => hst (stateCode_inj (x := (s.lane l).state) (y := .idle) hcode)

section Host

variable {s l j n} (hc : ∀ i ∈ j.steps, s.clearOfLanes i)

include hc

/-- The host's words of a cancelled lane's entry stand. -/
theorem finishCancelled_peek_host {x : Nat} (hx : x = 4 ∨ x = 8) :
    (s.finishCancelled l j n).peek (s.entry l + x) = s.peek (s.entry l + x) := by
  refine peek_congr fun i hi => readByte_finishCancelled_outside s l j n (outsideArea_iff.mpr ?_)
    fun k hk => outsideArea_iff.mpr ?_
  · omega
  · have := clearOfLanes_entry (hc k hk) l
    omega

/-- An unposted lane is left IDLE by its cancel. -/
theorem takePost_finishCancelled (hp : s.postCount l = (s.lane l).lastSeen) :
    (s.finishCancelled l j n).takePost l = s.finishCancelled l j n := by
  refine takePost_seen ?_
  rw [State.postCount, finishCancelled_entry, finishCancelled_peek_host hc (Or.inl rfl), finishCancelled_lane]
  exact hp

end Host

end Cancelled

/-! ### What a cancel leaves, by what the lane was doing -/

section CancelLane

variable {s : State} {l : Fin 16}

theorem cancelLane_working {j : Join} {op : Op} (h : (s.lane l).activity = .working j op) :
    s.cancelLane l = (s.cancelOp l op).1.finishCancelled l j (s.cancelOp l op).2 := by
  unfold State.cancelLane
  simp only [h]

theorem cancelLane_wait {j : Join} {c : WaitCond} {timeout : Word} (h : (s.lane l).activity = .working j (.wait c timeout)) :
    s.cancelLane l = s.finishCancelled l j (snap (s.lane l).age) := by
  have hop : s.cancelOp l (.wait c timeout) = (s, snap (s.lane l).age) := by rw [State.cancelOp]
  rw [cancelLane_working h, hop]

theorem cancelLane_joining {j : Join} {a : Nat} (h : (s.lane l).activity = .joining j a) :
    s.cancelLane l = s.finishCancelled l (s.joinInProgress j a) (s.brokenCount l (s.joinInProgress j a)) := by
  unfold State.cancelLane
  simp only [h]

theorem cancelLane_gathered {j : Join} (h : (s.lane l).activity = .gathered j) :
    s.cancelLane l = s.finishCancelled l j (s.brokenCount l j) := by
  unfold State.cancelLane
  simp only [h]

theorem cancelLane_resting (h : (s.lane l).activity = .none) : s.cancelLane l
    = if (s.lane l).state = .idle then s else s.setLane l { s.lane l with state := .idle, parked := none } := by
  unfold State.cancelLane
  simp only [h]

/-- A cancel of a lane with a step in hand finishes a join of it. -/
theorem cancelLane_finishes (h : (s.lane l).activity ≠ .none) :
    ∃ (t : State) (j : Join) (n : Word), s.cancelLane l = t.finishCancelled l j n := by
  cases hx : (s.lane l).activity with
  | none => exact absurd hx h
  | joining j a => exact ⟨_, _, _, cancelLane_joining hx⟩
  | gathered j => exact ⟨_, _, _, cancelLane_gathered hx⟩
  | working j op => exact ⟨_, _, _, cancelLane_working hx⟩

theorem cancelLane_activity : ((s.cancelLane l).lane l).activity = .none := by
  by_cases h : (s.lane l).activity = .none
  · rw [cancelLane_resting h]
    split
    · exact h
    · rw [setLane_lane]; exact h
  · obtain ⟨t, j, n, he⟩ := cancelLane_finishes h
    rw [he, finishCancelled_lane]
    rfl

theorem cancelLane_idle (h : (s.lane l).state ≠ .idle ∨ (s.lane l).activity ≠ .none) :
    ((s.cancelLane l).lane l).state = .idle := by
  by_cases hx : (s.lane l).activity = .none
  · rw [cancelLane_resting hx, if_neg (h.resolve_right (not_not_intro hx)), setLane_lane]
  · obtain ⟨t, j, n, he⟩ := cancelLane_finishes hx
    rw [he, finishCancelled_lane]
    rfl

/-- A step at its block ends CANCELLED. -/
theorem cancelLane_ends {j : Join} {op : Op} (h : (s.lane l).activity = .working j op) :
    ((s.cancelLane l).lane l).done = (s.lane l).done + BitVec.ofNat 32 j.steps.length
      ∧ ((s.cancelLane l).lane l).lastStatus = .cancelled ∧ ((s.cancelLane l).lane l).lastDetail = 0
      ∧ (s.isRunning = true → (s.cancelLane l).regs.attention.getLsbD l.val = true) := by
  have hstands := cancelOp_stands s l op
  rw [cancelLane_working h, finishCancelled_lane, ← hstands.done]
  exact ⟨rfl, rfl, rfl, fun hrun => finishCancelled_attention _ l j _ (hstands.runs.trans hrun)⟩

/-- A cancel of a lane without a step in hand. -/
theorem cancelLane_resting_lane (h : (s.lane l).activity = .none) :
    (s.cancelLane l).lane l = { s.lane l with state := .idle, parked := if (s.lane l).state = .idle then (s.lane l).parked else none } := by
  rw [cancelLane_resting h]
  split
  next hst => rw [← hst]
  next hst => rw [setLane_lane]

theorem worksOn_cancelLane_resting (h : (s.lane l).activity = .none) : WorksOn l (s.cancelLane l) s := by
  rw [cancelLane_resting h]
  split
  · exact .refl l s
  · exact worksOn_setLane s l _

theorem lanesRam_cancelLane_resting (h : (s.lane l).activity = .none) : (s.cancelLane l).lanesRam s := by
  rw [cancelLane_resting h]
  split
  · rfl
  · exact lanesRam_setLane s l _

theorem readByte_cancelLane_resting (h : (s.lane l).activity = .none) {b : Nat} (hb : outsideArea b (s.entry l + 16) 16 = true) :
    readByte (s.cancelLane l).ram b = readByte s.ram b := by
  rw [cancelLane_resting h]
  split
  · rfl
  · exact readByte_setLane_outside s l _ hb

/-- A cancel of a begun step or of a join in hand, not yet taken by its block. -/
theorem cancelLane_untaken {j : Join} (h : (s.lane l).activity = .gathered j
      ∨ ∃ (k : Join) (a : Nat), (s.lane l).activity = .joining k a
        ∧ (s.joinFrom joinFuel k a = .ready j ∨ s.joinFrom joinFuel k a = .gathered j
          ∨ (∃ d : Nat, s.joinFrom joinFuel k a = .failed j d) ∨ (∃ b : Nat, s.joinFrom joinFuel k a = .badLink j b)
          ∨ s.joinFrom joinFuel k a = .endless ∧ j = k.add s.ram a (s.header a))) :
    s.cancelLane l = s.finishCancelled l j (s.brokenCount l j) := by
  obtain h | ⟨k, a, h, hj⟩ := h
  · exact cancelLane_gathered h
  · rw [cancelLane_joining h, joinInProgress_of hj]

end CancelLane

/-! ### The scan of one cancelled lane -/

/-- The state at which a lane's cancel is taken: 0 is written back (R16). -/
def State.cancelTaken (s : State) (l : Fin 16) : State := s.poke (s.entry l + 8) 0

section Taken

variable {s : State} {l : Fin 16}

@[simp] theorem cancelTaken_lane (s : State) (l k : Fin 16) : (s.cancelTaken l).lane k = s.lane k := rfl

@[simp] theorem cancelTaken_entry (s : State) (l k : Fin 16) : (s.cancelTaken l).entry k = s.entry k := rfl

theorem worksOn_cancelTaken (s : State) (l : Fin 16) : WorksOn l (s.cancelTaken l) s := worksOn_poke l s _ _

theorem readByte_cancelTaken {b : Nat} (h : outsideArea b (s.entry l + 8) 4 = true) :
    readByte (s.cancelTaken l).ram b = readByte s.ram b :=
  readByte_poke_outside s h

theorem cancelTaken_peek {b : Nat} (h : b + 4 ≤ s.entry l + 8 ∨ s.entry l + 12 ≤ b) : (s.cancelTaken l).peek b = s.peek b :=
  peek_poke_apart s (by omega)

theorem cancelTaken_postCount (s : State) (l : Fin 16) : (s.cancelTaken l).postCount l = s.postCount l :=
  cancelTaken_peek (b := s.entry l + 4) (by omega)

theorem cancelTaken_peek_cancel (h : s.entry l + 32 ≤ Config.ramSize) : (s.cancelTaken l).peek (s.entry l + 8) = 0 :=
  peek_poke s _ 0 (by omega)

end Taken

section Resting

variable {w : State} {l : Fin 16} (h : (w.lane l).activity = .none)

include h

theorem cancelLane_resting_peek {b : Nat} (hb : b + 4 ≤ w.entry l + 16 ∨ w.entry l + 32 ≤ b) :
    (w.cancelLane l).peek b = w.peek b :=
  peek_of_outside (fun _ hx => readByte_cancelLane_resting h hx) (by omega)

theorem cancelLane_resting_entry (k : Fin 16) : (w.cancelLane l).entry k = w.entry k :=
  entry_congr (cfg_of_lanesOnly (worksOn_cancelLane_resting h).only) k

theorem cancelLane_resting_postCount : (w.cancelLane l).postCount l = w.postCount l := by
  rw [State.postCount, cancelLane_resting_entry h, cancelLane_resting_peek h (by omega)]
  rfl

/-- An unposted lane without a step in hand is left IDLE. -/
theorem takePost_cancelLane_seen (hp : w.postCount l = (w.lane l).lastSeen) : (w.cancelLane l).takePost l = w.cancelLane l := by
  refine takePost_seen ?_
  rw [cancelLane_resting_postCount h, cancelLane_resting_lane h, hp]

/-- A posted lane without a step in hand begins at once. -/
theorem takePost_cancelLane_posted (hp : w.postCount l ≠ (w.lane l).lastSeen) : (w.cancelLane l).takePost l
    = ((w.cancelLane l).seePost l (w.postCount l)).beginAt l (w.peek (w.entry l)).toNat := by
  have hpost := cancelLane_resting_postCount h
  have hlane := cancelLane_resting_lane h
  rw [takePost_begins (by rw [hpost, hlane]; exact hp) (by rw [hlane]; exact Or.inl rfl), hpost, cancelLane_resting_entry h,
    cancelLane_resting_peek h (by omega)]

end Resting

section Scanned

variable {s : State} {l : Fin 16}

/-- The state at which a due scan takes a lane's cancel word. -/
def State.cancelDue (s : State) (l : Fin 16) : State := s.scanTaken.cancelTaken l

@[simp] theorem cancelDue_lane (s : State) (l k : Fin 16) : (s.cancelDue l).lane k = s.lane k := rfl

@[simp] theorem cancelDue_entry (s : State) (l k : Fin 16) : (s.cancelDue l).entry k = s.entry k := rfl

theorem cancelDue_postCount (s : State) (l : Fin 16) : (s.cancelDue l).postCount l = s.postCount l := by
  rw [State.cancelDue, cancelTaken_postCount, scanTaken_postCount]

theorem cancelDue_peek {b : Nat} (h : b + 4 ≤ s.entry l + 8 ∨ s.entry l + 12 ≤ b) : (s.cancelDue l).peek b = s.peek b := by
  rw [State.cancelDue, cancelTaken_peek (by rwa [scanTaken_entry]), scanTaken_peek]

theorem cancelDue_peek_cancel (h : s.entry l + 32 ≤ Config.ramSize) : (s.cancelDue l).peek (s.entry l + 8) = 0 :=
  cancelTaken_peek_cancel (s := s.scanTaken) h

theorem readByte_cancelDue {b : Nat} (h : outsideArea b (s.entry l + 8) 4 = true) :
    readByte (s.cancelDue l).ram b = readByte s.ram b :=
  readByte_cancelTaken (s := s.scanTaken) h

theorem worksOn_cancelDue (s : State) (l : Fin 16) : WorksOn l (s.cancelDue l) s.scanTaken := worksOn_cancelTaken s.scanTaken l

theorem lanesRam_cancelDue (s : State) (l : Fin 16) : (s.cancelDue l).lanesRam s.scanTaken := lanesRam_poke _ _ _

theorem cancelDue_clear {i : Nat} : (s.cancelDue l).clearOfLanes i ↔ s.clearOfLanes i := Iff.rfl

theorem cancelDue_isRunning (s : State) (l : Fin 16) : (s.cancelDue l).isRunning = s.isRunning := rfl

theorem cancelDue_frame (s : State) (l : Fin 16) : (s.cancelDue l).clock.frame = s.clock.frame := rfl

theorem entry_inside (hram : s.cfg.laneTable + 512 ≤ Config.ramSize) (l : Fin 16) : s.entry l + 32 ≤ Config.ramSize := by
  have he : s.entry l = s.cfg.laneTable + 32 * l.val := rfl
  omega

/-- A scan that writes the lane's cancel word, its part-written words and nothing else leaves the other lanes' words. -/
theorem leavesPosts_of_cancel {u : State} (h : ∀ b : Nat, outsideArea b (s.entry l + 16) 16 = true →
    readByte u.ram b = readByte (s.cancelDue l).ram b) : u.leavesPosts s.scanTaken l :=
  leavesPosts_of_steps (j := {}) (fun _ hi => nomatch hi) fun b h16 h8 _ => (h b h16).trans (readByte_cancelDue h8)

variable (hrun : s.isRunning = true) (hdue : s.scanDue = true) (hc : s.peek (s.entry l + 8) ≠ 0)
  (hq : ∀ k : Fin 16, k ≠ l → s.quietAt k)

include hrun hdue hc hq

/-- A due scan of which one lane alone is cancelled, and no other posted. -/
theorem laneScan_cancelled {u : State} (hu : ((s.cancelDue l).cancelLane l).takePost l = u) (hw : WorksOn l u (s.cancelDue l))
    (hb : u.leavesPosts s.scanTaken l) : leaves .laneScan s u := by
  have hc' : s.scanTaken.peek (s.scanTaken.entry l + 8) ≠ 0 := by rwa [scanTaken_entry, scanTaken_peek]
  exact (laneScan_one hrun hdue hq ((scanLane_cancelled hc').trans hu) (hw.trans (worksOn_cancelDue s l)) hb).1

variable (hram : s.cfg.laneTable + 512 ≤ Config.ramSize)

include hram

/-- A cancelled lane with nothing in hand is left IDLE. -/
theorem laneScan_idles (hact : (s.lane l).activity = .none) (hst : (s.lane l).state ≠ .idle)
    (hp : s.postCount l = (s.lane l).lastSeen) :
    ∃ u : State, leaves .laneScan s u ∧ u = { s with scanDue := false, lanes := u.lanes, ram := u.ram }
      ∧ u.lane l = { s.lane l with state := .idle, parked := none }
      ∧ (∀ k : Fin 16, k ≠ l → u.lane k = s.lane k) ∧ u.peek (s.entry l + 8) = 0
      ∧ ∀ b : Nat, outsideArea b (s.entry l + 8) 4 = true → outsideArea b (s.entry l + 16) 16 = true →
          readByte u.ram b = readByte s.ram b := by
  have hact' : ((s.cancelDue l).lane l).activity = .none := hact
  have hbytes := fun b hb => readByte_cancelLane_resting (s := s.cancelDue l) hact' (b := b) hb
  have hw := worksOn_cancelLane_resting hact'
  have hlane := cancelLane_resting_lane hact'
  rw [cancelDue_lane, if_neg hst] at hlane
  refine ⟨_, laneScan_cancelled hrun hdue hc hq
      (takePost_cancelLane_seen hact' (by rw [cancelDue_postCount, cancelDue_lane, hp])) hw (leavesPosts_of_cancel hbytes),
    lanesRam_scanTaken ((lanesRam_cancelLane_resting hact').trans (lanesRam_cancelDue s l)), hlane, hw.others, ?_,
    fun b h8 h16 => (hbytes b h16).trans (readByte_cancelDue h8)⟩
  rw [cancelLane_resting_peek hact' (by rw [cancelDue_entry]; omega), cancelDue_peek_cancel (entry_inside hram l)]

/-- A cancelled lane with nothing in hand and a new post count begins at once. -/
theorem laneScan_restarts (hact : (s.lane l).activity = .none) (hp : s.postCount l ≠ (s.lane l).lastSeen)
    (hb : linkBad (s.peek (s.entry l)).toNat = false) :
    ∃ u : State, leaves .laneScan s u ∧ u = { s with scanDue := false, lanes := u.lanes, ram := u.ram }
      ∧ (u.lane l).state = .running ∧ (u.lane l).activity = .joining {} (s.peek (s.entry l)).toNat
      ∧ (u.lane l).lastSeen = s.postCount l ∧ (∀ k : Fin 16, k ≠ l → u.lane k = s.lane k) ∧ u.peek (s.entry l + 8) = 0 := by
  have hact' : ((s.cancelDue l).lane l).activity = .none := hact
  have hw := worksOn_cancelLane_resting hact'
  have hentry := cancelLane_resting_entry hact'
  have htake := takePost_cancelLane_posted hact' (by rwa [cancelDue_postCount, cancelDue_lane])
  rw [cancelDue_postCount, cancelDue_entry, cancelDue_peek (by omega)] at htake
  have hbytes : ∀ b, outsideArea b (s.entry l + 16) 16 = true →
      readByte (((s.cancelDue l).cancelLane l).seePost l (s.postCount l) |>.beginAt l (s.peek (s.entry l)).toNat).ram b
        = readByte (s.cancelDue l).ram b := fun b h16 =>
    (readByte_begun (by rwa [hentry])).trans (readByte_cancelLane_resting hact' h16)
  have hlane := begun_lane (v := (s.cancelDue l).cancelLane l) (l := l) (p := s.postCount l) hb
  have hwork := (worksOn_begun (v := (s.cancelDue l).cancelLane l) (p := s.postCount l) (a := (s.peek (s.entry l)).toNat)).trans hw
  refine ⟨_, laneScan_cancelled hrun hdue hc hq htake hwork (leavesPosts_of_cancel hbytes),
    lanesRam_scanTaken ((lanesRam_begun hb).trans ((lanesRam_cancelLane_resting hact').trans (lanesRam_cancelDue s l))),
    congrArg Lane.state hlane, congrArg Lane.activity hlane, congrArg Lane.lastSeen hlane, hwork.others, ?_⟩
  rw [← cancelDue_peek_cancel (entry_inside hram l)]
  exact peek_of_outside hbytes (by omega)

/-- A cancelled WAIT ends CANCELLED, its count the frames passed. -/
theorem laneScan_cancels_wait {j : Join} {a : Nat} {c : WaitCond} {timeout : Word}
    (hact : (s.lane l).activity = .working j (.wait c timeout)) (hj : j.steps = [a]) (ha : a + 32 ≤ Config.ramSize)
    (hclear : s.clearOfLanes a) (hp : s.postCount l = (s.lane l).lastSeen) :
    ∃ u : State, leaves .laneScan s u
      ∧ u = { s with
          scanDue := false, lanes := u.lanes, ram := u.ram, regs := { s.regs with attention := u.regs.attention } }
      ∧ (u.lane l).state = .idle ∧ (u.lane l).activity = .none ∧ (u.lane l).done = (s.lane l).done + 1
      ∧ (u.lane l).lastStatus = .cancelled ∧ (u.lane l).lastDetail = 0
      ∧ u.regs.attention.getLsbD l.val = true ∧ u.peek (s.entry l + 8) = 0
      ∧ u.peek (a + 16) = 9 ∧ u.peek (a + 20) = BitVec.ofNat 32 (s.lane l).age ∧ u.peek (a + 24) = s.clock.frame
      ∧ ∀ k : Fin 16, k ≠ l → u.lane k = s.lane k := by
  have hcancel := cancelLane_wait (s := s.cancelDue l) (l := l) (by rw [cancelDue_lane, hact])
  rw [cancelDue_lane] at hcancel
  have hclear' : ∀ i ∈ j.steps, (s.cancelDue l).clearOfLanes i := by
    intro i hi
    rw [hj, List.mem_singleton] at hi
    rw [hi]
    exact cancelDue_clear.mpr hclear
  have htake := takePost_finishCancelled (n := snap (s.lane l).age) hclear'
    (by rw [cancelDue_postCount, cancelDue_lane, hp])
  rw [← hcancel] at htake
  have hw := worksOn_finishCancelled (s.cancelDue l) l j (snap (s.lane l).age)
  have hlane := finishCancelled_lane (s.cancelDue l) l j (snap (s.lane l).age)
  have hbytes := fun b => readByte_finishCancelled_outside (s.cancelDue l) l j (snap (s.lane l).age) (b := b)
  have hres := fun k hk => finishCancelled_peek_step (s.cancelDue l) l j (snap (s.lane l).age) (i := a) (by simp [hj])
    (by simp [hj]) ha (cancelDue_clear.mpr hclear) (k := k) hk
  have hattend := finishCancelled_attention (s.cancelDue l) l j (snap (s.lane l).age)
    ((cancelDue_isRunning s l).trans hrun)
  have hpeek := finishCancelled_peek_host (n := snap (s.lane l).age) (l := l) hclear' (x := 8) (Or.inr rfl)
  rw [cancelDue_entry, cancelDue_peek_cancel (entry_inside hram l)] at hpeek
  rw [cancelDue_entry] at hbytes
  rw [cancelDue_lane] at hlane
  rw [← hcancel] at hw hlane hbytes hres hattend hpeek
  refine ⟨_, laneScan_cancelled hrun hdue hc hq htake hw
      (leavesPosts_of_steps hclear' fun b h16 h8 hs => (hbytes b h16 hs).trans (readByte_cancelDue h8)),
    lanesOnly_scanTaken (hw.trans (worksOn_cancelDue s l)).only, congrArg Lane.state hlane, congrArg Lane.activity hlane,
    (congrArg Lane.done hlane).trans ?_, congrArg Lane.lastStatus hlane, congrArg Lane.lastDetail hlane,
    hattend, hpeek, hres 0 (by omega), hres 1 (by omega), hres 2 (by omega), hw.others⟩
  rw [hj]
  rfl

end Scanned

/-- A cancel of steps begun and not yet taken by their block (R15, R16). -/
theorem cancelLane_untaken_leaves {s : State} {l : Fin 16} {j : Join} (hrun : s.isRunning = true)
    (hcancel : s.cancelLane l = s.finishCancelled l j (s.brokenCount l j)) :
    ∃ t : State, s.cancelLane l = t
      ∧ t = { s with lanes := t.lanes, ram := t.ram, regs := { s.regs with attention := t.regs.attention } }
      ∧ t.lane l = { s.lane l with
          state := .idle, activity := .none, parked := none, held := none, want := none
          done := (s.lane l).done + BitVec.ofNat 32 j.steps.length, lastStatus := .cancelled, lastDetail := 0 }
      ∧ (∀ k : Fin 16, k ≠ l → t.lane k = s.lane k) ∧ t.regs.attention.getLsbD l.val = true
      ∧ (s.cfg.laneTable + 512 ≤ Config.ramSize → (∀ i ∈ j.steps, s.clearOfLanes i) →
          t.peek (s.entry l + 16) = (s.lane l).done + BitVec.ofNat 32 j.steps.length ∧ t.peek (s.entry l + 28) = 9
          ∧ ((s.lane l).state ≠ .idle → t.peek (s.entry l + 20) = 0)
          ∧ (j.steps.Pairwise (fun i k => i + 32 ≤ k ∨ k + 32 ≤ i) → ∀ i ∈ j.steps, i + 32 ≤ Config.ramSize →
            t.peek (i + 16) = 9 ∧ t.peek (i + 20) = (if j.kind = 2 then BitVec.ofNat 32 (s.lane l).age else 0)
            ∧ t.peek (i + 24) = s.clock.frame)
          ∧ ∀ b : Nat, outsideArea b (s.entry l + 16) 16 = true → (∀ i ∈ j.steps, outsideArea b (i + 16) 12 = true) →
            readByte t.ram b = readByte s.ram b) := by
  have hw := worksOn_finishCancelled s l j (s.brokenCount l j)
  refine ⟨_, hcancel, hw.only, finishCancelled_lane s l j _, hw.others, finishCancelled_attention s l j _ hrun,
    fun hram hclear => ?_⟩
  obtain ⟨hdone, hstatus, hstate⟩ := finishCancelled_peek_entry s l j (s.brokenCount l j) (entry_inside hram l)
  refine ⟨hdone, hstatus, hstate, fun hp i hi hi32 => ?_, fun b => readByte_finishCancelled_outside s l j _⟩
  have hres := fun k hk => finishCancelled_peek_step s l j (s.brokenCount l j) hp hi hi32 (hclear i hi) (k := k) hk
  exact ⟨hres 0 (by omega), hres 1 (by omega), hres 2 (by omega)⟩

/-- No scan is made where none is due. -/
theorem exec_laneScan_idle {s : State} (hrun : s.isRunning = true) (hdue : s.scanDue = false) : exec .laneScan s = .next s := by
  have hexec : exec .laneScan s = .next (running (fun st => if st.scanDue then st.scanLanes else st) s) := rfl
  rw [hexec, running_of _ hrun, if_neg (by simp [hdue]), withViews_same fun _ => rfl]

/-- Settles O11. -/
theorem cancelLeavesLaneIdle : Obligations.CancelLeavesLaneIdle := by
  unfold Obligations.CancelLeavesLaneIdle
  refine ⟨⟨fun s l => ⟨cancelLane_idle, cancelLane_activity, fun j op => cancelLane_ends⟩,
    fun s hrun => ⟨exec_laneScan hrun, exec_laneScan_idle hrun⟩, fun s l => ⟨scanLane_uncancelled, scanLane_cancelled⟩,
    fun s l hrun hdue hram hc hno hp => ?_⟩, fun s l j hrun h => cancelLane_untaken_leaves hrun (cancelLane_untaken h)⟩
  have hq : ∀ k : Fin 16, k ≠ l → s.quietAt k := fun k hk => ⟨hno k hk, hp k hk⟩
  refine ⟨laneScan_idles hrun hdue hc hq hram, fun hact hpost _ => laneScan_restarts hrun hdue hc hq hram hact hpost,
    fun j a c timeout hworks hj ha hclear hpost => ?_⟩
  rw [State.works, Bool.and_eq_true, decide_eq_true_eq] at hworks
  exact laneScan_cancels_wait hrun hdue hc hq hram hworks.2 hj ha hclear hpost

end Sys2Proof.Machine

/-!
Notes (spec 01, R20; spec 04, R73, R80, R81): what a note leaves in the note list, and what becomes of a SEND NOTE step (O40).
-/

namespace Sys2Proof.Machine

set_option Elab.async false

/-! ### Bytes of words -/

/-- Bytes read as a number give those bytes again, and 0 past their end. -/
theorem leBytes_leNat_getD (bs : List Byte) {n i : Nat} (hi : i < n) : (leBytes n (leNat bs)).getD i 0 = byteAt bs i := by
  induction n generalizing bs i with
  | zero => cases hi
  | succ n ih =>
    cases bs with
    | nil =>
      cases i with
      | zero => rfl
      | succ i => exact (ih [] (i := i) (by omega)).trans (by simp [byteAt])
    | cons b bs =>
      have hhead : BitVec.ofNat 8 (b.toNat + 256 * leNat bs) = b := by
        apply BitVec.eq_of_toNat_eq
        have := b.isLt
        simp only [BitVec.toNat_ofNat]
        omega
      have htail : (b.toNat + 256 * leNat bs) / 256 = leNat bs := by
        have := b.isLt
        omega
      cases i with
      | zero => exact hhead
      | succ i =>
        show (leBytes n ((b.toNat + 256 * leNat bs) / 256)).getD i 0 = byteAt bs i
        rw [htail]
        exact ih bs (by omega)

theorem leNat_lt (bs : List Byte) : leNat bs < 256 ^ bs.length := by
  induction bs with
  | nil => exact Nat.one_pos
  | cons b bs ih =>
    have := b.isLt
    rw [List.length_cons, pow_succ, leNat]
    omega

/-- Byte k of the word at byte i is byte i + k. -/
theorem wordAt_bytes (bs : List Byte) (i : Nat) {k : Nat} (hk : k < 4) :
    (leBytes 4 (wordAt bs i).toNat).getD k 0 = byteAt bs (i + k) := by
  have hlt : leNat ((bs.drop i).take 4) < 2 ^ 32 :=
    (leNat_lt _).trans_le (Nat.pow_le_pow_right (by omega : 0 < 256) (List.length_take_le 4 (bs.drop i)))
  have hnat : (wordAt bs i).toNat = leNat ((bs.drop i).take 4) := Nat.mod_eq_of_lt hlt
  rw [hnat, leBytes_leNat_getD _ hk]
  simp [byteAt, List.getD_eq_getElem?_getD, List.getElem?_drop, hk]

/-- Byte k of word i of words one after another. -/
theorem bytesOf_getD (ws : List Word) {i k : Nat} (hi : i < ws.length) (hk : k < 4) :
    (bytesOf ws).getD (4 * i + k) 0 = (leBytes 4 (ws.getD i 0).toNat).getD k 0 := by
  induction ws generalizing i with
  | nil => cases hi
  | cons w ws ih =>
    have hcons : bytesOf (w :: ws) = leBytes 4 w.toNat ++ bytesOf ws := rfl
    rw [hcons]
    cases i with
    | zero => rw [List.getD_append _ _ _ _ (by rw [leBytes_length]; omega), Nat.mul_zero, Nat.zero_add, List.getD_cons_zero]
    | succ i =>
      rw [List.getD_append_right _ _ _ _ (by rw [leBytes_length]; omega), leBytes_length, List.getD_cons_succ,
        ← ih (Nat.lt_of_succ_lt_succ hi)]
      congr 1
      omega

/-- Byte k of word i, where words are stored. -/
theorem readByte_pokeAll (s : State) {a i k : Nat} {ws : List Word} (hi : i < ws.length) (hk : k < 4)
    (h : a + 4 * i + k < Config.ramSize) :
    readByte (s.pokeAll a ws).ram (a + (4 * i + k)) = (leBytes 4 (ws.getD i 0).toNat).getD k 0 := by
  rw [pokeAll_eq, ← bytesOf_getD ws hi hk]
  refine (readByte_storeBytes s.ram a (bytesOf ws) _).trans ?_
  rw [bytesOf_length, if_pos (by omega), if_pos (by omega), Nat.add_sub_cancel_left]

/-! ### The note list (R20, R81) -/

/-- The unread notes in the list, by the taken count the host holds. -/
def State.notesUnread (s : State) : Nat := (s.noteList.written - s.peek (s.cfg.noteList + 8)).toNat

/-- Where the next note goes. -/
def State.nextNote (s : State) : Nat := s.cfg.noteList + 16 + 64 * (s.noteList.written.toNat % s.cfg.noteCapacity)

theorem poke_isRunning (s : State) (a : Nat) (w : Word) : (s.poke a w).isRunning = s.isRunning := rfl

theorem pokeAll_isRunning (s : State) (a : Nat) (ws : List Word) : (s.pokeAll a ws).isRunning = s.isRunning := rfl

section AddNote

variable (s : State) (q : Fin 4) (f : Word) (text : List Byte)

theorem noteRoom_eq : s.noteRoom = decide (s.notesUnread < s.cfg.noteCapacity) := rfl

/-- The list with one more note counted as written. -/
def State.noteCounted (s : State) : State := { s with noteList.written := s.noteList.written + 1 }

/-- A note with room: its entry, the count, ATTENTION bit 17. -/
theorem addNote_listed (h : s.notesUnread < s.cfg.noteCapacity) : s.addNote q f text
    = ((s.noteCounted.pokeAll s.nextNote (noteWords q f text)).poke (s.cfg.noteList + 4) (s.noteList.written + 1)).attend 17 :=
  if_pos (show s.noteRoom = true by rw [noteRoom_eq]; simpa using h)

/-- A note without room. -/
theorem addNote_dropped (h : s.cfg.noteCapacity ≤ s.notesUnread) : s.addNote q f text
    = { s with noteList := { s.noteList with dropped := s.noteList.dropped + 1 } }.poke (s.cfg.noteList + 12)
        (s.noteList.dropped + 1) :=
  if_neg (show ¬ s.noteRoom = true by rw [noteRoom_eq]; simpa using h)

/-- A note changes the note list, its RAM and ATTENTION alone. -/
theorem addNote_only : ∃ (r : List Host.Cell) (n : ListRec) (w : BitVec 23), s.addNote q f text
    = { s with ram := r, noteList := n, regs := { s.regs with attention := w } } := by
  by_cases h : s.notesUnread < s.cfg.noteCapacity
  · rw [addNote_listed s q f text h]
    unfold State.attend
    split
    · exact ⟨_, _, _, rfl⟩
    · exact ⟨_, _, s.regs.attention, rfl⟩
  · rw [addNote_dropped s q f text (Nat.le_of_not_lt h)]
    exact ⟨_, _, s.regs.attention, rfl⟩

/-- No view shows the note list. -/
theorem addNote_viewTrigger (v : View) : (s.addNote q f text).viewTrigger v = s.viewTrigger v := by
  obtain ⟨r, n, w, h⟩ := addNote_only s q f text
  rw [h]
  cases v <;> rfl

theorem exec_note (hrun : s.isRunning = true) : exec (.note q f text) s = .next (s.addNote q f text) := by
  have hexec : exec (.note q f text) s = .next (running (fun st => st.addNote q f text) s) := rfl
  rw [hexec, running_of _ hrun, withViews_same fun v => addNote_viewTrigger s q f text v]

theorem noteWords_length : (noteWords q f text).length = 16 := rfl

theorem noteWords_text {m : Nat} (hm : m < 14) : (noteWords q f text).getD (2 + m) 0 = wordAt text (4 * m) := by
  have h : (noteWords q f text).getD (2 + m) 0 = ((List.range 14).map fun i => wordAt text (4 * i)).getD m 0 := by
    rw [Nat.add_comm]; rfl
  rw [h, List.getD_eq_getElem?_getD, List.getElem?_map, List.getElem?_range hm]
  rfl

section Listed

variable {s q f text} (h : s.notesUnread < s.cfg.noteCapacity)

include h

/-- The bytes of a listed note, up to its count and ATTENTION. -/
theorem readByte_addNote {b : Nat} (hb : outsideArea b (s.cfg.noteList + 4) 4 = true) :
    readByte (s.addNote q f text).ram b = readByte (s.noteCounted.pokeAll s.nextNote (noteWords q f text)).ram b := by
  rw [addNote_listed s q f text h, attend_ram, readByte_poke_outside _ hb]

theorem readByte_addNote_outside {b : Nat} (ha : outsideArea b s.nextNote 64 = true)
    (hb : outsideArea b (s.cfg.noteList + 4) 4 = true) : readByte (s.addNote q f text).ram b = readByte s.ram b := by
  rw [readByte_addNote h hb]
  exact readByte_pokeAll_outside s.noteCounted ha

theorem addNote_attention (hrun : s.isRunning = true) : (s.addNote q f text).regs.attention.getLsbD 17 = true := by
  have hrun' : ((s.noteCounted.pokeAll s.nextNote (noteWords q f text)).poke (s.cfg.noteList + 4) (s.noteList.written + 1)).isRunning
      = true := by
    rw [poke_isRunning, pokeAll_isRunning]
    exact hrun
  rw [addNote_listed s q f text h]
  exact attend_getLsbD_self hrun' (by omega)

theorem addNote_listed_only : s.addNote q f text = { s with
    ram := (s.addNote q f text).ram, noteList := { s.noteList with written := s.noteList.written + 1 }
    regs := { s.regs with attention := (s.addNote q f text).regs.attention } } := by
  rw [addNote_listed s q f text h]
  unfold State.attend
  split <;> rfl

variable (hram : s.cfg.noteList + 16 + 64 * s.cfg.noteCapacity ≤ Config.ramSize)

include hram

/-- The next note's entry lies inside the list. -/
theorem nextNote_inside : s.cfg.noteList + 16 ≤ s.nextNote ∧ s.nextNote + 64 ≤ Config.ramSize := by
  have hlt : s.noteList.written.toNat % s.cfg.noteCapacity < s.cfg.noteCapacity := Nat.mod_lt _ (by omega)
  unfold State.nextNote
  generalize s.noteList.written.toNat % s.cfg.noteCapacity = n at hlt
  omega

/-- Word i of a listed note. -/
theorem addNote_peek {i : Nat} (hi : i < 16) :
    (s.addNote q f text).peek (s.nextNote + 4 * i) = (noteWords q f text).getD i 0 := by
  obtain ⟨h1, h2⟩ := nextNote_inside h hram
  rw [← peek_pokeAll s.noteCounted (a := s.nextNote) (ws := noteWords q f text) hi (by omega)]
  exact peek_congr fun k hk => readByte_addNote h (outsideArea_iff.mpr (by omega))

/-- Byte i of a listed note's text. -/
theorem readByte_addNote_text {i : Nat} (hi : i < 56) :
    readByte (s.addNote q f text).ram (s.nextNote + 8 + i) = byteAt text i := by
  obtain ⟨h1, h2⟩ := nextNote_inside h hram
  have hdiv : s.nextNote + 8 + i = s.nextNote + (4 * (2 + i / 4) + i % 4) := by omega
  rw [readByte_addNote h (outsideArea_iff.mpr (by omega)), hdiv,
    readByte_pokeAll _ (by rw [noteWords_length]; omega) (Nat.mod_lt _ (by omega)) (by omega),
    noteWords_text q f text (by omega), wordAt_bytes text _ (Nat.mod_lt _ (by omega)), Nat.div_add_mod]

theorem addNote_peek_written : (s.addNote q f text).peek (s.cfg.noteList + 4) = s.noteList.written + 1 := by
  rw [addNote_listed s q f text h, attend_peek]
  exact peek_poke _ _ _ (by omega)

end Listed

end AddNote

/-! ### SEND NOTE (R80, R81) -/

theorem stepAt_target (s : State) (a : Nat) : (s.stepAt a).target = (s.header a).target := rfl

theorem index_fin {n : Nat} (o : Fin n) : index? n o.val = some o := dif_pos o.isLt

theorem reachable_own (s : State) : s.reachable s.cfg.id = true := by simp [State.reachable]

section SendNote

variable {s : State} {l : Fin 16} {a : Nat} (h : s.hasStep l 5 a = true)

include h

theorem exec_sendNote {t : State} (ht : s.beginNote l (s.stepAt a) = t) (hv : ∀ v : View, t.viewTrigger v = s.viewTrigger v) :
    exec (.sendNote l) s = .next t := by
  have hexec : exec (.sendNote l) s = .next (running (fun st => st.startStep l 5 fun j t => t.beginNote l j) s) := rfl
  rw [hexec, running_of _ (hasStep_running h), startStep_ready _ h, ht, withViews_same hv]

theorem sendNote_tooLong (hlen : 56 < (s.stepAt a).payload.length) :
    exec (.sendNote l) s = .next (s.finish l (s.stepAt a) .badStep 16 0) :=
  exec_sendNote h (if_pos hlen) (viewTrigger_worksOn (worksOn_finish s l _ .badStep 16 0))

variable (hlen : (s.stepAt a).payload.length ≤ 56)

include hlen

/-- A note to this terminal itself. -/
theorem sendNote_here (ht : (s.header a).target = s.cfg.id.val) : exec (.sendNote l) s = .next
    ((s.addNote s.cfg.id s.clock.frame (s.stepAt a).payload).finish l (s.stepAt a)
      (if s.notesUnread < s.cfg.noteCapacity then .ok else .noRoom) 0
      (if s.notesUnread < s.cfg.noteCapacity then BitVec.ofNat 32 (s.stepAt a).payload.length else 0)) := by
  refine exec_sendNote h ?_ fun v => (viewTrigger_worksOn (worksOn_finish _ l _ _ _ _) v).trans (addNote_viewTrigger s _ _ _ v)
  unfold State.beginNote State.noteHere
  rw [if_neg (Nat.not_lt.mpr hlen), stepAt_target, if_pos ht, noteRoom_eq]
  by_cases hr : s.notesUnread < s.cfg.noteCapacity
  · simp only [hr, if_true, decide_true]
    rfl
  · simp only [hr, if_false, decide_false, Bool.false_eq_true]

/-- A note to a terminal that is not reachable. -/
theorem sendNote_unreachable {o : Fin 4} (ht : (s.header a).target = o.val) (ho : s.reachable o = false) :
    exec (.sendNote l) s = .next (s.finish l (s.stepAt a) .unreachable 0 0) := by
  have hown : ¬ (s.header a).target = s.cfg.id.val := by
    rw [ht]
    intro he
    rw [Fin.ext he, reachable_own] at ho
    cases ho
  refine exec_sendNote h ?_ (viewTrigger_worksOn (worksOn_finish s l _ .unreachable 0 0))
  unfold State.beginNote
  rw [if_neg (Nat.not_lt.mpr hlen), stepAt_target, if_neg hown, ht, index_fin]
  exact if_pos (by simp [ho])

/-- A note to a terminal that is reachable, or to all, with room in the queue. -/
theorem sendNote_queued (hown : (s.header a).target ≠ s.cfg.id.val)
    (ht : (s.header a).target = 15 ∨ ∃ o : Fin 4, (s.header a).target = o.val ∧ s.reachable o = true)
    (hroom : s.svc.mayPlace .normal = true) : exec (.sendNote l) s = .next { s with
      lanes := s.lanes.set l { s.lane l with activity := .working (s.stepAt a) (.sendNote (s.stepAt a).payload.length) }
      svc := { s.svc with normal := s.svc.normal ++ [{
        kind := 17, dest := (s.header a).target, body := (s.stepAt a).payload, producer := .note l }] } } := by
  have hop : s.setOp l (s.stepAt a) (.sendNote (s.stepAt a).payload.length) = { s with
      lanes := s.lanes.set l { s.lane l with activity := .working (s.stepAt a) (.sendNote (s.stepAt a).payload.length) } } :=
    setLane_same_words s l _ rfl
  refine exec_sendNote h ?_ fun v => by cases v <;> rfl
  unfold State.beginNote
  rw [if_neg (Nat.not_lt.mpr hlen), stepAt_target, if_neg hown, hop]
  refine (if_neg ?_).trans (if_pos hroom)
  obtain ht | ⟨o, ht, ho⟩ := ht
  · rw [ht]; exact Bool.false_ne_true
  · rw [ht, index_fin]; simp [ho]

end SendNote

/-- Settles O40. -/
theorem notesAreListedAndSent : Obligations.NotesAreListedAndSent := by
  unfold Obligations.NotesAreListedAndSent
  refine ⟨fun s q f text hrun _ hram => ⟨fun hroom => ?_, fun hroom => ?_⟩, fun s l a h => ⟨sendNote_tooLong h, fun hlen =>
    ⟨sendNote_here h hlen, fun o => sendNote_unreachable h hlen, fun hown ht hroom => ?_⟩⟩⟩
  · refine ⟨_, s.nextNote, exec_note s q f text hrun, rfl, addNote_listed_only hroom, addNote_attention hroom hrun,
      (addNote_peek hroom hram (i := 0) (by omega)).trans ?_, addNote_peek hroom hram (i := 1) (by omega),
      fun i => readByte_addNote_text hroom hram, addNote_peek_written hroom hram,
      fun b => readByte_addNote_outside hroom⟩
    show BitVec.ofNat 32 (q.val + field text.length 8) = BitVec.ofNat 32 (q.val + 256 * text.length)
    rw [field_eq]
    rfl
  · exact (exec_note s q f text hrun).trans (congrArg Host.Outcome.next (addNote_dropped s q f text hroom))
  · refine ⟨_, sendNote_queued h hlen hown ht hroom, rfl, ?_, fun k hk => ?_⟩
    · exact (Bank.set_get ..).trans (if_pos rfl)
    · exact (Bank.set_get ..).trans (if_neg hk)

end Sys2Proof.Machine

/-!
WAIT (spec 01, R19): its conditions, how a step of it begins, what its lane keeps of the buttons while it is not taken, the frames it
counts, and how it ends (O14).
-/

namespace Sys2Proof.Machine

set_option Elab.async false

/-! ### The conditions -/

section Conditions

theorem index_none {n k : Nat} : index? n k = none ↔ n ≤ k := by simp [index?]

/-- The params and value words that name no condition. -/
theorem waitCond_none (p : BitVec 16) (v : Word) : waitCond p v = none
    ↔ p.toNat = 0 ∨ 5 < p.toNat ∨ (p.toNat = 3 ∧ 7 < v.toNat) ∨ ((p.toNat = 4 ∨ p.toNat = 5) ∧ 3 < v.toNat) := by
  have hp : ∀ k : BitVec 16, p = k ↔ p.toNat = k.toNat := fun k => ⟨fun h => by rw [h], BitVec.eq_of_toNat_eq⟩
  unfold waitCond
  by_cases h1 : p = 1
  · rw [if_pos h1, h1]; simp
  by_cases h2 : p = 2
  · rw [if_neg h1, if_pos h2, h2]; simp
  by_cases h3 : p = 3
  · rw [if_neg h1, if_neg h2, if_pos h3, h3, Option.map_eq_none_iff, index_none]; simp; omega
  by_cases h4 : p = 4
  · rw [if_neg h1, if_neg h2, if_neg h3, if_pos h4, h4, Option.map_eq_none_iff, index_none]; simp; omega
  by_cases h5 : p = 5
  · rw [if_neg h1, if_neg h2, if_neg h3, if_neg h4, if_pos h5, h5, Option.map_eq_none_iff, index_none]; simp; omega
  rw [if_neg h1, if_neg h2, if_neg h3, if_neg h4, if_neg h5]
  rw [hp] at h1 h2 h3 h4 h5
  simp only [BitVec.toNat_ofNat, BitVec.ofNat_eq_ofNat] at h1 h2 h3 h4 h5
  simp only [true_iff]
  omega

variable {v : Word}

theorem waitCond_button {b : Fin 8} (h : v.toNat = b.val) : waitCond 3 v = some (.button b) := by
  show (index? 8 v.toNat).map WaitCond.button = _
  rw [h, index_fin]
  rfl

theorem waitCond_reachable {o : Fin 4} (h : v.toNat = o.val) :
    waitCond 4 v = some (.reachable o) ∧ waitCond 5 v = some (.unreachable o) := by
  constructor
  · show (index? 4 v.toNat).map WaitCond.reachable = _
    rw [h, index_fin]
    rfl
  · show (index? 4 v.toNat).map WaitCond.unreachable = _
    rw [h, index_fin]
    rfl

variable (s : State) (l : Fin 16)

/-- A frame has been reached. -/
theorem later_not (f g : Word) : (!later f g) = decide ((f - g).toInt ≤ 0) := by
  unfold later
  rw [← decide_not]
  exact decide_eq_decide.mpr Int.not_lt

theorem holdsAtOnce_button_none {b : Fin 8} (h : (s.lane l).firstChange.get b = none) : s.holdsAtOnce l (.button b) = false := by
  show ((s.lane l).firstChange.get b).isSome = false
  rw [h]
  rfl

theorem timeoutFirst_of {timeout : Word} {c : WaitCond} {n : Nat} (h : s.metAfter l c = some n) :
    s.timeoutFirst l timeout c = decide (timeout ≠ 0 ∧ timeout.toNat < n) := by
  unfold State.timeoutFirst
  rw [h]
  simp [bne, beq_eq_decide]

/-- A button whose level has changed since the step began. -/
theorem button_changed {b : Fin 8} {x : ButtonChange} (timeout : Word) (h : (s.lane l).firstChange.get b = some x) :
    s.holdsAtOnce l (.button b) = true ∧ s.metDetail l (.button b) = (if x.level then 1 else 0)
      ∧ s.timeoutFirst l timeout (.button b) = decide (timeout ≠ 0 ∧ timeout.toNat < x.age) := by
  have hc : s.changed? l b = some x := h
  refine ⟨?_, ?_, timeoutFirst_of s l ?_⟩
  · show (s.changed? l b).isSome = true
    rw [hc]; rfl
  · unfold State.metDetail
    simp only [hc]
    rfl
  · show (s.changed? l b).map ButtonChange.age = some x.age
    rw [hc]; rfl

/-- Of a condition looked at only as the step is taken, no timeout comes first. -/
theorem timeoutFirst_looked {timeout : Word} {c : WaitCond} (h : s.metAfter l c = none) : s.timeoutFirst l timeout c = false := by
  unfold State.timeoutFirst
  rw [h]
  exact Bool.and_false _

end Conditions

/-! ### A step taken -/

section Begin

variable {s : State} {l : Fin 16} {a : Nat} {timeout : Word} {c : WaitCond} {j : Join} (h : s.hasStep l 2 a = true)

theorem beginWait_bad (hc : waitCond j.param (wordAt j.payload 0) = none) :
    s.beginWait l j = s.finish l j .badStep 6 (snap (s.lane l).age) := by
  unfold State.beginWait
  simp only [hc]

/-- A step with a condition, by whether it holds and by its timeout. -/
theorem beginWait_good (ht : timeout = wordAt j.payload 4) (hc : waitCond j.param (wordAt j.payload 0) = some c) :
    s.beginWait l j = if s.holdsAtOnce l c then
        if s.timeoutFirst l timeout c then s.finish l j .timeout 0 (snap (s.lane l).age)
        else s.finish l j .ok (s.metDetail l c) (snap (s.lane l).age)
      else if s.timeoutOver l timeout then s.finish l j .timeout 0 (snap (s.lane l).age)
      else s.setOp l j (.wait c timeout) := by
  unfold State.beginWait
  simp only [hc, ht]

theorem timeoutOver_iff : s.timeoutOver l timeout = true ↔ timeout ≠ 0 ∧ timeout.toNat ≤ (s.lane l).age := by
  simp [State.timeoutOver]

include h

theorem exec_wait {t : State} (ht : s.beginWait l (s.stepAt a) = t) (hw : WorksOn l t s) : exec (.wait l) s = .next t := by
  have hexec : exec (.wait l) s = .next (running (fun st => st.startStep l 2 fun j t => t.beginWait l j) s) := rfl
  rw [hexec, running_of _ (hasStep_running h), startStep_ready _ h, ht, withViews_worksOn hw]

variable (ht : timeout = wordAt (s.stepAt a).payload 4)
  (hc : waitCond (s.stepAt a).param (wordAt (s.stepAt a).payload 0) = some c)

include ht hc

theorem exec_wait_met (hh : s.holdsAtOnce l c = true) (hf : s.timeoutFirst l timeout c = false) :
    exec (.wait l) s = .next (s.finish l (s.stepAt a) .ok (s.metDetail l c) (snap (s.lane l).age)) := by
  refine exec_wait h ?_ (worksOn_finish s l _ .ok _ _)
  rw [beginWait_good ht hc, if_pos hh, if_neg (by simp [hf])]

theorem exec_wait_late (hh : s.holdsAtOnce l c = true) (hf : s.timeoutFirst l timeout c = true) :
    exec (.wait l) s = .next (s.finish l (s.stepAt a) .timeout 0 (snap (s.lane l).age)) := by
  refine exec_wait h ?_ (worksOn_finish s l _ .timeout _ _)
  rw [beginWait_good ht hc, if_pos hh, if_pos hf]

theorem exec_wait_timeout (hh : s.holdsAtOnce l c = false) (h0 : timeout ≠ 0) (hle : timeout.toNat ≤ (s.lane l).age) :
    exec (.wait l) s = .next (s.finish l (s.stepAt a) .timeout 0 (snap (s.lane l).age)) := by
  refine exec_wait h ?_ (worksOn_finish s l _ .timeout _ _)
  rw [beginWait_good ht hc, if_neg (by simp [hh]), if_pos (timeoutOver_iff.mpr ⟨h0, hle⟩)]

theorem exec_wait_waits (hh : s.holdsAtOnce l c = false) (hlt : timeout = 0 ∨ (s.lane l).age < timeout.toNat) :
    exec (.wait l) s = .next (s.setOp l (s.stepAt a) (.wait c timeout)) := by
  refine exec_wait h ?_ (worksOn_setLane s l _)
  rw [beginWait_good ht hc, if_neg (by simp [hh]), if_neg]
  rw [timeoutOver_iff]
  rintro ⟨h0, hle⟩
  obtain hz | hlt := hlt
  · exact h0 hz
  · omega

end Begin

/-- A step taken by its block: its operation alone changes. -/
theorem setOp_only (s : State) (l : Fin 16) (j : Join) (op : Op) :
    s.setOp l j op = { s with lanes := s.lanes.set l { s.lane l with activity := .working j op } } :=
  setLane_same_words s l _ rfl

/-! ### A step at its block -/

section Works

variable {s : State} {l : Fin 16} {j : Join} {op : Op}

theorem works_iff : s.works l j op = true ↔ s.isRunning = true ∧ (s.lane l).activity = .working j op := by
  rw [State.works, Bool.and_eq_true, decide_eq_true_eq]

theorem op_working (h : (s.lane l).activity = .working j op) : s.op? l = some op := by
  unfold State.op?
  simp only [h]

theorem endStep_working (h : (s.lane l).activity = .working j op) (st : Status) (d : Nat) (n : Word) :
    s.endStep l st d n = s.finish l j st d n := by
  unfold State.endStep
  simp only [h]

/-- The commands that end a WAIT step end it where they are due. -/
theorem endStep_if {due : Bool} {st : Status} {n : Word} (h : s.works l j op = true) (hd : due = true) :
    (if due then s.endStep l st 0 n else s).withViews s = s.finish l j st 0 n := by
  rw [if_pos hd, endStep_working (works_iff.mp h).2, withViews_worksOn (worksOn_finish s l j st 0 n)]

end Works

section Ends

variable {s : State} {l : Fin 16} {j : Join} {c : WaitCond} {timeout : Word}

theorem elapsedDue_of (h : (s.lane l).activity = .working j (.wait c timeout)) {n : Word} (hc : c = .elapsed n)
    (hn : n.toNat ≤ (s.lane l).age) : s.elapsedDue l = true := by
  unfold State.elapsedDue
  simp only [op_working h, hc]
  exact decide_eq_true hn

theorem frameReached_of (h : (s.lane l).activity = .working j (.wait c timeout)) {f : Word} (hc : c = .frame f)
    (hf : later f s.clock.frame = false) : s.frameReached l = true := by
  unfold State.frameReached
  simp only [op_working h, hc, hf, Bool.not_false]

theorem timeoutDue_of (h : (s.lane l).activity = .working j (.wait c timeout)) (h0 : timeout ≠ 0)
    (hle : timeout.toNat ≤ (s.lane l).age) : s.timeoutDue l = true := by
  unfold State.timeoutDue
  simp only [op_working h]
  exact timeoutOver_iff.mpr ⟨h0, hle⟩

variable (h : s.works l j (.wait c timeout) = true)

include h

theorem exec_waitElapsed {n : Word} (hc : c = .elapsed n) (hn : n.toNat ≤ (s.lane l).age) :
    exec (.waitElapsed l) s = .next (s.finish l j .ok 0 (snap (s.lane l).age)) := by
  obtain ⟨hrun, hact⟩ := works_iff.mp h
  have hexec : exec (.waitElapsed l) s
      = .next (running (fun st => if st.elapsedDue l then st.endStep l .ok 0 (snap (st.lane l).age) else st) s) := rfl
  rw [hexec, running_of _ hrun, endStep_if h (elapsedDue_of hact hc hn)]

theorem exec_waitFrameReached {f : Word} (hc : c = .frame f) (hf : later f s.clock.frame = false) :
    exec (.waitFrameReached l) s = .next (s.finish l j .ok 0 (snap (s.lane l).age)) := by
  obtain ⟨hrun, hact⟩ := works_iff.mp h
  have hexec : exec (.waitFrameReached l) s
      = .next (running (fun st => if st.frameReached l then st.endStep l .ok 0 (snap (st.lane l).age) else st) s) := rfl
  rw [hexec, running_of _ hrun, endStep_if h (frameReached_of hact hc hf)]

theorem exec_waitTimeout (h0 : timeout ≠ 0) (hle : timeout.toNat ≤ (s.lane l).age) :
    exec (.waitTimeout l) s = .next (s.finish l j .timeout 0 (snap (s.lane l).age)) := by
  obtain ⟨hrun, hact⟩ := works_iff.mp h
  have hexec : exec (.waitTimeout l) s
      = .next (running (fun st => if st.timeoutDue l then st.endStep l .timeout 0 (snap (st.lane l).age) else st) s) := rfl
  rw [hexec, running_of _ hrun, endStep_if h (timeoutDue_of hact h0 hle)]

end Ends

/-! ### The frame edge (R19) -/

section Edge

variable {s : State} {l : Fin 16}

theorem age1_of {x : Lane} (h : x.activity ≠ .none) : x.age1 = { x with age := x.age + 1 } := by
  unfold Lane.age1
  split
  next hn => exact absurd hn h
  next => rfl

theorem openFrame_lane (s : State) (l : Fin 16) : s.openFrame.lane l = (s.lane l).age1 := Bank.mapAll_get Lane.age1 s.lanes l

theorem openFrame_frame (s : State) : s.openFrame.clock.frame = s.clock.frame + 1 := rfl

theorem mem_dueAll {n : Nat} {test : Fin n → Bool} {command : Fin n → Instr} {k : Fin n} (h : test k = true) :
    command k ∈ dueAll n test command :=
  List.mem_map.mpr ⟨k, List.mem_filter.mpr ⟨mem_indices k, h⟩, rfl⟩

theorem elapsed_dueWaits {t : State} (h : t.elapsedDue l = true) : Instr.waitElapsed l ∈ t.dueWaits := by
  simp [State.dueWaits, mem_dueAll h]

theorem frame_dueWaits {t : State} (h : t.frameReached l = true) : Instr.waitFrameReached l ∈ t.dueWaits := by
  simp [State.dueWaits, mem_dueAll h]

theorem timeout_dueWaits {t : State} (h : t.timeoutDue l = true) : Instr.waitTimeout l ∈ t.dueWaits := by
  simp [State.dueWaits, mem_dueAll h]

variable (hlow : s.resetLow = false) (hrun : s.isRunning = true)

include hlow hrun

theorem tick_running : s.tick = { s.openFrame with pending := s.openFrame.dueWords ++ s.openFrame.dueRunning } := by
  have hst : s.regs.runState = .running := by simpa [State.isRunning] using hrun
  unfold State.tick
  simp [hlow, hst]

theorem tick_lane : s.tick.lane l = (s.lane l).age1 := by
  rw [tick_running hlow hrun]
  exact openFrame_lane s l

/-- An edge queues the waits that have run out. -/
theorem tick_dueWaits {i : Instr} (h : i ∈ s.openFrame.dueWaits) : i ∈ s.tick.pending := by
  rw [tick_running hlow hrun]
  show i ∈ s.openFrame.dueWords ++ s.openFrame.dueRunning
  simp [State.dueRunning, h]

end Edge

/-! ### Buttons and origins (R19) -/

/-- What a button's change does to one lane's WAIT. -/
def State.endButtonWait (b : Fin 8) (level : Bool) (s : State) (l : Fin 16) : State :=
  match s.op? l with
  | some (.wait (.button k) _) => if k = b then s.endStep l .ok (bitNat level) (snap (s.lane l).age) else s
  | _ => s

theorem endButtonWaits_eq (s : State) (b : Fin 8) (level : Bool) :
    s.endButtonWaits b level = (indices 16).foldl (State.endButtonWait b level) s := rfl

/-- What an origin's becoming reachable or unreachable does to one lane's WAIT. -/
def State.endReachWait (o : Fin 4) (up : Bool) (s : State) (l : Fin 16) : State :=
  match s.op? l with
  | some (.wait (.reachable k) _) => if k = o ∧ up = true then s.endStep l .ok 0 (snap (s.lane l).age) else s
  | some (.wait (.unreachable k) _) => if k = o ∧ up = false then s.endStep l .ok 0 (snap (s.lane l).age) else s
  | _ => s

theorem endReachWaits_eq (s : State) (o : Fin 4) (up : Bool) :
    s.endReachWaits o up = (indices 16).foldl (State.endReachWait o up) s := rfl

section Events

variable {s : State} {l : Fin 16}

/-- Whether a lane's step is at its block, by its context. -/
theorem op_congr {t : State} {k : Fin 16} (h : t.lane k = s.lane k) : t.op? k = s.op? k := by
  unfold State.op?
  rw [h]

theorem endButtonWait_rest {b : Fin 8} {level : Bool} (h : s.op? l = none) : s.endButtonWait b level l = s := by
  unfold State.endButtonWait
  simp only [h]

theorem endReachWait_rest {o : Fin 4} {up : Bool} (h : s.op? l = none) : s.endReachWait o up l = s := by
  unfold State.endReachWait
  simp only [h]

theorem worksOn_endButtonWait (b : Fin 8) (level : Bool) : WorksOn l (s.endButtonWait b level l) s := by
  unfold State.endButtonWait
  split
  · split
    · exact worksOn_endStep s l _ _ _
    · exact .refl l s
  · exact .refl l s

theorem worksOn_endReachWait (o : Fin 4) (up : Bool) : WorksOn l (s.endReachWait o up l) s := by
  unfold State.endReachWait
  split
  · split
    · exact worksOn_endStep s l _ _ _
    · exact .refl l s
  · split
    · exact worksOn_endStep s l _ _ _
    · exact .refl l s
  · exact .refl l s

variable (hno : ∀ k : Fin 16, k ≠ l → s.op? k = none)

include hno

/-- Where one lane alone has a step at its block, a button's change is that lane's. -/
theorem endButtonWaits_one (b : Fin 8) (level : Bool) : s.endButtonWaits b level = s.endButtonWait b level l :=
  foldl_one (fun k hk => endButtonWait_rest (hno k hk))
    (fun k hk => endButtonWait_rest ((op_congr ((worksOn_endButtonWait b level).others k hk)).trans (hno k hk)))
    (indices_nodup 16) (mem_indices l)

/-- Where one lane alone has a step at its block, an origin's change is that lane's. -/
theorem endReachWaits_one (o : Fin 4) (up : Bool) : s.endReachWaits o up = s.endReachWait o up l :=
  foldl_one (fun k hk => endReachWait_rest (hno k hk))
    (fun k hk => endReachWait_rest ((op_congr ((worksOn_endReachWait o up).others k hk)).trans (hno k hk)))
    (indices_nodup 16) (mem_indices l)

variable {j : Join} {timeout : Word}

theorem endButtonWaits_wait {b : Fin 8} (h : (s.lane l).activity = .working j (.wait (.button b) timeout)) (d : Fin 8)
    (level : Bool) : s.endButtonWaits d level
      = if b = d then s.finish l j .ok (if level then 1 else 0) (snap (s.lane l).age) else s := by
  rw [endButtonWaits_one hno, ← endStep_working h]
  unfold State.endButtonWait
  simp only [op_working h]
  rfl

theorem endReachWaits_reachable {o : Fin 4} (h : (s.lane l).activity = .working j (.wait (.reachable o) timeout)) (k : Fin 4)
    (up : Bool) : s.endReachWaits k up = if o = k ∧ up = true then s.finish l j .ok 0 (snap (s.lane l).age) else s := by
  rw [endReachWaits_one hno, ← endStep_working h]
  unfold State.endReachWait
  simp only [op_working h]

theorem endReachWaits_unreachable {o : Fin 4} (h : (s.lane l).activity = .working j (.wait (.unreachable o) timeout)) (k : Fin 4)
    (up : Bool) : s.endReachWaits k up = if o = k ∧ up = false then s.finish l j .ok 0 (snap (s.lane l).age) else s := by
  rw [endReachWaits_one hno, ← endStep_working h]
  unfold State.endReachWait
  simp only [op_working h]

end Events

/-! ### A lane whose step is not yet at its block (R19) -/

section Kept

variable {s : State} {l : Fin 16} {b : Fin 8} {level : Bool}

/-- A fold whose steps leave a lane leaves it. -/
theorem foldl_lane {f : State → Fin 16 → State} (hf : ∀ (t : State) (k : Fin 16), t.op? l = none → (f t k).lane l = t.lane l)
    (ks : List (Fin 16)) (h : s.op? l = none) : (ks.foldl f s).lane l = s.lane l := by
  induction ks generalizing s with
  | nil => rfl
  | cons k ks ih =>
    have hk := hf s k h
    exact (ih ((op_congr hk).trans h)).trans hk

theorem endButtonWaits_lane (h : s.op? l = none) : (s.endButtonWaits b level).lane l = s.lane l := by
  refine foldl_lane (fun t k ht => ?_) (indices 16) h
  by_cases hk : k = l
  · subst hk
    exact congrArg (State.lane · k) (endButtonWait_rest (b := b) (level := level) ht)
  · exact (worksOn_endButtonWait b level).others l (Ne.symm hk)

theorem buttonTrigger_lanes (k : Fin 16) : (s.buttonTrigger b level k).lanes = s.lanes := by
  unfold State.buttonTrigger
  split
  · split
    · split
      · split <;> rfl
      · rfl
    · rfl
  · rfl

theorem buttonTriggers_lane (h : s.op? l = none) : ((indices 16).foldl (fun st k => st.buttonTrigger b level k) s).lane l = s.lane l :=
  foldl_lane (fun t k _ => by rw [State.lane, buttonTrigger_lanes, State.lane]) (indices 16) h

/-- The action of a button touches no lane but the one it chains to. -/
def Button.sparesLane (x : Button) (l : Fin 16) : Prop :=
  x.action = .none ∨ ∃ (k : Fin 16) (a : Word), x.action = .chain k a ∧ k ≠ l

theorem act_lane (h : (s.button b).sparesLane l) (press : Bool) : (s.act b press).lane l = s.lane l := by
  unfold State.act
  obtain h | ⟨k, a, h, hk⟩ := h
  · simp only [h]
  · simp only [h]
    split
    · split
      · exact (worksOn_beginAt s k _).others l (Ne.symm hk)
      · rfl
    · rfl

theorem modButton_action {f : Button → Button} (hf : ∀ x : Button, (f x).action = x.action) :
    ((s.modButton b f).button b).action = (s.button b).action := by
  have h : (s.modButton b f).button b = (Bank.update s.talk.buttons b f).get b := rfl
  rw [h, Bank.update_get, if_pos rfl, hf]
  rfl

theorem detected_lane (h : (s.button b).sparesLane l) (press : Bool) : (s.detected b press).lane l = s.lane l := by
  have hspares : ∀ t : State, (t.button b).action = (s.button b).action → (t.button b).sparesLane l := fun t ht => by
    unfold Button.sparesLane
    rwa [ht]
  have hact : ((if press then s.modButton b fun x => { x with presses := x.presses + 1 } else s).act b press).lane l = s.lane l := by
    split
    · exact act_lane (hspares _ (modButton_action (f := fun x => { x with presses := x.presses + 1 }) fun _ => rfl)) press
    · exact act_lane h press
  unfold State.detected
  extract_lets s1 s2
  split
  · rw [attend_lane]
    exact hact
  · exact hact

/-- The lanes and the button once a level has changed, before anything acts on it. -/
def State.levelNoted (s : State) (b : Fin 8) (level : Bool) : State :=
  { s with lanes := Bank.mapAll (Lane.noteChange b level) s.lanes }.modButton b fun x => { x with level := level, count := 0 }

theorem levelNoted_lane (s : State) (b : Fin 8) (level : Bool) (l : Fin 16) :
    (s.levelNoted b level).lane l = (s.lane l).noteChange b level :=
  Bank.mapAll_get (Lane.noteChange b level) s.lanes l

theorem levelNoted_spares (h : (s.button b).sparesLane l) : ((s.levelNoted b level).button b).sparesLane l := by
  have ha := modButton_action (s := { s with lanes := Bank.mapAll (Lane.noteChange b level) s.lanes }) (b := b)
    (f := fun x => { x with level := level, count := 0 }) fun _ => rfl
  unfold Button.sparesLane State.levelNoted
  rw [ha]
  exact h

theorem noteChange_activity (x : Lane) : (x.noteChange b level).activity = x.activity := by
  obtain ⟨h, -⟩ := noteChange_eq b level x
  rw [h]

/-- A lane whose step is not at its block has its first change noted, and nothing else of it changes. -/
theorem levelChanged_lane (hop : s.op? l = none) (h : (s.button b).sparesLane l) :
    (s.levelChanged b level).lane l = (s.lane l).noteChange b level := by
  have hnoted := levelNoted_lane s b level l
  have hop' : (s.levelNoted b level).op? l = none := by
    unfold State.op? at hop ⊢
    rw [hnoted, noteChange_activity]
    exact hop
  have hact : ∀ t : State, t.lane l = (s.levelNoted b level).lane l →
      ((indices 16).foldl (fun st k => st.buttonTrigger b level k) (t.endButtonWaits b level)).lane l
        = (s.lane l).noteChange b level := fun t ht => by
    have hopt : t.op? l = none := (op_congr ht).trans hop'
    have hend := endButtonWaits_lane (b := b) (level := level) hopt
    rw [buttonTriggers_lane ((op_congr hend).trans hopt), hend, ht, hnoted]
  unfold State.levelChanged
  extract_lets s0 s1 s2
  refine hact s2 ?_
  cases hd : (s.button b).detection.detects level with
  | none =>
    have hs2 : s2 = s1 := by simp only [s2, hd]
    rw [hs2]
    rfl
  | some press =>
    have hs2 : s2 = s1.detected b press := by simp only [s2, hd]
    rw [hs2]
    exact detected_lane (levelNoted_spares h) press

end Kept

/-- What a lane whose step is not at its block keeps of a button's change. -/
theorem levelChanged_kept {s : State} {l : Fin 16} {b : Fin 8} {level : Bool} (h : (s.button b).sparesLane l)
    (hact : (∃ (j : Join) (a : Nat), (s.lane l).activity = .joining j a) ∨ ∃ j : Join, (s.lane l).activity = .gathered j) :
    ∃ x : Lane, (s.levelChanged b level).lane l = x ∧ x = { s.lane l with firstChange := x.firstChange }
      ∧ (∀ d : Fin 8, d ≠ b → x.firstChange.get d = (s.lane l).firstChange.get d)
      ∧ ((s.lane l).firstChange.get b = none → x.firstChange.get b = some { level := level, age := (s.lane l).age })
      ∧ ∀ c : ButtonChange, (s.lane l).firstChange.get b = some c → x.firstChange.get b = some c := by
  have hop : s.op? l = none := by
    unfold State.op?
    obtain ⟨j, a, h⟩ | ⟨j, h⟩ := hact <;> rw [h]
  obtain ⟨honly, hothers, -, hkept, hfirst⟩ := noteChange_eq b level (s.lane l)
  exact ⟨_, levelChanged_lane hop h, honly, hothers, fun hn => hfirst hn hact, fun c hc => by rw [hkept c hc]; exact hc⟩

/-- The waits that an edge queues. -/
theorem tick_queues_waits {s : State} {l : Fin 16} (hlow : s.resetLow = false) {j : Join} {c : WaitCond} {timeout : Word}
    (h : s.works l j (.wait c timeout) = true) :
    (∀ n : Word, c = .elapsed n → n.toNat ≤ (s.lane l).age + 1 → Instr.waitElapsed l ∈ s.tick.pending)
      ∧ (∀ f : Word, c = .frame f → (f - (s.clock.frame + 1)).toInt ≤ 0 → Instr.waitFrameReached l ∈ s.tick.pending)
      ∧ (timeout ≠ 0 → timeout.toNat ≤ (s.lane l).age + 1 → Instr.waitTimeout l ∈ s.tick.pending) := by
  obtain ⟨hrun, hact⟩ := works_iff.mp h
  have hlane : s.openFrame.lane l = { s.lane l with age := (s.lane l).age + 1 } :=
    (openFrame_lane s l).trans (age1_of (by rw [hact]; exact Activity.noConfusion))
  have hact' : (s.openFrame.lane l).activity = .working j (.wait c timeout) := by rw [hlane]; exact hact
  have hage : (s.openFrame.lane l).age = (s.lane l).age + 1 := by rw [hlane]
  refine ⟨fun n hc hn => ?_, fun f hc hf => ?_, fun h0 hle => ?_⟩
  · exact tick_dueWaits hlow hrun (elapsed_dueWaits (elapsedDue_of hact' hc (by rwa [hage])))
  · refine tick_dueWaits hlow hrun (frame_dueWaits (frameReached_of hact' hc ?_))
    have hlater := later_not f s.openFrame.clock.frame
    rw [openFrame_frame, decide_eq_true hf] at hlater
    rw [openFrame_frame]
    simpa using hlater
  · exact tick_dueWaits hlow hrun (timeout_dueWaits (timeoutDue_of hact' h0 (by rwa [hage])))

/-- Settles O14. -/
theorem waitBeginsAndEnds : Obligations.WaitBeginsAndEnds := by
  unfold Obligations.WaitBeginsAndEnds
  refine ⟨⟨fun s l a passed timeout h hp ht => ?_, fun p v => ?_, fun s l => ?_, fun s l b level h hact => levelChanged_kept h hact,
    fun s l hlow hrun => ⟨fun hact => (tick_lane hlow hrun).trans (age1_of hact), fun j c timeout h => tick_queues_waits hlow h⟩,
    fun s l j c timeout h => ?_⟩, fun s l j c timeout h hno => ?_⟩
  · subst hp
    refine ⟨fun hc => exec_wait h (beginWait_bad hc) (worksOn_finish s l _ .badStep 6 _), fun c hc => ?_⟩
    refine ⟨exec_wait_met h ht hc, exec_wait_late h ht hc, exec_wait_timeout h ht hc, fun hh hlt => ?_⟩
    refine ⟨_, exec_wait_waits h ht hc hh hlt, ?_, setLane_lane s l _, (worksOn_setLane s l _).others⟩
    rw [setOp_only]
  · exact ⟨waitCond_none p v, rfl, rfl, fun b => waitCond_button, fun o => waitCond_reachable⟩
  · exact ⟨fun n => rfl, fun f => later_not f s.clock.frame, fun b => holdsAtOnce_button_none s l,
      fun b x timeout => button_changed s l timeout, fun n timeout => ⟨rfl, timeoutFirst_of s l rfl⟩,
      fun f timeout o => ⟨rfl, rfl, rfl, timeoutFirst_looked s l rfl, timeoutFirst_looked s l rfl, timeoutFirst_looked s l rfl⟩,
      fun o => ⟨rfl, rfl⟩, reachable_own s⟩
  · exact ⟨fun n => exec_waitElapsed h, fun f => exec_waitFrameReached h, exec_waitTimeout h⟩
  · obtain ⟨-, hact⟩ := works_iff.mp h
    refine ⟨fun b level hc => ?_, fun o hc => ?_, fun o hc => ?_⟩
    · subst hc
      have hend := fun d => endButtonWaits_wait hno hact d level
      exact ⟨(hend b).trans (if_pos rfl), fun d hd => (hend d).trans (if_neg (Ne.symm hd))⟩
    · subst hc
      have hend := fun k up => endReachWaits_reachable hno hact k up
      exact ⟨(hend o true).trans (if_pos ⟨rfl, rfl⟩), (hend o false).trans (if_neg (by simp)),
        fun k hk => (hend k true).trans (if_neg fun he => hk he.1.symm)⟩
    · subst hc
      have hend := fun k up => endReachWaits_unreachable hno hact k up
      exact ⟨(hend o false).trans (if_pos ⟨rfl, rfl⟩), (hend o true).trans (if_neg (by simp)),
        fun k hk => (hend k false).trans (if_neg fun he => hk he.1.symm)⟩

end Sys2Proof.Machine

/-!
Map entries and the steps that change them (O23, O24): a fade row by row of R33's table (spec 02, R31 to R33; spec 03, R61), the
payloads of MAP SLOTS and PATCH OUTPUTS (R34, R62), and the end of their steps (R35, R63).
-/

namespace Sys2Proof.Machine

set_option Elab.async false

/-! ### One map entry (R32, R33) -/

section Change

variable {σ : Type} [DecidableEq σ] {f : Fade σ} {source : σ}

/-- The source an entry stands at, or fades to, changes nothing. -/
theorem change_same (h : f.next = some source ∨ f.next = none ∧ source = f.current) : f.change source = (f, false) := by
  unfold Fade.change
  obtain h | ⟨h, hc⟩ := h
  · simp only [h, if_true]
  · simp only [h, hc, if_true]

/-- The current source given during a fade out turns the fade back. -/
theorem change_back (h : f.next ≠ some source) (hn : f.next ≠ none) (hc : source = f.current) :
    f.change source = ({ f with next := none }, true) := by
  obtain ⟨n, hf⟩ := Option.ne_none_iff_exists'.mp hn
  have hne : source ≠ n := fun he => h (by rw [hf, he])
  unfold Fade.change
  simp only [hf, if_neg hne, if_pos hc]

/-- Any other source begins or redirects a fade. -/
theorem change_to (h : f.next ≠ some source) (hc : source ≠ f.current) :
    f.change source = ({ f with next := some source }, true) := by
  unfold Fade.change
  cases hf : f.next with
  | none => simp only [if_neg hc]
  | some n =>
    have hne : source ≠ n := fun he => h (by rw [hf, he])
    simp only [if_neg hne, if_neg hc]

end Change

section Step

variable {σ : Type} {f : Fade σ} {n : σ}

theorem step_switches (h : f.next = some n) (hg : f.gain ≤ 1) : f.step = { current := n, next := none, gain := 0 } := by
  unfold Fade.step
  simp only [h, if_pos hg]

theorem step_falls (h : f.next = some n) (hg : 1 < f.gain) : f.step = { f with gain := f.gain - 1 } := by
  unfold Fade.step
  simp only [h, if_neg (Nat.not_le.mpr hg)]

theorem step_rises (h : f.next = none) (hg : f.gain < 48) : f.step = { f with gain := f.gain + 1 } := by
  unfold Fade.step
  simp only [h]
  exact if_pos hg

theorem step_stays (h : f.next = none) (hg : 48 ≤ f.gain) : f.step = f := by
  unfold Fade.step
  simp only [h]
  exact if_neg (Nat.not_lt.mpr hg)

/-- Everything one frame does to a map entry. -/
theorem step_cases (f : Fade σ) :
    (f.step.gain = 0 ∧ f.gain ≤ 1) ∨ (f.step.current = f.current ∧ (f.step.gain = f.gain - 1 ∨ f.gain < 48 ∧ f.step.gain = f.gain + 1
      ∨ f.step.gain = f.gain)) := by
  cases h : f.next with
  | some n =>
    by_cases hg : f.gain ≤ 1
    · exact .inl ⟨by rw [step_switches h hg], hg⟩
    · exact .inr (by rw [step_falls h (Nat.not_le.mp hg)]; exact ⟨rfl, .inl rfl⟩)
  | none =>
    by_cases hg : f.gain < 48
    · exact .inr (by rw [step_rises h hg]; exact ⟨rfl, .inr (.inl ⟨hg, rfl⟩)⟩)
    · exact .inr (by rw [step_stays h (Nat.not_lt.mp hg)]; exact ⟨rfl, .inr (.inr rfl)⟩)

end Step

/-- Settles O23: the rows of R33's table are the three outcomes of a change. -/
theorem mapChangeFollowsTable : Obligations.MapChangeFollowsTable := by
  unfold Obligations.MapChangeFollowsTable
  intro f source hle
  refine ⟨fun hn _ hc => change_same (.inr ⟨hn, hc⟩), fun hn _ hc => change_to (by simp [hn]) hc, fun hn => change_same (.inl hn),
    fun n hn hne hc => change_to (fun he => hne (Option.some.inj (he.symm.trans hn))) hc,
    fun n hn hne hc => change_back (fun he => hne (Option.some.inj (he.symm.trans hn))) (by simp [hn]) hc,
    fun hn _ hc => change_same (.inr ⟨hn, hc⟩), fun hn _ hc => change_to (by simp [hn]) hc, ?_, fun hne => ?_⟩
  · obtain ⟨h0, h1⟩ | ⟨-, h⟩ := step_cases f <;> omega
  · obtain ⟨h0, -⟩ | ⟨hc, -⟩ := step_cases f
    · exact h0
    · exact absurd hc hne

/-! ### Entries applied in payload order (R34, R62) -/

theorem changeAll_cons {σ : Type} [DecidableEq σ] {map : Bank 64 (Fade σ)} {i : Fin 64} {source : σ} {f : Fade σ} {moved : Bool}
    (rest : List (Fin 64 × σ)) (h : (map.get i).change source = (f, moved)) :
    (changeAll map ((i, source) :: rest)).1 = (changeAll (map.set i f) rest).1
      ∧ (changeAll map ((i, source) :: rest)).2 = (changeAll (map.set i f) rest).2 + if moved = true then 1 else 0 := by
  rw [changeAll, h]
  exact ⟨rfl, rfl⟩

theorem all_steady {σ : Type} {map : Bank 64 (Fade σ)} {es : List (Fin 64 × σ)}
    (h : ∀ e ∈ es, (map.get e.1).next = none ∧ (map.get e.1).gain = 48) : (es.all fun e => (map.get e.1).steady) = true := by
  rw [List.all_eq_true]
  intro e he
  obtain ⟨hn, hg⟩ := h e he
  rw [Fade.steady, hn, hg]
  rfl

/-! ### Payloads (R34, R62) -/

theorem chunks_length (n : Nat) (b : List Byte) : (chunks n b).length = b.length / n := by simp [chunks]

theorem chunks_getElem? {n : Nat} {b : List Byte} {i : Nat} (hi : i < b.length / n) :
    (chunks n b)[i]? = some ((b.drop (n * i)).take n) := by
  simp [chunks, hi]

theorem index_of_val {n k : Nat} {o : Fin n} (h : k = o.val) : index? n k = some o := by rw [h, index_fin]

/-- A number that an index takes names an index. -/
theorem index_of_lt {n k : Nat} (h : k < n) : ∃ o : Fin n, index? n k = some o ∧ o.val = k := ⟨⟨k, h⟩, dif_pos h, rfl⟩

theorem byte_one {b : Byte} : b = 1 ↔ b.toNat = 1 := by rw [← BitVec.toNat_inj]; rfl

theorem byte_two {b : Byte} : b = 2 ↔ b.toNat = 2 := by rw [← BitVec.toNat_inj]; rfl

section Source

variable {kind index : Nat}

theorem slotSource_none : slotSource kind index = none ↔ 2 < kind ∨ kind = 1 ∧ 63 < index ∨ kind = 2 ∧ 31 < index := by
  unfold slotSource
  split
  next h => simp [h]
  next h0 =>
    split
    next h => subst h; simp [index_none, Nat.succ_le_iff]
    next h1 =>
      split
      next h => subst h; simp [index_none, Nat.succ_le_iff]
      next h2 => simp; omega

end Source

/-- A MAP SLOTS entry whose source is out of its range (R34). -/
theorem slotEntry_bad (e : List Byte) : (slotEntry e).2 = none ↔ 2 < (byteAt e 1).toNat ∨ byteAt e 1 = 1 ∧ 63 < (byteAt e 2).toNat
    ∨ byteAt e 1 = 2 ∧ 31 < (byteAt e 2).toNat := by
  rw [byte_one, byte_two]
  exact slotSource_none

section Slots

variable {count : Nat} {es : List (Nat × Option SlotSource)}

theorem slotsFault_slot (h : ∃ e ∈ es, count ≤ e.1) : slotsFault count es = some 16 := by
  unfold slotsFault
  exact if_pos (by simpa using h)

theorem slotsFault_source (hs : ∀ e ∈ es, e.1 < count) (h : ∃ e ∈ es, e.2 = none) : slotsFault count es = some 17 := by
  unfold slotsFault
  rw [if_neg (by simpa using hs), if_pos (by simpa using h)]

theorem slotsFault_none (hs : ∀ e ∈ es, e.1 < count ∧ e.2 ≠ none) : slotsFault count es = none := by
  unfold slotsFault
  rw [if_neg, if_neg]
  · simpa using fun x hx => (hs (x, none) hx).2 rfl
  · simpa using fun a b h => (hs (a, b) h).1

/-- The good entries are the entries, where all are good. -/
theorem goodSlots_map (h : ∀ e ∈ es, e.1 < 64 ∧ e.2 ≠ none) : (goodSlots es).map (fun e => (e.1.val, some e.2)) = es := by
  induction es with
  | nil => rfl
  | cons e es ih =>
    obtain ⟨slot, source⟩ := e
    obtain ⟨hslot, hsource⟩ := h (slot, source) List.mem_cons_self
    obtain ⟨i, hi, hval⟩ := index_of_lt hslot
    obtain ⟨x, rfl⟩ := Option.ne_none_iff_exists'.mp hsource
    have hcons : goodSlots ((slot, some x) :: es) = (i, x) :: goodSlots es := by simp [goodSlots, hi]
    rw [hcons, List.map_cons, ih fun e he => h e (List.mem_cons_of_mem _ he), hval]

end Slots

/-- What the bytes of a good MAP SLOTS entry name. -/
theorem slotEntry_source {e : List Byte} {source : SlotSource} (h : (slotEntry e).2 = some source) :
    (byteAt e 1 = 0 → source = .silent)
      ∧ (∀ k : Fin 64, byteAt e 1 = 1 → (byteAt e 2).toNat = k.val → source = .localInput k)
      ∧ (∀ m : Fin 32, byteAt e 1 = 2 → (byteAt e 2).toNat = m.val → source = .mix m) := by
  have hs : slotSource (byteAt e 1).toNat (byteAt e 2).toNat = some source := h
  refine ⟨fun h0 => ?_, fun k h1 hk => ?_, fun m h2 hm => ?_⟩
  · rw [h0] at hs
    exact (Option.some.inj hs).symm
  · rw [h1, hk] at hs
    have hi : slotSource (1 : Byte).toNat k.val = some (.localInput k) := by simp [slotSource, index_fin]
    exact Option.some.inj (hs.symm.trans hi)
  · rw [h2, hm] at hs
    have hi : slotSource (2 : Byte).toNat m.val = some (.mix m) := by simp [slotSource, index_fin]
    exact Option.some.inj (hs.symm.trans hi)

section Output

variable {e : List Byte}

theorem outputEntry_badOutput (h : 63 < (byteAt e 0).toNat) : outputEntry e = .error 16 := by
  unfold outputEntry
  simp only [index_none.mpr (show 64 ≤ (byteAt e 0).toNat from h)]

variable {o : Fin 64} (ho : (byteAt e 0).toNat = o.val)

include ho

theorem outputEntry_none (h : byteAt e 1 = 0) : outputEntry e = .ok (o, .none) := by
  unfold outputEntry
  simp only [index_of_val ho, h]
  rfl

theorem outputEntry_slot_eq (h : byteAt e 1 = 1) : outputEntry e
    = match index? 4 (byteAt e 2).toNat, index? 64 (byteAt e 3).toNat with
      | some q, some slot =>
        if (byteAt e 4).toNat = 255 then .ok (o, .slot q slot none)
        else match index? 4 (byteAt e 4).toNat with
          | some t => .ok (o, .slot q slot (some t))
          | none => .error 18
      | _, _ => .error 17 := by
  unfold outputEntry
  simp only [index_of_val ho, h]
  rfl

theorem outputEntry_mix_eq (h : byteAt e 1 = 2) : outputEntry e
    = match index? 32 (byteAt e 2).toNat with
      | some m => .ok (o, .mix m)
      | none => .error 17 := by
  unfold outputEntry
  simp only [index_of_val ho, h]
  rfl

theorem outputEntry_local_eq (h : byteAt e 1 = 3) : outputEntry e
    = match index? 64 (byteAt e 2).toNat with
      | some n => .ok (o, .localInput n)
      | none => .error 17 := by
  unfold outputEntry
  simp only [index_of_val ho, h]
  rfl

theorem outputEntry_badKind (h : 3 < (byteAt e 1).toNat) : outputEntry e = .error 17 := by
  unfold outputEntry
  simp only [index_of_val ho]
  rw [if_neg (by omega), if_neg (by omega), if_neg (by omega), if_neg (by omega)]

/-- An entry with a good output and a source out of its range (R62). -/
theorem outputEntry_badSource (h : 3 < (byteAt e 1).toNat ∨ byteAt e 1 = 1 ∧ (3 < (byteAt e 2).toNat ∨ 63 < (byteAt e 3).toNat)
    ∨ byteAt e 1 = 2 ∧ 31 < (byteAt e 2).toNat ∨ byteAt e 1 = 3 ∧ 63 < (byteAt e 2).toNat) : outputEntry e = .error 17 := by
  obtain h | ⟨h1, h | h⟩ | ⟨h2, h⟩ | ⟨h3, h⟩ := h
  · exact outputEntry_badKind ho h
  · rw [outputEntry_slot_eq ho h1]
    simp only [index_none.mpr (show 4 ≤ (byteAt e 2).toNat from h)]
  · rw [outputEntry_slot_eq ho h1]
    simp only [index_none.mpr (show 64 ≤ (byteAt e 3).toNat from h)]
    cases index? 4 (byteAt e 2).toNat <;> rfl
  · rw [outputEntry_mix_eq ho h2]
    simp only [index_none.mpr (show 32 ≤ (byteAt e 2).toNat from h)]
  · rw [outputEntry_local_eq ho h3]
    simp only [index_none.mpr (show 64 ≤ (byteAt e 2).toNat from h)]

section Slot

variable {q : Fin 4} {k : Fin 64} (h1 : byteAt e 1 = 1) (hq : (byteAt e 2).toNat = q.val) (hk : (byteAt e 3).toNat = k.val)

include h1 hq hk

theorem outputEntry_slot : outputEntry e = if (byteAt e 4).toNat = 255 then .ok (o, .slot q k none)
    else match index? 4 (byteAt e 4).toNat with
      | some t => .ok (o, .slot q k (some t))
      | none => .error 18 := by
  rw [outputEntry_slot_eq ho h1]
  simp only [index_of_val hq, index_of_val hk]

theorem outputEntry_untracked (h : byteAt e 4 = 255) : outputEntry e = .ok (o, .slot q k none) := by
  rw [outputEntry_slot ho h1 hq hk, h]
  rfl

theorem outputEntry_tracked {t : Fin 4} (h : (byteAt e 4).toNat = t.val) : outputEntry e = .ok (o, .slot q k (some t)) := by
  rw [outputEntry_slot ho h1 hq hk, if_neg (by omega), index_of_val h]

theorem outputEntry_badTracking (h : 3 < (byteAt e 4).toNat) (hne : byteAt e 4 ≠ 255) : outputEntry e = .error 18 := by
  have hne' : (byteAt e 4).toNat ≠ 255 := fun he => hne (BitVec.eq_of_toNat_eq he)
  rw [outputEntry_slot ho h1 hq hk, if_neg hne', index_none.mpr (show 4 ≤ (byteAt e 4).toNat from h)]

end Slot

theorem outputEntry_mix {m : Fin 32} (h : byteAt e 1 = 2) (hm : (byteAt e 2).toNat = m.val) : outputEntry e = .ok (o, .mix m) := by
  rw [outputEntry_mix_eq ho h, index_of_val hm]

theorem outputEntry_local {n : Fin 64} (h : byteAt e 1 = 3) (hn : (byteAt e 2).toNat = n.val) :
    outputEntry e = .ok (o, .localInput n) := by
  rw [outputEntry_local_eq ho h, index_of_val hn]

end Output

theorem outputEntries_error {e : List Byte} {d : Nat} (rest : List (List Byte)) (h : outputEntry e = .error d) :
    outputEntries (e :: rest) = .error d := by
  rw [outputEntries, h]

theorem outputEntries_later {e : List Byte} {x : Fin 64 × OutputSource} {d : Nat} {rest : List (List Byte)}
    (h : outputEntry e = .ok x) (hr : outputEntries rest = .error d) : outputEntries (e :: rest) = .error d := by
  rw [outputEntries, h, hr]

theorem outputEntries_ok {e : List Byte} {x : Fin 64 × OutputSource} {xs : List (Fin 64 × OutputSource)} {rest : List (List Byte)}
    (h : outputEntry e = .ok x) (hr : outputEntries rest = .ok xs) : outputEntries (e :: rest) = .ok (x :: xs) := by
  rw [outputEntries, h, hr]

/-! ### The steps (R34, R35, R62, R63) -/

section Steps

variable {s : State} {l : Fin 16} {a : Nat} {j : Join}

theorem stepAt_steps (s : State) (a : Nat) : (s.stepAt a).steps = [a] := (stepAt_fields s a).1

/-- The transmit map with a payload applied (R34). -/
def State.slotsChanged (s : State) (es : List (Fin 64 × SlotSource)) : State := { s with xmit := (changeAll s.xmit es).1 }

/-- The delivery map with a payload applied (R62). -/
def State.outputsChanged (s : State) (es : List (Fin 64 × OutputSource)) : State := { s with delivery := (changeAll s.delivery es).1 }

theorem slotsChanged_viewTrigger (es : List (Fin 64 × SlotSource)) (v : View) :
    (s.slotsChanged es).viewTrigger v = s.viewTrigger v := by
  cases v <;> rfl

theorem outputsChanged_viewTrigger (es : List (Fin 64 × OutputSource)) (v : View) :
    (s.outputsChanged es).viewTrigger v = s.viewTrigger v := by
  cases v <;> rfl

theorem worksOn_settleSlots (s : State) (l : Fin 16) : WorksOn l (s.settleSlots l) s := by
  unfold State.settleSlots
  split
  · split
    · exact worksOn_endStep s l _ _ _
    · exact .refl l s
  · exact .refl l s

theorem worksOn_settleOutputs (s : State) (l : Fin 16) : WorksOn l (s.settleOutputs l) s := by
  unfold State.settleOutputs
  split
  · split
    · exact worksOn_endStep s l _ _ _
    · exact .refl l s
  · exact .refl l s

theorem settleSlots_working {slots : List (Fin 64)} {count : Nat} (h : (s.lane l).activity = .working j (.mapSlots slots count)) :
    s.settleSlots l = if s.slotsSteady slots then s.finish l j .ok 0 (BitVec.ofNat 32 count) else s := by
  rw [← endStep_working h]
  unfold State.settleSlots
  simp only [op_working h]
  rfl

theorem settleOutputs_working {outputs : List (Fin 64)} {count : Nat}
    (h : (s.lane l).activity = .working j (.patchOutputs outputs count)) :
    s.settleOutputs l = if s.outputsSteady outputs then s.finish l j .ok 0 (BitVec.ofNat 32 count) else s := by
  rw [← endStep_working h]
  unfold State.settleOutputs
  simp only [op_working h]
  rfl

theorem exec_mapSlotsSettled {slots : List (Fin 64)} {count : Nat} (h : s.works l j (.mapSlots slots count) = true)
    (hs : (slots.all fun i => (s.xmit.get i).steady) = true) :
    exec (.mapSlotsSettled l) s = .next (s.finish l j .ok 0 (BitVec.ofNat 32 count)) := by
  obtain ⟨hrun, hact⟩ := works_iff.mp h
  have hexec : exec (.mapSlotsSettled l) s = .next (running (fun st => st.settleSlots l) s) := rfl
  rw [hexec, running_of _ hrun, withViews_worksOn (worksOn_settleSlots s l), settleSlots_working hact]
  exact congrArg Host.Outcome.next (if_pos hs)

theorem exec_patchOutputsSettled {outputs : List (Fin 64)} {count : Nat} (h : s.works l j (.patchOutputs outputs count) = true)
    (hs : (outputs.all fun i => (s.delivery.get i).steady) = true) :
    exec (.patchOutputsSettled l) s = .next (s.finish l j .ok 0 (BitVec.ofNat 32 count)) := by
  obtain ⟨hrun, hact⟩ := works_iff.mp h
  have hexec : exec (.patchOutputsSettled l) s = .next (running (fun st => st.settleOutputs l) s) := rfl
  rw [hexec, running_of _ hrun, withViews_worksOn (worksOn_settleOutputs s l), settleOutputs_working hact]
  exact congrArg Host.Outcome.next (if_pos hs)

/-- The slots a list of entries names are all steady. -/
theorem slotsSteady_map (es : List (Fin 64 × SlotSource)) :
    s.slotsSteady (es.map fun e => e.1) = es.all fun e => (s.xmit.get e.1).steady := List.all_map

theorem outputsSteady_map (es : List (Fin 64 × OutputSource)) :
    s.outputsSteady (es.map fun e => e.1) = es.all fun e => (s.delivery.get e.1).steady := List.all_map

/-- A MAP SLOTS step at its block, before it is seen whether its slots are steady. -/
def State.slotsTaken (s : State) (l : Fin 16) (j : Join) (es : List (Fin 64 × SlotSource)) : State :=
  (s.slotsChanged es).setOp l j (.mapSlots (es.map fun e => e.1) (changeAll s.xmit es).2)

/-- A PATCH OUTPUTS step at its block, before it is seen whether its outputs are steady. -/
def State.outputsTaken (s : State) (l : Fin 16) (j : Join) (es : List (Fin 64 × OutputSource)) : State :=
  (s.outputsChanged es).setOp l j (.patchOutputs (es.map fun e => e.1) (changeAll s.delivery es).2)

section Taken

variable (s) (l) (j) (es : List (Fin 64 × SlotSource)) (os : List (Fin 64 × OutputSource))

theorem slotsTaken_only : s.slotsTaken l j es = { s.slotsChanged es with lanes := (s.slotsTaken l j es).lanes } := by
  rw [State.slotsTaken, setOp_only]

theorem slotsTaken_lane : (s.slotsTaken l j es).lane l
    = { s.lane l with activity := .working j (.mapSlots (es.map fun e => e.1) (changeAll s.xmit es).2) } := setLane_lane _ l _

theorem worksOn_slotsTaken : WorksOn l (s.slotsTaken l j es) (s.slotsChanged es) := worksOn_setLane _ l _

theorem slotsTaken_xmit : (s.slotsTaken l j es).xmit = (changeAll s.xmit es).1 := by rw [slotsTaken_only]; rfl

theorem slotsTaken_settle : (s.slotsTaken l j es).settleSlots l
    = if (es.all fun e => ((changeAll s.xmit es).1.get e.1).steady) = true then
        (s.slotsTaken l j es).finish l j .ok 0 (BitVec.ofNat 32 (changeAll s.xmit es).2) else s.slotsTaken l j es := by
  rw [settleSlots_working (by rw [slotsTaken_lane]), slotsSteady_map, slotsTaken_xmit]

theorem slotsTaken_settle_xmit : ((s.slotsTaken l j es).settleSlots l).xmit = (changeAll s.xmit es).1 :=
  congrArg State.xmit ((worksOn_settleSlots _ l).trans (worksOn_slotsTaken s l j es)).only

theorem outputsTaken_only : s.outputsTaken l j os = { s.outputsChanged os with lanes := (s.outputsTaken l j os).lanes } := by
  rw [State.outputsTaken, setOp_only]

theorem outputsTaken_lane : (s.outputsTaken l j os).lane l
    = { s.lane l with activity := .working j (.patchOutputs (os.map fun e => e.1) (changeAll s.delivery os).2) } := setLane_lane _ l _

theorem worksOn_outputsTaken : WorksOn l (s.outputsTaken l j os) (s.outputsChanged os) := worksOn_setLane _ l _

theorem outputsTaken_delivery : (s.outputsTaken l j os).delivery = (changeAll s.delivery os).1 := by rw [outputsTaken_only]; rfl

theorem outputsTaken_settle : (s.outputsTaken l j os).settleOutputs l
    = if (os.all fun e => ((changeAll s.delivery os).1.get e.1).steady) = true then
        (s.outputsTaken l j os).finish l j .ok 0 (BitVec.ofNat 32 (changeAll s.delivery os).2) else s.outputsTaken l j os := by
  rw [settleOutputs_working (by rw [outputsTaken_lane]), outputsSteady_map, outputsTaken_delivery]

theorem outputsTaken_settle_delivery : ((s.outputsTaken l j os).settleOutputs l).delivery = (changeAll s.delivery os).1 :=
  congrArg State.delivery ((worksOn_settleOutputs _ l).trans (worksOn_outputsTaken s l j os)).only

end Taken

section MapSlots

variable (h : s.hasStep l 3 a = true)

include h

theorem exec_mapSlots {t u : State} (ht : s.beginSlots l (s.stepAt a) = t) (hw : WorksOn l t u)
    (hv : ∀ v : View, u.viewTrigger v = s.viewTrigger v) : exec (.mapSlots l) s = .next t := by
  have hexec : exec (.mapSlots l) s = .next (running (fun st => st.startStep l 3 fun j t => t.beginSlots l j) s) := rfl
  rw [hexec, running_of _ (hasStep_running h), startStep_ready _ h, ht,
    withViews_same fun v => (viewTrigger_worksOn hw v).trans (hv v)]

theorem exec_mapSlots_refused {d : Nat}
    (hd : slotsFault s.cfg.slotCount ((chunks 4 (s.stepAt a).payload).map slotEntry) = some d) :
    exec (.mapSlots l) s = .next (s.finish l (s.stepAt a) .badStep d 0) := by
  refine exec_mapSlots h ?_ (worksOn_finish s l _ .badStep d 0) fun v => rfl
  unfold State.beginSlots
  simp only [hd]

/-- A MAP SLOTS step that passes R34's checks. -/
theorem exec_mapSlots_applied {es : List (Fin 64 × SlotSource)}
    (hf : slotsFault s.cfg.slotCount ((chunks 4 (s.stepAt a).payload).map slotEntry) = none)
    (hes : goodSlots ((chunks 4 (s.stepAt a).payload).map slotEntry) = es) :
    exec (.mapSlots l) s = .next ((s.slotsTaken l (s.stepAt a) es).settleSlots l) := by
  subst hes
  refine exec_mapSlots h ?_ ((worksOn_settleSlots _ l).trans (worksOn_slotsTaken s l _ _)) (slotsChanged_viewTrigger _)
  unfold State.beginSlots
  simp only [hf]
  rfl

end MapSlots

section PatchOutputs

variable (h : s.hasStep l 4 a = true)

include h

theorem exec_patchOutputs {t u : State} (ht : s.beginOutputs l (s.stepAt a) = t) (hw : WorksOn l t u)
    (hv : ∀ v : View, u.viewTrigger v = s.viewTrigger v) : exec (.patchOutputs l) s = .next t := by
  have hexec : exec (.patchOutputs l) s = .next (running (fun st => st.startStep l 4 fun j t => t.beginOutputs l j) s) := rfl
  rw [hexec, running_of _ (hasStep_running h), startStep_ready _ h, ht,
    withViews_same fun v => (viewTrigger_worksOn hw v).trans (hv v)]

theorem exec_patchOutputs_refused {d : Nat} (hd : outputEntries (chunks 8 (s.stepAt a).payload) = .error d) :
    exec (.patchOutputs l) s = .next (s.finish l (s.stepAt a) .badStep d 0) := by
  refine exec_patchOutputs h ?_ (worksOn_finish s l _ .badStep d 0) fun v => rfl
  unfold State.beginOutputs
  simp only [hd]

/-- A PATCH OUTPUTS step that passes R62's checks. -/
theorem exec_patchOutputs_applied {es : List (Fin 64 × OutputSource)}
    (hes : outputEntries (chunks 8 (s.stepAt a).payload) = .ok es) :
    exec (.patchOutputs l) s = .next ((s.outputsTaken l (s.stepAt a) es).settleOutputs l) := by
  refine exec_patchOutputs h ?_ ((worksOn_settleOutputs _ l).trans (worksOn_outputsTaken s l _ _)) (outputsChanged_viewTrigger _)
  unfold State.beginOutputs
  simp only [hes]
  rfl

end PatchOutputs

/-- The done count of a lone step that ends. -/
theorem finish_done_lone {t : State} {k : Lane} {act : Activity} (ht : t.lane l = { k with activity := act }) (st : Status) (d : Nat)
    (n : Word) : ((t.finish l (s.stepAt a) st d n).lane l).done = k.done + 1 := by
  rw [finish_done, ht, stepAt_steps]
  rfl

end Steps

/-- Settles O24. -/
theorem mapStepsApply : Obligations.MapStepsApply := by
  unfold Obligations.MapStepsApply
  refine ⟨⟨fun s l a h => ⟨fun d => exec_mapSlots_refused h, fun hf => ?_⟩, fun s l j slots count => exec_mapSlotsSettled,
      fun s l a h => ⟨fun d => exec_patchOutputs_refused h, fun es hes => ?_⟩, fun s l j outputs count => exec_patchOutputsSettled⟩,
    fun b n _ => ⟨chunks_length n b, fun i => chunks_getElem?⟩, fun count es bad hcount hbad => ?_, fun e => ?_,
    ⟨rfl, fun e rest => ⟨fun d => outputEntries_error rest, fun x hx => ⟨fun d => outputEntries_later hx, fun xs => outputEntries_ok hx⟩⟩⟩,
    fun f source => ⟨change_same, change_back, change_to⟩,
    fun σ _ map i source rest f moved h => ⟨rfl, changeAll_cons rest h⟩, fun s l a es h hf hes hst => ?_,
    fun s l a es h hes hst => ?_⟩
  · have hw := (worksOn_settleSlots _ l).trans (worksOn_slotsTaken s l (s.stepAt a)
      (goodSlots ((chunks 4 (s.stepAt a).payload).map slotEntry)))
    have hx := slotsTaken_settle_xmit s l (s.stepAt a) (goodSlots ((chunks 4 (s.stepAt a).payload).map slotEntry))
    refine ⟨_, exec_mapSlots_applied h hf rfl, hw.only, hw.others, fun hst => ?_, fun hst => ?_⟩
    · rw [hx] at hst
      rw [slotsTaken_settle, if_pos hst, finish_done_lone (slotsTaken_lane s l _ _)]
    · rw [hx] at hst
      rw [slotsTaken_settle, if_neg (ne_true_of_eq_false hst), slotsTaken_lane]
  · have hw := (worksOn_settleOutputs _ l).trans (worksOn_outputsTaken s l (s.stepAt a) es)
    have hx := outputsTaken_settle_delivery s l (s.stepAt a) es
    refine ⟨_, exec_patchOutputs_applied h hes, hw.only, hw.others, fun hst => ?_, fun hst => ?_⟩
    · rw [hx] at hst
      rw [outputsTaken_settle, if_pos hst, finish_done_lone (outputsTaken_lane s l _ _)]
    · rw [hx] at hst
      rw [outputsTaken_settle, if_neg (ne_true_of_eq_false hst), outputsTaken_lane]
  · have hslot : ∀ e : List Byte, (slotEntry e).1 = (byteAt e 0).toNat := fun e => rfl
    have hnone : ∀ e : List Byte, (slotEntry e).2 = none ↔ bad e := fun e => (slotEntry_bad e).trans (hbad e).symm
    refine ⟨fun ⟨e, he, hc⟩ => slotsFault_slot ⟨_, List.mem_map_of_mem he, hc⟩, fun hc ⟨e, he, hb⟩ =>
      slotsFault_source (List.forall_mem_map.mpr hc) ⟨_, List.mem_map_of_mem he, (hnone e).mpr hb⟩, fun hgood => ?_⟩
    have hall : ∀ e ∈ es.map slotEntry, e.1 < count ∧ e.2 ≠ none :=
      List.forall_mem_map.mpr fun e he => ⟨(hgood e he).1, fun hn => (hgood e he).2 ((hnone e).mp hn)⟩
    have hmap := goodSlots_map fun e he => ⟨Nat.lt_of_lt_of_le (hall e he).1 hcount, (hall e he).2⟩
    have hlen := congrArg List.length hmap
    rw [List.length_map, List.length_map] at hlen
    refine ⟨slotsFault_none hall, hlen, fun i e he => ?_⟩
    have hi := congrArg (fun xs => xs[i]?) hmap
    simp only [List.getElem?_map, he, Option.map_some] at hi
    obtain ⟨⟨slot, source⟩, hget, hpair⟩ := Option.map_eq_some_iff.mp hi
    obtain ⟨hs1, hs2⟩ := Prod.ext_iff.mp hpair
    exact ⟨slot, source, hget, hs1, slotEntry_source hs2.symm⟩
  · refine ⟨outputEntry_badOutput, fun h0 => ?_, fun h0 h1 h2 h3 => ?_, fun o ho => ⟨outputEntry_none ho,
      fun q k h1 hq hk => ⟨outputEntry_untracked ho h1 hq hk, fun t => outputEntry_tracked ho h1 hq hk⟩,
      fun m => outputEntry_mix ho, fun n => outputEntry_local ho⟩⟩
    · exact outputEntry_badSource (o := ⟨_, Nat.lt_succ_of_le h0⟩) rfl
    · exact outputEntry_badTracking (o := ⟨_, Nat.lt_succ_of_le h0⟩) (q := ⟨_, Nat.lt_succ_of_le h2⟩)
        (k := ⟨_, Nat.lt_succ_of_le h3⟩) rfl h1 rfl rfl
  · subst hes
    refine ⟨_, slotsTaken_only s l (s.stepAt a) _, (worksOn_slotsTaken s l _ _).others, slotsTaken_lane s l _ _, ?_⟩
    rw [exec_mapSlots_applied h hf rfl, slotsTaken_settle, if_pos (all_steady hst)]
  · refine ⟨_, outputsTaken_only s l (s.stepAt a) es, (worksOn_outputsTaken s l _ _).others, outputsTaken_lane s l _ _, ?_⟩
    rw [exec_patchOutputs_applied h hes, outputsTaken_settle, if_pos (all_steady hst)]

end Sys2Proof.Machine

/-!
Ramps and their coefficients (O33): the search that finds a coefficient, the courses of level and compensation ramps and of map fades,
and what a retarget starts (spec 02, R32; spec 03, R61; spec 05, R96, R97; spec 06, R106, R107).
-/

namespace Sys2Proof.Machine

set_option Elab.async false

/-! ### Coefficients (R96, R106) -/

section Coefficient

variable {e : Int} {n base k : Nat}

/-- A search between a number that fits and one that does not ends at a number that fits before one that does not. -/
theorem coeffSearch_fits (h : coeffFits e base = true) (hn : coeffFits e (base + 2 ^ n) = false) :
    coeffFits e (coeffSearch e n base) = true ∧ coeffFits e (coeffSearch e n base + 1) = false := by
  induction n generalizing base with
  | zero => exact ⟨h, hn⟩
  | succ n ih =>
    rw [coeffSearch]
    by_cases hf : coeffFits e (base + 2 ^ n) = true
    · rw [if_pos hf]
      exact ih hf (by rwa [Nat.add_assoc, ← Nat.two_mul, ← Nat.pow_succ'])
    · rw [if_neg hf]
      exact ih h (Bool.eq_false_of_not_eq_true hf)

theorem coeffFits_zero (e : Int) : coeffFits e 0 = true := rfl

theorem coeffFits_iff : coeffFits e k = true ↔ k = 0 ∨ (2 * k - 1) ^ 200 * 10 ^ (-e).toNat ≤ 2 ^ 4200 * 10 ^ e.toNat := by
  rw [coeffFits, Bool.or_eq_true, beq_iff_eq, Nat.ble_eq]

theorem bound_of_fits (h : coeffFits e k = true) : (2 * k - 1) ^ 200 * 10 ^ (-e).toNat ≤ 2 ^ 4200 * 10 ^ e.toNat := by
  obtain rfl | h := coeffFits_iff.mp h
  · rw [Nat.mul_zero, Nat.zero_sub, Nat.zero_pow (by decide), Nat.zero_mul]
    exact Nat.zero_le _
  · exact h

theorem bound_of_not_fits (h : coeffFits e (k + 1) = false) :
    2 ^ 4200 * 10 ^ e.toNat < (2 * k + 1) ^ 200 * 10 ^ (-e).toNat := by
  have hk : ¬ (2 * k + 1) ^ 200 * 10 ^ (-e).toNat ≤ 2 ^ 4200 * 10 ^ e.toNat :=
    fun hf => Bool.false_ne_true (h.symm.trans (coeffFits_iff.mpr (.inr hf)))
  exact Nat.not_le.mp hk

/-- Ten times unity, times 2, is under 2^25 - 1, power by power. -/
theorem unity_times_ten_lt {n m : Nat} (hm : m = 21 * n) (hn : n ≠ 0) : 2 ^ m * 10 ^ n < (2 * 2 ^ 24 - 1) ^ n := by
  rw [hm, Nat.pow_mul, ← Nat.mul_pow]
  exact Nat.pow_lt_pow_left (by decide) hn

/-- No coefficient up to 10^(200/200) times unity fills 24 bits. -/
theorem coeffFits_top (h : e ≤ 200) : coeffFits e (2 ^ 24) = false := by
  have hten : 10 ^ e.toNat ≤ 10 ^ 200 := Nat.pow_le_pow_right (by decide) (Int.toNat_le.mpr h)
  have hlt : 2 ^ 4200 * 10 ^ e.toNat < (2 * 2 ^ 24 - 1) ^ 200 * 10 ^ (-e).toNat :=
    Nat.lt_of_le_of_lt (Nat.mul_le_mul_left _ hten)
      (Nat.lt_of_lt_of_le (unity_times_ten_lt (n := 200) rfl (by decide)) (Nat.le_mul_of_pos_right _ (Nat.pow_pos (by decide))))
  refine Bool.eq_false_of_not_eq_true fun hf => ?_
  obtain h0 | hle := coeffFits_iff.mp hf
  · exact absurd h0 (by decide)
  · exact Nat.not_le.mpr hlt hle

/-- A coefficient k is 2^20 × 10^(e/200) rounded to the nearest integer: k - 1/2 is at most that, and k + 1/2 above it. -/
theorem coeff_rounds (h : e ≤ 200) (hk : coeff e = k) : (2 * k - 1) ^ 200 * 10 ^ (-e).toNat ≤ 2 ^ 4200 * 10 ^ e.toNat
    ∧ 2 ^ 4200 * 10 ^ e.toNat < (2 * k + 1) ^ 200 * 10 ^ (-e).toNat := by
  subst hk
  obtain ⟨hfit, hnot⟩ := coeffSearch_fits (coeffFits_zero e) (by rw [Nat.zero_add]; exact coeffFits_top h)
  exact ⟨bound_of_fits hfit, bound_of_not_fits hnot⟩

theorem levelCoeff_rounds {code : Nat} (h1 : 1 ≤ code) (h : code ≤ 1000) (hk : levelCoeff code = k) :
    (2 * k - 1) ^ 200 * 10 ^ (900 - code) ≤ 2 ^ 4200 * 10 ^ (code - 900)
      ∧ 2 ^ 4200 * 10 ^ (code - 900) < (2 * k + 1) ^ 200 * 10 ^ (900 - code) := by
  rw [levelCoeff, if_neg (Nat.ne_of_gt h1)] at hk
  have hr := coeff_rounds (by omega) hk
  rwa [show (-((code : Int) - 900)).toNat = 900 - code by omega, show ((code : Int) - 900).toNat = code - 900 by omega] at hr

theorem gainCoeff_rounds {c : Int} (h : c ≤ 20) (hk : gainCoeff c = k) :
    (2 * k - 1) ^ 200 * 10 ^ (-10 * c).toNat ≤ 2 ^ 4200 * 10 ^ (10 * c).toNat
      ∧ 2 ^ 4200 * 10 ^ (10 * c).toNat < (2 * k + 1) ^ 200 * 10 ^ (-10 * c).toNat := by
  have hr := coeff_rounds (by omega) hk
  rwa [← Int.neg_mul] at hr

/-- The coefficients R96 and R106 print. -/
theorem coefficients_printed : levelCoeff 0 = 0 ∧ levelCoeff 780 = 263390 ∧ levelCoeff 840 = 525533 ∧ levelCoeff 900 = 1048576
    ∧ levelCoeff 1000 = 3315888 ∧ gainCoeff (-40) = 10486 ∧ gainCoeff (-12) = 263390 ∧ gainCoeff (-6) = 525533
    ∧ gainCoeff 0 = 1048576 ∧ gainCoeff 20 = 10485760 := by decide +kernel

theorem targetOf_untracked (e : Int) : targetOf none e = 1048576 := by
  obtain ⟨-, -, -, -, -, -, -, -, h, -⟩ := coefficients_printed
  exact h

theorem limitedOf_some (r e : Int) : limitedOf (some r) e = decide (r - e < -40 ∨ 20 < r - e) := (Bool.decide_or _ _).symm

end Coefficient

/-! ### Compensation ramps (R97) -/

section Track

variable {t : TrackEntry} {e : Int} {old step : Nat}

theorem advance_ramp (h : t.ramp = some (old, step)) (hs : step + 1 < 64) : t.advance e = { t with
    k := ((old : Int) + Int.tdiv (((targetOf t.reference e : Int) - old) * (step + 1)) 64).toNat
    ramp := some (old, step + 1) } := by
  unfold TrackEntry.advance
  simp only [h]
  exact if_neg (Nat.not_le.mpr hs)

theorem advance_ends (h : t.ramp = some (old, step)) (hs : 64 ≤ step + 1) :
    t.advance e = { t with k := targetOf t.reference e, ramp := none } := by
  unfold TrackEntry.advance
  simp only [h]
  exact if_pos hs

variable {r : Option Int}

theorem onReference_held (switched : Bool) (h : r = t.reference) : t.onReference switched e r = { t with scheduled := none } := if_pos h

theorem onReference_at_once (h : r ≠ t.reference) : t.onReference true e r
    = { reference := r, k := targetOf r e, ramp := none, limited := limitedOf r e, scheduled := none } := by
  unfold TrackEntry.onReference
  rw [if_neg h, if_pos rfl]

theorem onReference_ramps (h : r ≠ t.reference) : t.onReference false e r
    = { reference := r, k := t.k, ramp := some (t.k, 0), limited := limitedOf r e, scheduled := none } := by
  unfold TrackEntry.onReference
  rw [if_neg h, if_neg Bool.false_ne_true]

end Track

/-! ### Level ramps (R107) -/

section Level

variable {l : Level} {r : Ramp} {target : Int} {length : Nat}

theorem advance_level_ends (h : l.ramp = some r) (hs : r.length ≤ r.step + 1) : l.advance = { value := r.target, ramp := none } := by
  unfold Level.advance
  simp only [h, if_pos hs]

theorem advance_level (h : l.ramp = some r) (hs : r.step + 1 < r.length) : l.advance
    = { value := r.start + Int.tdiv ((r.target - r.start) * (r.step + 1)) r.length, ramp := some { r with step := r.step + 1 } } := by
  unfold Level.advance
  simp only [h, if_neg (Nat.not_le.mpr hs)]
  rfl

/-- A ramp that runs to the target goes on. -/
theorem retarget_running (h : l.ramp = some r) (ht : r.target = target) : l.retarget target length = l := by
  unfold Level.retarget
  simp only [h, if_pos ht]

theorem retarget_standing (h : l.ramp = none) (hv : l.value = target) : l.retarget target length = l := by
  unfold Level.retarget
  simp only [h, if_pos hv]

/-- Any other retarget starts a ramp from the present value. -/
theorem retarget_starts (h : (∃ r : Ramp, l.ramp = some r ∧ r.target ≠ target) ∨ (l.ramp = none ∧ l.value ≠ target)) :
    l.retarget target length
      = { value := l.value, ramp := some { start := l.value, target := target, step := 0, length := length } } := by
  unfold Level.retarget
  obtain ⟨r, hr, ht⟩ | ⟨hr, hv⟩ := h
  · simp only [hr, if_neg ht]
  · simp only [hr, if_neg hv]

end Level

/-! ### Map fades (R32) -/

section Fade

variable {σ : Type} (old new : σ) {k : Nat}

theorem fade_falls (h : k < 48) : (Fade.step^[k]) { current := old, next := some new, gain := 48 }
    = { current := old, next := some new, gain := 48 - k } := by
  induction k with
  | zero => rfl
  | succ k ih =>
    have h1 : 1 < 48 - k := by omega
    rw [Function.iterate_succ_apply', ih (Nat.lt_of_succ_lt h), step_falls rfl h1]
    rfl

theorem fade_rises (h : k ≤ 48) : (Fade.step^[k]) { current := new, next := none, gain := 0 }
    = { current := new, next := none, gain := k } := by
  induction k with
  | zero => rfl
  | succ k ih =>
    rw [Function.iterate_succ_apply', ih (Nat.le_of_succ_le h)]
    exact step_rises rfl h

/-- The source switches at the frame that reaches 0. -/
theorem fade_switches : (Fade.step^[48]) { current := old, next := some new, gain := 48 }
    = { current := new, next := none, gain := 0 } := by
  rw [Function.iterate_succ_apply', fade_falls old new (by decide)]
  exact step_switches rfl (Nat.le_refl 1)

theorem fade_ends (h : 48 ≤ k) (hk : k ≤ 96) : (Fade.step^[k]) { current := old, next := some new, gain := 48 }
    = { current := new, next := none, gain := k - 48 } := by
  obtain ⟨j, rfl⟩ := Nat.exists_eq_add_of_le' h
  rw [Function.iterate_add_apply, fade_switches, fade_rises new (by omega), Nat.add_sub_cancel]

end Fade

/-- Settles O33. -/
theorem fadesAndRampsAreLinear : Obligations.FadesAndRampsAreLinear := by
  unfold Obligations.FadesAndRampsAreLinear
  refine ⟨fun t e old step h => ⟨advance_ramp h, advance_ends h⟩, fun start target length k _ => ⟨fun h v => advance_level (r := ⟨start, target, k, length⟩) rfl h,
      fun h v => advance_level_ends (r := ⟨start, target, k, length⟩) rfl (Nat.le_of_eq h.symm)⟩,
    fun old new k => ⟨fade_falls old new, fade_ends old new⟩,
    fun l target length => ⟨fun r => retarget_running, retarget_standing, retarget_starts⟩,
    fun t e switched r => ⟨rfl, onReference_held switched, fun h hs => ?_, fun h hs => ?_⟩,
    fun e => ⟨targetOf_untracked e, rfl, fun r => ⟨rfl, limitedOf_some r e⟩⟩, coefficients_printed,
    fun code k => levelCoeff_rounds, fun c k _ => gainCoeff_rounds⟩
  · rw [hs]
    exact onReference_at_once h
  · rw [hs]
    exact onReference_ramps h

end Sys2Proof.Machine

/-!
What the reports of an origin's reachability leave as it was, and what a port that leaves UP comes to (spec 08, R160, R161, R170): no
block's part of a report touches the port records, the path records or the burst last built.
-/

namespace Sys2Proof.Machine

set_option Elab.async false

/-- The first state has the second's port records, path records, and burst of the frame. -/
def State.Stays (t s : State) : Prop :=
  t.ports = s.ports ∧ t.sup.paths = s.sup.paths ∧ t.lastBurst = s.lastBurst ∧ t.built = s.built

section Stays

variable {s r : State}

theorem Stays.refl (s : State) : s.Stays s := ⟨rfl, rfl, rfl, rfl⟩

/-- A state with the records and the burst of one that has them. -/
theorem Stays.of_same {t : State} (h : s.Stays r) (hp : t.ports = s.ports := by rfl) (hs : t.sup.paths = s.sup.paths := by rfl)
    (hl : t.lastBurst = s.lastBurst := by rfl) (hb : t.built = s.built := by rfl) : t.Stays r := by
  obtain ⟨h1, h2, h3, h4⟩ := h
  exact ⟨hp.trans h1, hs.trans h2, hl.trans h3, hb.trans h4⟩

theorem Stays.ite {c : Prop} [Decidable c] {a b : State} (ha : a.Stays r) (hb : b.Stays r) : (if c then a else b).Stays r := by
  split
  · exact ha
  · exact hb

theorem Stays.foldl {α : Type} {f : State → α → State} (hf : ∀ (t : State) (x : α), t.Stays r → (f t x).Stays r) (xs : List α)
    (h : s.Stays r) : (xs.foldl f s).Stays r := by
  induction xs generalizing s with
  | nil => exact h
  | cons x xs ih => exact ih (hf s x h)

theorem Stays.pump {q : QueueClass} {k : Held} {wants : State → Bool} {send : State → State}
    (hs : ∀ t : State, t.Stays r → (send t).Stays r) (n : Nat) (h : s.Stays r) : (pump q k wants send n s).Stays r := by
  induction n generalizing s with
  | zero => exact h
  | succ n ih =>
    unfold Machine.pump
    split
    · exact Stays.ite (ih (hs s h)) h
    · exact h

theorem Stays.worksOn {l : Fin 16} {t : State} (ht : WorksOn l t s) (h : s.Stays r) : t.Stays r := by
  rw [ht.only]
  exact h

/-! ### Records and steps -/

theorem stays_attend {i : Nat} (h : s.Stays r) : (s.attend i).Stays r := Stays.ite h h

theorem stays_store {a : Nat} {bs : List Byte} (h : s.Stays r) : (s.store a bs).Stays r := Stays.worksOn (worksOn_store 0 s a bs) h

theorem stays_fault {k : FaultKind} {p : Option Port} {o n : Option (Fin 4)} {w : List Word} (h : s.Stays r) :
    (s.fault k p o n w).Stays r :=
  Stays.ite (stays_attend (stays_store (stays_store (s := { s with faultLog.written := s.faultLog.written + 1 }) h)))
    (stays_store (s := { s with faultLog.dropped := s.faultLog.dropped + 1 }) h)

theorem stays_endStep {l : Fin 16} {st : Status} {d : Nat} {n : Word} (h : s.Stays r) : (s.endStep l st d n).Stays r :=
  Stays.worksOn (worksOn_endStep s l st d n) h

theorem stays_putOp {l : Fin 16} {op : Op} (h : s.Stays r) : (s.putOp l op).Stays r := by
  unfold State.putOp
  split
  · exact Stays.worksOn (worksOn_setLane s l _) h
  · exact h

/-! ### Requests that end (spec 04, R76) -/

theorem stays_writeOutcomes {os ns : List InputStep} (h : s.Stays r) : (s.writeOutcomes os ns).Stays r := by
  induction os generalizing s ns with
  | nil => exact h
  | cons o os ih =>
    cases ns with
    | nil => exact h
    | cons n ns =>
      unfold State.writeOutcomes
      refine ih ?_
      split
      · exact stays_store h
      · exact h

theorem stays_settleEntries {l : Fin 16} {f : Nat → InputStep → InputStep} (h : s.Stays r) : (s.settleEntries l f).Stays r := by
  unfold State.settleEntries
  split
  · exact Stays.ite (stays_endStep (stays_putOp (stays_writeOutcomes h))) (stays_putOp (stays_writeOutcomes h))
  · exact h

theorem stays_partUnanswered {l : Fin 16} {st : Status} (h : s.Stays r) : (s.partUnanswered l st).Stays r := by
  unfold State.partUnanswered
  split
  · exact stays_endStep h
  · exact h

theorem stays_requestEnds {q : Request} {st : Status} (h : s.Stays r) : (s.requestEnds q st).Stays r :=
  Stays.ite (stays_settleEntries (s := s.freeEntry _ _) h)
    (Stays.ite (stays_partUnanswered (s := s.freeEntry _ _) h) (stays_endStep (s := s.freeEntry _ _) h))

theorem stays_serviceReach {o : Fin 4} (h : s.Stays r) : (s.serviceReach o).Stays r :=
  Stays.foldl (fun _ _ ht => stays_requestEnds ht) _ h

/-! ### The clock unit (spec 02, R37) -/

theorem stays_chooseSource (h : s.Stays r) : s.chooseSource.Stays r := by
  refine Stays.ite h ?_
  split
  · exact Stays.ite h (stays_fault (s := State.mk ..) h)
  · exact Stays.ite h (stays_fault (s := State.mk ..) h)

/-! ### The gain unit and the mix engine (spec 05, R85, R93, R98) -/

theorem stays_startRefRefresh (h : s.Stays r) : s.startRefRefresh.Stays r := by
  refine Stays.pump (s := State.mk ..) (fun t ht => ?_) _ h
  unfold State.sendRefRefresh
  split
  · exact ht
  · exact ht

theorem stays_startGainRefresh (h : s.Stays r) : s.startGainRefresh.Stays r := by
  refine Stays.pump (s := State.mk ..) (fun t ht => ?_) _ h
  unfold State.sendGainRefresh
  split
  · exact ht
  · exact ht

theorem stays_orphan {t : Fin 4} {lost : Bool} (h : s.Stays r) : (s.orphan t lost).Stays r := Stays.ite h h

theorem stays_gainReach {o : Fin 4} {up : Bool} (h : s.Stays r) : (s.gainReach o up).Stays r := by
  have h1 : (if s.isStage then
      let a := s.orphan o (!up)
      if up then a.startGainRefresh else a
    else if !up && decide (o = 0) then s.mirrorStale
    else s).Stays r :=
    Stays.ite (Stays.ite (stays_startGainRefresh (stays_orphan h)) (stays_orphan h)) (Stays.ite h h)
  exact Stays.ite (stays_startRefRefresh h1) h1

/-! ### The talk unit (spec 07, R131 to R140) -/

theorem stays_flag {t : Fin 4} {g : Fin 8} (h : s.Stays r) : (s.flag t g).Stays r := Stays.ite (Stays.ite h h) h

theorem stays_flagMix {t : Fin 4} {m : Fin 32} (h : s.Stays r) : (s.flagMix t m).Stays r :=
  Stays.foldl (fun _ _ ht => Stays.ite (stays_flag ht) ht) _ h

theorem stays_setInsert {m : Fin 32} {i : Insert} (h : s.Stays r) : (s.setInsert m i).Stays r :=
  Stays.foldl (fun _ _ ht => Stays.ite ht (stays_flagMix ht)) _ (Stays.ite h h)

theorem stays_followPresent {t : Fin 4} {b a : Word} (h : s.Stays r) : (s.followPresent t b a).Stays r :=
  Stays.foldl (fun _ _ ht => Stays.ite (stays_setInsert ht) (Stays.ite (stays_setInsert ht) ht)) _ h

theorem stays_modGroup {g : Fin 8} {f : Group → Group} (h : s.Stays r) : (s.modGroup g f).Stays r := Stays.of_same h

theorem stays_talkTargetReach {u : Fin 4} {up : Bool} (h : s.Stays r) : (s.talkTargetReach u up).Stays r :=
  Stays.foldl (fun _ _ ht => Stays.ite (Stays.ite (stays_modGroup ht) ht)
    (Stays.ite (stays_modGroup (stays_modGroup ht)) (stays_modGroup ht))) _ h

theorem stays_talkerGone {t : Fin 4} (h : s.Stays r) : (s.talkerGone t).Stays r :=
  Stays.of_same (stays_followPresent (t := t) (b := s.presentSet t) (a := 0)
    (s := { s with talk.talkers := s.talk.talkers.set t {} }) (Stays.of_same h))

theorem stays_sendOutbox (h : s.Stays r) : s.sendOutbox.Stays r := by
  unfold State.sendOutbox
  split
  · exact h
  · extract_lets
    split
    · exact h
    · exact h

theorem stays_pumpOutbox (h : s.Stays r) : s.pumpOutbox.Stays r :=
  Stays.foldl (fun t b ht => by
    split
    · exact Stays.ite ht ht
    · exact ht) _ (Stays.pump (fun _ ht => stays_sendOutbox ht) _ h)

theorem stays_pumpTalkReply {t : Fin 4} (h : s.Stays r) : (s.pumpTalkReply t).Stays r := by
  refine Stays.pump (fun u hu => ?_) _ h
  unfold State.sendTalkState
  split
  · exact hu
  · exact hu

theorem stays_endTalkStep {l : Fin 16} (h : s.Stays r) : (s.endTalkStep l).Stays r := by
  unfold State.endTalkStep
  split
  · exact Stays.ite (stays_endStep h) (Stays.ite (stays_endStep h) h)
  · exact h

theorem stays_pumpTalk (h : s.Stays r) : s.pumpTalk.Stays r :=
  Stays.foldl (fun _ _ ht => stays_endTalkStep ht) _ (Stays.foldl (fun _ _ ht => stays_pumpTalkReply ht) _ (stays_pumpOutbox h))

theorem stays_talkReach {o : Fin 4} {up : Bool} (h : s.Stays r) : (s.talkReach o up).Stays r :=
  stays_pumpTalk (Stays.ite (stays_talkTargetReach h) (stays_talkerGone (stays_talkTargetReach h)))

/-! ### A report and its causes (spec 08, R160, R161) -/

theorem stays_endReachWaits {o : Fin 4} {up : Bool} (h : s.Stays r) : (s.endReachWaits o up).Stays r :=
  Stays.foldl (fun t l ht => by
    split
    · exact Stays.ite (stays_endStep ht) ht
    · exact Stays.ite (stays_endStep ht) ht
    · exact ht) _ h

theorem stays_reachReport {o : Fin 4} {up : Bool} (h : s.Stays r) : (s.reachReport o up).Stays r := by
  have h1 : (if up then s else s.serviceReach o).Stays r := Stays.ite h (stays_serviceReach h)
  exact stays_endReachWaits (stays_talkReach (s := State.mixReach _ _ _) (stays_gainReach (stays_chooseSource h1)))

theorem stays_reachChange {o : Fin 4} {p : Port} {up : Bool} (h : s.Stays r) : (s.reachChange o p up).Stays r :=
  stays_reachReport (Stays.ite (stays_fault (s := s) h) (stays_fault h))

theorem stays_clockPathLost {o : Fin 4} {p : Port} (h : s.Stays r) : (s.clockPathLost o p).Stays r := by
  refine Stays.ite ?_ h
  split
  · exact h
  · exact h

/-- A lost path's own record is all that changes among the records. -/
theorem stays_losePath (s : State) (o : Fin 4) (p : Port) :
    (s.losePath o p).Stays (s.modPath o p fun x => { x with up := false, losses := x.losses + 1 }) := by
  have h1 : (((s.modPath o p fun x => { x with up := false, losses := x.losses + 1 }).pathRecord o p false).clockPathLost o p).Stays
      (s.modPath o p fun x => { x with up := false, losses := x.losses + 1 }) := stays_clockPathLost (stays_fault (Stays.refl _))
  exact Stays.ite h1 (stays_reachChange h1)

end Stays

end Sys2Proof.Machine

/-!
The port records and path records of the ring as commands leave them (spec 08, R152 to R163), and what of them the ring view shows
(R165); the sending of the forward buffer (O22).
-/

namespace Sys2Proof.Machine

set_option Elab.async false

/-! ### What the ring view shows (R165) -/

section Shown

variable {t s : State}

/-- The ring view follows only the ports' states and conflict flags, the paths' states and hop counts, the present marks, the closures
and the clock unit. -/
theorem ringTrigger_same (hstate : ∀ p : Port, (t.port p).state = (s.port p).state)
    (hflag : ∀ p : Port, (t.port p).conflictReported = (s.port p).conflictReported)
    (hup : ∀ (o : Fin 4) (p : Port), (t.sup.path o p).up = (s.sup.path o p).up)
    (hhop : ∀ (o : Fin 4) (p : Port), (t.sup.path o p).hop = (s.sup.path o p).hop)
    (hcfg : t.cfg = s.cfg := by rfl) (hclock : t.clock = s.clock := by rfl) (hpresent : t.sup.present = s.sup.present := by rfl)
    (heast : t.sup.eastward = s.sup.eastward := by rfl) (hwest : t.sup.westward = s.sup.westward := by rfl) :
    t.ringTrigger = s.ringTrigger := by
  have hreach : ∀ o : Fin 4, t.reachable o = s.reachable o := fun o => by simp only [State.reachable, hcfg, hup]
  have hheard : ∀ (p : Port) (k : Nat), t.heardAt p k = s.heardAt p k := fun p k => by
    simp only [State.heardAt, hcfg, hup, hhop]
  have hsize : t.ringSize = s.ringSize := by simp only [State.ringSize, heast, hwest]
  have hset : t.reachSet = s.reachSet := by simp only [State.reachSet, hreach]
  simp only [ringTrigger_fields, hstate, hflag, hup, hhop, hcfg, hclock, hpresent, heast, hwest, hreach, hsize, hset,
    State.neighbour, State.eastOrder, hheard]

theorem inputBody_ring (s : State) (ports : Both PortRec) (merge : Merge) (sup : Supervisor) :
    ({ s with ports := ports, merge := merge, sup := sup } : State).inputBody = s.inputBody := rfl

/-- Of the other blocks, the talk view shows reachability alone, at a lamp of an origin. -/
theorem talkBody_same {t s : State} (htalk : t.talk = s.talk) (hreach : ∀ o : Fin 4, t.reachable o = s.reachable o) :
    t.talkBody = s.talkBody := by
  have hlamp : ∀ i : Fin 8, t.lamp i = s.lamp i := fun i => by
    simp only [State.lamp, State.group, State.button, htalk, hreach] <;> rfl
  simp only [State.talkBody, State.gateTarget, State.group, State.rank, htalk, hlamp] <;> rfl

/-- Changes of the port records alone that keep their states and conflict flags show nowhere. -/
theorem viewTrigger_ports {ports : Both PortRec} (hstate : ∀ p : Port, (ports.get p).state = (s.port p).state)
    (hflag : ∀ p : Port, (ports.get p).conflictReported = (s.port p).conflictReported) (v : View) :
    ({ s with ports := ports } : State).viewTrigger v = s.viewTrigger v := by
  cases v with
  | input => rfl
  | ring => exact ringTrigger_same hstate hflag (fun _ _ => rfl) fun _ _ => rfl
  | talk => rfl

/-- A port record that keeps its state and its conflict flag shows nowhere. -/
theorem withViews_setPort {p : Port} {r : PortRec} (hstate : r.state = (s.port p).state)
    (hflag : r.conflictReported = (s.port p).conflictReported) : (s.setPort p r).withViews s = s.setPort p r := by
  refine withViews_same (viewTrigger_ports (fun q => ?_) fun q => ?_)
  · rw [Both.set_get]
    split
    next h => rw [h, hstate]
    next => rfl
  · rw [Both.set_get]
    split
    next h => rw [h, hflag]
    next => rfl

end Shown

/-! ### Port records -/

section Ports

variable {s : State} {p q : Port} {r : PortRec}

theorem setPort_port (s : State) (p q : Port) (r : PortRec) : (s.setPort p r).port q = if q = p then r else s.port q := Both.set_get ..

@[simp] theorem setPort_port_self (s : State) (p : Port) (r : PortRec) : (s.setPort p r).port p = r := by rw [setPort_port, if_pos rfl]

theorem other_ne (p : Port) : p.other ≠ p := by cases p <;> decide

theorem eq_other {p q : Port} (h : q ≠ p) : q = p.other := by
  revert h
  cases p <;> cases q <;> decide

@[simp] theorem setPort_port_other (s : State) (p : Port) (r : PortRec) : (s.setPort p r).port p.other = s.port p.other := by
  rw [setPort_port, if_neg (other_ne p)]

theorem setPort_setPort (s : State) (p : Port) (r x : PortRec) : (s.setPort p r).setPort p x = s.setPort p x := by cases p <;> rfl

theorem setPort_port_eq (s : State) (p : Port) : s.setPort p (s.port p) = s := by cases p <;> rfl

end Ports

/-! ### The forward buffer (spec 02, R26; spec 08, R170, R172) -/

section SendForward

variable {s : State} {p : Port}

theorem exec_forwardBufferSend (hrun : s.isRunning = true) : leaves (.forwardBufferSend p) s (s.sendForward p) :=
  congrArg Host.Outcome.next (running_of (fun st => st.sendForward p) hrun)

theorem forwards_iff {x : PortState} : x.forwards = true ↔ x ≠ .dark ∧ x ≠ .loop := by cases x <;> decide

theorem sendForward_sends (h : (s.port p).state.forwards = true) : s.sendForward p
    = s.setPort p { s.port p with sent := (s.port p).sent ++ (s.port p).forward, forward := [] } := if_pos h

variable (h : (s.port p).state.forwards = false)

include h

theorem sendForward_returns {x : LoopRec} (hx : (s.port p).loop = some x) (hr : x.role = .returner) : s.sendForward p
    = s.setPort p { s.port p with
        sent := (s.port p).sent ++ (s.port p).returning, returning := []
        loop := some { x with sent := x.sent + BitVec.ofNat 32 (s.port p).returning.length } } := by
  unfold State.sendForward
  simp only [h, hx, hr, Bool.false_eq_true, if_false, if_true]

theorem sendForward_tests {x : LoopRec} (hx : (s.port p).loop = some x) (hr : x.role ≠ .returner) : s.sendForward p = s := by
  unfold State.sendForward
  simp only [h, hx, if_neg hr, Bool.false_eq_true, if_false]

theorem sendForward_idle (hx : (s.port p).loop = none) : s.sendForward p = s := by
  unfold State.sendForward
  simp only [h, hx, Bool.false_eq_true, if_false]

end SendForward

/-- Settles O22, by the port's state. -/
theorem forwardBufferIsSent : Obligations.ForwardBufferIsSent := by
  unfold Obligations.ForwardBufferIsSent
  intro s p hrun
  have hexec : exec (.forwardBufferSend p) s = .next ((s.sendForward p).withViews s) := exec_forwardBufferSend hrun
  have hrefl : s.withViews s = s := withViews_same fun _ => rfl
  rw [hexec]
  refine ⟨fun hd hl => ?_, fun x hs hx hr => ?_, fun x hs hx hr => ?_, fun hs hx => ?_⟩
  · rw [sendForward_sends (forwards_iff.mpr ⟨hd, hl⟩)]
    exact congrArg Host.Outcome.next (withViews_setPort rfl rfl)
  · rw [sendForward_returns (by rw [hs]; rfl) hx hr]
    exact congrArg Host.Outcome.next (withViews_setPort rfl rfl)
  · rw [sendForward_tests (by rw [hs]; rfl) hx (by rcases hr with h | h <;> simp [h]), hrefl]
  · rw [sendForward_idle (by rw [hs]; rfl) hx, hrefl]

end Sys2Proof.Machine

/-!
Bursts on an UP port that are not another origin's good ones, and bursts on a port in LOOP (O20): closures and conflicts (spec 02, R27,
R28; spec 08, R163, R164), the error storm and the flap it leads to (R153, R157), and the roles of a loop test (R170 to R173).
-/

namespace Sys2Proof.Machine

set_option Elab.async false

/-! ### Fault records (spec 01, R20) -/

section Fault

variable {s : State} {k : FaultKind} {p : Option Port} {o n : Option (Fin 4)} {w : List Word}

theorem attend_only (s : State) (i : Nat) : s.attend i = { s with regs := { s.regs with attention := (s.attend i).regs.attention } } := by
  unfold State.attend
  split <;> rfl

/-- Everything a fault record changes: the fault log counts it, the RAM takes it, and no bit of ATTENTION is cleared. -/
theorem fault_cases (s : State) (k : FaultKind) (p : Option Port) (o n : Option (Fin 4)) (w : List Word) :
    ∃ (ram : _) (log : _) (attention : _),
      s.fault k p o n w = { s with ram := ram, faultLog := log, regs := { s.regs with attention := attention } }
      ∧ (log = { s.faultLog with written := s.faultLog.written + 1 } ∨ log = { s.faultLog with dropped := s.faultLog.dropped + 1 })
      ∧ ∀ i : Nat, s.regs.attention.getLsbD i = true → attention.getLsbD i = true := by
  unfold State.fault State.addFault
  extract_lets base
  split
  · rw [attend_only]
    exact ⟨_, _, _, rfl, .inl rfl, fun i hi => attend_getLsbD_mono (by exact hi) 16⟩
  · exact ⟨_, _, _, rfl, .inr rfl, fun i hi => hi⟩

theorem fault_only : s.fault k p o n w = { s with
    ram := (s.fault k p o n w).ram, faultLog := (s.fault k p o n w).faultLog
    regs := { s.regs with attention := (s.fault k p o n w).regs.attention } } := by
  obtain ⟨ram, log, attention, h, -, -⟩ := fault_cases s k p o n w
  rw [h]

/-- A fault record of a state with the earlier state's log is written or dropped. -/
theorem fault_logged {t : State} (h : s.faultLog = t.faultLog := by rfl) : (s.fault k p o n w).logged t := by
  obtain ⟨ram, log, attention, he, hlog, -⟩ := fault_cases s k p o n w
  rw [State.logged, he, ← h]
  exact hlog

theorem fault_port {q : Port} : (s.fault k p o n w).port q = s.port q := by
  rw [fault_only]
  rfl

/-- A bit that is set stays set through a record. -/
theorem fault_attention {i : Nat} (h : s.regs.attention.getLsbD i = true) :
    (s.fault k p o n w).regs.attention.getLsbD i = true := by
  obtain ⟨ram, log, attention, he, -, hmono⟩ := fault_cases s k p o n w
  rw [he]
  exact hmono i h

end Fault

/-! ### Paths lost (spec 08, R160) -/

section Lost

variable {s : State} {p : Port}

theorem modPath_path (s : State) (o k : Fin 4) (p q : Port) (f : Path → Path) :
    (s.modPath o p f).sup.path k q = if k = o ∧ q = p then f (s.sup.path o p) else s.sup.path k q := by
  simp only [State.modPath, Supervisor.path, Bank.update_get]
  by_cases hk : k = o
  · subst hk
    simp only [if_true, true_and, Both.set_get]
  · simp only [hk, false_and, if_false]

theorem losePath_down (s : State) (o : Fin 4) (p : Port) : ((s.losePath o p).sup.path o p).up = false := by
  obtain ⟨-, hpaths, -, -⟩ := stays_losePath s o p
  rw [Supervisor.path, hpaths]
  exact (congrArg Path.up (modPath_path s o o p p _)).trans (by rw [if_pos ⟨rfl, rfl⟩])

theorem losePath_others (s : State) {o k : Fin 4} (p : Port) (h : k ≠ o) : (s.losePath o p).sup.path k p = s.sup.path k p := by
  obtain ⟨-, hpaths, -, -⟩ := stays_losePath s o p
  rw [Supervisor.path, hpaths]
  exact (modPath_path s o k p p _).trans (if_neg fun h' => h h'.1)

/-- The loss of the UP paths of a port, over any origins. -/
def State.loseOver (s : State) (p : Port) (os : List (Fin 4)) : State :=
  os.foldl (fun st o => if (st.sup.path o p).up then st.losePath o p else st) s

theorem loseOver_cons (s : State) (p : Port) (o : Fin 4) (os : List (Fin 4)) :
    s.loseOver p (o :: os) = (if (s.sup.path o p).up then s.losePath o p else s).loseOver p os := rfl

/-- Every path of the origins gone over is down, and a path that was down stays down. -/
theorem loseOver_down {os : List (Fin 4)} (h : ∀ o : Fin 4, o ∈ os ∨ (s.sup.path o p).up = false) (o : Fin 4) :
    ((s.loseOver p os).sup.path o p).up = false := by
  induction os generalizing s with
  | nil => exact (h o).resolve_left List.not_mem_nil
  | cons k os ih =>
    rw [loseOver_cons]
    refine ih fun j => ?_
    by_cases hj : j = k
    · subst hj
      right
      split
      next => exact losePath_down s j p
      next hdown => exact Bool.eq_false_of_not_eq_true hdown
    · refine (h j).imp (fun hmem => (List.mem_cons.mp hmem).resolve_left hj) fun hdown => ?_
      split
      next => rw [losePath_others s p hj]; exact hdown
      next => exact hdown

theorem loseOver_kept (s : State) (p : Port) (os : List (Fin 4)) :
    (s.loseOver p os).ports = s.ports ∧ (s.loseOver p os).lastBurst = s.lastBurst ∧ (s.loseOver p os).built = s.built := by
  induction os generalizing s with
  | nil => exact ⟨rfl, rfl, rfl⟩
  | cons o os ih =>
    rw [loseOver_cons]
    split
    next =>
      obtain ⟨hports, hlast, hbuilt⟩ := ih (s.losePath o p)
      obtain ⟨hports', -, hlast', hbuilt'⟩ := stays_losePath s o p
      exact ⟨hports.trans hports', hlast.trans hlast', hbuilt.trans hbuilt'⟩
    next => exact ih s

/-- A port that has left UP has lost its paths. -/
theorem leftUp_down (s : State) (p : Port) (o : Fin 4) : ((s.leftUp p).sup.path o p).up = false :=
  loseOver_down (fun k => .inl (mem_indices k)) o

theorem setClosure_kept (s : State) (d : Direction) (c : Closure) : (s.setClosure d c).ports = s.ports
    ∧ (s.setClosure d c).lastBurst = s.lastBurst ∧ (s.setClosure d c).built = s.built := by
  cases d <;> exact ⟨rfl, rfl, rfl⟩

/-- Of the port records, a port that has left UP changes its conflict flag alone. -/
theorem leftUp_kept (s : State) (p : Port) :
    (s.leftUp p).ports = s.ports.set p { s.port p with conflictReported := false, conflictQuiet := 0 }
      ∧ (s.leftUp p).lastBurst = s.lastBurst ∧ (s.leftUp p).built = s.built := by
  have hlose := fun t : State => loseOver_kept t p (indices 4)
  have hclose := setClosure_kept (s.setPort p { s.port p with conflictReported := false, conflictQuiet := 0 })
    (closureDirection p)
  obtain ⟨hports, hlast, hbuilt⟩ := hlose ((s.setPort p { s.port p with conflictReported := false, conflictQuiet := 0 }).openClosure
    (closureDirection p))
  obtain ⟨hports', hlast', hbuilt'⟩ := hclose
    { (s.setPort p { s.port p with conflictReported := false, conflictQuiet := 0 }).sup.closure (closureDirection p) with closed := false }
  exact ⟨hports.trans hports', hlast.trans hlast', hbuilt.trans hbuilt'⟩

theorem leftUp_port (s : State) (p : Port) :
    (s.leftUp p).port p = { s.port p with conflictReported := false, conflictQuiet := 0 } := by
  obtain ⟨hports, -, -⟩ := leftUp_kept s p
  rw [State.port, hports, Both.set_get, if_pos rfl]

end Lost

/-! ### Bursts received, by the port's state (spec 08, R152) -/

section Receive

variable {s : State} {p : Port} {phase : BitVec 8} {whole : Bool} {b : Burst}

theorem exec_burstReceive (hrun : s.isRunning = true) :
    leaves (.burstReceive p phase whole b) s (s.receive p phase whole b) :=
  congrArg Host.Outcome.next (running_of (fun st => st.receive p phase whole b) hrun)

theorem leaves_receive {u : State} (hrun : s.isRunning = true) (h : s.receive p phase whole b = u) :
    leaves (.burstReceive p phase whole b) s u := h ▸ exec_burstReceive hrun

/-- A burst that changes its port's record alone, in nothing that the views show. -/
theorem exec_burstReceive_port {r : PortRec} (hrun : s.isRunning = true) (h : s.receive p phase whole b = s.setPort p r)
    (hstate : r.state = (s.port p).state) (hflag : r.conflictReported = (s.port p).conflictReported) :
    exec (.burstReceive p phase whole b) s = .next (s.setPort p r) :=
  (leaves_receive hrun h).trans (congrArg Host.Outcome.next (withViews_setPort hstate hflag))

theorem withViews_self (s : State) : s.withViews s = s := withViews_same fun _ => rfl

theorem exec_burstReceive_nothing (hrun : s.isRunning = true) (h : s.receive p phase whole b = s) :
    exec (.burstReceive p phase whole b) s = .next s :=
  (leaves_receive hrun h).trans (congrArg Host.Outcome.next (withViews_self s))

theorem countCheck_false (s : State) (p : Port) :
    s.countCheck p false = s.setPort p { s.port p with failures := (s.port p).failures + 1 } := rfl

theorem receive_valid (h : (s.port p).state = .up) (hv : b.valid whole = true) :
    s.receive p phase whole b = (s.countCheck p true).dealWith p phase b := by
  unfold State.receive
  simp only [h, hv, if_true]

theorem receive_invalid (h : (s.port p).state = .up) (hv : b.valid whole = false) :
    s.receive p phase whole b = (s.countCheck p false).checkFailed p := by
  unfold State.receive
  simp only [h, hv, Bool.false_eq_true, if_false]

theorem receive_loop (h : (s.port p).state = .loop) : s.receive p phase whole b = s.receiveLoop p whole b := by
  unfold State.receive
  simp only [h]

end Receive

/-! ### Own bursts (spec 02, R27, R28; spec 08, R163, R164) -/

section OwnBurst

variable {s : State} {p : Port} {phase : BitVec 8} {b : Burst} (hup : (s.port p).state = .up) (hv : b.valid true = true)
  (ho : b.origin = s.cfg.id)

include hup hv ho

theorem receive_closure (hm : b.mark = s.mark) (hh : b.hop ≠ 0) : s.receive p phase true b
    = (s.countCheck p true).setClosure (closureDirection p)
        { closed := true, hop := b.hop, roundTrip := some (s.clock.frame - b.frame), since := 0 } := by
  rw [receive_valid hup hv, State.dealWith, if_pos (show b.origin = (s.countCheck p true).cfg.id from ho),
    if_pos (show b.mark = (s.countCheck p true).mark from hm), State.closureReport, if_neg hh]
  rfl

omit hup hv ho in
/-- The state of a conflict on a port, before its record. -/
def State.conflicting (s : State) (p : Port) : State :=
  { s.setPort p { s.port p with valid := (s.port p).valid + 1, conflictReported := true, conflictQuiet := 0 } with
    regs := { s.regs with attention := s.regs.attention ||| 0x400000 } }

theorem receive_conflict (hrun : s.isRunning = true) (hm : b.mark ≠ s.mark) : s.receive p phase true b
    = if (s.port p).conflictReported then s.conflicting p
      else (s.conflicting p).fault .idConflict (some p) (some s.cfg.id) none [b.mark.setWidth 32, s.mark.setWidth 32] := by
  rw [receive_valid hup hv, State.dealWith, if_pos (show b.origin = (s.countCheck p true).cfg.id from ho),
    if_neg (show ¬ b.mark = (s.countCheck p true).mark from hm), State.conflict,
    attend_running (s := s.countCheck p true) hrun]
  cases p <;> rfl

end OwnBurst

section Conflicting

variable (s : State) (p : Port)

theorem conflicting_attention : (s.conflicting p).regs.attention.getLsbD 22 = true := by simp [State.conflicting]

theorem conflicting_port : (s.conflicting p).port p
    = { s.port p with valid := (s.port p).valid + 1, conflictReported := true, conflictQuiet := 0 } := setPort_port_self s p _

theorem conflicting_other : (s.conflicting p).port p.other = s.port p.other := setPort_port_other s p _

end Conflicting

/-! ### Check failures and the error storm (spec 08, R153, R157) -/

section Storm

variable {s : State} {p : Port}

/-- The error window of up to 8 failures fills. -/
theorem checkFailed_few (h : (s.port p).errors.length < 7) :
    s.checkFailed p = s.setPort p { s.port p with errors := (s.port p).errors ++ [s.passed] } := by
  have hdrop : (s.port p).errors.length + 1 - Config.stormFailures = 0 := Nat.sub_eq_zero_of_le (h.trans (Nat.lt_succ_self 7))
  unfold State.checkFailed
  simp only [hdrop, List.drop_zero]
  refine if_neg fun hstorm => ?_
  have hlen : (s.port p).errors.length + 1 = 8 := List.length_append.symm.trans hstorm.1
  omega

variable {before rest : List Nat} {first : Nat} (he : (s.port p).errors = before ++ first :: rest) (hr : rest.length = 6)

include he hr

/-- A full error window holds the last 8 failures, and is a storm if they lie within 48 frames. -/
theorem checkFailed_full : s.checkFailed p
    = if s.passed - first < 48 then
        (s.setPort p { s.port p with errors := first :: rest ++ [s.passed] }).flap p .errorStorm
      else s.setPort p { s.port p with errors := first :: rest ++ [s.passed] } := by
  have hdrop : ((s.port p).errors ++ [s.passed]).drop ((s.port p).errors.length + 1 - Config.stormFailures)
      = first :: rest ++ [s.passed] := by
    have hn : (s.port p).errors.length + 1 - Config.stormFailures = before.length := by
      rw [he, List.length_append, List.length_cons, hr]
      exact Nat.add_sub_cancel before.length 8
    rw [hn, he, List.append_assoc, List.drop_left]
  have hspan : ({ s.port p with errors := first :: rest ++ [s.passed] } : PortRec).stormSpan = s.passed - first := by
    rw [PortRec.stormSpan, List.getLast?_concat]
    rfl
  have hlen : (first :: rest ++ [s.passed]).length = Config.stormFailures := by simp [hr, Config.stormFailures]
  unfold State.checkFailed
  simp only [hdrop, hspan, hlen, true_and]
  rfl

omit he hr

/-- The flap history of a port record brought up to date (R153). -/
def PortRec.history (r : PortRec) (stamp : Nat) : List Nat := (r.flaps.filter fun x => decide (stamp < x + 480000)) ++ [stamp]

/-- A port record behind an error storm, before its change of state. -/
def PortRec.stormed (r : PortRec) (errors : List Nat) : PortRec :=
  { r with failures := r.failures + 1, errors := errors, flapCount := r.flapCount + 1, timer := 0, absent := 0 }

/-- The counters of a storm's record, with the frames in the state left. -/
def PortRec.stormCounters (r : PortRec) (errors : List Nat) : List Word :=
  (r.stormed errors).counters ++ [BitVec.ofNat 32 r.timer]

/-- A port that an error storm takes to ACQUIRE, with its record (R153, R168). -/
def State.stormAcquire (s : State) (p : Port) (errors : List Nat) (span : Nat) : State :=
  (s.setPort p { (s.port p).stormed errors with state := .acquire, flaps := (s.port p).history s.passed }).fault .errorStorm (some p)
    none (s.neighbour p) ((s.port p).stormCounters errors ++ [BitVec.ofNat 32 span])

/-- A port that its third flap takes to QUARANTINE, with its record (R153, R168). -/
def State.stormQuarantine (s : State) (p : Port) (errors : List Nat) : State :=
  (s.setPort p { (s.port p).stormed errors with state := .quarantine, flaps := [], darkReported := true }).fault .quarantine (some p)
    none (s.neighbour p) ((s.port p).stormCounters errors ++ [1])

theorem history_length (r : PortRec) (stamp : Nat) :
    (r.history stamp).length = (r.flaps.filter fun x => decide (stamp < x + 480000)).length + 1 := List.length_append

theorem stormAcquire_port (s : State) (p : Port) (errors : List Nat) (span : Nat) : (s.stormAcquire p errors span).port p
    = { (s.port p).stormed errors with state := .acquire, flaps := (s.port p).history s.passed } := by
  rw [State.stormAcquire, fault_port, setPort_port_self]

theorem stormQuarantine_port (s : State) (p : Port) (errors : List Nat) : (s.stormQuarantine p errors).port p
    = { (s.port p).stormed errors with state := .quarantine, flaps := [], darkReported := true } := by
  rw [State.stormQuarantine, fault_port, setPort_port_self]

theorem flap_storm (h : (s.port p).state = .up) : s.flap p .errorStorm
    = if 3 ≤ ((s.port p).history s.passed).length then
        ((s.setPort p { ((s.port p).flapped s.passed).enter .quarantine with flaps := [], darkReported := true }).fault .quarantine
          (some p) none (s.neighbour p) (((s.port p).flapped s.passed).snapshot (s.port p).timer 1)).leftUp p
      else ((s.setPort p (((s.port p).flapped s.passed).enter .acquire)).fault .errorStorm (some p) none (s.neighbour p)
        (((s.port p).flapped s.passed).snapshot (s.port p).timer (s.port p).stormSpan)).leftUp p := by
  unfold State.flap
  extract_lets r was near r1 r2 r3 s3
  rw [if_pos h]
  exact apply_ite (State.leftUp · p) _ _ _

/-- The storm of a full error window. -/
theorem storm_eq {errors : List Nat} {span : Nat} (h : (s.port p).state = .up)
    (hspan : ({ s.port p with errors := errors } : PortRec).stormSpan = span) :
    (s.setPort p { s.port p with failures := (s.port p).failures + 1, errors := errors }).flap p .errorStorm
      = if 3 ≤ ((s.port p).history s.passed).length then (s.stormQuarantine p errors).leftUp p
        else (s.stormAcquire p errors span).leftUp p := by
  subst hspan
  rw [flap_storm (by rw [setPort_port_self]; exact h), setPort_port_self, setPort_setPort, setPort_setPort]
  rfl

end Storm

section Invalid

variable {s : State} {p : Port} {phase : BitVec 8} {whole : Bool} {b : Burst} (hup : (s.port p).state = .up)
  (hv : b.valid whole = false)

include hup hv

theorem receive_few (h : (s.port p).errors.length < 7) : s.receive p phase whole b
    = s.setPort p { s.port p with failures := (s.port p).failures + 1, errors := (s.port p).errors ++ [s.passed] } := by
  rw [receive_invalid hup hv, countCheck_false, checkFailed_few (by rw [setPort_port_self]; exact h), setPort_setPort,
    setPort_port_self]
  rfl

variable {before rest : List Nat} {first : Nat} (he : (s.port p).errors = before ++ first :: rest) (hr : rest.length = 6)

include he hr

theorem receive_full : s.receive p phase whole b
    = if s.passed - first < 48 then
        (s.setPort p { s.port p with failures := (s.port p).failures + 1, errors := first :: rest ++ [s.passed] }).flap p .errorStorm
      else s.setPort p { s.port p with failures := (s.port p).failures + 1, errors := first :: rest ++ [s.passed] } := by
  rw [receive_invalid hup hv, countCheck_false, checkFailed_full (by rw [setPort_port_self]; exact he) hr, setPort_setPort,
    setPort_port_self]
  rfl

theorem receive_storm (hspan : s.passed - first < 48) : s.receive p phase whole b
    = if 3 ≤ ((s.port p).history s.passed).length then (s.stormQuarantine p (first :: rest ++ [s.passed])).leftUp p
      else (s.stormAcquire p (first :: rest ++ [s.passed]) (s.passed - first)).leftUp p := by
  rw [receive_full hup hv he hr, if_pos hspan, storm_eq hup]
  rw [PortRec.stormSpan, List.getLast?_concat]
  rfl

end Invalid

/-! ### Ports in LOOP (spec 08, R170 to R173) -/

section Loop

variable {s : State} {p : Port} {whole : Bool} {b : Burst} {x : LoopRec} (hx : (s.port p).loop = some x)

include hx

theorem receiveLoop_near (h : x.role = .testerNear) : s.receiveLoop p whole b = s := by
  unfold State.receiveLoop
  simp only [hx, h]

theorem receiveLoop_return (h : x.role = .returner) :
    s.receiveLoop p whole b = s.setPort p { s.port p with returning := (s.port p).returning ++ [b] } := by
  unfold State.receiveLoop
  simp only [hx, h]

theorem receiveLoop_far (h : x.role = .testerFar) : s.receiveLoop p whole b
    = s.setPort p { s.port p with loop := some (x.take s.cfg.id s.mark s.clock.frame b (b.valid whole)) } := by
  unfold State.receiveLoop
  simp only [hx, h]

end Loop

section Take

variable {x : LoopRec} {id : Fin 4} {mark : BitVec 16} {frame f : Word} {b : Burst}

theorem take_invalid : x.take id mark frame b false = { x with errors := x.errors + 1 } := rfl

theorem take_own (hf : x.firstTest = some f) (ho : b.origin = id) (hm : b.mark = mark) (he : earlier b.frame f = false) :
    x.take id mark frame b true
      = { x with returned := x.returned + 1, roundTrip := some (x.roundTrip.getD (frame - b.frame)) } := by
  unfold LoopRec.take
  simp only [hf, ho, hm, he, and_self, if_true, Bool.not_true, Bool.false_eq_true, if_false]
  cases x.roundTrip <;> rfl

theorem take_other (h : x.firstTest = none ∨ b.origin ≠ id ∨ b.mark ≠ mark
    ∨ ∃ f : Word, x.firstTest = some f ∧ earlier b.frame f = true) : x.take id mark frame b true = x := by
  unfold LoopRec.take
  simp only [Bool.not_true, Bool.false_eq_true, if_false]
  split
  next => rfl
  next f hf =>
    refine if_neg fun hown => ?_
    obtain ⟨ho, hm, he⟩ := hown
    obtain hnone | ho' | hm' | ⟨g, hg, he'⟩ := h
    · simp [hf] at hnone
    · exact ho' ho
    · exact hm' hm
    · obtain rfl : f = g := Option.some.inj (hf.symm.trans hg)
      rw [he] at he'
      exact Bool.false_ne_true he'

end Take

/-- Settles O20. -/
theorem ownAndInvalidBursts : Obligations.OwnAndInvalidBursts := by
  unfold Obligations.OwnAndInvalidBursts
  refine ⟨⟨fun s p phase b hrun hup => ⟨fun hv ho hm hh => ?_, fun hv ho hm => ?_, fun whole hv hfew => ?_⟩,
      fun s p phase whole b before first rest hrun hup hv he hr => ⟨fun hspan => ?_, fun hspan => ?_⟩,
      fun s p phase whole b x hrun hloop hx => ⟨fun hrole => ?_, fun hrole => ?_, fun hrole => ⟨fun hv => ?_,
        fun f hv hf ho hm hl => ?_, fun hv h => ?_⟩⟩⟩,
    fun s w p phase whole b before first rest f v counters hrun hup hv he hr hspan hf hvv hc => ⟨fun hlen hw => ?_, fun hlen hw => ?_⟩,
    fun s v p phase b hrun hup hv ho hm hvv => ⟨fun hflag => ?_, fun hflag => ?_⟩⟩
  · exact leaves_receive hrun (receive_closure hup hv ho hm hh)
  · refine ⟨_, leaves_receive hrun (receive_conflict hup hv ho hrun hm), ?_⟩
    have hatt := conflicting_attention s p
    have hport := conflicting_port s p
    have hother := conflicting_other s p
    split
    next => exact ⟨hatt, by rw [hport], rfl, hother, rfl⟩
    next => exact ⟨fault_attention hatt, by rw [fault_port, hport], by rw [fault_only]; rfl, by rw [fault_port, hother],
        by rw [fault_only]; rfl⟩
  · exact exec_burstReceive_port hrun (receive_few hup hv hfew) rfl rfl
  · exact exec_burstReceive_port hrun ((receive_full hup hv he hr).trans (if_neg (Nat.not_lt.mpr hspan))) rfl rfl
  · have hlen := history_length (s.port p) s.passed
    have hstorm := receive_storm (phase := phase) hup hv he hr hspan
    by_cases h3 : 3 ≤ ((s.port p).history s.passed).length
    · have hport := (leftUp_port (s.stormQuarantine p (first :: rest ++ [s.passed])) p).trans (by rw [stormQuarantine_port])
      exact ⟨_, _, leaves_receive hrun (hstorm.trans (if_pos h3)), rfl, fault_logged, by rw [hport]; rfl, by rw [hport]; rfl,
        leftUp_down _ p, fun h => by omega, fun _ => by rw [hport]; exact ⟨rfl, rfl⟩⟩
    · have hport := (leftUp_port (s.stormAcquire p (first :: rest ++ [s.passed]) (s.passed - first)) p).trans
        (by rw [stormAcquire_port])
      exact ⟨_, _, leaves_receive hrun (hstorm.trans (if_neg h3)), rfl, fault_logged, by rw [hport]; rfl, by rw [hport]; rfl,
        leftUp_down _ p, fun _ => by rw [hport], fun h => by omega⟩
  · exact exec_burstReceive_nothing hrun ((receive_loop hloop).trans (receiveLoop_near hx hrole))
  · exact leaves_receive hrun ((receive_loop hloop).trans (receiveLoop_return hx hrole))
  · refine leaves_receive hrun ((receive_loop hloop).trans ?_)
    rw [receiveLoop_far hx hrole, hv, take_invalid]
  · refine leaves_receive hrun ((receive_loop hloop).trans ?_)
    rw [receiveLoop_far hx hrole, hv, take_own hf ho hm hl]
  · refine exec_burstReceive_nothing hrun ((receive_loop hloop).trans ?_)
    rw [receiveLoop_far hx hrole, hv, take_other h, ← hx]
    exact setPort_port_eq s p
  · subst hf hvv hc hw
    exact leaves_receive hrun ((receive_storm hup hv he hr hspan).trans (if_neg (Nat.not_le.mpr hlen)))
  · subst hf hvv hc hw
    exact leaves_receive hrun ((receive_storm hup hv he hr hspan).trans (if_pos hlen))
  · subst hvv
    exact leaves_receive hrun ((receive_conflict hup hv ho hrun hm).trans (if_pos hflag))
  · subst hvv
    exact leaves_receive hrun ((receive_conflict hup hv ho hrun hm).trans (if_neg (ne_true_of_eq_false hflag)))

end Sys2Proof.Machine

/-!
The clock unit at an arrival of its source, at a change of source and at a frame jump (spec 02, R37 to R43), with what the lanes and
sweeps that a jump looks at leave as it was (log entry 51).
-/

namespace Sys2Proof.Machine

set_option Elab.async false

/-! ### The first index that a test accepts -/

theorem find_indices_iff {n : Nat} {p : Fin n → Bool} {o : Fin n} :
    (indices n).find? p = some o ↔ p o = true ∧ ∀ k : Fin n, k < o → p k = false := by
  rw [List.find?_eq_some_iff_getElem]
  constructor
  · rintro ⟨ho, i, hi, hio, hlt⟩
    obtain rfl : (⟨i, by simpa [indices] using hi⟩ : Fin n) = o := by simpa [indices] using hio
    exact ⟨ho, fun k hk => by simpa [indices] using hlt k.val hk⟩
  · rintro ⟨ho, hlt⟩
    exact ⟨ho, o.val, by simp [indices], by simp [indices], fun j hj => by simpa [indices] using hlt ⟨j, hj.trans o.isLt⟩ hj⟩

theorem find_indices_none {n : Nat} {p : Fin n → Bool} : (indices n).find? p = none ↔ ∀ k : Fin n, p k = false := by
  simp [indices]

/-! ### Arrivals kept (R39) -/

section Arrivals

variable {f g : Word} {d : Int} {xs : List (Word × Int)}

theorem arrivalOf_noted : arrivalOf f (noteArrival f d xs) = some d := by
  simp [arrivalOf, noteArrival, arrivalsKept]

/-- An arrival noted displaces no other frame number's while there is room. -/
theorem arrivalOf_noteArrival_other (hg : g ≠ f) (hlen : xs.length < 64) :
    arrivalOf g (noteArrival f d xs) = arrivalOf g xs := by
  have hfit : ((f, d) :: xs.filter fun x => decide (x.1 ≠ f)).length ≤ arrivalsKept :=
    Nat.succ_le_of_lt (Nat.lt_of_le_of_lt (List.length_filter_le _ _) hlen)
  rw [arrivalOf, noteArrival, List.take_of_length_le hfit, List.find?_cons_of_neg (by simpa using Ne.symm hg), List.find?_filter,
    arrivalOf]
  congr 2
  funext x
  by_cases hx : x.1 = g <;> simp [hx, hg]

end Arrivals

/-! ### What a frame jump's tests leave as it was (R42; log entry 51) -/

/-- The first state has the second's clock unit, merge unit, fault log and frame count. -/
def State.Follows (t s : State) : Prop :=
  t.clock = s.clock ∧ t.merge = s.merge ∧ t.faultLog = s.faultLog ∧ t.passed = s.passed ∧ t.scanPhase = s.scanPhase

section Follows

variable {s r : State}

theorem Follows.refl (s : State) : s.Follows s := ⟨rfl, rfl, rfl, rfl, rfl⟩

theorem follows_retestSwitches {point : Word} (h : s.Follows r) : (s.retestSwitches point).Follows r := by
  unfold State.retestSwitches
  split
  · exact h
  · exact h

theorem follows_endFrameWait {l : Fin 16} (h : s.Follows r) : (s.endFrameWait l).Follows r := by
  unfold State.endFrameWait
  split
  · rw [(worksOn_endStep s l .ok 0 _).only]
    exact h
  · exact h

theorem follows_frameTrigger {l : Fin 16} (h : s.Follows r) : (s.frameTrigger l).Follows r := by
  unfold State.frameTrigger
  split
  · split
    · exact h
    · exact h
  · exact h

/-- The lanes and the sweeps looked at after a jump. -/
theorem follows_lanes (h : s.Follows r) (ls : List (Fin 16)) :
    (ls.foldl (fun t l => (t.endFrameWait l).frameTrigger l) s).Follows r := by
  induction ls generalizing s with
  | nil => exact h
  | cons l ls ih => exact ih (follows_frameTrigger (follows_endFrameWait h))

end Follows

/-! ### The frame jump (R42) -/

section Jump

variable (s : State) (frame : Word)

/-- A state that has taken a new counter value, before the jump's record (R42). -/
def State.jumped (s : State) (frame : Word) : State :=
  { s with clock := { s.clock with frame := frame, state := .locked, gained := false, rate := .source }
           merge := s.merge.jump frame }

theorem frameJump_eq : s.frameJump frame = (List.finRange 16).foldl (fun t l => (t.endFrameWait l).frameTrigger l)
    (((s.jumped frame).fault .frameJump s.clock.port s.clock.source none
      [s.clock.frame, frame, BitVec.ofNat 32 s.merge.delay]).retestSwitches (s.jumped frame).merge.point) := by
  have hmerge : ((s.jumped frame).fault .frameJump s.clock.port s.clock.source none
      [s.clock.frame, frame, BitVec.ofNat 32 s.merge.delay]).merge = (s.jumped frame).merge := by
    rw [fault_only]
  rw [← hmerge]
  rfl

/-- A jump sets the clock unit and the merge unit, writes its record, and keeps the frame count. -/
theorem frameJump_fields : (s.frameJump frame).clock = (s.jumped frame).clock ∧ (s.frameJump frame).merge = (s.jumped frame).merge
    ∧ (s.frameJump frame).logged s ∧ (s.frameJump frame).passed = s.passed ∧ (s.frameJump frame).scanPhase = s.scanPhase := by
  have hrecord (w : List Word) : ((s.jumped frame).fault .frameJump s.clock.port s.clock.source none w).logged s := fault_logged
  obtain ⟨hclock, hmerge, hlog, hpassed, hscan⟩ := follows_lanes (follows_retestSwitches (point := (s.jumped frame).merge.point)
    (Follows.refl ((s.jumped frame).fault .frameJump s.clock.port s.clock.source none
      [s.clock.frame, frame, BitVec.ofNat 32 s.merge.delay]))) (List.finRange 16)
  rw [← frameJump_eq] at hclock hmerge hlog hpassed hscan
  refine ⟨hclock.trans (by rw [fault_only]), hmerge.trans (by rw [fault_only]), ?_, hpassed.trans (by rw [fault_only]; rfl),
    hscan.trans (by rw [fault_only]; rfl)⟩
  rw [State.logged, hlog]
  exact hrecord _

end Jump

/-! ### Arrivals of the source (R39, R40) -/

section Measure

variable {s : State} {o : Fin 4} {p cp : Port} {frame : Word} {phase : BitVec 8}

/-- The skew behind an arrival, where the clock port is `cp`: measured while both paths are UP. -/
def State.skewAfter (s : State) (o : Fin 4) (cp : Port) (frame : Word) (arrivals : Both (List (Word × Int))) : Option Int :=
  if (s.sup.path o .east).up && (s.sup.path o .west).up then { s.clock with arrivals := arrivals }.measureSkew cp frame
  else s.clock.skew

/-- An arrival noted and the skew measured (R39). -/
def State.noted (s : State) (o : Fin 4) (cp p : Port) (frame : Word) (diff : Int) : State :=
  { s with clock := { s.clock with
      arrivals := s.clock.arrivals.set p (noteArrival frame diff (s.clock.arrivals.get p))
      skew := s.skewAfter o cp frame (s.clock.arrivals.set p (noteArrival frame diff (s.clock.arrivals.get p))) } }

theorem clockArrival_other (h : s.clock.source ≠ some o) : s.clockArrival o p frame phase = s := if_pos h

theorem clockArrival_source (h : s.clock.source = some o) (hp : s.clock.port = some cp) : s.clockArrival o p frame phase
    = if p = cp then
        (s.noted o cp p frame (arrivalDifference frame s.clock.frame phase)).follow40
          (roundFrames (arrivalDifference frame s.clock.frame phase - s.clock.lock)) frame
      else s.noted o cp p frame (arrivalDifference frame s.clock.frame phase) := by
  unfold State.clockArrival
  rw [if_neg (not_not.mpr h)]
  extract_lets diff _ s1 both _
  split
  next hnone => exact absurd (hnone.symm.trans hp) (by simp)
  next q hq =>
    obtain rfl : q = cp := Option.some.inj (hq.symm.trans hp)
    extract_lets s2
    have hs2 : s2 = s.noted o q p frame diff := by
      unfold s2 State.noted State.skewAfter
      cases hboth : both
      · rw [if_neg Bool.false_ne_true, if_neg (ne_true_of_eq_false hboth)]
      · rw [if_pos rfl, if_pos hboth]
    rw [hs2]

variable {arrivals : Both (List (Word × Int))} {here there : Int}

theorem both_iff (v : Supervisor) (o : Fin 4) (p : Port) :
    ((v.path o .east).up && (v.path o .west).up) = ((v.path o p).up && (v.path o p.other).up) := by
  cases p
  · rfl
  · exact Bool.and_comm _ _

theorem skewAfter_both (he : (s.sup.path o .east).up = true) (hw : (s.sup.path o .west).up = true)
    (hhere : arrivalOf frame (arrivals.get cp) = some here) (hthere : arrivalOf frame (arrivals.get cp.other) = some there) :
    s.skewAfter o cp frame arrivals = some (there - here) := by
  unfold State.skewAfter Clock.measureSkew
  simp only [he, hw, Bool.and_self, if_true, hhere, hthere]

theorem skewAfter_kept (h : (s.sup.path o cp.other).up = false ∨ arrivalOf frame (arrivals.get cp.other) = none) :
    s.skewAfter o cp frame arrivals = s.clock.skew := by
  unfold State.skewAfter Clock.measureSkew
  split
  next hboth =>
    rw [both_iff _ _ cp, Bool.and_eq_true] at hboth
    have hnone := h.resolve_left (ne_false_of_eq_true hboth.2)
    simp only [hnone]
    cases arrivalOf frame (arrivals.get cp) <;> rfl
  next => rfl

variable {diff : Int}

theorem arrivals_self : (s.clock.arrivals.set p (noteArrival frame diff (s.clock.arrivals.get p))).get p
    = noteArrival frame diff (s.clock.arrivals.get p) := by rw [Both.set_get, if_pos rfl]

theorem arrivals_other {q : Port} (h : q ≠ p) :
    (s.clock.arrivals.set p (noteArrival frame diff (s.clock.arrivals.get p))).get q = s.clock.arrivals.get q := by
  rw [Both.set_get, if_neg h]

/-- At the clock port: the other port's kept arrival less the present one. -/
theorem noted_skew_clockPort (he : (s.sup.path o .east).up = true) (hw : (s.sup.path o .west).up = true)
    (h : arrivalOf frame (s.clock.arrivals.get p.other) = some there) : (s.noted o p p frame diff).clock.skew = some (there - diff) :=
  skewAfter_both he hw (by rw [arrivals_self]; exact arrivalOf_noted) (by rw [arrivals_other (other_ne p)]; exact h)

theorem noted_skew_kept (h : (s.sup.path o p.other).up = false ∨ arrivalOf frame (s.clock.arrivals.get p.other) = none) :
    (s.noted o p p frame diff).clock.skew = s.clock.skew :=
  skewAfter_kept (by rw [arrivals_other (other_ne p)]; exact h)

/-- At the other port: the present arrival less the clock port's kept one. -/
theorem noted_skew_otherPort (he : (s.sup.path o .east).up = true) (hw : (s.sup.path o .west).up = true)
    (h : arrivalOf frame (s.clock.arrivals.get p.other) = some here) :
    (s.noted o p.other p frame diff).clock.skew = some (diff - here) := by
  have hback : p.other.other = p := by cases p <;> rfl
  exact skewAfter_both he hw (by rw [arrivals_other (other_ne p)]; exact h) (by rw [hback, arrivals_self]; exact arrivalOf_noted)

/-- At an offset within 32 frames the clock unit is LOCKED or PULLING (R40). -/
theorem follow40_near {d : Int} (h : d.natAbs ≤ 32) : s.follow40 d frame = { s with clock := { s.clock with
    state := if d = 0 then .locked else .pulling, gained := false
    rate := if d = 0 then .source else if 0 < d then .faster else .slower } } := if_neg (Nat.not_lt.mpr h)

theorem follow40_far {d : Int} (h : 32 < d.natAbs) :
    s.follow40 d frame = s.frameJump (frame - BitVec.ofInt 32 (roundFrames s.clock.lock)) := if_pos h

end Measure

/-! ### The source of a desk (R37, R38) -/

section Source

variable {s : State} {o : Fin 4} {p : Port}

/-- The candidate is the stage, or the lowest other id that is reachable if it is not the own. -/
theorem candidate_iff : s.candidate = some o ↔ (o = 0 ∧ s.reachable 0 = true) ∨ (s.reachable 0 = false ∧ o ≠ 0 ∧ o ≠ s.cfg.id
    ∧ s.reachable o = true ∧ ∀ k : Fin 4, k ≠ 0 → s.reachable k = true → o ≤ k) := by
  have hfirst : ∀ k : Fin 4, (indices 4).find? (fun x => decide (x ≠ 0) && s.reachable x) = some k
      ↔ k ≠ 0 ∧ s.reachable k = true ∧ ∀ x : Fin 4, x ≠ 0 → s.reachable x = true → k ≤ x := fun k => by
    rw [find_indices_iff, Bool.and_eq_true, decide_eq_true_eq, and_assoc]
    refine and_congr_right fun _ => and_congr_right fun _ => ⟨fun h x hx hr => ?_, fun h x hlt => ?_⟩
    · by_contra hle
      have hno := h x (not_le.mp hle)
      simp [hx, hr] at hno
    · by_contra hyes
      simp only [Bool.not_eq_false, Bool.and_eq_true, decide_eq_true_eq] at hyes
      exact absurd (h x hyes.1 hyes.2) (not_le.mpr hlt)
  unfold State.candidate
  cases h0 : s.reachable 0
  · simp only [Bool.false_eq_true, if_false, and_false, false_or, true_and]
    cases hfind : (indices 4).find? (fun x => decide (x ≠ 0) && s.reachable x) with
    | none =>
      refine ⟨fun h => (Option.some_ne_none o h.symm).elim, fun ⟨hne, _, hr, hle⟩ => ?_⟩
      rw [(hfirst o).mpr ⟨hne, hr, hle⟩] at hfind
      exact (Option.some_ne_none o hfind).elim
    | some k =>
      obtain ⟨hk0, hkr, hkle⟩ := (hfirst k).mp hfind
      by_cases hid : k = s.cfg.id
      · simp only [hid, if_true]
        refine ⟨fun h => (Option.some_ne_none o h.symm).elim, fun ⟨hne, hno, hr, hle⟩ => ?_⟩
        exact absurd (le_antisymm (hle k hk0 hkr) (hkle o hne hr)) (fun he => hno (he.trans hid))
      · simp only [hid, if_false, Option.some.injEq]
        refine ⟨fun h => h ▸ ⟨hk0, hid, hkr, hkle⟩, fun ⟨hne, _, hr, hle⟩ => le_antisymm (hkle o hne hr) (hle k hk0 hkr)⟩
  · simp only [if_true, Option.some.injEq, and_true, Bool.true_eq_false, false_and, or_false]
    exact eq_comm

theorem chooseSource_kept (h : s.isStage = true ∨ s.candidate = s.clock.source) : s.chooseSource = s :=
  if_pos (by simpa using h)

/-- The clock unit with the source it is to have (R37, R43). -/
def State.sourced (s : State) : State :=
  { s with clock := match s.candidate with
      | none => s.clock.deputize
      | some o => s.clock.gain o (s.clockPort o) }

theorem sourced_none (h : s.candidate = none) : s.sourced.clock = s.clock.deputize := by
  simp only [State.sourced, h]

theorem sourced_some (h : s.candidate = some o) : s.sourced.clock = s.clock.gain o (s.clockPort o) := by
  simp only [State.sourced, h]

theorem idCode_getD (o : Option (Fin 4)) : idCode o = (o.map fun k => k.val).getD 7 := by cases o <;> rfl

/-- What a chosen source comes to, source by source. -/
theorem sourced_fields (s : State) : s.sourced.clock.source = s.candidate ∧ s.sourced.clock.lock = 0 ∧ s.sourced.clock.skew = none
    ∧ s.sourced.clock.state = (if s.candidate = none then .deputy else s.clock.state)
    ∧ s.sourced.clock.port = s.candidate.bind s.clockPort := by
  cases h : s.candidate with
  | none => rw [sourced_none h]; exact ⟨rfl, rfl, rfl, rfl, rfl⟩
  | some o => rw [sourced_some h]; exact ⟨rfl, rfl, rfl, (if_neg (Option.some_ne_none o)).symm, rfl⟩

/-- A new source is recorded with the old one and the clock state. -/
theorem chooseSource_changes (hs : s.isStage = false) (hc : s.candidate ≠ s.clock.source) :
    s.chooseSource = s.sourced.fault .clockSource s.sourced.clock.port s.candidate none
      [BitVec.ofNat 32 ((s.clock.source.map fun o => o.val).getD 7), BitVec.ofNat 32 ((s.candidate.map fun o => o.val).getD 7),
        BitVec.ofNat 32 s.clock.state.code, BitVec.ofNat 32 s.sourced.clock.state.code, 0, 0x80000000] := by
  obtain ⟨hsource, hlock, hskew, -, -⟩ := sourced_fields s
  have hrecord : s.chooseSource = s.sourced.clockRecord s.clock := by
    unfold State.chooseSource State.sourced
    rw [if_neg (by simp [hs, hc])]
    cases s.candidate <;> rfl
  rw [hrecord, State.clockRecord, if_neg (by rw [hsource]; exact Ne.symm hc), hsource, hlock, hskew, idCode_getD, idCode_getD]
  rfl

theorem clockPort_east (he : (s.sup.path o .east).up = true)
    (h : (s.sup.path o .west).up = false ∨ (s.sup.path o .east).hop ≤ (s.sup.path o .west).hop) : s.clockPort o = some .east := by
  unfold State.clockPort
  exact if_pos (by simpa [he] using h)

theorem clockPort_west (hw : (s.sup.path o .west).up = true)
    (h : (s.sup.path o .east).up = false ∨ (s.sup.path o .west).hop < (s.sup.path o .east).hop) : s.clockPort o = some .west := by
  unfold State.clockPort
  rw [if_neg (by simpa [hw, or_iff_not_imp_left] using h)]
  exact if_pos hw

theorem clockPathLost_kept (h : (s.sup.path o p.other).up = false) : s.clockPathLost o p = s :=
  if_neg fun hmove => ne_true_of_eq_false h hmove.2.2

/-- The clock port moves to the source's other path, by the skew if it is known. -/
theorem clockPathLost_moves (hs : s.clock.source = some o) (hp : s.clock.port = some p) (h : (s.sup.path o p.other).up = true) :
    s.clockPathLost o p = match s.clock.skew with
      | some k => { s with clock := { s.clock with port := some p.other, lock := s.clock.lock + k, skew := some (-k) } }
      | none => { s with clock := { s.clock with port := some p.other, gained := true } } := if_pos ⟨hs, hp, h⟩

end Source

end Sys2Proof.Machine

/-!
Another origin's burst on an UP port (O19): the path it is reported on and the reachability it brings (spec 08, R160, R161), the D that a
desk takes from the stage's summary (spec 03, R46), and the forwarded copy (spec 02, R26).
-/

namespace Sys2Proof.Machine

set_option Elab.async false

/-! ### Forwarded copies (R26) -/

section Forwarded

variable {b : Burst}

theorem originByte_toNat (o : Fin 4) {hop : Nat} (h : hop ≤ 3) : (originByte o hop).toNat = o.val + 4 * hop := by
  rw [originByte, BitVec.toNat_ofNat, Nat.mod_eq_of_lt]
  omega

theorem origin_val (b : Burst) : b.origin.val = b.head.toNat % 4 := by
  simp [Burst.origin]

theorem hop_eq (b : Burst) : b.hop = b.head.toNat / 4 % 4 := by
  simp [Burst.hop, BitVec.extractLsb'_toNat, Nat.shiftRight_eq_div_pow]

theorem origin_of_head {o : Fin 4} {hop : Nat} (h : hop ≤ 3) (hb : b.head = originByte o hop) : b.origin = o := by
  apply Fin.ext
  rw [origin_val, hb, originByte_toNat o h]
  omega

theorem hop_of_head {o : Fin 4} {hop : Nat} (h : hop ≤ 3) (hb : b.head = originByte o hop) : b.hop = hop := by
  rw [hop_eq, hb, originByte_toNat o h]
  omega

theorem forwarded_valid (h : b.valid true = true) : b.forwarded.valid true = true := by
  have hcheck : b.forwarded.check = crc32 b.forwarded.bytes := rfl
  unfold Burst.valid at h ⊢
  simp only [Bool.and_eq_true, decide_eq_true_eq] at h ⊢
  exact ⟨h.1, hcheck⟩

end Forwarded

/-! ### Forwarding (R26) -/

section Forward

variable {s : State} {p : Port} {b : Burst}

/-- The port record of the port a burst is forwarded out of. -/
def PortRec.forwarding (r : PortRec) (b : Burst) : PortRec :=
  if b.hop ≤ 2 ∧ r.state.forwards = true then
    if r.forward.length < 4 then { r with forward := r.forward ++ [b.forwarded] } else { r with drops := r.drops + 1 }
  else r

theorem forward_eq (s : State) (p : Port) (b : Burst) :
    s.forward p b = s.setPort p.other ((s.port p.other).forwarding b) := by
  unfold State.forward PortRec.forwarding
  extract_lets out r
  by_cases h : b.hop ≤ 2 ∧ r.state.forwards = true
  · rw [if_neg (not_or.mpr ⟨Nat.not_lt.mpr h.1, ne_false_of_eq_true h.2⟩), if_pos h]
    exact (apply_ite (s.setPort p.other) _ _ _).symm
  · rw [if_neg h, if_pos ((not_and_or.mp h).imp Nat.not_le.mp Bool.eq_false_of_not_eq_true), setPort_port_eq]

theorem forwarding_shown (r : PortRec) (b : Burst) :
    (r.forwarding b).state = r.state ∧ (r.forwarding b).conflictReported = r.conflictReported := by
  unfold PortRec.forwarding
  split
  · split <;> exact ⟨rfl, rfl⟩
  · exact ⟨rfl, rfl⟩

end Forward

/-! ### Path arrivals (spec 08, R160, R161) -/

section Arrival

variable {s : State} {o : Fin 4} {p : Port} {hop : Nat} {summary : Word}

theorem fault_sup {k : FaultKind} {q : Option Port} {i n : Option (Fin 4)} {w : List Word} : (s.fault k q i n w).sup = s.sup := by
  rw [fault_only]

theorem fault_merge {k : FaultKind} {q : Option Port} {i n : Option (Fin 4)} {w : List Word} :
    (s.fault k q i n w).merge = s.merge := by
  rw [fault_only]

theorem summaryDelay_eq (w : Word) : summaryDelay w = (w.extractLsb' 22 6).toNat := by
  rw [BitVec.extractLsb'_toNat, Nat.shiftRight_eq_div_pow]
  rfl

/-- A path arrival's summary and path record (R160, R165). -/
def State.heard (s : State) (o : Fin 4) (p : Port) (hop : Nat) (summary : Word) : State :=
  { s with sup := { s.sup with
      summaries := s.sup.summaries.set o (some (summary, 0))
      paths := s.sup.paths.set o ((s.sup.paths.get o).set p { s.sup.path o p with up := true, hop := hop, since := some 0 }) } }

theorem heard_eq : s.heard o p hop summary = ({ s with sup.summaries := s.sup.summaries.set o (some (summary, 0)) } : State).modPath o p
    fun x => { x with up := true, hop := hop, since := some 0 } := rfl

theorem heard_path (s : State) (o k : Fin 4) (p q : Port) (hop : Nat) (summary : Word) : (s.heard o p hop summary).sup.path k q
    = if k = o ∧ q = p then { s.sup.path o p with up := true, hop := hop, since := some 0 } else s.sup.path k q := by
  rw [heard_eq]
  exact modPath_path _ o k p q _

theorem heard_path_self : (s.heard o p hop summary).sup.path o p = { s.sup.path o p with up := true, hop := hop, since := some 0 } := by
  rw [heard_path, if_pos ⟨rfl, rfl⟩]

theorem heard_path_other {k : Fin 4} {q : Port} (h : k ≠ o ∨ q ≠ p) : (s.heard o p hop summary).sup.path k q = s.sup.path k q := by
  rw [heard_path, if_neg fun he => h.elim (· he.1) (· he.2)]

theorem heard_summaryAge : (s.heard o p hop summary).summaryAge o = 0 := by
  simp only [State.summaryAge, State.heard, Bank.set_get, if_true]
  rfl

/-- The record of a first arrival on a path (R160, R168). -/
def State.pathBack (s : State) (o : Fin 4) (p : Port) (hop : Nat) (summary : Word) : State :=
  (s.heard o p hop summary).fault .pathUp (some p) (some o) ((s.heard o p hop summary).neighbour p)
    (s.mergeCounters o ++ [BitVec.ofNat 32 hop])

/-- The record of an origin's first path, with its present mark (R161, R168). -/
def State.originBack (s : State) (o : Fin 4) (p : Port) (hop : Nat) (summary : Word) : State :=
  { (s.pathBack o p hop summary).fault .originBack (some p) (some o) none (s.mergeCounters o ++ [0]) with
    sup := { (s.heard o p hop summary).sup with present := s.sup.present.set o true } }

theorem pathBack_sup : (s.pathBack o p hop summary).sup = (s.heard o p hop summary).sup := fault_sup

theorem pathBack_only : s.pathBack o p hop summary = { s with
    sup := (s.pathBack o p hop summary).sup, ram := (s.pathBack o p hop summary).ram
    faultLog := (s.pathBack o p hop summary).faultLog
    regs := { s.regs with attention := (s.pathBack o p hop summary).regs.attention } } := by
  rw [pathBack_sup, State.pathBack]
  exact fault_only

theorem originBack_only : s.originBack o p hop summary = { s with
    sup := (s.originBack o p hop summary).sup, ram := (s.originBack o p hop summary).ram
    faultLog := (s.originBack o p hop summary).faultLog
    regs := { s.regs with attention := (s.originBack o p hop summary).regs.attention } } := by
  rw [State.originBack, fault_only, pathBack_only]

/-- A record counts one, written or dropped. -/
theorem logged_count {t s : State} (h : t.logged s) :
    t.faultLog.written + t.faultLog.dropped = s.faultLog.written + s.faultLog.dropped + 1 := by
  obtain h | h := h
  · rw [h]
    exact add_right_comm _ 1 _
  · rw [h]
    exact (BitVec.add_assoc ..).symm

theorem originBack_count : (s.originBack o p hop summary).faultLog.written + (s.originBack o p hop summary).faultLog.dropped
    = s.faultLog.written + s.faultLog.dropped + 2 := by
  have hpath : (s.pathBack o p hop summary).logged s := fault_logged
  have horigin : (s.originBack o p hop summary).logged (s.pathBack o p hop summary) :=
    fault_logged (t := s.pathBack o p hop summary)
  rw [logged_count horigin, logged_count hpath, BitVec.add_assoc]
  rfl

theorem pathRecord_heard : (s.heard o p hop summary).pathRecord o p true = s.pathBack o p hop summary := by
  rw [State.pathRecord, heard_path_self]
  rfl

theorem reachChange_pathBack :
    (s.pathBack o p hop summary).reachChange o p true = (s.originBack o p hop summary).reachReport o true := by
  have hage : (s.pathBack o p hop summary).summaryAge o = 0 := by
    rw [State.summaryAge, State.pathBack, fault_sup]
    exact heard_summaryAge
  have hcounters : (s.pathBack o p hop summary).mergeCounters o = s.mergeCounters o := by
    rw [State.mergeCounters, State.pathBack, fault_merge]
    rfl
  have hsup : ∀ w : List Word, ((s.pathBack o p hop summary).fault .originBack (some p) (some o) none w).sup
      = (s.heard o p hop summary).sup := fun w => by rw [fault_sup, State.pathBack, fault_sup]
  unfold State.reachChange
  simp only [if_true, hage, hcounters, hsup]
  rfl

/-- A path arrival, before a desk takes the stage's D. -/
def State.reported (s : State) (o : Fin 4) (p : Port) (hop : Nat) (summary : Word) : State :=
  if (s.sup.path o p).up then s.heard o p hop summary
  else if (s.sup.path o p.other).up then s.pathBack o p hop summary
  else (s.originBack o p hop summary).reachReport o true

theorem pathArrival_eq (s : State) (o : Fin 4) (p : Port) (hop : Nat) (summary : Word) : s.pathArrival o p hop summary
    = if o = 0 ∧ s.isStage = false then (s.reported o p hop summary).changeDelay (max 8 (summary.extractLsb' 22 6).toNat)
      else s.reported o p hop summary := by
  have hreported : (if (s.sup.path o p).up then s.heard o p hop summary
      else if (s.sup.path o p.other).up then (s.heard o p hop summary).pathRecord o p true
      else ((s.heard o p hop summary).pathRecord o p true).reachChange o p true) = s.reported o p hop summary := by
    rw [pathRecord_heard, reachChange_pathBack]
    rfl
  rw [← hreported, ← summaryDelay_eq]
  rfl

theorem pathArrival_here (h : o ≠ 0 ∨ s.isStage = true) : s.pathArrival o p hop summary = s.reported o p hop summary := by
  rw [pathArrival_eq, if_neg (by rintro ⟨h0, hs⟩; simp [h0, hs] at h)]

theorem changeDelay_merge (s : State) (d : Nat) : (s.changeDelay d).merge = { s.merge with delay := d } := by
  unfold State.changeDelay
  split
  next h => rw [h]
  next =>
    extract_lets _ s1
    obtain ⟨-, hmerge, -⟩ := follows_retestSwitches (s := s1) (r := s1)
      (point := s1.playoutFrame + BitVec.ofNat 32 (bitNat s.merge.playedNow)) ⟨rfl, rfl, rfl, rfl, rfl⟩
    exact hmerge

theorem changeDelay_same {d : Nat} (h : s.merge.delay = d) : s.changeDelay d = s := if_pos h.symm

end Arrival

/-! ### A burst on a path that is UP with its hop count -/

section Quiet

variable {s : State} {p : Port} {phase : BitVec 8} {b : Burst}

/-- A burst of another origin that is no clock source, counted, merged, heard on its path and forwarded (R24). -/
def State.passedOn (s : State) (p : Port) (b : Burst) : State :=
  (({ s.countCheck p true with merge := s.merge.arrive b.origin b.stored } : State).heard b.origin p b.hop b.summary).setPort p.other
    ((s.port p.other).forwarding b)

variable (hpath : (s.sup.path b.origin p).up = true) (hhop : (s.sup.path b.origin p).hop = b.hop)

include hpath

theorem receive_passedOn (hup : (s.port p).state = .up) (hv : b.valid true = true) (ho : b.origin ≠ s.cfg.id)
    (hsource : s.clock.source ≠ some b.origin) (hstage : b.origin ≠ 0 ∨ s.isStage = true) :
    s.receive p phase true b = s.passedOn p b := by
  have hother : (({ s.countCheck p true with merge := s.merge.arrive b.origin b.stored } : State).heard b.origin p b.hop
      b.summary).port p.other = s.port p.other := setPort_port_other s p _
  rw [receive_valid hup hv, State.dealWith, if_neg (show ¬ b.origin = (s.countCheck p true).cfg.id from ho),
    clockArrival_other (s := s.countCheck p true) hsource]
  extract_lets s1 s2
  rw [pathArrival_here (s := s2) hstage, State.reported, if_pos (show (s2.sup.path b.origin p).up = true from hpath), forward_eq, State.passedOn,
    ← hother]
  rfl

include hhop

theorem passedOn_path : (s.passedOn p b).sup.path b.origin p = { s.sup.path b.origin p with since := some 0 } := by
  have hself : (s.passedOn p b).sup.path b.origin p
      = { s.sup.path b.origin p with up := true, hop := b.hop, since := some 0 } := heard_path_self (s := { s with merge := _ })
  rw [hself, ← hpath, ← hhop]

omit hpath hhop in
theorem passedOn_path_other {o : Fin 4} {q : Port} (h : o ≠ b.origin ∨ q ≠ p) : (s.passedOn p b).sup.path o q = s.sup.path o q :=
  heard_path_other (s := { s with merge := _ }) h

omit hpath hhop in
theorem passedOn_port : (s.passedOn p b).port p = { s.port p with valid := (s.port p).valid + 1 } :=
  (setPort_port _ p.other p _).trans ((if_neg (other_ne p).symm).trans (setPort_port_self s p _))

omit hpath hhop in
theorem passedOn_port_other : (s.passedOn p b).port p.other = (s.port p.other).forwarding b := setPort_port_self _ p.other _

theorem passedOn_viewTrigger (v : View) : (s.passedOn p b).viewTrigger v = s.viewTrigger v := by
  have hpaths : ∀ (o : Fin 4) (q : Port), ((s.passedOn p b).sup.path o q).up = (s.sup.path o q).up
      ∧ ((s.passedOn p b).sup.path o q).hop = (s.sup.path o q).hop := fun o q => by
    by_cases h : o = b.origin ∧ q = p
    · rw [h.1, h.2, passedOn_path hpath hhop]
      exact ⟨rfl, rfl⟩
    · rw [passedOn_path_other (not_and_or.mp h)]
      exact ⟨rfl, rfl⟩
  have hports : ∀ q : Port, ((s.passedOn p b).port q).state = (s.port q).state
      ∧ ((s.passedOn p b).port q).conflictReported = (s.port q).conflictReported := fun q => by
    by_cases h : q = p
    · rw [h, passedOn_port]
      exact ⟨rfl, rfl⟩
    · rw [eq_other h, passedOn_port_other]
      exact forwarding_shown _ b
  have honly : s.passedOn p b = { s with ports := (s.passedOn p b).ports, merge := (s.passedOn p b).merge, sup := (s.passedOn p b).sup } := rfl
  cases v with
  | input => exact (congrArg State.inputBody honly).trans (inputBody_ring s _ _ _)
  | ring => exact ringTrigger_same (fun q => (hports q).1) (fun q => (hports q).2) (fun o q => (hpaths o q).1) fun o q => (hpaths o q).2
  | talk => exact talkBody_same rfl fun o => congrArg₂ (fun e w => decide (o = s.cfg.id) || e || w) (hpaths o .east).1 (hpaths o .west).1

end Quiet

/-- Settles O19. -/
theorem foreignBurstIsDealtWith : Obligations.ForeignBurstIsDealtWith := by
  unfold Obligations.ForeignBurstIsDealtWith
  refine ⟨⟨⟨fun s p phase b hrun hup hv ho hsource hstage hpath hhop => ?_, fun x => ?_, fun b hb => ?_⟩,
      fun s v p phase b hrun hup hv ho hvv => ?_,
      fun s o p frame phase diff d u hdiff hu hd => ⟨fun h => ?_, fun h hp => ⟨fun hnear => ?_, fun hfar => ?_⟩, fun h hp => ?_⟩,
      fun f d xs => ⟨arrivalOf_noted, fun g => arrivalOf_noteArrival_other⟩,
      fun s => ⟨fun o => candidate_iff, chooseSource_kept, fun hs hc => ?_⟩,
      fun s o => ⟨clockPort_east, clockPort_west, fun p hs hp => ⟨clockPathLost_kept, fun h => ⟨fun k hk => ?_, fun hk => ?_⟩⟩⟩,
      fun s o p hop summary => ⟨fun h hdown => ?_, fun hs hpath => ⟨?_, fun hd => ?_⟩⟩⟩,
    fun s v frame hv => ?_, fun s o p frame phase diff d hdiff hd h hp hfar => ?_, fun s hs hc => ?_,
    fun s v w x o p hop summary m counts hm hcounts hv hheld hdown => ?_⟩
  · refine ⟨s.passedOn p b, ?_, rfl, rfl, passedOn_path hpath hhop, fun o q => passedOn_path_other, passedOn_port,
      passedOn_port_other⟩
    exact (leaves_receive hrun (receive_passedOn hpath hup hv ho hsource hstage)).trans
      (congrArg Host.Outcome.next (withViews_same (passedOn_viewTrigger hpath hhop)))
  · cases x <;> decide
  · have hfwd : b.forwarded.head = originByte b.origin (b.hop + 1) := rfl
    have hle : b.hop + 1 ≤ 3 := Nat.succ_le_succ hb
    exact ⟨hop_of_head hle hfwd, origin_of_head hle hfwd, rfl, rfl, forwarded_valid⟩
  · subst hvv
    refine leaves_receive hrun ((receive_valid hup hv).trans ?_)
    rw [State.dealWith, if_neg (show ¬ b.origin = (s.countCheck p true).cfg.id from ho)]
    rfl
  · rw [hu, clockArrival_other h]
  · subst hdiff
    have hround : roundFrames (arrivalDifference frame s.clock.frame phase - s.clock.lock) = d := hd.symm
    rw [clockArrival_source h hp, if_pos rfl, hround, follow40_near hnear] at hu
    subst hu
    exact ⟨rfl, fun there he hw => noted_skew_clockPort he hw, noted_skew_kept⟩
  · subst hdiff
    have hround : roundFrames (arrivalDifference frame s.clock.frame phase - s.clock.lock) = d := hd.symm
    rw [clockArrival_source h hp, if_pos rfl, hround, follow40_far hfar] at hu
    obtain ⟨hclock, hmerge, hlogged, hpassed, hscan⟩ := frameJump_fields
      (s.noted o p p frame (arrivalDifference frame s.clock.frame phase)) (frame - BitVec.ofInt 32 (roundFrames s.clock.lock))
    have hlog : u.logged s := by
      rw [hu]
      exact hlogged
    rw [(congrArg State.clock hu).trans hclock, (congrArg State.merge hu).trans hmerge]
    refine ⟨rfl, rfl, h, hp, rfl, rfl, rfl, rfl, ?_, fun k => Bank.mapAll_get _ _ k, hlog, (congrArg State.passed hu).trans hpassed,
      (congrArg State.scanPhase hu).trans hscan⟩
    have hbit : BitVec.ofNat 32 (bitNat s.merge.playedNow) = if s.merge.playedNow then 1 else 0 := by
      cases s.merge.playedNow <;> rfl
    rw [← hbit]
    rfl
  · subst hdiff
    rw [clockArrival_source h hp, if_neg (other_ne p).symm] at hu
    subst hu
    exact ⟨rfl, fun here he hw => noted_skew_otherPort he hw⟩
  · have hclock : s.chooseSource.clock = s.sourced.clock := by rw [chooseSource_changes hs hc, fault_only]
    refine ⟨_, rfl, ?_, ?_, fun hnone => ?_, fun o hsome => ?_⟩
    · rw [chooseSource_changes hs hc]
      exact fault_logged
    · rw [chooseSource_changes hs hc, fault_only]
      rfl
    · rw [hclock, sourced_none hnone]
      rfl
    · rw [hclock, sourced_some hsome]
      rfl
  · rw [clockPathLost_moves hs hp h, hk]
  · rw [clockPathLost_moves hs hp h, hk]
  · have hself : (s.heard o p hop summary).sup.path o p = _ := heard_path_self
    have hrest : ∀ (k : Fin 4) (q : Port), k ≠ o ∨ q ≠ p → (s.heard o p hop summary).sup.path k q = s.sup.path k q :=
      fun k q => heard_path_other
    have hnot : ¬ (s.sup.path o p).up = true := ne_true_of_eq_false hdown
    cases hother : (s.sup.path o p.other).up with
    | true =>
      refine ⟨s.pathBack o p hop summary, pathBack_only, by rw [pathBack_sup]; rfl, by rw [pathBack_sup, hself],
        fun k q hkq => by rw [pathBack_sup, hrest k q hkq], fun _ => ⟨?_, by rw [pathBack_sup]; rfl, fault_logged⟩,
        fun hfalse => absurd hfalse (by decide)⟩
      rw [pathArrival_here h, State.reported, if_neg hnot, if_pos hother]
    | false =>
      refine ⟨s.originBack o p hop summary, originBack_only, rfl, hself, hrest, fun htrue => absurd htrue (by decide),
        fun _ => ⟨?_, rfl, originBack_count⟩⟩
      rw [pathArrival_here h, State.reported, if_neg hnot, if_neg (ne_true_of_eq_false hother)]
  · rw [pathArrival_eq, if_pos ⟨rfl, hs⟩, State.reported, if_pos hpath, changeDelay_merge]
    rfl
  · rw [pathArrival_eq, if_pos ⟨rfl, hs⟩, State.reported, if_pos hpath, changeDelay_same (s := s.heard 0 p hop summary) hd]
    rfl
  · subst hv
    exact frameJump_eq s frame
  · subst hdiff
    have hround : roundFrames (arrivalDifference frame s.clock.frame phase - s.clock.lock) = d := hd.symm
    refine ⟨s.noted o p p frame (arrivalDifference frame s.clock.frame phase), rfl, ?_⟩
    rw [clockArrival_source h hp, if_pos rfl, hround, follow40_far hfar]
    rfl
  · obtain ⟨hsource, hlock, hskew, hstate, hport⟩ := sourced_fields s
    exact ⟨s.sourced, rfl, hsource, hlock, hskew, hstate, hport, chooseSource_changes hs hc⟩
  · subst hm hcounts hv
    have hw : s.reported o p hop summary = w := by
      rw [State.reported]
      by_cases hup : (s.sup.path o p).up = true
      · rw [if_pos hup, hheld hup]
        rfl
      · obtain ⟨hx, hw⟩ := hdown (Bool.eq_false_of_not_eq_true hup)
        subst hx
        rw [if_neg hup, hw]
        rfl
    rw [pathArrival_eq, hw]

end Sys2Proof.Machine

/-!
The service bytes of a burst (O18): how one position after another is filled from the two queues (spec 04, R72, R74), and the bytes of a
message (R65).
-/

namespace Sys2Proof.Machine

set_option Elab.async false

/-! ### The head test (R74) -/

section Head

variable {reach : List Nat} {m : Message} {ms : List Message}

theorem takeHead_nil : takeHead reach [] = ([], none, []) := rfl

theorem takeHead_passes (h : m.dest = 15 ∨ m.dest ∈ reach) : takeHead reach (m :: ms) = ([], some m, ms) := by
  rw [takeHead, if_pos h]

theorem takeHead_fails (h : ¬ (m.dest = 15 ∨ m.dest ∈ reach)) : takeHead reach (m :: ms)
    = (m :: (takeHead reach ms).1, (takeHead reach ms).2.1, (takeHead reach ms).2.2) := by
  rw [takeHead, if_neg h]

end Head

/-! ### One position (R72) -/

theorem count_succ (d : Word) (n : Nat) : d + BitVec.ofNat 32 (n + 1) = d + 1 + BitVec.ofNat 32 n := by
  rw [Nat.add_comm, BitVec.ofNat_add, ← BitVec.add_assoc]
  rfl

section Fill

variable {v : Service} {reach : List Nat} {m : Message} {ms : List Message}

theorem placeByte_start (v : Service) (m : Message) : v.placeByte m.bytes m
    = ({ v with current := some { rest := m.bytes.drop 1, message := m } }, m.bytes.headD 0, []) := rfl

theorem fillOne_more {c : InFlight} {b : ServiceByte} {rest : List ServiceByte} (hc : v.current = some c) (hb : c.rest = b :: rest)
    (hne : rest ≠ []) : v.fillOne reach = ({ v with current := some { c with rest := rest } }, b, []) := by
  obtain ⟨k, ks, rfl⟩ := List.exists_cons_of_ne_nil hne
  unfold Service.fillOne
  simp only [hc, hb]
  rfl

theorem fillOne_last {c : InFlight} {b : ServiceByte} (hc : v.current = some c) (hb : c.rest = [b]) :
    v.fillOne reach = ({ v with current := none, sent := v.sent + 1 }, b, [.sent c.message]) := by
  unfold Service.fillOne
  simp only [hc, hb]
  rfl

variable (hc : v.current = none)

include hc

theorem fillOne_urgent (hu : v.urgent = m :: ms) (h : m.dest = 15 ∨ m.dest ∈ reach) : v.fillOne reach
    = ({ v with urgent := ms, current := some { rest := m.bytes.drop 1, message := m } }, m.bytes.headD 0, []) := by
  unfold Service.fillOne
  simp only [hc, hu, takeHead_passes h, placeByte_start, List.length_nil, List.map_nil, List.append_nil, BitVec.add_zero]

/-- A message that fails the head test is discarded and counted before the position is filled. -/
theorem fillOne_urgent_discards (hu : v.urgent = m :: ms) (h : ¬ (m.dest = 15 ∨ m.dest ∈ reach))
    {w : Service × ServiceByte × List ServiceEvent}
    (hw : w = Service.fillOne { v with urgent := ms, discards := v.discards + 1 } reach) :
    v.fillOne reach = (w.1, w.2.1, .discarded m :: w.2.2) := by
  subst hw
  unfold Service.fillOne
  simp only [hc, hu, takeHead_fails h, List.length_cons, count_succ]
  cases (takeHead reach ms).2.1 with
  | some => rfl
  | none => cases (takeHead reach v.normal).2.1 <;> rfl

variable (hu : v.urgent = [])

include hu

theorem fillOne_normal (hn : v.normal = m :: ms) (h : m.dest = 15 ∨ m.dest ∈ reach) : v.fillOne reach
    = ({ v with normal := ms, current := some { rest := m.bytes.drop 1, message := m } }, m.bytes.headD 0, []) := by
  unfold Service.fillOne
  simp only [hc, hu, takeHead_nil, hn, takeHead_passes h, placeByte_start, List.length_nil, List.map_nil, List.append_nil,
    BitVec.add_zero]

theorem fillOne_normal_discards (hn : v.normal = m :: ms) (h : ¬ (m.dest = 15 ∨ m.dest ∈ reach))
    {w : Service × ServiceByte × List ServiceEvent}
    (hw : w = Service.fillOne { v with normal := ms, discards := v.discards + 1 } reach) :
    v.fillOne reach = (w.1, w.2.1, .discarded m :: w.2.2) := by
  subst hw
  unfold Service.fillOne
  simp only [hc, hu, takeHead_nil, hn, takeHead_fails h, List.length_nil, List.length_cons, List.map_nil, List.nil_append,
    BitVec.add_zero, count_succ]
  cases (takeHead reach ms).2.1 <;> rfl

theorem fillOne_idle (hn : v.normal = []) : v.fillOne reach = (v, 0, []) := by
  unfold Service.fillOne
  simp only [hc, hu, takeHead_nil, hn, List.length_nil, List.map_nil, List.append_nil, BitVec.add_zero]
  obtain ⟨urgent, normal⟩ := v
  obtain rfl : urgent = [] := hu
  obtain rfl : normal = [] := hn
  obtain rfl : _ = none := hc
  rfl

end Fill

/-! ### A run of positions -/

theorem fill_length (v : Service) (reach : List Nat) (n : Nat) : (v.fill reach n).2.1.length = n := by
  induction n generalizing v with
  | zero => rfl
  | succ n ih => exact congrArg Nat.succ (ih _)

/-- With no message waiting, every position is idle. -/
theorem fill_idle {v : Service} (reach : List Nat) (hc : v.current = none) (hu : v.urgent = []) (hn : v.normal = []) (n : Nat) :
    v.fill reach n = (v, List.replicate n 0, []) := by
  induction n with
  | zero => rfl
  | succ n ih =>
    rw [Service.fill, fillOne_idle hc hu hn]
    simp only [ih, List.replicate_succ, List.nil_append]

/-! ### The bytes of a message (R65) -/

theorem foldl_add_byte (bs : List Byte) (x : Byte) : bs.foldl (· + ·) x = x + bs.foldl (· + ·) 0 := by
  induction bs generalizing x with
  | nil => exact (BitVec.add_zero x).symm
  | cons b bs ih => rw [List.foldl_cons, List.foldl_cons, ih, ih (0 + b), zero_add, BitVec.add_assoc]

theorem kindClass_urgent (kind : Nat) : kindClass kind = .urgent ↔ kind ∈ [2, 7, 10, 12, 13, 14] := by
  have hmem : kind ∈ [2, 7, 10, 12, 13, 14] ↔ kind = 2 ∨ kind = 7 ∨ kind = 10 ∨ kind = 12 ∨ kind = 13 ∨ kind = 14 := by simp
  rw [hmem, kindClass]
  split
  next h => exact ⟨fun _ => h, fun _ => rfl⟩
  next h => exact ⟨fun he => absurd he (by decide), fun h' => absurd h' h⟩

/-- A message ends with the byte that brings the sum from its kind on to 0. -/
theorem bytes_checked (m : Message) : ∃ check : Byte,
    m.bytes = BitVec.ofNat 9 (256 + m.dest + if m.kind ∈ [2, 7, 10, 12, 13, 14] then 16 else 0)
      :: (BitVec.ofNat 8 m.kind :: BitVec.ofNat 8 m.body.length :: (m.body ++ [check])).map (fun b => b.setWidth 9)
    ∧ BitVec.ofNat 8 m.kind + BitVec.ofNat 8 m.body.length + m.body.foldl (· + ·) 0 + check = 0 := by
  have hsum : sumBytes (BitVec.ofNat 8 m.kind :: BitVec.ofNat 8 m.body.length :: m.body)
      = BitVec.ofNat 8 m.kind + BitVec.ofNat 8 m.body.length + m.body.foldl (· + ·) 0 := by
    rw [sumBytes, List.foldl_cons, List.foldl_cons, foldl_add_byte, zero_add]
  refine ⟨-sumBytes (BitVec.ofNat 8 m.kind :: BitVec.ofNat 8 m.body.length :: m.body), ?_, ?_⟩
  · simp only [Message.bytes, kindClass_urgent, List.cons_append]
  · rw [← hsum]
    exact BitVec.add_right_neg _

end Sys2Proof.Machine

/-!
The burst of a frame (O18): its fields and slots (spec 02, R22, R25, R29 to R31; spec 07, R127), its giving to the ports, and what the
filling of its service bytes tells the producers (spec 04, R72, R76, R80).
-/

namespace Sys2Proof.Machine

set_option Elab.async false

/-! ### The summary (R25) -/

section Summary

variable {s : State}

theorem summary_fields (s : State) : s.summary = BitVec.ofNat 32 ((s.port .east).state.code + 2 ^ 3 * (s.port .west).state.code
    + 2 ^ 6 * s.clock.state.code + 2 ^ 9 * idCode s.clock.source + 2 ^ 12 * s.reachSet + 2 ^ 16 * idCode (s.neighbour .east)
    + 2 ^ 19 * idCode (s.neighbour .west) + 2 ^ 22 * if s.cfg.id = 0 then s.merge.delay else 0) := by
  simp only [State.summary, field_eq, stage_iff]
  rfl

/-- Four bits summed stand for their set. -/
theorem bits_of_four : ∀ r : Fin 4 → Bool, (indices 4).foldl (fun acc o => acc + if r o then 2 ^ o.val else 0) 0 < 16
    ∧ ∀ o : Fin 4, ((indices 4).foldl (fun acc o => acc + if r o then 2 ^ o.val else 0) 0).testBit o.val = r o := by
  decide

theorem reachSet_lt (s : State) : s.reachSet < 16 := (bits_of_four s.reachable).1

theorem reachSet_testBit (s : State) (o : Fin 4) : s.reachSet.testBit o.val = s.reachable o := (bits_of_four s.reachable).2 o

theorem reachable_iff {o : Fin 4} :
    s.reachable o = true ↔ o = s.cfg.id ∨ (s.sup.path o .east).up = true ∨ (s.sup.path o .west).up = true := by
  rw [State.reachable, Bool.or_eq_true, Bool.or_eq_true, decide_eq_true_eq, or_assoc]

theorem mem_reachList {o : Fin 4} : o.val ∈ s.reachList ↔ s.reachable o = true := by
  simp [State.reachList, indices, Fin.val_inj]

section Heard

variable {p : Port} {hop : Nat} {heard : Fin 4 → Prop}
  (h : ∀ o : Fin 4, heard o ↔ o ≠ s.cfg.id ∧ (s.sup.path o p).up = true ∧ (s.sup.path o p).hop = hop)

include h

theorem heardAt_test (o : Fin 4) :
    (decide (o ≠ s.cfg.id) && (s.sup.path o p).up && (s.sup.path o p).hop == hop) = true ↔ heard o := by
  rw [h, Bool.and_eq_true, Bool.and_eq_true, decide_eq_true_eq, beq_iff_eq, and_assoc]

theorem heardAt_test_false (o : Fin 4) :
    (decide (o ≠ s.cfg.id) && (s.sup.path o p).up && (s.sup.path o p).hop == hop) = false ↔ ¬ heard o := by
  rw [← heardAt_test h, Bool.not_eq_true]

theorem heardAt_none : s.heardAt p hop = none ↔ ∀ o : Fin 4, ¬ heard o := by
  rw [State.heardAt, find_indices_none]
  exact forall_congr' (heardAt_test_false h)

theorem heardAt_some {o : Fin 4} : s.heardAt p hop = some o ↔ heard o ∧ ∀ k : Fin 4, k < o → ¬ heard k := by
  rw [State.heardAt, find_indices_iff]
  exact and_congr (heardAt_test h o) (forall_congr' fun k => imp_congr_right fun _ => heardAt_test_false h k)

end Heard

theorem ringSize_eastward (h : s.sup.eastward.closed = true) : s.ringSize = s.sup.eastward.hop + 1 := if_pos h

theorem ringSize_westward (he : s.sup.eastward.closed = false) (hw : s.sup.westward.closed = true) :
    s.ringSize = s.sup.westward.hop + 1 := (if_neg (ne_true_of_eq_false he)).trans (if_pos hw)

theorem ringSize_open (he : s.sup.eastward.closed = false) (hw : s.sup.westward.closed = false) : s.ringSize = 0 :=
  (if_neg (ne_true_of_eq_false he)).trans (if_neg (ne_true_of_eq_false hw))

end Summary

/-! ### Slots (R31; spec 07, R127) -/

section Slots

variable {s : State} {map : Bank 64 (Fade SlotSource)} {gate : Nat}

theorem burstSlots_length (h : s.cfg.slotCount ≤ 64) : (s.burstSlots map gate).length = s.cfg.slotCount := by
  simp [State.burstSlots, h]

/-- The slot of a map entry, at the entry's gain, and the talk slot through the gate. -/
theorem burstSlots_getD {i : Fin 64} (h : i.val < s.cfg.slotCount) : (s.burstSlots map gate).getD i.val 0
    = if s.cfg.talkSlot = some i.val then
        scaleSample (scaleSample (s.sourceSample (map.get i).current) (map.get i).gain 48) gate 48
      else scaleSample (s.sourceSample (map.get i).current) (map.get i).gain 48 := by
  have hget : (map.toList.take s.cfg.slotCount)[i.val]? = some (map.get i) := by
    rw [List.getElem?_take_of_lt h, Bank.get_eq]
    simp
  rw [List.getD_eq_getElem?_getD, State.burstSlots, List.getElem?_mapIdx, hget]
  rfl

theorem gateTarget_open {k : Fin 8} (h : (s.group k).isOpen = true) : s.gateTarget = 48 :=
  if_pos (List.any_eq_true.mpr ⟨k, mem_indices k, h⟩)

theorem gateTarget_closed (h : ∀ k : Fin 8, (s.group k).isOpen = false) : s.gateTarget = 0 :=
  if_neg fun hany => by
    obtain ⟨k, -, hk⟩ := List.any_eq_true.mp hany
    exact ne_true_of_eq_false (h k) hk

theorem localInput_muted {n : Fin 64} {first last : Word} (hid : s.cfg.id = 0)
    (h : (s.gain.table.get n).mute = some (first, last)) (hlt : (s.clock.frame - first).toNat < (last - first).toNat) :
    s.localInput n = 0 := by
  unfold State.localInput
  simp only [(stage_iff s).mpr hid, h, decide_eq_true hlt, Bool.and_self, if_true]

theorem localInput_heard {n : Fin 64} (h : s.cfg.id ≠ 0 ∨ (s.gain.table.get n).mute = none) :
    s.localInput n = s.conv.tdmIn.get n := by
  unfold State.localInput
  obtain h | h := h
  · have hdesk : s.isStage = false := Bool.eq_false_of_not_eq_true fun hs => h ((stage_iff s).mp hs)
    simp [hdesk]
  · simp [h]

end Slots

/-! ### The burst's fields (R22, R23, R29) -/

section Fields

variable {s : State} {slots : List Sample} {service : List ServiceByte}

theorem theBurst_head : (s.theBurst slots service).origin = s.cfg.id ∧ (s.theBurst slots service).hop = 0 :=
  ⟨origin_of_head (Nat.zero_le 3) rfl, hop_of_head (Nat.zero_le 3) rfl⟩

theorem theBurst_talkSlot : (s.theBurst slots service).talkSlot = BitVec.ofNat 8 (s.cfg.talkSlot.getD 255) := by
  cases h : s.cfg.talkSlot <;> simp only [State.theBurst, Burst.sealed, h] <;> rfl

theorem theBurst_slotCount (h : s.cfg.slotCount ≤ 64) : (s.theBurst slots service).slotCount.toNat = s.cfg.slotCount := by
  have hlt : s.cfg.slotCount < 2 ^ 8 := by omega
  exact (BitVec.toNat_ofNat _ _).trans (Nat.mod_eq_of_lt hlt)

theorem theBurst_valid (h : s.cfg.slotCount ≤ 64) (htalk : ∀ k : Nat, s.cfg.talkSlot = some k → k < s.cfg.slotCount)
    (hslots : slots.length = s.cfg.slotCount) (hservice : service.length = 8) : (s.theBurst slots service).valid true = true := by
  have hcount := theBurst_slotCount (slots := slots) (service := service) h
  have hlen : (s.theBurst slots service).slots.length = s.cfg.slotCount := hslots
  have hbytes : (s.theBurst slots service).service.length = 8 := hservice
  have hcheck : (s.theBurst slots service).check = crc32 (s.theBurst slots service).bytes := rfl
  have hslot : (s.theBurst slots service).talkSlot = 255 ∨ (s.theBurst slots service).talkSlot.toNat < s.cfg.slotCount := by
    rw [theBurst_talkSlot]
    cases hk : s.cfg.talkSlot with
    | none => exact .inl rfl
    | some k =>
      have hlt := htalk k hk
      refine .inr ?_
      rw [Option.getD_some, BitVec.toNat_ofNat, Nat.mod_eq_of_lt (by omega)]
      exact hlt
  unfold Burst.valid
  simp only [hlen, hbytes, hcount, beq_self_eq_true, Bool.true_and, Bool.and_eq_true, Bool.or_eq_true, beq_iff_eq, decide_eq_true_eq]
  exact ⟨⟨h, hslot⟩, hcheck⟩

end Fields

/-! ### The burst given to a port (R22; spec 08, R170, R172) -/

section Give

variable {s : State} {p : Port} {b : Burst}

theorem giveBurst_only (s : State) (p : Port) (b : Burst) : s.giveBurst p b = { s with ports := (s.giveBurst p b).ports } := by
  unfold State.giveBurst
  extract_lets r
  split
  · rfl
  · split
    · split <;> rfl
    · rfl
  · rfl

/-- A port that is given the burst keeps its state and its conflict flag, and the other port's record stands. -/
theorem giveBurst_shown (s : State) (p q : Port) (b : Burst) : ((s.giveBurst p b).port q).state = (s.port q).state
    ∧ ((s.giveBurst p b).port q).conflictReported = (s.port q).conflictReported := by
  have hset : ∀ r : PortRec, r.state = (s.port p).state → r.conflictReported = (s.port p).conflictReported →
      ((s.setPort p r).port q).state = (s.port q).state
        ∧ ((s.setPort p r).port q).conflictReported = (s.port q).conflictReported := fun r hstate hflag => by
    rw [setPort_port]
    split
    next h => rw [h]; exact ⟨hstate, hflag⟩
    next => exact ⟨rfl, rfl⟩
  unfold State.giveBurst
  extract_lets r
  split
  · exact ⟨rfl, rfl⟩
  · split
    · split
      · exact ⟨rfl, rfl⟩
      · exact hset _ rfl rfl
    · exact ⟨rfl, rfl⟩
  · exact hset _ rfl rfl

theorem giveBurst_other {q : Port} (h : q ≠ p) : (s.giveBurst p b).port q = s.port q := by
  unfold State.giveBurst
  extract_lets r
  split
  · rfl
  · split
    · split
      · rfl
      · rw [setPort_port, if_neg h]
    · rfl
  · rw [setPort_port, if_neg h]

theorem giveBurst_up (h : (s.port p).state = .up) :
    s.giveBurst p b = s.setPort p { s.port p with sent := (s.port p).sent ++ [b] } := by
  unfold State.giveBurst
  simp only [h]

/-- Both ports are given the burst. -/
def State.giveBoth (s : State) (b : Burst) : State := (s.giveBurst .east b).giveBurst .west b

theorem giveBoth_only (s : State) (b : Burst) : s.giveBoth b = { s with ports := (s.giveBoth b).ports } := by
  have heast := giveBurst_only s .east b
  have hwest := giveBurst_only (s.giveBurst .east b) .west b
  rw [State.giveBoth, hwest, heast]

theorem giveBoth_shown (s : State) (b : Burst) (q : Port) : ((s.giveBoth b).port q).state = (s.port q).state
    ∧ ((s.giveBoth b).port q).conflictReported = (s.port q).conflictReported := by
  obtain ⟨hstate, hflag⟩ := giveBurst_shown s .east q b
  obtain ⟨hstate', hflag'⟩ := giveBurst_shown (s.giveBurst .east b) .west q b
  exact ⟨hstate'.trans hstate, hflag'.trans hflag⟩

theorem giveBoth_sent (h : (s.port p).state = .up) : ((s.giveBoth b).port p).sent = (s.port p).sent ++ [b] := by
  cases p with
  | east => rw [State.giveBoth, giveBurst_other (by decide), giveBurst_up h, setPort_port_self]
  | west =>
    have hwest : (s.giveBurst .east b).port .west = s.port .west := giveBurst_other (by decide)
    rw [State.giveBoth, giveBurst_up (hwest ▸ h), setPort_port_self, hwest]

end Give

/-! ### What the producers are told (spec 04, R76, R80) -/

section Told

variable {s : State} {m : Message} {l : Fin 16} {number : Nat} {r : Request} {j : Join} {n : Nat}

theorem entryOf_some (h : s.entryOf l number = some r) : r ∈ s.svc.requests ∧ r.lane = l ∧ r.number = number := by
  have htest := List.find?_some (p := fun r : Request => decide (r.lane = l ∧ r.number = number)) h
  exact ⟨List.mem_of_find?_eq_some h, of_decide_eq_true htest⟩

section Request

variable (hm : m.producer = .request l number) (hr : s.entryOf l number = some r)

include hm hr

theorem messageSent_request : s.messageSent m = if s.reachable r.target then
      { s with svc := { s.svc with
        requests := s.svc.requests.map fun x => if x.lane = l ∧ x.number = number then { x with state := .waiting 0 } else x } }
    else s.requestEnds r .unreachable := by
  unfold State.messageSent
  simp only [hm, hr]

theorem messageDiscarded_request : s.messageDiscarded m = s.requestEnds r .unreachable := by
  unfold State.messageDiscarded
  simp only [hm, hr]

end Request

section Note

variable (hm : m.producer = .note l) (hw : s.works l j (.sendNote n) = true)

include hm hw

theorem messageSent_note : s.messageSent m = s.finish l j .ok 0 (BitVec.ofNat 32 n) := by
  obtain ⟨-, hact⟩ := works_iff.mp hw
  rw [← endStep_working hact]
  unfold State.messageSent
  simp only [hm, op_working hact]
  rfl

theorem messageDiscarded_note : s.messageDiscarded m = s.finish l j .unreachable 0 0 := by
  obtain ⟨-, hact⟩ := works_iff.mp hw
  rw [← endStep_working hact]
  unfold State.messageDiscarded
  simp only [hm, op_working hact]

end Note

/-! ### The burst stands while the producers are told -/

/-- The first state has the second's burst of the frame. -/
def State.SameBurst (t s : State) : Prop := t.lastBurst = s.lastBurst ∧ t.built = s.built

theorem stays_sameBurst {t s : State} (h : t.Stays s) : t.SameBurst s := by
  obtain ⟨-, -, hlast, hbuilt⟩ := h
  exact ⟨hlast, hbuilt⟩

theorem enterLoop_sameBurst (s : State) (p : Port) (x : LoopRole) (n : Nat) (lane : Option (Fin 16)) :
    (s.enterLoop p x n lane).SameBurst s := by
  unfold State.enterLoop
  extract_lets r _ y s1
  split
  · obtain ⟨-, hlast, hbuilt⟩ := leftUp_kept s1 p
    exact ⟨hlast, hbuilt⟩
  · exact ⟨rfl, rfl⟩

theorem serviceEvent_sameBurst (s : State) (e : ServiceEvent) : (s.serviceEvent e).SameBurst s := by
  have hrequest : ∀ (q : Request) (st : Status), (s.requestEnds q st).SameBurst s := fun q st =>
    stays_sameBurst (stays_requestEnds (Stays.refl s))
  have hstep : ∀ (k : Fin 16) (st : Status) (d : Nat) (c : Word), (s.endStep k st d c).SameBurst s := fun k st d c =>
    stays_sameBurst (stays_endStep (Stays.refl s))
  cases e with
  | sent m =>
    simp only [State.serviceEvent, State.messageSent]
    split
    · exact ⟨rfl, rfl⟩
    · split
      · exact ⟨rfl, rfl⟩
      · split
        · exact ⟨rfl, rfl⟩
        · exact hrequest _ _
    · split
      · exact hstep _ _ _ _
      · exact ⟨rfl, rfl⟩
    · exact ⟨rfl, rfl⟩
    · split
      · exact enterLoop_sameBurst s _ _ _ _
      · exact ⟨rfl, rfl⟩
  | discarded m =>
    simp only [State.serviceEvent, State.messageDiscarded]
    split
    · split
      · exact hrequest _ _
      · exact ⟨rfl, rfl⟩
    · split
      · exact hstep _ _ _ _
      · exact ⟨rfl, rfl⟩
    · exact ⟨rfl, rfl⟩

theorem serviceEvents_sameBurst (s : State) (es : List ServiceEvent) : (es.foldl State.serviceEvent s).SameBurst s := by
  induction es generalizing s with
  | nil => exact ⟨rfl, rfl⟩
  | cons e es ih =>
    obtain ⟨hlast, hbuilt⟩ := ih (s.serviceEvent e)
    obtain ⟨hlast', hbuilt'⟩ := serviceEvent_sameBurst s e
    exact ⟨hlast.trans hlast', hbuilt.trans hbuilt'⟩

theorem withViews_sameBurst (t s : State) : (t.withViews s).SameBurst t := by
  rw [(showsOnly_withViews t s).only]
  exact ⟨rfl, rfl⟩

end Told

/-! ### BURST_BUILD (R22) -/

section BurstBuild

variable {s : State}

/-- The level of the gate in the burst. -/
def State.gateNext (s : State) : Nat := gateStep s.talk.gate s.gateTarget

/-- The burst of the frame, with its slots and the service bytes given. -/
def State.ownBurst (s : State) (service : List ServiceByte) : Burst :=
  s.theBurst (s.burstSlots (Bank.mapAll Fade.step s.xmit) s.gateNext) service

/-- The state with the burst of the frame, before it is given to the ports. -/
def State.withBurst (s : State) (filled : Service × List ServiceByte × List ServiceEvent) : State :=
  { s with
    xmit := Bank.mapAll Fade.step s.xmit, talk := { s.talk with gate := s.gateNext }, svc := filled.1, built := true
    lastBurst := some (s.ownBurst filled.2.1) }

/-- The state behind a burst, before its producers are told (R22). -/
def State.burstGiven (s : State) (filled : Service × List ServiceByte × List ServiceEvent) : State :=
  { (s.withBurst filled).giveBoth (s.ownBurst filled.2.1) with
    merge := ((s.withBurst filled).giveBoth (s.ownBurst filled.2.1)).merge.arrive s.cfg.id (s.ownBurst filled.2.1).stored }

theorem burstGiven_only (s : State) (filled : Service × List ServiceByte × List ServiceEvent) : s.burstGiven filled = { s with
    xmit := Bank.mapAll Fade.step s.xmit, talk := { s.talk with gate := s.gateNext }, svc := filled.1
    ports := (s.burstGiven filled).ports, merge := s.merge.arrive s.cfg.id (s.ownBurst filled.2.1).stored, built := true
    lastBurst := some (s.ownBurst filled.2.1) } := by
  rw [State.burstGiven, giveBoth_only]
  rfl

theorem burstGiven_fields (s : State) (filled : Service × List ServiceByte × List ServiceEvent) :
    (s.burstGiven filled).lastBurst = some (s.ownBurst filled.2.1) ∧ (s.burstGiven filled).built = true
      ∧ (s.burstGiven filled).talk.gate = s.gateNext := by
  rw [burstGiven_only]
  exact ⟨rfl, rfl, rfl⟩

theorem build_eq (s : State) :
    s.build = (s.svc.fill s.reachList 8).2.2.foldl State.serviceEvent (s.burstGiven (s.svc.fill s.reachList 8)) := rfl

theorem leaves_burstBuild (hrun : s.isRunning = true) (hplayed : s.merge.playedNow = true) (hbuilt : s.built = false) :
    leaves .burstBuild s s.build := by
  have hexec : exec .burstBuild s = .next (running (fun st => if st.merge.playedNow && !st.built then st.build else st) s) := rfl
  rw [leaves, hexec, running_of _ hrun, if_pos (by simp [hplayed, hbuilt])]

/-- The state of both ports' records is all that the views show of a burst, and it stands. -/
theorem burstGiven_viewTrigger (s : State) (filled : Service × List ServiceByte × List ServiceEvent) (v : View) :
    (s.burstGiven filled).viewTrigger v = s.viewTrigger v := by
  have hshown : ∀ q : Port, ((s.burstGiven filled).port q).state = (s.port q).state
      ∧ ((s.burstGiven filled).port q).conflictReported = (s.port q).conflictReported := giveBoth_shown (State.mk ..) _
  rw [burstGiven_only]
  cases v with
  | input => rfl
  | ring => exact ringTrigger_same (fun q => (hshown q).1) (fun q => (hshown q).2) (fun _ _ => rfl) fun _ _ => rfl
  | talk => rfl

end BurstBuild

/-- Settles O18. -/
theorem burstIsBuilt : Obligations.BurstIsBuilt := by
  unfold Obligations.BurstIsBuilt
  refine ⟨⟨fun s hrun hplayed hbuilt hcount htalk => ?_, fun s g filled hrun hplayed hbuilt hcount hfilled hg => ?_,
      fun s => ⟨fun ⟨k, hk⟩ => gateTarget_open hk, gateTarget_closed, fun o => mem_reachList⟩,
      fun v reach => ⟨fun n => rfl, fun c b rest hc hb => ⟨fillOne_more hc hb, fun hr => ?_⟩,
        fun m ms hc hu => ⟨fillOne_urgent hc hu, fun hd hr w => fillOne_urgent_discards hc hu (not_or.mpr ⟨hd, hr⟩)⟩,
        fun m ms hc hu hn => ⟨fillOne_normal hc hu hn, fun hd hr w => fillOne_normal_discards hc hu hn (not_or.mpr ⟨hd, hr⟩)⟩,
        fillOne_idle⟩,
      bytes_checked, fun s m l number r hm hr => ?_,
      fun s m l j n hm hw => ⟨messageSent_note hm hw, messageDiscarded_note hm hw⟩,
      fun s n => ⟨fun first last => localInput_muted, localInput_heard⟩⟩,
    fun s => ⟨summary_fields s, reachSet_lt s, fun o => ⟨reachSet_testBit s o, reachable_iff⟩,
      fun p hop heard h => ⟨heardAt_none h, fun o => heardAt_some h⟩, fun p => rfl, ⟨rfl, rfl, rfl⟩, ringSize_eastward,
      ringSize_westward, ringSize_open⟩⟩
  · have hleaves := leaves_burstBuild hrun hplayed hbuilt
    rw [build_eq] at hleaves
    obtain ⟨hlast, hmade⟩ := serviceEvents_sameBurst (s.burstGiven (s.svc.fill s.reachList 8)) (s.svc.fill s.reachList 8).2.2
    obtain ⟨hlast', hmade'⟩ := withViews_sameBurst
      ((s.svc.fill s.reachList 8).2.2.foldl State.serviceEvent (s.burstGiven (s.svc.fill s.reachList 8))) s
    obtain ⟨hown, htrue, -⟩ := burstGiven_fields s (s.svc.fill s.reachList 8)
    have hlen := burstSlots_length (map := Bank.mapAll Fade.step s.xmit) (gate := s.gateNext) hcount
    have hbytes := fill_length s.svc s.reachList 8
    obtain ⟨horigin, hhop⟩ := theBurst_head (s := s) (slots := s.burstSlots (Bank.mapAll Fade.step s.xmit) s.gateNext)
      (service := (s.svc.fill s.reachList 8).2.1)
    refine ⟨_, s.ownBurst (s.svc.fill s.reachList 8).2.1, hleaves, hlast'.trans (hlast.trans hown), hmade'.trans (hmade.trans htrue), horigin, hhop, rfl, rfl,
      theBurst_slotCount hcount, theBurst_talkSlot, hlen, hbytes, rfl, rfl, theBurst_valid hcount htalk hlen hbytes,
      fun hc hu hn => ?_⟩
    rw [fill_idle s.reachList hc hu hn, List.foldl_nil, withViews_same (burstGiven_viewTrigger s _)]
    obtain ⟨-, -, hgate⟩ := burstGiven_fields s (s.svc, List.replicate 8 0, [])
    rw [hgate]
    exact ⟨rfl, burstGiven_only s _, fun p hp => giveBoth_sent (s := s.withBurst _) hp⟩
  · have hleaves := leaves_burstBuild hrun hplayed hbuilt
    rw [build_eq, ← hfilled] at hleaves
    subst hg
    refine ⟨_, s.ownBurst filled.2.1, hleaves, burstGiven_only s filled, rfl, burstSlots_length hcount, fun i f x v hi hf hx hv => ?_⟩
    have hsource : s.sourceSample f.current = x := by
      obtain ⟨hcur, hx⟩ | ⟨n, hcur, hx⟩ | ⟨m, hcur, hx⟩ := hx
      all_goals rw [hcur, hx]; rfl
    have hslot : (s.ownBurst filled.2.1).slots.getD i.val 0 = _ :=
      burstSlots_getD (map := Bank.mapAll Fade.step s.xmit) (gate := s.gateNext) hi
    rw [Bank.mapAll_get, ← hf, hsource, show scaleSample x f.gain 48 = v from hv.symm] at hslot
    exact ⟨fun ht => hslot.trans (if_pos ht), fun ht => hslot.trans (if_neg ht)⟩
  · subst hr
    exact fillOne_last hc hb
  · obtain ⟨hmem, hl, hn⟩ := entryOf_some hr
    have hsent := messageSent_request hm hr
    exact ⟨hmem, hl, hn, fun h => hsent.trans (if_pos h), fun h => hsent.trans (if_neg (ne_true_of_eq_false h)),
      messageDiscarded_request hm hr⟩

end Sys2Proof.Machine

/-!
Merge records (O25, O26): how an arrival is classified (spec 03, R48), and how a present frame plays and a missing one is concealed
(spec 03, R50, R51).
-/

namespace Sys2Proof.Machine

set_option Elab.async false

/-! ### Arrivals (R48) -/

section Arrive

variable {r : MergeRec} {point : Word} {f g : StoredFrame}

/-- A frame that is later than another is not it, and the other is not later. -/
theorem later_strict {a b : Word} (h : later a b = true) : b ≠ a ∧ later b a = false := by
  have hpos : 0 < (a - b).toInt := of_decide_eq_true h
  have hneg : b - a = -(a - b) := (neg_sub a b).symm
  refine ⟨fun he => ?_, decide_eq_false ?_⟩
  · rw [he, BitVec.sub_self] at hpos
    exact absurd hpos (by decide)
  · have hlt := (a - b).isLt
    rw [hneg]
    rw [BitVec.toInt_eq_toNat_cond] at hpos ⊢
    rw [BitVec.toNat_neg]
    omega

theorem arrive_late (h : earlier f.frame point = true) : r.arrive point f = { r with late := r.late + 1 } := if_pos h

theorem arrive_beyond (h : earlier f.frame point = false) (hw : 64 ≤ (f.frame - point).toNat) :
    r.arrive point f = { r with window := r.window + 1 } := (if_neg (ne_true_of_eq_false h)).trans (if_pos hw)

section Inside

variable (h : earlier f.frame point = false) (hw : (f.frame - point).toNat < 64)

include h hw

theorem arrive_empty (hc : r.cells.get (cellOf f.frame) = none) : r.arrive point f = r.put f := by
  rw [MergeRec.arrive, if_neg (ne_true_of_eq_false h), if_neg (Nat.not_le.mpr hw), hc]

/-- The tests of a frame whose cell holds another. -/
theorem arrive_filled (hc : r.cells.get (cellOf f.frame) = some g) : r.arrive point f
    = if g.frame = f.frame then { r with duplicates := r.duplicates + 1 }
      else if later g.frame f.frame then { r with late := r.late + 1 }
      else if g.played then r.put f
      else { r.put f with overruns := r.overruns + 1 } := by
  rw [MergeRec.arrive, if_neg (ne_true_of_eq_false h), if_neg (Nat.not_le.mpr hw), hc]

theorem arrive_duplicate (hc : r.cells.get (cellOf f.frame) = some g) (he : g.frame = f.frame) :
    r.arrive point f = { r with duplicates := r.duplicates + 1 } := by
  rw [arrive_filled h hw hc, if_pos he]

theorem arrive_superseded (hc : r.cells.get (cellOf f.frame) = some g) (hl : later g.frame f.frame = true) :
    r.arrive point f = { r with late := r.late + 1 } := by
  obtain ⟨hne, -⟩ := later_strict hl
  rw [arrive_filled h hw hc, if_neg (Ne.symm hne), if_pos hl]

/-- A frame whose cell holds an earlier one takes the cell, and the earlier one is an overrun where it has not played. -/
theorem arrive_over (hc : r.cells.get (cellOf f.frame) = some g) (he : earlier g.frame f.frame = true) :
    r.arrive point f = if g.played then r.put f else { r.put f with overruns := r.overruns + 1 } := by
  obtain ⟨hne, hl⟩ := later_strict he
  rw [arrive_filled h hw hc, if_neg hne, if_neg (ne_true_of_eq_false hl)]

end Inside

end Arrive

/-- Settles O25: one lemma for each test of R48. -/
theorem arrivalIsClassified : Obligations.ArrivalIsClassified := by
  unfold Obligations.ArrivalIsClassified
  refine fun r point f => ⟨arrive_late, arrive_beyond, fun h hw => ⟨fun g hc he => arrive_duplicate h hw hc he,
    fun g hc hl => arrive_superseded h hw hc hl, fun g hc he hp => ?_, fun g hc he hp => ?_, arrive_empty h hw⟩⟩
  · rw [arrive_over h hw hc he, if_neg (ne_true_of_eq_false hp)]
    rfl
  · rw [arrive_over h hw hc he, if_pos hp]
    rfl

/-! ### Playing and concealing (R49 to R52) -/

section Play

variable {r : MergeRec} {f : StoredFrame} {p : Word}

/-- A sample at full level is itself. -/
theorem toSample_full (x : Sample) : toSample (truncDiv (x.toInt * 480) 480) = x := by
  rw [truncDiv, Int.mul_tdiv_cancel _ (by decide), toSample, BitVec.ofInt_toInt]

/-- The slots of a frame played at a level: nothing above the slot count. -/
theorem frameSlots_get (slots : List Sample) (count level : Nat) (i : Fin 64) : (frameSlots slots count level).get i
    = if i.val < count then toSample (truncDiv ((slots.getD i.val 0).toInt * level) 480) else 0 := by
  rw [frameSlots, Bank.mapNum_get]
  rfl

/-- The state a present frame leaves, and the level it plays at (R50). -/
theorem onPresent_eq {c after : Conceal} {level : Nat}
    (h : (c = .playing ∨ ∃ n, c = .holding n) ∧ level = 480 ∧ after = .playing
      ∨ ((∃ k, c = .fading k) ∨ c = .silent) ∧ level = 1 ∧ after = .fadingIn 1
      ∨ (∃ k, c = .fadingIn k ∧ k + 1 < 480 ∧ level = k + 1 ∧ after = .fadingIn (k + 1))
      ∨ c = .fadingIn 479 ∧ level = 480 ∧ after = .playing) : c.onPresent = (level, after) := by
  obtain ⟨rfl | ⟨n, rfl⟩, rfl, rfl⟩ | ⟨⟨k, rfl⟩ | rfl, rfl, rfl⟩ | ⟨k, rfl, hk, rfl, rfl⟩ | ⟨rfl, rfl, rfl⟩ := h
  case inr.inr.inl => exact if_pos hk
  all_goals rfl

/-- The state a missing frame leaves, the level it is concealed at, and whether it counts (R51). -/
theorem onMissing_eq {c after : Conceal} {level missed : Nat}
    (h : (c = .playing ∨ ∃ k, c = .fadingIn k) ∧ level = 480 ∧ after = .holding 1 ∧ missed = 1
      ∨ (∃ n, c = .holding n ∧ n < 8 ∧ level = 480 ∧ after = .holding (n + 1) ∧ missed = 1)
      ∨ c = .holding 8 ∧ level = 479 ∧ after = .fading 1 ∧ missed = 1
      ∨ (∃ k, c = .fading k ∧ k < 480 ∧ level = 480 - k - 1 ∧ after = .fading (k + 1) ∧ missed = 1)
      ∨ c = .fading 480 ∧ level = 0 ∧ after = .silent ∧ missed = 1
      ∨ c = .silent ∧ level = 0 ∧ after = .silent ∧ missed = 0) :
    c.onMissing = (level, after) ∧ missed = if c = .silent then 0 else 1 := by
  obtain ⟨rfl | ⟨k, rfl⟩, rfl, rfl, rfl⟩ | ⟨n, rfl, hn, rfl, rfl, rfl⟩ | ⟨rfl, rfl, rfl, rfl⟩
    | ⟨k, rfl, hk, rfl, rfl, rfl⟩ | ⟨rfl, rfl, rfl, rfl⟩ | ⟨rfl, rfl, rfl, rfl⟩ := h
  case inr.inl => exact ⟨if_pos hn, rfl⟩
  case inr.inr.inr.inl => exact ⟨if_pos hk, rfl⟩
  all_goals exact ⟨rfl, rfl⟩

theorem playMissing_record {level : Nat} {after : Conceal} (h : r.conceal.onMissing = (level, after)) : r.playMissing.1
    = { r with conceal := after, missing := r.missing + BitVec.ofNat 32 (if r.conceal = .silent then 0 else 1) } := by
  unfold MergeRec.playMissing
  rw [h]
  split
  · rw [show BitVec.ofNat 32 0 = 0#32 from rfl, BitVec.add_zero]
  · rfl

theorem playMissing_slot {level : Nat} {after : Conceal} (h : r.conceal.onMissing = (level, after)) (i : Fin 64) :
    r.playMissing.2.slots.get i
      = if i.val < r.lastCount then toSample (truncDiv ((r.last.get i).toInt * level) 480) else 0 := by
  have hlast : r.last.toList.getD i.val 0 = r.last.get i := by
    rw [Bank.get_eq]
    simp
  rw [← hlast, ← frameSlots_get, ← show (r.conceal.onMissing).1 = level by rw [h]]
  rfl

theorem play_empty (h : r.cells.get (cellOf p) = none) : r.play p = r.playMissing := by
  rw [MergeRec.play, MergeRec.present?, h]

theorem play_present (hc : r.cells.get (cellOf p) = some f) (hf : f.frame = p) (hp : f.played = false) :
    r.play p = r.playPresent f := by
  simp only [MergeRec.play, MergeRec.present?, hc, hf, hp, and_self, if_true]

theorem play_other (hc : r.cells.get (cellOf p) = some f) (h : f.frame ≠ p ∨ f.played = true) :
    r.play p = r.playMissing := by
  have hnot : ¬ (f.frame = p ∧ f.played = false) := fun ⟨hf, hp⟩ => h.elim (· hf) (ne_true_of_eq_false hp)
  simp only [MergeRec.play, MergeRec.present?, hc, if_neg hnot]

end Play

/-- Settles O26, from the tables of R50 and R51. -/
theorem framesPlayOrAreConcealed : Obligations.FramesPlayOrAreConcealed := by
  unfold Obligations.FramesPlayOrAreConcealed
  refine ⟨fun r f level after h => ?_, fun r level missed after h => ?_⟩
  · have hlevel := onPresent_eq h
    refine ⟨?_, fun i => ?_, toSample_full, rfl, rfl, rfl, rfl⟩
    · exact congrArg Prod.snd hlevel
    · rw [← frameSlots_get, ← show (r.conceal.onPresent).1 = level by rw [hlevel]]
      rfl
  · obtain ⟨hlevel, rfl⟩ := onMissing_eq h
    exact ⟨playMissing_record hlevel, playMissing_slot hlevel, rfl, rfl⟩

end Sys2Proof.Machine

/-!
Messages as they arrive (O27): what a playout gives an origin's stream (spec 04, R64), how an assembler takes a message's bytes (spec 04,
R65, R68, R69), which messages are usable (spec 04, R70), and the command each kind is (spec 04, R66).
-/

namespace Sys2Proof.Machine

set_option Elab.async false

/-! ### Numbers in bytes -/

theorem leBytes_eq_map (n x : Nat) : leBytes n x = (List.range n).map fun k => BitVec.ofNat 8 (x / 256 ^ k) := by
  induction n generalizing x with
  | zero => rfl
  | succ n ih =>
    rw [leBytes, ih, List.range_succ_eq_map, List.map_cons, List.map_map, pow_zero, Nat.div_one]
    refine congrArg _ (List.map_congr_left fun k _ => ?_)
    rw [Function.comp_apply, pow_succ', Nat.div_div_eq_div_mul]

theorem numAt_leBytes {n v : Nat} (h : v < 256 ^ n) : numAt (leBytes n v) 0 n = v := by
  have hall : (leBytes n v).take n = leBytes n v := List.take_of_length_le (leBytes_length n v).le
  rw [numAt, List.drop_zero, hall, leNat_leBytes, Nat.mod_eq_of_lt h]

theorem wordAt_leBytes (w : Word) : wordAt (leBytes 4 w.toNat) 0 = w := by
  rw [wordAt, numAt_leBytes w.isLt, BitVec.ofNat_toNat, BitVec.setWidth_eq]

theorem half_leBytes (h : BitVec 16) : BitVec.ofNat 16 (numAt (leBytes 2 h.toNat) 0 2) = h := by
  rw [numAt_leBytes h.isLt, BitVec.ofNat_toNat, BitVec.setWidth_eq]

theorem set_leBytes (x : BitVec 64) : BitVec.ofNat 64 (numAt (leBytes 8 x.toNat) 0 8) = x := by
  rw [numAt_leBytes x.isLt, BitVec.ofNat_toNat, BitVec.setWidth_eq]

theorem chunks_append {n : Nat} (hn : 0 < n) {xs : List Byte} (hx : xs.length = n) (ys : List Byte) :
    chunks n (xs ++ ys) = xs :: chunks n ys := by
  have hcount : (xs ++ ys).length / n = ys.length / n + 1 := by
    rw [List.length_append, hx, Nat.add_comm, Nat.add_div_right _ hn]
  rw [chunks, hcount, List.range_succ_eq_map, List.map_cons, List.map_map]
  refine congr (congrArg _ ?_) (List.map_congr_left fun k _ => ?_)
  · rw [Nat.mul_zero, List.drop_zero, List.take_left' hx]
  · rw [Function.comp_apply, Nat.mul_succ, Nat.add_comm, ← List.drop_drop, List.drop_left' hx]

/-- Words written one after another are read back as they were. -/
theorem chunks_words (ws : List Word) : (chunks 4 (ws.flatMap fun w => leBytes 4 w.toNat)).map (fun c => wordAt c 0) = ws := by
  induction ws with
  | nil => rfl
  | cons w ws ih =>
    rw [List.flatMap_cons, chunks_append (by decide) (leBytes_length 4 _), List.map_cons, ih, wordAt_leBytes]

/-! ### The stream of a playout (R64) -/

section Stream

variable {last : Option Word} {p : Word} {f : PlayedFrame}

theorem streamItems_missing (h : f.present = false) : streamItems last p f = [.gap] := if_neg (ne_true_of_eq_false h)

theorem streamItems_next (h : f.present = true) (hl : last = none ∨ last = some (p - 1)) :
    streamItems last p f = f.service.map .byte := by
  obtain rfl | rfl := hl
  · exact if_pos h
  · have hp : p = p - 1 + 1 := (sub_add_cancel p 1).symm
    simp only [streamItems, if_pos h, if_pos hp, List.nil_append]

theorem streamItems_skipped {l : Word} (h : f.present = true) (hl : last = some l) (hne : l ≠ p - 1) :
    streamItems last p f = .gap :: f.service.map .byte := by
  have hp : ¬ p = l + 1 := fun he => hne (eq_sub_of_add_eq he.symm)
  simp only [streamItems, if_pos h, hl, if_neg hp, List.cons_append, List.nil_append]

end Stream

/-! ### The assembler (R65, R68, R69) -/

section Assembler

variable {a : Assembler} {id : Nat}

/-- An address byte to a terminal (R65). -/
def addressByte (dest : Nat) (urgent : Bool) : ServiceByte := BitVec.ofNat 9 (256 + dest + if urgent then 16 else 0)

theorem addressByte_reads {dest : Nat} (h : dest < 16) (urgent : Bool) :
    (addressByte dest urgent).getLsbD 8 = true ∧ (addressByte dest urgent).toNat % 16 = dest := by
  cases urgent <;> interval_cases dest <;> decide

theorem take_address {dest : Nat} (h : dest < 16) (urgent : Bool) : a.take id (.byte (addressByte dest urgent))
    = (if dest = id ∨ dest = 15 then { state := .kind, dest := dest } else {},
      if a.state = .hunt then .none else .framing) := by
  obtain ⟨hmark, hdest⟩ := addressByte_reads h urgent
  simp only [Assembler.take, hmark, if_true, Assembler.address, hdest]

/-- The byte of a message's data, in the stream. -/
def dataItem (b : Byte) : StreamItem := .byte (b.setWidth 9)

theorem take_data (b : Byte) : a.take id (dataItem b) = a.data b := by
  have hmark : (b.setWidth 9).getLsbD 8 = false := by rw [BitVec.getLsbD_setWidth, BitVec.getLsbD_of_ge b 8 (Nat.le_refl 8)]; rfl
  have hdata : (b.setWidth 9).setWidth 8 = b := by
    rw [BitVec.setWidth_setWidth_of_le _ (by decide), BitVec.setWidth_eq]
  simp only [Assembler.take, dataItem, hmark, hdata, Bool.false_eq_true, if_false]

section Report

variable {a' : Assembler} {i : StreamItem} (rest : List StreamItem)

theorem takeAll_quiet (h : a.take id i = (a', .none)) : a.takeAll id (i :: rest) = a'.takeAll id rest := by
  simp only [Assembler.takeAll, h]

theorem takeAll_framing (h : a.take id i = (a', .framing)) : a.takeAll id (i :: rest)
    = ((a'.takeAll id rest).1, (a'.takeAll id rest).2.1 + 1, (a'.takeAll id rest).2.2) := by
  simp only [Assembler.takeAll, h]

theorem takeAll_complete {k : Nat} {b : List Byte} (h : a.take id i = (a', .complete k b)) : a.takeAll id (i :: rest)
    = ((a'.takeAll id rest).1, (a'.takeAll id rest).2.1, (k, b) :: (a'.takeAll id rest).2.2) := by
  simp only [Assembler.takeAll, h]

end Report

/-- Data is passed over while no message is in hand (R68). -/
theorem takeAll_hunt (bs : List Byte) : Assembler.takeAll {} id (bs.map dataItem) = ({}, 0, []) := by
  induction bs with
  | nil => rfl
  | cons b bs ih =>
    rw [List.map_cons, takeAll_quiet _ (take_data b)]
    exact ih

/-- An assembler with part of a message's body. -/
def collecting (dest : Nat) (kind : Byte) (length : Nat) (got : List Byte) (sum : Byte) : Assembler :=
  { state := if got.length < length then .body else .check, dest := dest, kind := kind, length := length, got := got, sum := sum }

/-- The rest of a body and the check byte complete the message (R68). -/
theorem takeAll_body (dest : Nat) (kind : Byte) {length : Nat} {got bs : List Byte} {sum check : Byte}
    (hlen : got.length + bs.length = length) (hsum : sum + bs.foldl (· + ·) 0 + check = 0) :
    (collecting dest kind length got sum).takeAll id ((bs ++ [check]).map dataItem) = ({}, 0, [(kind.toNat, got ++ bs)]) := by
  induction bs generalizing got sum with
  | nil =>
    have hfull : ¬ got.length < length := by rw [← hlen, List.length_nil]; omega
    have hzero : sum + check = 0 := by rwa [List.foldl_nil, add_zero] at hsum
    have hdata : (collecting dest kind length got sum).data check = ({}, .complete kind.toNat got) := by
      simp only [collecting, Assembler.data, if_neg hfull, if_pos hzero]
    rw [List.nil_append, List.map_singleton, takeAll_complete _ ((take_data check).trans hdata), List.append_nil]
    rfl
  | cons b bs ih =>
    have hroom : got.length < length := by rw [← hlen, List.length_cons]; omega
    have hdata : (collecting dest kind length got sum).data b
        = (collecting dest kind length (got ++ [b]) (sum + b), .none) := by
      simp only [collecting, Assembler.data, if_pos hroom, List.length_append, List.length_singleton]
    have hsum' : sum + b + bs.foldl (· + ·) 0 + check = 0 := by
      rwa [List.foldl_cons, zero_add, foldl_add_byte, ← BitVec.add_assoc] at hsum
    have hlen' : (got ++ [b]).length + bs.length = length := by
      rw [← hlen, List.length_append, List.length_singleton, List.length_cons]
      omega
    rw [List.cons_append, List.map_cons, takeAll_quiet _ ((take_data b).trans hdata)]
    exact (ih hlen' hsum').trans (by rw [List.append_assoc, List.singleton_append])

/-- The bytes behind an address byte that this terminal takes (R68). -/
theorem takeAll_taken (dest : Nat) {kind : Byte} {body : List Byte} {check : Byte} (hlen : body.length ≤ 60)
    (hsum : kind + BitVec.ofNat 8 body.length + body.foldl (· + ·) 0 + check = 0) :
    ({ state := .kind, dest := dest } : Assembler).takeAll id
      ((kind :: BitVec.ofNat 8 body.length :: (body ++ [check])).map dataItem) = ({}, 0, [(kind.toNat, body)]) := by
  have hnat : (BitVec.ofNat 8 body.length).toNat = body.length := by
    rw [BitVec.toNat_ofNat, Nat.mod_eq_of_lt (by omega)]
  have hstate : (if BitVec.ofNat 8 body.length = 0 then AssemblerState.check else .body)
      = if ([] : List Byte).length < body.length then .body else .check := by
    have hzero : BitVec.ofNat 8 body.length = 0 ↔ ¬ ([] : List Byte).length < body.length := by
      rw [← BitVec.toNat_inj, hnat, List.length_nil, Nat.not_lt]
      exact Nat.le_zero.symm
    simp only [hzero, ite_not]
  have hdata : ({ state := .length, dest := dest, kind := kind, sum := kind } : Assembler).data (BitVec.ofNat 8 body.length)
      = (collecting dest kind body.length [] (kind + BitVec.ofNat 8 body.length), .none) := by
    simp only [Assembler.data, collecting, hnat, hstate, if_neg (Nat.not_lt.mpr hlen)]
  have hbody : (collecting dest kind body.length [] (kind + BitVec.ofNat 8 body.length)).takeAll id
      ((body ++ [check]).map dataItem) = ({}, 0, [(kind.toNat, body)]) := takeAll_body dest kind (by simp) hsum
  have hkind : ({ state := .kind, dest := dest } : Assembler).data kind
      = ({ state := .length, dest := dest, kind := kind, sum := kind }, .none) := rfl
  rw [List.map_cons, takeAll_quiet _ ((take_data kind).trans hkind), List.map_cons,
    takeAll_quiet _ ((take_data _).trans hdata)]
  exact hbody

theorem takeAll_gap (h : a.state ≠ .hunt) : a.takeAll id [.gap] = ({}, 1, []) := by
  have hgap : a.take id .gap = ({}, .framing) := if_neg h
  exact takeAll_framing [] hgap

end Assembler

section Message

variable {m : Message} {id : Nat}

/-- A message as an address byte and its data (R65). -/
theorem message_items (m : Message) : ∃ (urgent : Bool) (check : Byte), m.bytes.map StreamItem.byte
      = .byte (addressByte m.dest urgent)
        :: (BitVec.ofNat 8 m.kind :: BitVec.ofNat 8 m.body.length :: (m.body ++ [check])).map dataItem
    ∧ BitVec.ofNat 8 m.kind + BitVec.ofNat 8 m.body.length + m.body.foldl (· + ·) 0 + check = 0 := by
  obtain ⟨check, hbytes, hsum⟩ := bytes_checked m
  refine ⟨decide (m.kind ∈ [2, 7, 10, 12, 13, 14]), check, ?_, hsum⟩
  rw [hbytes, List.map_cons, List.map_map, addressByte]
  simp only [decide_eq_true_eq]
  rfl

variable (hdest : m.dest < 16)

include hdest

/-- A message to this terminal is completed, and breaks off the one in hand. -/
theorem takeAll_own (a : Assembler) (hkind : m.kind < 256) (hbody : m.body.length ≤ 60) (hown : m.dest = id ∨ m.dest = 15) :
    a.takeAll id (m.bytes.map .byte) = ({}, if a.state = .hunt then 0 else 1, [(m.kind, m.body)]) := by
  obtain ⟨urgent, check, hitems, hsum⟩ := message_items m
  have htaken := takeAll_taken (id := id) m.dest hbody hsum
  rw [BitVec.toNat_ofNat, Nat.mod_eq_of_lt (show m.kind < 2 ^ 8 from hkind)] at htaken
  have htake := take_address (a := a) (id := id) hdest urgent
  rw [if_pos hown] at htake
  rw [hitems]
  by_cases hhunt : a.state = .hunt
  · rw [if_pos hhunt] at htake ⊢
    rw [takeAll_quiet _ htake, htaken]
  · rw [if_neg hhunt] at htake ⊢
    rw [takeAll_framing _ htake, htaken]

/-- A message to another terminal is passed over. -/
theorem takeAll_other (hid : m.dest ≠ id) (hall : m.dest ≠ 15) : Assembler.takeAll {} id (m.bytes.map .byte) = ({}, 0, []) := by
  obtain ⟨urgent, check, hitems, -⟩ := message_items m
  have htake := take_address (a := {}) (id := id) hdest urgent
  rw [if_neg (not_or.mpr ⟨hid, hall⟩), if_pos rfl] at htake
  rw [hitems, takeAll_quiet _ htake, takeAll_hunt]

end Message

/-! ### Usable messages (R70) -/

theorem lengthFits_iff (kind n : Nat) : lengthFits kind n = true ↔
    (kind, n) ∈ [(1, 7), (2, 15), (3, 5), (4, 11), (5, 11), (6, 20), (7, 6), (9, 11), (10, 16), (11, 6), (12, 6), (13, 6),
        (14, 14), (15, 8), (16, 5)]
      ∨ kind = 8 ∧ (∃ entries : Nat, entries ≤ 12 ∧ n = 4 + 4 * entries) ∨ kind = 17 ∧ n ≤ 56 := by
  have hentries : (∃ entries : Nat, entries ≤ 12 ∧ n = 4 + 4 * entries) ↔ 4 ≤ n ∧ n ≤ 52 ∧ n % 4 = 0 :=
    ⟨fun ⟨e, he, hn⟩ => by omega, fun ⟨h1, h2, h3⟩ => ⟨(n - 4) / 4, by omega, by omega⟩⟩
  rw [hentries]
  by_cases hk : kind ≤ 17
  · interval_cases kind <;> simp [lengthFits, kindLength, and_assoc]
  · obtain ⟨k, rfl⟩ : ∃ k, kind = k + 18 := ⟨kind - 18, by omega⟩
    simp [lengthFits, kindLength]

theorem usable_iff (stage : Bool) (o : Fin 4) (kind n : Nat) : usable stage o kind n = true ↔
    lengthFits kind n = true ∧ ((kind = 1 ∨ kind = 4 ∨ kind = 5) → stage = true) ∧ ((kind = 2 ∨ kind = 6) → o = 0) := by
  have hrange : lengthFits kind n = true → 1 ≤ kind ∧ kind ≤ 17 := fun h => by
    rw [lengthFits_iff] at h
    simp only [List.mem_cons, Prod.mk.injEq, List.not_mem_nil, or_false] at h
    omega
  simp only [usable, Bool.and_eq_true, Bool.or_eq_true, Bool.not_eq_true', Bool.or_eq_false_iff, beq_eq_false_iff_ne,
    decide_eq_true_eq]
  constructor
  · rintro ⟨⟨⟨⟨-, -⟩, hlen⟩, hstage⟩, horigin⟩
    exact ⟨hlen, fun hk => hstage.resolve_right fun ⟨⟨h1, h4⟩, h5⟩ => by omega,
      fun hk => horigin.resolve_right fun ⟨h2, h6⟩ => by omega⟩
  · rintro ⟨hlen, hstage, horigin⟩
    obtain ⟨hlow, hhigh⟩ := hrange hlen
    refine ⟨⟨⟨⟨hlow, hhigh⟩, hlen⟩, ?_⟩, ?_⟩
    · by_cases hk : kind = 1 ∨ kind = 4 ∨ kind = 5
      · exact .inl (hstage hk)
      · exact .inr (by omega)
    · by_cases hk : kind = 2 ∨ kind = 6
      · exact .inl (horigin hk)
      · exact .inr (by omega)

/-! ### The command of each kind (R66) -/

section Command

variable (o : Fin 4) (f : Word) (r l q a b c d e g m : Byte) (v w x : Word) (set other : BitVec 64) (h i j : BitVec 16)

theorem command_gainAnnounce (z : Byte) : messageCommand o f 2 ([a, b, c, d, e, g, m] ++ leBytes 4 w.toNat ++ [r, l, q, z])
    = some (.gainAnnounce a b c d e g m w ⟨r, l, q⟩ z) := by
  show some (Instr.gainAnnounce a b c d e g m (wordAt (leBytes 4 w.toNat) 0) ⟨r, l, q⟩ z) = _
  rw [wordAt_leBytes]

theorem command_claim : messageCommand o f 4 ([r, l, q] ++ leBytes 8 set.toNat) = some (.claim o ⟨r, l, q⟩ set) := by
  show some (Instr.claim o ⟨r, l, q⟩ (BitVec.ofNat 64 (numAt (leBytes 8 set.toNat) 0 8))) = _
  rw [set_leBytes]

theorem command_release : messageCommand o f 5 ([r, l, q] ++ leBytes 8 set.toNat) = some (.release o ⟨r, l, q⟩ set) := by
  show some (Instr.release o ⟨r, l, q⟩ (BitVec.ofNat 64 (numAt (leBytes 8 set.toNat) 0 8))) = _
  rw [set_leBytes]

theorem command_ownerAnnounce : messageCommand o f 6 (leBytes 8 set.toNat ++ [a, r, l, q] ++ leBytes 8 other.toNat)
    = some (.ownerAnnounce set a ⟨r, l, q⟩ other) := by
  show some (Instr.ownerAnnounce (BitVec.ofNat 64 (numAt (leBytes 8 set.toNat) 0 8)) a ⟨r, l, q⟩
    (BitVec.ofNat 64 (numAt (leBytes 8 other.toNat) 0 8))) = _
  rw [set_leBytes, set_leBytes]

theorem command_reference : messageCommand o f 7 ([a, b] ++ leBytes 4 w.toNat) = some (.reference o a b w) := by
  show some (Instr.reference o a b (wordAt (leBytes 4 w.toNat) 0)) = _
  rw [wordAt_leBytes]

theorem command_mixSends (records : List Word) :
    messageCommand o f 8 ([r, l, q, a] ++ records.flatMap fun y => leBytes 4 y.toNat)
      = some (.mixSends o ⟨r, l, q⟩ (a.getLsbD 0) (a.getLsbD 1) records) := by
  show some (Instr.mixSends o ⟨r, l, q⟩ (a.getLsbD 0) (a.getLsbD 1)
    ((chunks 4 (records.flatMap fun y => leBytes 4 y.toNat)).map fun y => wordAt y 0)) = _
  rw [chunks_words]

theorem command_mixSet :
    messageCommand o f 9 ([r, l, q, a, b] ++ leBytes 2 h.toNat ++ leBytes 2 i.toNat ++ leBytes 2 j.toNat)
      = some (.mixSet o ⟨r, l, q⟩ a b h i j) := by
  show some (Instr.mixSet o ⟨r, l, q⟩ a b (BitVec.ofNat 16 (numAt (leBytes 2 h.toNat) 0 2))
    (BitVec.ofNat 16 (numAt (leBytes 2 i.toNat) 0 2)) (BitVec.ofNat 16 (numAt (leBytes 2 j.toNat) 0 2))) = _
  rw [half_leBytes, half_leBytes, half_leBytes]

theorem command_mixCue :
    messageCommand o f 10 ([r, l, q] ++ leBytes 4 v.toNat ++ [a] ++ leBytes 4 w.toNat ++ leBytes 4 x.toNat)
      = some (.mixCue o ⟨r, l, q⟩ v a w x) := by
  show some (Instr.mixCue o ⟨r, l, q⟩ (wordAt (leBytes 4 v.toNat) 0) a (wordAt (leBytes 4 w.toNat) 0)
    (wordAt (leBytes 4 x.toNat) 0)) = _
  rw [wordAt_leBytes, wordAt_leBytes, wordAt_leBytes]

theorem command_talkOpen : messageCommand o f 12 ([a, b] ++ leBytes 4 w.toNat) = some (.talkOpen o a b w) := by
  show some (Instr.talkOpen o a b (wordAt (leBytes 4 w.toNat) 0)) = _
  rw [wordAt_leBytes]

theorem command_talkClose : messageCommand o f 13 ([a, b] ++ leBytes 4 w.toNat) = some (.talkClose o a b w) := by
  show some (Instr.talkClose o a b (wordAt (leBytes 4 w.toNat) 0)) = _
  rw [wordAt_leBytes]

theorem command_talkState :
    messageCommand o f 14 ([a, b] ++ leBytes 4 v.toNat ++ leBytes 4 w.toNat ++ leBytes 4 x.toNat)
      = some (.talkState o a b v w x) := by
  show some (Instr.talkState o a b (wordAt (leBytes 4 v.toNat) 0) (wordAt (leBytes 4 w.toNat) 0)
    (wordAt (leBytes 4 x.toNat) 0)) = _
  rw [wordAt_leBytes, wordAt_leBytes, wordAt_leBytes]

theorem command_loopRequest : messageCommand o f 15 ([r, l, q, a] ++ leBytes 4 w.toNat)
    = some (.loopRequest o ⟨r, l, q⟩ a w) := by
  show some (Instr.loopRequest o ⟨r, l, q⟩ a (wordAt (leBytes 4 w.toNat) 0)) = _
  rw [wordAt_leBytes]

end Command

end Sys2Proof.Machine

/-!
What a frame yields (O27): the frame computation of a mix (spec 06, R107, R109, R111, R112), and the sample of a channel (spec 09, R176).
-/

namespace Sys2Proof

/-- Two banks put together entry by entry, read. -/
theorem Bank.zipAll_get {n : Nat} {α β γ : Type} (f : α → β → γ) (v : Bank n α) (w : Bank n β) (i : Fin n) :
    (Bank.zipAll f v w).get i = f (v.get i) (w.get i) := by
  simp [Bank.get_eq, Bank.zipAll]

end Sys2Proof

namespace Sys2Proof.Machine

set_option Elab.async false

/-! ### Samples -/

theorem compensate_eq (x : Sample) (k : Nat) :
    compensate x k = toSample (max (-8388608) (min ((x.toInt * k + 524288) / 1048576) 8388607)) := rfl

/-- A played slot as a mix or a tracked output takes it: compensated where it is of the stage. -/
theorem mixSample_eq (frames : Bank 4 PlayedFrame) (table : Bank 64 TrackEntry) (o : Fin 4) (k : Fin 64) :
    mixSample frames table o k = if o = 0 then toSample (max (-8388608)
        (min ((((frames.get o).slots.get k).toInt * (table.get k).k + 524288) / 1048576) 8388607))
      else (frames.get o).slots.get k := by
  simp only [mixSample, compensate_eq, slotOf]

theorem trackedSlot_plain (s : State) (frames : Bank 4 PlayedFrame) (o : Fin 4) (k : Fin 64) :
    s.trackedSlot frames o k none = (frames.get o).slots.get k := rfl

theorem trackedSlot_tracked (s : State) (frames : Bank 4 PlayedFrame) (o u : Fin 4) (k : Fin 64) :
    s.trackedSlot frames o k (some u) = mixSample frames (s.gain.tracking.get u) o k := rfl

/-- The two fields of a source byte (R108). -/
theorem source_fields (b : Byte) : (sourceOrigin b).val = b.toNat / 64 ∧ (sourceSlot b).val = b.toNat % 64 := by
  have horigin : (sourceOrigin b).val = b.toNat >>> 6 % 2 ^ 2 := by
    simp [sourceOrigin]
  have hslot : (sourceSlot b).val = b.toNat >>> 0 % 2 ^ 6 := by
    simp [sourceSlot]
  have := b.isLt
  rw [horigin, hslot, Nat.shiftRight_eq_div_pow, Nat.shiftRight_zero]
  omega

/-! ### Channels (R176) -/

section Channel

variable {s : State} {frames : Bank 4 PlayedFrame}

/-- The fields of a channel descriptor. -/
theorem channel_fields {kind index origin tracking : Nat} (hk : kind < 256) (hi : index < 256) (ho : origin < 256)
    (ht : tracking < 256) {c : Word} (hc : c = BitVec.ofNat 32 (kind + 256 * index + 65536 * origin + 16777216 * tracking)) :
    channelKind c = kind ∧ channelIndex c = index ∧ channelOrigin c = origin ∧ channelTracking c = tracking := by
  have hnat : c.toNat = kind + 256 * index + 65536 * origin + 16777216 * tracking := by
    rw [hc, BitVec.toNat_ofNat, Nat.mod_eq_of_lt (by omega)]
  rw [channelKind, channelIndex, channelOrigin, channelTracking, hnat]
  omega

/-- A slot channel yields the slot, tracked by the table it names (R176). -/
theorem channelSample_slot (o : Fin 4) (k : Fin 64) {tracking : Nat} (ht : tracking < 256) :
    s.channelSample frames (BitVec.ofNat 32 (256 * k.val + 65536 * o.val + 16777216 * tracking))
      = s.trackedSlot frames o k (index? 4 tracking) := by
  have := k.isLt
  have := o.isLt
  obtain ⟨hkind, hindex, horigin, htrack⟩ := channel_fields (kind := 0) (index := k.val) (origin := o.val) (tracking := tracking)
    (by omega) (by omega) (by omega) ht (c := BitVec.ofNat 32 (256 * k.val + 65536 * o.val + 16777216 * tracking))
    (by rw [Nat.zero_add])
  simp only [State.channelSample, hkind, hindex, horigin, htrack, index_fin]

theorem channelSample_mix (m : Fin 32) : s.channelSample frames (BitVec.ofNat 32 (1 + 256 * m.val)) = s.mixOutput m := by
  have := m.isLt
  obtain ⟨hkind, hindex, -, -⟩ := channel_fields (kind := 1) (index := m.val) (origin := 0) (tracking := 0)
    (by omega) (by omega) (by omega) (by omega) (c := BitVec.ofNat 32 (1 + 256 * m.val)) rfl
  simp only [State.channelSample, hkind, hindex, index_fin]

theorem channelSample_input (n : Fin 64) : s.channelSample frames (BitVec.ofNat 32 (2 + 256 * n.val)) = s.localInput n := by
  have := n.isLt
  obtain ⟨hkind, hindex, -, -⟩ := channel_fields (kind := 2) (index := n.val) (origin := 0) (tracking := 0)
    (by omega) (by omega) (by omega) (by omega) (c := BitVec.ofNat 32 (2 + 256 * n.val)) rfl
  simp only [State.channelSample, hkind, hindex, index_fin]

end Channel

/-! ### The frame computation (R109, R111, R112) -/

section Compute

variable {x : Mix} {frames : Bank 4 PlayedFrame} {tables : Bank 4 (Bank 64 TrackEntry)} {holder : Option Present}

theorem mixSum_eq (frames : Bank 4 PlayedFrame) (table : Bank 64 TrackEntry) (sends : List Send) :
    mixSum frames table sends = (sends.map fun e =>
      (mixSample frames table (sourceOrigin e.source) (sourceSlot e.source)).toInt * e.level.value).sum := by
  rw [List.sum_eq_foldl, List.foldl_map]
  rfl

/-- Whether it is active or not, a mix drops the sends that have faded out (R109). -/
theorem compute_sends : (x.compute frames tables holder).sends
    = x.advance.sends.filter (fun e => !(e.fading && e.level.ramp.isNone && decide (e.level.value = 0))) := by
  unfold Mix.compute
  extract_lets
  split
  · rfl
  · rfl

theorem compute_inactive (h : x.active = false) : (x.compute frames tables holder).output = 0
    ∧ (x.compute frames tables holder).clips = x.clips := by
  have hoff : ¬ x.advance.active = true := ne_true_of_eq_false h
  simp only [Mix.compute, if_neg hoff]
  exact ⟨trivial, rfl⟩

/-- The talk part of a mix, by the holder of its insert (R112). -/
theorem talkSample_eq {table : Bank 64 TrackEntry} {code : Nat} {talk : Int}
    (h : holder = none ∧ talk = 0 ∨ (∃ p : Present, holder = some p ∧ (frames.get p.talker).talkSlot = none ∧ talk = 0)
      ∨ ∃ (p : Present) (k : Fin 64), holder = some p ∧ (frames.get p.talker).talkSlot = some k.val
        ∧ talk = ((mixSample frames table p.talker k).toInt * levelCoeff code + 524288) / 1048576) :
    talkSample frames table code holder = talk := by
  obtain ⟨rfl, rfl⟩ | ⟨p, rfl, hslot, rfl⟩ | ⟨p, k, rfl, hslot, rfl⟩ := h
  · rfl
  · simp only [talkSample, hslot]
  · simp only [talkSample, hslot, index_fin, round20]

/-- An active mix saturates its level, and counts a clip where that acts (R111, R112). -/
theorem compute_active {v : Int} (h : x.active = true) (hv : x.advance.level frames (tables.get x.controller) holder = v) :
    (x.compute frames tables holder).output = toSample (max (-8388608) (min v 8388607))
    ∧ (x.compute frames tables holder).clips
      = if v < -8388608 ∨ 8388607 < v then min (x.clips + 1) 65535 else x.clips := by
  have hon : x.advance.active = true := h
  have hv' : x.advance.level frames (tables.get x.advance.controller) holder = v := hv
  simp only [Mix.compute, if_pos hon, hv', outside, Bool.or_eq_true, decide_eq_true_eq]
  exact ⟨rfl, rfl⟩

end Compute

end Sys2Proof.Machine

/-!
The part of a playout that comes before the merge records play (O27): references, gains, mutes, ramps and cues that fall due (spec 05, R84,
R91, R92, R97, R98; spec 06, R119), with everything they leave as it was.
-/

namespace Sys2Proof.Machine

set_option Elab.async false

/-! ### Operations repeated -/

/-- What every single operation keeps, their repetition keeps. -/
theorem foldl_keeps {α : Type} {P : State → Prop} {f : State → α → State} (hf : ∀ (t : State) (x : α), P t → P (f t x))
    (xs : List α) {s : State} (h : P s) : P (xs.foldl f s) := by
  induction xs generalizing s with
  | nil => exact h
  | cons x xs ih => exact ih (hf s x h)

/-- Of operations repeated over a list without repetition, one alone concerns x: P holds until it and Q from it on. -/
theorem foldl_at {α : Type} [DecidableEq α] {P Q : State → Prop} {f : State → α → State} {x : α}
    (hbefore : ∀ (t : State) (y : α), y ≠ x → P t → P (f t y)) (hat : ∀ t : State, P t → Q (f t x))
    (hafter : ∀ (t : State) (y : α), y ≠ x → Q t → Q (f t y)) {xs : List α} (hnodup : xs.Nodup) (hx : x ∈ xs) {s : State}
    (h : P s) : Q (xs.foldl f s) := by
  induction xs generalizing s with
  | nil => cases hx
  | cons y ys ih =>
    obtain ⟨hy, hys⟩ := List.nodup_cons.mp hnodup
    by_cases he : y = x
    · subst he
      have hrest : ∀ zs : List α, y ∉ zs → ∀ t : State, Q t → Q (zs.foldl f t) := fun zs => by
        induction zs with
        | nil => exact fun _ _ ht => ht
        | cons z zs ihz =>
          intro hz t ht
          rw [List.mem_cons, not_or] at hz
          exact ihz hz.2 _ (hafter t z (Ne.symm hz.1) ht)
      exact hrest ys hy _ (hat s h)
    · exact ih hys ((List.mem_cons.mp hx).resolve_left (Ne.symm he)) (hbefore s y he h)

/-! ### Steps that end and messages that are sent -/

/-- A service unit that has another's everything but queues, room lists and held replies. -/
def Service.QueuesOnly (v w : Service) : Prop :=
  v = { w with
    urgent := v.urgent, normal := v.normal, urgentRoom := v.urgentRoom, normalRoom := v.normalRoom, replies := v.replies
    replyDrops := v.replyDrops }

theorem Service.QueuesOnly.trans {v w x : Service} (h1 : v.QueuesOnly w) (h2 : w.QueuesOnly x) : v.QueuesOnly x := by
  unfold Service.QueuesOnly at *
  rw [h1, h2]

theorem queuesOnly_enqueue (v : Service) (m : Message) : (v.enqueue m).QueuesOnly v := by
  unfold Service.enqueue
  split
  · rfl
  · rfl

theorem queuesOnly_setRoom (v : Service) (q : QueueClass) (xs : List Held) : (v.setRoom q xs).QueuesOnly v := by
  cases q
  · rfl
  · rfl

theorem queuesOnly_hold (v : Service) (q : QueueClass) (k : Held) : (v.hold q k).QueuesOnly v := by
  unfold Service.hold
  split
  · rfl
  · exact queuesOnly_setRoom v q _

theorem queuesOnly_reply (v : Service) (m : Message) : (v.reply m).QueuesOnly v := by
  unfold Service.reply
  extract_lets q
  split
  · exact queuesOnly_enqueue v m
  · split
    · exact Service.QueuesOnly.trans (show Service.QueuesOnly _ (v.setRoom q (v.room q ++ [.reply])) from rfl) (queuesOnly_setRoom v q _)
    · rfl

/-- Everything that the end of a step, a reply or an announcement can do: it changes lanes, fault log, queues and preamp words, and of
the inputs no setting. -/
structure Serves (t s : State) : Prop where
  only : t = { s with
    lanes := t.lanes, ram := t.ram, regs := { s.regs with attention := t.regs.attention }, faultLog := t.faultLog
    svc := { s.svc with
      urgent := t.svc.urgent, normal := t.svc.normal, urgentRoom := t.svc.urgentRoom, normalRoom := t.svc.normalRoom
      replies := t.svc.replies, replyDrops := t.svc.replyDrops }
    gain := { s.gain with table := t.gain.table, mirror := t.gain.mirror, lateGains := t.gain.lateGains }
    mix := { s.mix with records := t.mix.records }, conv := { s.conv with schedule := t.conv.schedule } }
  setting : ∀ n : Fin 64, t.setting n = s.setting n

section Serves

variable {t s r : State}

theorem Serves.refl (s : State) : Serves s s := ⟨rfl, fun _ => rfl⟩

theorem Serves.trans (h1 : Serves t s) (h2 : Serves s r) : Serves t r :=
  ⟨by rw [h1.only, h2.only], fun n => (h1.setting n).trans (h2.setting n)⟩

theorem Serves.ite {c : Prop} [Decidable c] {a b : State} (ha : Serves a r) (hb : Serves b r) : Serves (if c then a else b) r := by
  split
  · exact ha
  · exact hb

theorem Serves.worksOn {l : Fin 16} (ht : WorksOn l t s) (h : Serves s r) : Serves t r :=
  Serves.trans ⟨by rw [ht.only], fun _ => by rw [ht.only]; rfl⟩ h

theorem Serves.queues {v : Service} (hv : v.QueuesOnly s.svc) (h : Serves s r) : Serves { s with svc := v } r :=
  Serves.trans (s := s) ⟨congrArg (fun x => { s with svc := x }) hv, fun _ => rfl⟩ h

theorem Serves.pump {q : QueueClass} {k : Held} {wants : State → Bool} {send : State → State}
    (hs : ∀ t : State, Serves t r → Serves (send t) r) (n : Nat) (h : Serves s r) : Serves (pump q k wants send n s) r := by
  induction n generalizing s with
  | zero => exact h
  | succ n ih =>
    unfold Machine.pump
    exact Serves.ite (Serves.ite (ih (hs s h)) (Serves.queues (queuesOnly_hold _ q k) h)) (Serves.queues (queuesOnly_setRoom _ q _) h)

theorem serves_reply {m : Message} (h : Serves s r) : Serves (s.reply m) r := Serves.queues (queuesOnly_reply s.svc m) h

theorem serves_enqueue {m : Message} (h : Serves s r) : Serves (s.enqueue m) r := Serves.queues (queuesOnly_enqueue s.svc m) h

theorem serves_endStep {l : Fin 16} {st : Status} {d : Nat} {n : Word} (h : Serves s r) : Serves (s.endStep l st d n) r :=
  Serves.worksOn (worksOn_endStep s l st d n) h

theorem serves_putOp {l : Fin 16} {op : Op} (h : Serves s r) : Serves (s.putOp l op) r := by
  unfold State.putOp
  split
  · exact Serves.worksOn (worksOn_setLane s l _) h
  · exact h

theorem serves_store {a : Nat} {bs : List Byte} (h : Serves s r) : Serves (s.store a bs) r := Serves.worksOn (worksOn_store 0 s a bs) h

theorem serves_attend {i : Nat} (h : Serves s r) : Serves (s.attend i) r := Serves.worksOn (worksOn_attend 0 s i) h

theorem serves_fault {k : FaultKind} {p : Option Port} {o n : Option (Fin 4)} {w : List Word} (h : Serves s r) :
    Serves (s.fault k p o n w) r :=
  have hlog : ∀ x : ListRec, Serves { s with faultLog := x } r := fun _ => Serves.trans ⟨rfl, fun _ => rfl⟩ h
  Serves.ite (serves_attend (serves_store (serves_store (hlog _)))) (serves_store (hlog _))

/-! An input's table or mirror entry, its setting kept. -/

theorem serves_modInput {n : Fin 64} {f : InputEntry → InputEntry} (hf : ∀ x : InputEntry, (f x).setting = x.setting)
    (h : Serves s r) : Serves (s.modInput n f) r := by
  refine Serves.trans ⟨rfl, fun k => ?_⟩ h
  have htable : ((s.modInput n f).gain.table.get k).setting = (s.gain.table.get k).setting := by
    rw [State.modInput_gain, Bank.update_get]
    split
    · exact hf _
    · rfl
  exact if_congr Iff.rfl htable rfl

theorem serves_modMirror {n : Fin 64} {f : MirrorEntry → MirrorEntry} (hf : ∀ x : MirrorEntry, (f x).setting = x.setting)
    (h : Serves s r) : Serves (s.modMirror n f) r := by
  refine Serves.trans ⟨rfl, fun k => ?_⟩ h
  have hmirror : ((s.modMirror n f).gain.mirror.get k).setting = (s.gain.mirror.get k).setting := by
    rw [State.modMirror_gain, Bank.update_get]
    split
    · exact hf _
    · rfl
  exact if_congr Iff.rfl rfl hmirror

/-! SET INPUT steps (R102). -/

theorem serves_writeOutcomes {os ns : List InputStep} (h : Serves s r) : Serves (s.writeOutcomes os ns) r := by
  induction os generalizing s ns with
  | nil => exact h
  | cons o os ih =>
    cases ns with
    | nil => exact h
    | cons n ns =>
      unfold State.writeOutcomes
      refine ih ?_
      split
      · exact serves_store h
      · exact h

theorem serves_settleEntries {l : Fin 16} {f : Nat → InputStep → InputStep} (h : Serves s r) : Serves (s.settleEntries l f) r := by
  unfold State.settleEntries
  split
  · exact Serves.ite (serves_endStep (serves_putOp (serves_writeOutcomes h))) (serves_putOp (serves_writeOutcomes h))
  · exact h

theorem serves_endSwitched {n : Fin 64} {f : Word} (h : Serves s r) : Serves (s.endSwitched n f) r :=
  foldl_keeps (P := fun t => Serves t r) (fun _ _ ht => serves_settleEntries ht) _ h

theorem serves_endApplied {q : Requester} (h : Serves s r) : Serves (s.endApplied q) r := by
  cases q with
  | remote => exact h
  | lane => exact serves_settleEntries h
  | forgotten => exact h

theorem serves_refuse {q : Requester} {n : Fin 64} {st : Status} (h : Serves s r) : Serves (s.refuse q n st) r := by
  cases q with
  | remote => exact serves_reply h
  | lane => exact serves_settleEntries h
  | forgotten => exact h

/-! Announcements, waiting changes, mutes and late gains (R84, R90 to R92). -/

theorem serves_announce {n : Fin 64} (h : Serves s r) : Serves (s.announce n) r := by
  unfold State.announce
  extract_lets e f
  split
  · exact h
  · extract_lets mutes s1 s2 word
    have h2 : Serves s2 r := serves_enqueue (serves_modInput (fun _ => rfl) h)
    exact Serves.trans ⟨rfl, fun _ => rfl⟩ h2

theorem serves_pumpPending {n : Fin 64} (h : Serves s r) : Serves (s.pumpPending n) r := Serves.pump (fun _ ht => serves_announce ht) _ h

theorem serves_promote {n : Fin 64} (h : Serves s r) : Serves (s.promote n) r := by
  unfold State.promote
  extract_lets e s1
  split
  · exact h
  · have h1 : Serves s1 r := serves_modInput (fun _ => rfl) h
    exact Serves.ite (serves_pumpPending (serves_modInput (fun _ => rfl) h1)) (serves_refuse h1)

theorem serves_endMute {n : Fin 64} (h : Serves s r) : Serves (s.endMute n) r :=
  Serves.ite (serves_modInput (fun _ => rfl) h) (serves_modMirror (fun _ => rfl) h)

theorem serves_endMutes (h : Serves s r) : Serves s.endMutes r :=
  foldl_keeps (P := fun t => Serves t r) (fun _ _ ht => Serves.ite (serves_endMute ht) ht) _ h

theorem serves_lateGain {n : Fin 64} {f : Word} (h : Serves s r) : Serves (s.lateGain n f) r :=
  serves_fault (Serves.trans ⟨rfl, fun _ => rfl⟩ h)

/-! Cue requests (R119). -/

theorem serves_setRecord {k : Fin 16} {x : Option CueRequest} (h : Serves s r) :
    Serves { s with mix.records := s.mix.records.set k x } r := Serves.trans ⟨rfl, fun _ => rfl⟩ h

theorem serves_finishRecord {k : Fin 16} (h : Serves s r) : Serves (s.finishRecord k) r := by
  unfold State.finishRecord
  split
  · exact h
  · refine Serves.ite h ?_
    extract_lets _ s1
    have h1 : Serves s1 r := serves_setRecord h
    split
    · exact serves_endStep h1
    · exact serves_reply h1
    · exact h1

theorem serves_settleCue {k : Fin 16} {f : MixAnswer → MixAnswer} (h : Serves s r) : Serves (s.settleCue k f) r := by
  unfold State.settleCue
  split
  · exact h
  · exact serves_finishRecord (serves_setRecord h)

/-- An input's setting and tracking entries stand where steps end and messages are sent. -/
theorem Serves.track (h : Serves t s) (u : Fin 4) (n : Fin 64) : t.track u n = s.track u n := by
  rw [h.only]
  rfl

theorem Serves.mixRec (h : Serves t s) (m : Fin 32) : t.mixRec m = s.mixRec m := by
  rw [h.only]
  rfl

end Serves

/-! ### What comes before the records play leaves the rest as it was -/

/-- The first state has the second's everything but what switches, ramps and cues that fall due can change. -/
structure Readies (t s : State) : Prop where
  only : t = { s with
    lanes := t.lanes, ram := t.ram, regs := { s.regs with attention := t.regs.attention }, faultLog := t.faultLog
    svc := { s.svc with
      urgent := t.svc.urgent, normal := t.svc.normal, urgentRoom := t.svc.urgentRoom, normalRoom := t.svc.normalRoom
      replies := t.svc.replies, replyDrops := t.svc.replyDrops }
    gain := t.gain, mix := t.mix, conv := { s.conv with schedule := t.conv.schedule } }

section Readies

variable {t s r : State}

theorem Readies.refl (s : State) : Readies s s := ⟨rfl⟩

theorem Readies.trans (h1 : Readies t s) (h2 : Readies s r) : Readies t r := ⟨by rw [h1.only, h2.only]⟩

theorem Serves.readies (h : Serves t s) : Readies t s := ⟨by rw [h.only]⟩

/-- What a repeated operation does. -/
theorem Readies.foldl {α : Type} {f : State → α → State} (hf : ∀ (t : State) (x : α), Readies (f t x) t) (xs : List α)
    (s : State) : Readies (xs.foldl f s) s :=
  foldl_keeps (P := fun t => Readies t s) (fun t x ht => (hf t x).trans ht) xs (.refl s)

end Readies

/-! ### References (R97, R98) -/

section References

variable {t s : State}

/-- The first state has the second's everything but tracking tables. -/
structure TracksOnly (t s : State) : Prop where
  only : t = { s with gain := { s.gain with tracking := t.gain.tracking } }

theorem TracksOnly.refl (s : State) : TracksOnly s s := ⟨rfl⟩

theorem TracksOnly.trans {r : State} (h1 : TracksOnly t s) (h2 : TracksOnly s r) : TracksOnly t r := ⟨by rw [h1.only, h2.only]⟩

theorem TracksOnly.readies (h : TracksOnly t s) : Readies t s := ⟨by rw [h.only]⟩

theorem TracksOnly.setting (h : TracksOnly t s) (n : Fin 64) : t.setting n = s.setting n := by
  rw [h.only]
  rfl

theorem TracksOnly.mixRec (h : TracksOnly t s) (m : Fin 32) : t.mixRec m = s.mixRec m := by
  rw [h.only]
  rfl

/-- A tracking entry changed, read. -/
theorem modTrack_track (s : State) (u v : Fin 4) (n k : Fin 64) (f : TrackEntry → TrackEntry) :
    (s.modTrack u n f).track v k = if v = u ∧ k = n then f (s.track v k) else s.track v k := by
  rw [State.track, State.modTrack_gain, Bank.update_get]
  by_cases hv : v = u
  · rw [if_pos hv, Bank.update_get]
    simp only [hv, true_and]
    rfl
  · rw [if_neg hv, if_neg fun h => hv h.1]
    rfl

/-- The reference of one entry, applied if it is due. -/
def State.refStep (s : State) (u : Fin 4) (n : Fin 64) : State := if s.referenceDue u n then s.applyReference u n else s

/-- What a tracking entry is once a reference due has been applied. -/
def State.referenced (s : State) (u : Fin 4) (n : Fin 64) : TrackEntry :=
  if s.referenceDue u n then
    match (s.track u n).scheduled with
    | none => s.track u n
    | some r => (s.track u n).onReference (decide (n ∈ s.gain.switched)) (s.setting n).effective r.value
  else s.track u n

theorem tracksOnly_refStep (s : State) (u : Fin 4) (n : Fin 64) : TracksOnly (s.refStep u n) s := by
  unfold State.refStep State.applyReference
  split
  · split
    · exact ⟨rfl⟩
    · exact ⟨rfl⟩
  · exact ⟨rfl⟩

section Scheduled

variable {u : Fin 4} {n : Fin 64}

theorem applyReference_none (h : (s.track u n).scheduled = none) : s.applyReference u n = s := by
  simp only [State.applyReference, h]

theorem applyReference_some {r : ScheduledRef} (h : (s.track u n).scheduled = some r) : s.applyReference u n
    = s.modTrack u n fun t => t.onReference (decide (n ∈ s.gain.switched)) (s.setting n).effective r.value := by
  simp only [State.applyReference, h]

theorem referenced_none (h : (s.track u n).scheduled = none) : s.referenced u n = s.track u n := by
  simp only [State.referenced, h, ite_self]

theorem referenced_some {r : ScheduledRef} (hdue : s.referenceDue u n = true) (h : (s.track u n).scheduled = some r) :
    s.referenced u n = (s.track u n).onReference (decide (n ∈ s.gain.switched)) (s.setting n).effective r.value := by
  simp only [State.referenced, hdue, if_true, h]

theorem refStep_track_self : (s.refStep u n).track u n = s.referenced u n := by
  by_cases hdue : s.referenceDue u n = true
  · rw [State.refStep, if_pos hdue]
    cases h : (s.track u n).scheduled with
    | none => rw [applyReference_none h, referenced_none h]
    | some r => rw [applyReference_some h, referenced_some hdue h, modTrack_track, if_pos ⟨rfl, rfl⟩]
  · rw [State.refStep, State.referenced, if_neg hdue, if_neg hdue]

end Scheduled

theorem referenced_eq {u : Fin 4} {n : Fin 64} {x : TrackEntry} (h : s.referenceDue u n = false ∧ x = s.track u n
    ∨ ∃ r : ScheduledRef, s.referenceDue u n = true ∧ (s.track u n).scheduled = some r
      ∧ x = (s.track u n).onReference (decide (n ∈ s.gain.switched)) (s.setting n).effective r.value) : s.referenced u n = x := by
  obtain ⟨hdue, rfl⟩ | ⟨r, hdue, hr, rfl⟩ := h
  · exact if_neg (ne_true_of_eq_false hdue)
  · exact referenced_some hdue hr

theorem refStep_track_other {u v : Fin 4} {n k : Fin 64} (h : ¬ (v = u ∧ k = n)) : (s.refStep u n).track v k = s.track v k := by
  unfold State.refStep State.applyReference
  split
  · split
    · rfl
    · rw [modTrack_track, if_neg h]
  · rfl

theorem referenced_congr (h : TracksOnly t s) {u : Fin 4} {n : Fin 64} (he : t.track u n = s.track u n) :
    t.referenced u n = s.referenced u n := by
  have hdue : t.referenceDue u n = s.referenceDue u n := by
    unfold State.referenceDue State.dueNow State.playoutFrame
    rw [he, h.only]
  have hswitched : t.gain.switched = s.gain.switched := by rw [h.only]
  rw [State.referenced, State.referenced, hdue, he, hswitched, h.setting]

theorem applyReferences_eq (s : State) :
    s.applyReferences = (indices 4).foldl (fun st u => (indices 64).foldl (fun st' n => st'.refStep u n) st) s := rfl

theorem tracksOnly_row (u : Fin 4) (s : State) : TracksOnly ((indices 64).foldl (fun st n => st.refStep u n) s) s :=
  foldl_keeps (P := fun t => TracksOnly t s) (fun t n ht => (tracksOnly_refStep t u n).trans ht) _ (.refl s)

theorem tracksOnly_applyReferences (s : State) : TracksOnly s.applyReferences s := by
  rw [applyReferences_eq]
  exact foldl_keeps (P := fun t => TracksOnly t s) (fun t u ht => (tracksOnly_row u t).trans ht) _ (.refl s)

theorem row_track_other {u v : Fin 4} (h : v ≠ u) (n : Fin 64) :
    ((indices 64).foldl (fun st k => st.refStep u k) s).track v n = s.track v n :=
  foldl_keeps (P := fun t => t.track v n = s.track v n)
    (fun _ _ ht => (refStep_track_other fun hv => h hv.1).trans ht) _ rfl

theorem row_track_self (u : Fin 4) (n : Fin 64) :
    ((indices 64).foldl (fun st k => st.refStep u k) s).track u n = s.referenced u n :=
  foldl_at (P := fun t => TracksOnly t s ∧ t.track u n = s.track u n) (Q := fun t => t.track u n = s.referenced u n) (x := n)
    (fun t k hk ⟨ht, he⟩ => ⟨(tracksOnly_refStep t u k).trans ht, (refStep_track_other fun h => hk h.2.symm).trans he⟩)
    (fun _ ⟨ht, he⟩ => refStep_track_self.trans (referenced_congr ht he))
    (fun _ _ hk ht => (refStep_track_other fun h => hk h.2.symm).trans ht) (indices_nodup 64) (mem_indices n) ⟨.refl s, rfl⟩

theorem applyReferences_track (s : State) (u : Fin 4) (n : Fin 64) : s.applyReferences.track u n = s.referenced u n :=
  foldl_at (P := fun t => TracksOnly t s ∧ t.track u n = s.track u n) (Q := fun t => t.track u n = s.referenced u n) (x := u)
    (fun t v hv ⟨ht, he⟩ => ⟨(tracksOnly_row v t).trans ht, (row_track_other hv.symm n).trans he⟩)
    (fun _ ⟨ht, he⟩ => (row_track_self u n).trans (referenced_congr ht he))
    (fun _ _ hv ht => (row_track_other hv.symm n).trans ht) (indices_nodup 4) (mem_indices u) ⟨.refl s, rfl⟩

end References

/-! ### Gains (R84, R91, R97) -/

section Gains

variable {t s r : State} {n : Fin 64}

/-- What an entry is once the effective gain of its input is f, where it was e (R97). -/
def TrackEntry.followed (x : TrackEntry) (e f : Int) : TrackEntry := if f = e then x else x.onGain f

/-- Everything that the change of gain of one input can do. -/
structure Switches (n : Fin 64) (t s : State) : Prop where
  readies : Readies t s
  mixes : ∀ m : Fin 32, t.mixRec m = s.mixRec m
  setting : ∀ k : Fin 64, k ≠ n → t.setting k = s.setting k
  track : ∀ (u : Fin 4) (k : Fin 64), k ≠ n → t.track u k = s.track u k
  follows : ∀ u : Fin 4, t.track u n = (s.track u n).followed (s.setting n).effective (t.setting n).effective

theorem Switches.refl (n : Fin 64) (s : State) : Switches n s s :=
  ⟨.refl s, fun _ => rfl, fun _ _ => rfl, fun _ _ _ => rfl, fun _ => (if_pos rfl).symm⟩

/-- The end of steps and the sending of messages come to no change of gain. -/
theorem Switches.serves (ht : Serves t s) (h : Switches n s r) : Switches n t r where
  readies := ht.readies.trans h.readies
  mixes m := (ht.mixRec m).trans (h.mixes m)
  setting k hk := (ht.setting k).trans (h.setting k hk)
  track u k hk := (ht.track u k).trans (h.track u k hk)
  follows u := by rw [ht.track, h.follows, ht.setting]

/-- The tracking entries of an input whose gain has moved. -/
theorem gainMoved_track (s : State) (n k : Fin 64) (u : Fin 4) : (s.gainMoved n).track u k
    = if k = n then (s.track u k).onGain (s.setting n).effective else s.track u k := by
  have hget : (s.gainMoved n).track u k
      = (Bank.update (s.gain.tracking.get u) n fun x => x.onGain (s.setting n).effective).get k :=
    congrArg (Vector.get · k) (Bank.mapAll_get _ _ u)
  rw [hget, Bank.update_get]
  rfl

/-- A setting taken, and every entry of its input moved where the effective gain changes. -/
theorem Switches.taken (hr : Readies t s) (hm : ∀ m : Fin 32, t.mixRec m = s.mixRec m)
    (hs : ∀ k : Fin 64, k ≠ n → t.setting k = s.setting k) (ht : ∀ (u : Fin 4) (k : Fin 64), t.track u k = s.track u k) :
    Switches n (if (t.setting n).effective = (s.setting n).effective then t else t.gainMoved n) s := by
  split
  next he => exact ⟨hr, hm, hs, fun u k _ => ht u k, fun u => (ht u n).trans (if_pos he).symm⟩
  next he =>
    refine ⟨Readies.trans ⟨rfl⟩ hr, hm, hs, fun u k hk => ?_, fun u => ?_⟩
    · rw [gainMoved_track, if_neg hk, ht]
    · rw [gainMoved_track, if_pos rfl, ht]
      exact (if_neg he).symm

theorem setting_stage (h : s.isStage = true) (k : Fin 64) : s.setting k = (s.gain.table.get k).setting := if_pos h

theorem setting_desk (h : s.isStage = false) (k : Fin 64) : s.setting k = (s.gain.mirror.get k).setting :=
  if_neg (ne_true_of_eq_false h)

theorem modInput_setting (h : s.isStage = true) (n k : Fin 64) (f : InputEntry → InputEntry) :
    (s.modInput n f).setting k = if k = n then (f (s.gain.table.get k)).setting else s.setting k := by
  rw [setting_stage (s := s.modInput n f) h, State.modInput_gain, Bank.update_get, setting_stage h]
  split
  · rfl
  · rfl

theorem modMirror_setting (h : s.isStage = false) (n k : Fin 64) (f : MirrorEntry → MirrorEntry) :
    (s.modMirror n f).setting k = if k = n then (f (s.gain.mirror.get k)).setting else s.setting k := by
  rw [setting_desk (s := s.modMirror n f) h, State.modMirror_gain, Bank.update_get, setting_desk h]
  split
  · rfl
  · rfl

theorem switches_applyPending (h : s.isStage = true) (n : Fin 64) : Switches n (s.applyPending n) s := by
  unfold State.applyPending
  extract_lets e
  split
  · exact .refl n s
  next c _ =>
    extract_lets s1 s2
    have hset : ∀ k : Fin 64, s1.setting k = if k = n then c.setting else s.setting k := fun k => modInput_setting h n k _
    have h2 : Switches n s2 s := by
      have htaken : Switches n (if (s1.setting n).effective = (s.setting n).effective then s1 else s1.gainMoved n) s :=
        Switches.taken ⟨rfl⟩ (fun _ => rfl) (fun k hk => (hset k).trans (if_neg hk)) fun _ _ => rfl
      rwa [hset, if_pos rfl, setting_stage h] at htaken
    exact Switches.serves (serves_promote (serves_endApplied (Serves.refl s2))) h2

theorem switches_applyScheduled (h : s.isStage = false) (n : Fin 64) : Switches n (s.applyScheduled n) s := by
  unfold State.applyScheduled
  extract_lets m
  split
  · exact .refl n s
  next c _ =>
    extract_lets moved s1 s2 s3
    have hset : ∀ k : Fin 64, s1.setting k = if k = n then c.setting else s.setting k := fun k => modMirror_setting h n k _
    have h2 : Switches n s2 s := by
      have htaken : Switches n (if (s1.setting n).effective = (s.setting n).effective then s1 else s1.gainMoved n) s :=
        Switches.taken ⟨rfl⟩ (fun _ => rfl) (fun k hk => (hset k).trans (if_neg hk)) fun _ _ => rfl
      rw [hset, if_pos rfl, setting_desk h] at htaken
      simpa only [s2, moved, decide_eq_true_eq, ne_eq, ite_not] using htaken
    exact Switches.serves (serves_endSwitched (Serves.ite (serves_lateGain (Serves.refl s2)) (Serves.refl s2))) h2

/-- The change of gain of one input, applied if it is due. -/
def State.gainStep (s : State) (n : Fin 64) : State :=
  if s.isStage then (if s.pendingDue n then s.applyPending n else s)
  else if s.scheduledDue n then s.applyScheduled n else s

theorem switches_gainStep (s : State) (n : Fin 64) : Switches n (s.gainStep n) s := by
  unfold State.gainStep
  split
  next h =>
    split
    · exact switches_applyPending h n
    · exact .refl n s
  next h =>
    split
    · exact switches_applyScheduled (Bool.eq_false_of_not_eq_true h) n
    · exact .refl n s

theorem applyGains_eq (s : State) : s.applyGains = (indices 64).foldl State.gainStep s := rfl

theorem applyGains_readies (s : State) : Readies s.applyGains s := by
  rw [applyGains_eq]
  exact Readies.foldl (fun t n => (switches_gainStep t n).readies) _ s

theorem applyGains_mixRec (s : State) (m : Fin 32) : s.applyGains.mixRec m = s.mixRec m :=
  foldl_keeps (P := fun t => t.mixRec m = s.mixRec m) (fun t n ht => ((switches_gainStep t n).mixes m).trans ht) _ rfl

/-- Every tracking entry of an input follows its effective gain (R97). -/
theorem applyGains_track (s : State) (u : Fin 4) (n : Fin 64) : s.applyGains.track u n
    = (s.track u n).followed (s.setting n).effective (s.applyGains.setting n).effective :=
  foldl_at (P := fun t => t.setting n = s.setting n ∧ t.track u n = s.track u n)
    (Q := fun t => t.track u n = (s.track u n).followed (s.setting n).effective (t.setting n).effective) (x := n)
    (fun t k hk ⟨hset, htrack⟩ => ⟨((switches_gainStep t k).setting n hk.symm).trans hset,
      ((switches_gainStep t k).track u n hk.symm).trans htrack⟩)
    (fun t ⟨hset, htrack⟩ => by rw [(switches_gainStep t n).follows u, hset, htrack])
    (fun t k hk ht => by rw [(switches_gainStep t k).track u n hk.symm, (switches_gainStep t k).setting n hk.symm, ht])
    (indices_nodup 64) (mem_indices n) ⟨rfl, rfl⟩

end Gains

/-! ### Ramps (R97) -/

section Ramps

variable {s : State}

theorem advanceRamps_track (s : State) (u : Fin 4) (n : Fin 64) :
    s.advanceRamps.track u n = (s.track u n).advance (s.setting n).effective := by
  have hget : s.advanceRamps.track u n = (Bank.zipAll (fun (t : TrackEntry) e => t.advance e) (s.gain.tracking.get u)
      (Bank.mapNum (fun i _ => match index? 64 i with
        | some n => (s.setting n).effective
        | none => 0) (Vector.replicate 64 (0 : Int)))).get n := congrArg (Vector.get · n) (Bank.mapAll_get _ _ u)
  rw [hget, Bank.zipAll_get, Bank.mapNum_get]
  simp only [index_fin]
  rfl

theorem advanceRamps_setting (s : State) (n : Fin 64) : s.advanceRamps.setting n = s.setting n := rfl

theorem advanceRamps_mixRec (s : State) (m : Fin 32) : s.advanceRamps.mixRec m = s.mixRec m := rfl

theorem advanceRamps_readies (s : State) : Readies s.advanceRamps s := ⟨rfl⟩

end Ramps

/-! ### Cues (R119) -/

section Cues

variable {t s : State} {m : Fin 32}

/-- Everything that a due cue of one mix can do. -/
structure Cues (m : Fin 32) (t s : State) : Prop where
  readies : Readies t s
  mixes : ∀ k : Fin 32, k ≠ m → t.mixRec k = s.mixRec k
  setting : ∀ n : Fin 64, t.setting n = s.setting n
  track : ∀ (u : Fin 4) (n : Fin 64), t.track u n = s.track u n

theorem Cues.refl (m : Fin 32) (s : State) : Cues m s s := ⟨.refl s, fun _ _ => rfl, fun _ => rfl, fun _ _ => rfl⟩

theorem Cues.serves {r : State} (ht : Serves t s) (h : Cues m s r) : Cues m t r where
  readies := ht.readies.trans h.readies
  mixes k hk := (ht.mixRec k).trans (h.mixes k hk)
  setting n := (ht.setting n).trans (h.setting n)
  track u n := (ht.track u n).trans (h.track u n)

theorem Cues.modMix {r : State} (f : Mix → Mix) (h : Cues m s r) : Cues m (s.modMix m f) r where
  readies := Readies.trans ⟨rfl⟩ h.readies
  mixes k hk := ((Bank.update_get _ _ _ _).trans (if_neg hk)).trans (h.mixes k hk)
  setting n := h.setting n
  track u n := h.track u n

theorem cues_takeCue (s : State) (m : Fin 32) : Cues m (s.takeCue m) s := by
  unfold State.takeCue
  split
  · exact .refl m s
  · extract_lets s1
    have h1 : Cues m s1 s := Cues.modMix _ (.refl m s)
    split
    · split
      · exact Cues.serves (serves_settleCue (Serves.refl _)) (Cues.modMix _ h1)
      · exact Cues.serves (serves_settleCue (Serves.refl _)) h1
    · exact Cues.serves (serves_settleCue (Serves.refl _)) h1

/-- The cue of one mix, taken if it is due. -/
def State.cueStep (s : State) (m : Fin 32) : State := if s.cueIsDue m then s.takeCue m else s

theorem cues_cueStep (s : State) (m : Fin 32) : Cues m (s.cueStep m) s := by
  unfold State.cueStep
  split
  · exact cues_takeCue s m
  · exact .refl m s

/-- A mix without a cue is left. -/
theorem cueStep_none (h : (s.mixRec m).cue = none) : s.cueStep m = s :=
  if_neg (by simp only [State.cueIsDue, h, Bool.false_eq_true, not_false_eq_true])

theorem takeCues_eq (s : State) : s.takeCues = (indices 32).foldl State.cueStep s := rfl

theorem takeCues_readies (s : State) : Readies s.takeCues s := Readies.foldl (fun t m => (cues_cueStep t m).readies) _ s

theorem takeCues_setting (s : State) (n : Fin 64) : s.takeCues.setting n = s.setting n :=
  foldl_keeps (P := fun t => t.setting n = s.setting n) (fun t m ht => ((cues_cueStep t m).setting n).trans ht) _ rfl

theorem takeCues_track (s : State) (u : Fin 4) (n : Fin 64) : s.takeCues.track u n = s.track u n :=
  foldl_keeps (P := fun t => t.track u n = s.track u n) (fun t m ht => ((cues_cueStep t m).track u n).trans ht) _ rfl

theorem takeCues_mixRec (h : (s.mixRec m).cue = none) : s.takeCues.mixRec m = s.mixRec m := by
  rw [takeCues_eq]
  refine foldl_keeps (P := fun t => t.mixRec m = s.mixRec m) (fun t k ht => ?_) _ rfl
  by_cases hk : m = k
  · subst hk
    rw [cueStep_none (ht ▸ h), ht]
  · rw [(cues_cueStep t k).mixes m hk, ht]

end Cues

/-! ### The state the records play in -/

section Before

variable {s : State}

/-- A state that has the samples of a TDM frame (spec 10, R186). -/
def State.hears (s : State) (samples : Bank 64 Sample) : State := { s with conv := { s.conv with tdmIn := samples } }

section Hears

variable (samples : Bank 64 Sample)

theorem hears_setting (n : Fin 64) : (s.hears samples).setting n = s.setting n := rfl

theorem hears_mixRec (m : Fin 32) : (s.hears samples).mixRec m = s.mixRec m := rfl

theorem hears_referenced (u : Fin 4) (n : Fin 64) : (s.hears samples).referenced u n = s.referenced u n := rfl

end Hears

theorem beforePlayout_eq (s : State) (tdm : List Sample) :
    s.beforePlayout tdm = (s.hears (tdmSamples tdm)).applyReferences.applyGains.endMutes.advanceRamps.takeCues := rfl

theorem beforePlayout_readies (s : State) (tdm : List Sample) : Readies (s.beforePlayout tdm) (s.hears (tdmSamples tdm)) := by
  rw [beforePlayout_eq]
  exact (takeCues_readies _).trans ((advanceRamps_readies _).trans ((serves_endMutes (Serves.refl _)).readies.trans
    ((applyGains_readies _).trans (tracksOnly_applyReferences _).readies)))

/-- A mix without a cue is as it was. -/
theorem beforePlayout_mixRec {m : Fin 32} (h : (s.mixRec m).cue = none) (tdm : List Sample) :
    (s.beforePlayout tdm).mixRec m = s.mixRec m := by
  have hmutes := serves_endMutes (Serves.refl (s.hears (tdmSamples tdm)).applyReferences.applyGains)
  have hramps : (s.hears (tdmSamples tdm)).applyReferences.applyGains.endMutes.advanceRamps.mixRec m = s.mixRec m := by
    rw [advanceRamps_mixRec, hmutes.mixRec, applyGains_mixRec, (tracksOnly_applyReferences _).mixRec, hears_mixRec]
  rw [beforePlayout_eq, takeCues_mixRec (hramps.symm ▸ h), hramps]

/-- Every tracking entry takes a reference due, follows its effective gain, and advances by one step of its ramp (R97). -/
theorem beforePlayout_track (s : State) (tdm : List Sample) (u : Fin 4) (n : Fin 64) : (s.beforePlayout tdm).track u n
    = ((s.referenced u n).followed (s.setting n).effective ((s.beforePlayout tdm).setting n).effective).advance
        ((s.beforePlayout tdm).setting n).effective := by
  have hmutes := serves_endMutes (Serves.refl (s.hears (tdmSamples tdm)).applyReferences.applyGains)
  have hset : (s.beforePlayout tdm).setting n = (s.hears (tdmSamples tdm)).applyReferences.applyGains.setting n := by
    rw [beforePlayout_eq, takeCues_setting, advanceRamps_setting, hmutes.setting]
  rw [hset, beforePlayout_eq, takeCues_track, advanceRamps_track, hmutes.track, hmutes.setting, applyGains_track,
    applyReferences_track, (tracksOnly_applyReferences _).setting, hears_referenced, hears_setting]

/-- An entry whose effective gain has changed has no ramp left to advance (R97). -/
theorem followed_advance_same {x : TrackEntry} {e f : Int} (h : f = e) : (x.followed e f).advance f = x.advance e := by
  rw [TrackEntry.followed, if_pos h, h]

theorem followed_advance_moved {x : TrackEntry} {e f : Int} (h : f ≠ e) : (x.followed e f).advance f = x.onGain f := by
  rw [TrackEntry.followed, if_neg h]
  rfl

end Before

end Sys2Proof.Machine

/-!
A playout (O27): the messages its streams complete (spec 04, R64, R68 to R70), and what it leaves in each block (spec 03, R45, R49, R59 to
R61; spec 05, R97; spec 06, R111; spec 09, R177).
-/

namespace Sys2Proof.Machine

set_option Elab.async false

/-! ### Messages taken (R70) -/

section Messages

variable {s : State} {o : Fin 4}

/-- Whether a message of an origin is usable here. -/
def State.takes (s : State) (o : Fin 4) (m : Nat × List Byte) : Bool := usable s.isStage o m.1 m.2.length

/-- A state with messages of an origin taken: the usable ones counted and waiting as commands, the others counted. -/
def State.completes (s : State) (o : Fin 4) (ms : List (Nat × List Byte)) : State := { s with
  svc := { s.svc with
    taken := Bank.update s.svc.taken o (· + BitVec.ofNat 32 (ms.filter (s.takes o)).length)
    unusable := Bank.update s.svc.unusable o (· + BitVec.ofNat 32 (ms.filter fun m => !s.takes o m).length) }
  inbox := s.inbox ++ (ms.filter (s.takes o)).filterMap fun m => messageCommand o s.clock.frame m.1 m.2 }

theorem update_add_zero (v : Bank 4 Word) (i : Fin 4) : Bank.update v i (· + BitVec.ofNat 32 0) = v := by
  apply Bank.ext_get
  intro j
  rw [Bank.update_get]
  split
  · exact BitVec.add_zero _
  · rfl

theorem update_add_succ (v : Bank 4 Word) (i : Fin 4) (n : Nat) :
    Bank.update (Bank.update v i (· + 1)) i (· + BitVec.ofNat 32 n) = Bank.update v i (· + BitVec.ofNat 32 (n + 1)) := by
  rw [Bank.update_update]
  refine congrArg (Bank.update v i) (funext fun x => ?_)
  rw [add_assoc, BitVec.ofNat_add, add_comm (1 : Word)]
  rfl

theorem completes_nil (s : State) (o : Fin 4) : s.completes o [] = s := by
  simp only [State.completes, List.filter_nil, List.length_nil, update_add_zero, List.filterMap_nil, List.append_nil]

theorem completes_cons (s : State) (o : Fin 4) (m : Nat × List Byte) (ms : List (Nat × List Byte)) :
    (s.completeMessage o m).completes o ms = s.completes o (m :: ms) := by
  unfold State.completeMessage
  split
  next h =>
    have ht : s.takes o m = true := h
    have hcommands : (m :: ms.filter (s.takes o)).filterMap (fun m => messageCommand o s.clock.frame m.1 m.2)
        = (messageCommand o s.clock.frame m.1 m.2).toList
          ++ (ms.filter (s.takes o)).filterMap fun m => messageCommand o s.clock.frame m.1 m.2 := by
      rw [List.filterMap_cons]
      cases messageCommand o s.clock.frame m.1 m.2 <;> rfl
    simp only [State.completes, List.filter_cons, ht, if_true, Bool.not_true, Bool.false_eq_true, if_false, List.length_cons,
      hcommands, ← update_add_succ, ← List.append_assoc]
    rfl
  next h =>
    have ht : s.takes o m = false := Bool.eq_false_of_not_eq_true h
    simp only [State.completes, List.filter_cons, ht, Bool.false_eq_true, if_false, Bool.not_false, if_true, List.length_cons,
      ← update_add_succ]
    rfl

theorem foldl_completeMessage (s : State) (o : Fin 4) (ms : List (Nat × List Byte)) :
    ms.foldl (fun st m => st.completeMessage o m) s = s.completes o ms := by
  induction ms generalizing s with
  | nil => exact (completes_nil s o).symm
  | cons m ms ih => rw [List.foldl_cons, ih, completes_cons]

end Messages

/-! ### Streams (R64, R68, R69) -/

section Streams

variable {t s : State} {p : Word} {frames : Bank 4 PlayedFrame} {o : Fin 4}

/-- What the assembler of an origin makes of the origin's stream. -/
def State.assembled (s : State) (p : Word) (frames : Bank 4 PlayedFrame) (o : Fin 4) : Assembler × Nat × List (Nat × List Byte) :=
  (s.svc.assemblers.get o).takeAll s.cfg.id.val (streamItems (s.svc.lastFrame.get o) p (frames.get o))

/-- A state whose assembler of an origin has taken a stream. -/
def State.assembles (s : State) (p : Word) (o : Fin 4) (got : Assembler × Nat × List (Nat × List Byte)) : State := { s with
  svc := { s.svc with
    assemblers := s.svc.assemblers.set o got.1, framing := Bank.update s.svc.framing o (· + BitVec.ofNat 32 got.2.1)
    lastFrame := s.svc.lastFrame.set o (some p) } }

theorem takeStream_own (h : o = s.cfg.id) : s.takeStream p frames o = s := if_pos h

theorem takeStream_other (h : o ≠ s.cfg.id) : s.takeStream p frames o
    = (s.assembles p o (s.assembled p frames o)).completes o (s.assembled p frames o).2.2 :=
  (if_neg h).trans (foldl_completeMessage _ o _)

/-- What the service unit holds of one origin's stream. -/
def State.stream (s : State) (o : Fin 4) : Assembler × Option Word × Word × Word × Word :=
  (s.svc.assemblers.get o, s.svc.lastFrame.get o, s.svc.framing.get o, s.svc.taken.get o, s.svc.unusable.get o)

/-- The first state has the second's everything but streams and the messages taken. -/
structure Listens (t s : State) : Prop where
  only : t = { s with
    inbox := t.inbox
    svc := { s.svc with
      assemblers := t.svc.assemblers, framing := t.svc.framing, lastFrame := t.svc.lastFrame, taken := t.svc.taken
      unusable := t.svc.unusable } }

theorem Listens.refl (s : State) : Listens s s := ⟨rfl⟩

theorem Listens.trans {r : State} (h1 : Listens t s) (h2 : Listens s r) : Listens t r := ⟨by rw [h1.only, h2.only]⟩

theorem listens_takeStream (s : State) (p : Word) (frames : Bank 4 PlayedFrame) (o : Fin 4) : Listens (s.takeStream p frames o) s := by
  by_cases h : o = s.cfg.id
  · rw [takeStream_own h]
    exact .refl s
  · rw [takeStream_other h]
    exact ⟨rfl⟩

theorem takeStream_stream_other {k : Fin 4} (h : k ≠ o) : (s.takeStream p frames o).stream k = s.stream k := by
  by_cases ho : o = s.cfg.id
  · rw [takeStream_own ho]
  · rw [takeStream_other ho]
    simp only [State.stream, State.completes, State.assembles, Bank.set_get, Bank.update_get, if_neg h]

/-- A stream behind the playout, its messages counted (R64, R68 to R70). -/
def State.streamAfter (s : State) (p : Word) (frames : Bank 4 PlayedFrame) (o : Fin 4) :
    Assembler × Option Word × Word × Word × Word :=
  ((s.assembled p frames o).1, some p, s.svc.framing.get o + BitVec.ofNat 32 (s.assembled p frames o).2.1,
    s.svc.taken.get o + BitVec.ofNat 32 ((s.assembled p frames o).2.2.filter (s.takes o)).length,
    s.svc.unusable.get o + BitVec.ofNat 32 ((s.assembled p frames o).2.2.filter fun m => !s.takes o m).length)

theorem takeStream_stream_self (h : o ≠ s.cfg.id) : (s.takeStream p frames o).stream o = s.streamAfter p frames o := by
  rw [takeStream_other h]
  simp only [State.stream, State.completes, State.assembles, Bank.set_get, Bank.update_get, if_true]
  rfl

/-- The commands that an origin's stream brings. -/
def State.commandsOf (s : State) (p : Word) (frames : Bank 4 PlayedFrame) (o : Fin 4) : List Instr :=
  if o = s.cfg.id then []
  else ((s.assembled p frames o).2.2.filter (s.takes o)).filterMap fun m => messageCommand o s.clock.frame m.1 m.2

theorem commandsOf_eq (s : State) (p : Word) (frames : Bank 4 PlayedFrame) : s.commandsOf p frames = fun o =>
    if o = s.cfg.id then []
    else ((((s.svc.assemblers.get o).takeAll s.cfg.id.val (streamItems (s.svc.lastFrame.get o) p (frames.get o))).2.2).filter
      fun m => usable s.isStage o m.1 m.2.length).filterMap fun m => messageCommand o s.clock.frame m.1 m.2 := rfl

theorem takeStream_inbox (s : State) (p : Word) (frames : Bank 4 PlayedFrame) (o : Fin 4) :
    (s.takeStream p frames o).inbox = s.inbox ++ s.commandsOf p frames o := by
  by_cases h : o = s.cfg.id
  · rw [takeStream_own h, State.commandsOf, if_pos h, List.append_nil]
  · rw [takeStream_other h, State.commandsOf, if_neg h]
    rfl

section Congr

variable (hcfg : t.cfg = s.cfg) (h : t.stream o = s.stream o)

include hcfg

theorem takes_congr (o : Fin 4) : t.takes o = s.takes o := by
  unfold State.takes State.isStage
  rw [hcfg]

include h

theorem assembled_congr : t.assembled p frames o = s.assembled p frames o := by
  simp only [State.stream, Prod.mk.injEq] at h
  obtain ⟨hassembler, hlast, -⟩ := h
  rw [State.assembled, State.assembled, hassembler, hlast, hcfg]

theorem streamAfter_congr : t.streamAfter p frames o = s.streamAfter p frames o := by
  have hgot : t.assembled p frames o = s.assembled p frames o := assembled_congr hcfg h
  simp only [State.stream, Prod.mk.injEq] at h
  obtain ⟨-, -, hframing, htaken, hunusable⟩ := h
  rw [State.streamAfter, State.streamAfter, hgot, takes_congr hcfg, hframing, htaken, hunusable]

theorem commandsOf_congr (hclock : t.clock = s.clock) : t.commandsOf p frames o = s.commandsOf p frames o := by
  rw [State.commandsOf, State.commandsOf, assembled_congr hcfg h, takes_congr hcfg, hclock, hcfg]

end Congr

theorem Listens.cfg (h : Listens t s) : t.cfg = s.cfg := by rw [h.only]

theorem Listens.clock (h : Listens t s) : t.clock = s.clock := by rw [h.only]

/-- The streams of a list of origins. -/
def State.takeStreams (s : State) (p : Word) (frames : Bank 4 PlayedFrame) (os : List (Fin 4)) : State :=
  os.foldl (fun st o => st.takeStream p frames o) s

theorem listens_takeStreams (s : State) (p : Word) (frames : Bank 4 PlayedFrame) (os : List (Fin 4)) :
    Listens (s.takeStreams p frames os) s :=
  foldl_keeps (P := fun t => Listens t s) (fun t o ht => (listens_takeStream t p frames o).trans ht) os (.refl s)

/-- The messages of several origins are taken in the order of the list (R81; log entry 40). -/
theorem takeStreams_inbox {os : List (Fin 4)} (h : os.Nodup) :
    (s.takeStreams p frames os).inbox = s.inbox ++ os.flatMap (s.commandsOf p frames) := by
  induction os generalizing s with
  | nil => exact (List.append_nil _).symm
  | cons o os ih =>
    obtain ⟨ho, hos⟩ := List.nodup_cons.mp h
    have hrest : os.flatMap ((s.takeStream p frames o).commandsOf p frames) = os.flatMap (s.commandsOf p frames) :=
      List.flatMap_congr fun k hk => commandsOf_congr (listens_takeStream s p frames o).cfg
        (takeStream_stream_other fun he => ho (he ▸ hk)) (listens_takeStream s p frames o).clock
    exact (ih (s := s.takeStream p frames o) hos).trans
      (by rw [hrest, takeStream_inbox, List.append_assoc, List.flatMap_cons])

theorem takeStreams_stream (h : o ≠ s.cfg.id) : (s.takeStreams p frames (indices 4)).stream o = s.streamAfter p frames o :=
  foldl_at (P := fun t => Listens t s ∧ t.stream o = s.stream o) (Q := fun t => t.stream o = s.streamAfter p frames o) (x := o)
    (fun t k hk ⟨hl, ht⟩ => ⟨(listens_takeStream t p frames k).trans hl, (takeStream_stream_other hk.symm).trans ht⟩)
    (fun _ ⟨hl, ht⟩ => (takeStream_stream_self (hl.cfg ▸ h)).trans (streamAfter_congr hl.cfg ht))
    (fun _ _ hk ht => (takeStream_stream_other hk.symm).trans ht) (indices_nodup 4) (mem_indices o) ⟨.refl s, rfl⟩

end Streams

/-! ### The playout (R45, R49, R53) -/

section Playout

variable {s : State} {tdm : List Sample} {frames : Bank 4 PlayedFrame}

/-- What each origin yields at the playout of the present frame. -/
def State.framesNow (s : State) : Bank 4 PlayedFrame :=
  Bank.mapAll (fun r : MergeRec × PlayedFrame => r.2) (s.merge.playAll s.playoutFrame)

/-- The merge records behind the playout of the present frame. -/
def State.recordsNow (s : State) : Bank 4 MergeRec :=
  Bank.mapAll (fun r : MergeRec × PlayedFrame => r.1) (s.merge.playAll s.playoutFrame)

theorem framesNow_get (s : State) (o : Fin 4) : s.framesNow.get o = ((s.merge.records.get o).play s.playoutFrame).2 := by
  rw [State.framesNow, Bank.mapAll_get, Merge.playAll, Bank.mapAll_get]

theorem recordsNow_get (s : State) (o : Fin 4) : s.recordsNow.get o = ((s.merge.records.get o).play s.playoutFrame).1 := by
  rw [State.recordsNow, Bank.mapAll_get, Merge.playAll, Bank.mapAll_get]

/-- The records that have played, and the frame computation of every mix (R111). -/
def State.computed (s : State) (records : Bank 4 MergeRec) (frames : Bank 4 PlayedFrame) : State :=
  ({ s with merge := { s.merge with records := records } } : State).computeMixes frames

/-- The frame computation, the outputs and the detectors. -/
def State.measured (s : State) (records : Bank 4 MergeRec) (frames : Bank 4 PlayedFrame) : State :=
  ((s.computed records frames).deliver frames).measure frames

/-- What the frame computation, the outputs and the detectors leave as it was. -/
theorem measured_only (s : State) (records : Bank 4 MergeRec) (frames : Bank 4 PlayedFrame) : s.measured records frames = { s with
    merge := { s.merge with records := records }, mix := (s.measured records frames).mix
    delivery := Bank.mapAll Fade.step s.delivery, meter := (s.measured records frames).meter
    conv := { s.conv with delivered := (s.measured records frames).conv.delivered } } := rfl

/-- The state in which the frames of a playout have been consumed. -/
def State.consumed (s : State) (tdm : List Sample) : State :=
  ((s.beforePlayout tdm).measured (s.beforePlayout tdm).recordsNow (s.beforePlayout tdm).framesNow).takeStreams
    (s.beforePlayout tdm).playoutFrame (s.beforePlayout tdm).framesNow (indices 4)

theorem listens_consumed (s : State) (tdm : List Sample) : Listens (s.consumed tdm)
    ((s.beforePlayout tdm).measured (s.beforePlayout tdm).recordsNow (s.beforePlayout tdm).framesNow) :=
  listens_takeStreams _ _ _ _

/-- The end of a playout: references reached end their steps, the point moves on, and the views follow. -/
structure Closes (t s : State) (p : Word) : Prop where
  only : t = { s with
    lanes := t.lanes, ram := t.ram, regs := { s.regs with attention := t.regs.attention }, inputView := t.inputView
    ringView := t.ringView, talkView := t.talkView, sup := { s.sup with refreshAge := t.sup.refreshAge }
    merge := { s.merge with playedNow := true, point := p + 1 }, gain := { s.gain with switched := [] } }

theorem lanesOnly_endReferences (s : State) : s.endReferences.lanesOnly s :=
  foldl_keeps (P := fun t => t.lanesOnly s) (fun t l ht => by
    split
    · split
      · exact (worksOn_endStep t l .ok 0 _).only.trans ht
      · exact ht
    · exact ht) _ rfl

theorem closes_of {t u v s : State} {p : Word} (hr : u.lanesOnly s)
    (hv : v = { u with merge := { u.merge with playedNow := true, point := p + 1 }, gain := { u.gain with switched := [] } })
    (ht : ShowsOnly t v) : Closes t s p :=
  ⟨by rw [ht.only, hv, hr]⟩

theorem playout_eq (s : State) (tdm : List Sample) : s.playout tdm
    = { (s.consumed tdm).endReferences with
        merge.playedNow := true, merge.point := (s.beforePlayout tdm).playoutFrame + 1, gain.switched := [] } := by
  unfold State.playout State.consumed State.measured State.computed State.takeStreams State.framesNow State.recordsNow
  rfl

/-- The state a playout leaves. -/
def State.playedOut (s : State) (tdm : List Sample) : State := (s.playout tdm).withViews s

theorem closes_playedOut (s : State) (tdm : List Sample) :
    Closes (s.playedOut tdm) (s.consumed tdm) (s.beforePlayout tdm).playoutFrame :=
  closes_of (lanesOnly_endReferences _) (playout_eq s tdm) (showsOnly_withViews _ s)

theorem exec_playout (tdm : List Sample) (hrun : s.isRunning = true) (h : s.merge.playedNow = false) :
    exec (.playout tdm) s = .next (s.playedOut tdm) := by
  have hexec : exec (.playout tdm) s = .next (running (fun st => if st.merge.playedNow then st else st.playout tdm) s) := rfl
  rw [hexec, running_of _ hrun, if_neg (ne_true_of_eq_false h)]
  rfl

theorem exec_playout_again (tdm : List Sample) (hrun : s.isRunning = true) (h : s.merge.playedNow = true) :
    exec (.playout tdm) s = .next s := by
  have hexec : exec (.playout tdm) s = .next (running (fun st => if st.merge.playedNow then st else st.playout tdm) s) := rfl
  rw [hexec, running_of _ hrun, if_pos h, withViews_same fun _ => rfl]

end Playout

/-! ### What a playout leaves in each block -/

section Leaves

variable {t c b s : State} {x : Bank 64 Sample} {records : Bank 4 MergeRec} {frames : Bank 4 PlayedFrame} {p : Word}
variable (ht : Closes t c p) (hc : Listens c (b.measured records frames)) (hb : Readies b (s.hears x))

include ht hc

theorem played_fields : t.merge = { b.merge with records := records, playedNow := true, point := p + 1 }
    ∧ t.delivery = Bank.mapAll Fade.step b.delivery ∧ t.conv.tdmIn = b.conv.tdmIn ∧ t.talk = b.talk := by
  rw [ht.only, hc.only, measured_only]
  exact ⟨rfl, rfl, rfl, rfl⟩

theorem played_kept : t.clock = b.clock ∧ t.ports = b.ports ∧ t.xmit = b.xmit ∧ t.cfg = b.cfg ∧ t.passed = b.passed
    ∧ t.noteList = b.noteList ∧ t.built = b.built ∧ t.mark = b.mark := by
  rw [ht.only, hc.only, measured_only]
  exact ⟨rfl, rfl, rfl, rfl, rfl, rfl, rfl, rfl⟩

omit hc in
theorem played_streams : t.inbox = c.inbox ∧ ∀ o : Fin 4, t.stream o = c.stream o := by
  rw [ht.only]
  exact ⟨rfl, fun _ => rfl⟩

theorem played_tracking : t.gain.tracking = b.gain.tracking := by rw [ht.only, hc.only, measured_only]

theorem played_track (u : Fin 4) (n : Fin 64) : t.track u n = b.track u n := by
  rw [State.track, played_tracking ht hc]
  rfl

theorem played_setting (n : Fin 64) : t.setting n = b.setting n := by
  rw [ht.only, hc.only, measured_only]
  rfl

/-- Every mix is computed from the tracking tables and the inserts (R111, R112). -/
theorem played_mixRec (m : Fin 32) :
    t.mixRec m = (b.mixRec m).compute frames t.gain.tracking (b.insert m).holder := by
  have hmix : t.mixRec m = (b.computed records frames).mixRec m := by
    rw [ht.only, hc.only]
    rfl
  rw [hmix, played_tracking ht hc]
  exact Bank.zipAll_get _ b.mix.mixes b.talk.inserts m

/-- Every output carries its source's sample at its entry's gain (R59, R61). -/
theorem played_delivered (k : Fin 64) : t.conv.delivered.get k
    = scaleSample (t.outputSample frames (b.delivery.get k).step.current) (b.delivery.get k).step.gain 48 := by
  have hsample : ∀ source : OutputSource, t.outputSample frames source = (b.computed records frames).outputSample frames source :=
    fun source => by
      rw [ht.only, hc.only, measured_only]
      cases source <;> rfl
  have hdelivered : t.conv.delivered = ((b.computed records frames).deliver frames).conv.delivered := by
    rw [ht.only, hc.only]
    rfl
  rw [hdelivered, hsample]
  refine (Bank.mapAll_get _ _ k).trans ?_
  have hstep : (Bank.mapAll Fade.step b.delivery).get k = (b.delivery.get k).step := Bank.mapAll_get _ _ k
  exact congrArg (fun f : Fade OutputSource =>
    scaleSample ((b.computed records frames).outputSample frames f.current) f.gain 48) hstep

theorem played_detector (k : Fin 8) : t.meter.detectors.get k
    = (b.meter.detectors.get k).map fun d => if d.left = 0 then d else d.take (t.channelSample frames d.channel) := by
  have hsample : ∀ ch : Word, t.channelSample frames ch = ((b.computed records frames).deliver frames).channelSample frames ch :=
    fun ch => by
      rw [ht.only, hc.only]
      rfl
  have hdetectors : t.meter.detectors = (b.measured records frames).meter.detectors := by
    rw [ht.only, hc.only]
  rw [hdetectors]
  simp only [hsample]
  exact Bank.mapAll_get _ b.meter.detectors k

omit ht hc

include hb

theorem readied_fields : b.merge = s.merge ∧ b.delivery = s.delivery ∧ b.conv.tdmIn = x ∧ b.talk = s.talk ∧ b.meter = s.meter := by
  rw [hb.only]
  exact ⟨rfl, rfl, rfl, rfl, rfl⟩

theorem readied_kept : b.clock = s.clock ∧ b.ports = s.ports ∧ b.xmit = s.xmit ∧ b.cfg = s.cfg ∧ b.passed = s.passed
    ∧ b.noteList = s.noteList ∧ b.built = s.built ∧ b.mark = s.mark := by
  rw [hb.only]
  exact ⟨rfl, rfl, rfl, rfl, rfl, rfl, rfl, rfl⟩

/-- Streams stand until the frames have played. -/
theorem measured_streams : (b.measured records frames).cfg = s.cfg ∧ (b.measured records frames).clock = s.clock
    ∧ (b.measured records frames).inbox = s.inbox ∧ ∀ o : Fin 4, (b.measured records frames).stream o = s.stream o := by
  rw [hb.only]
  exact ⟨rfl, rfl, rfl, fun _ => rfl⟩

end Leaves

end Sys2Proof.Machine

/-!
The playout as O27 states it: one lemma for each clause that speaks of the state a playout leaves, and the clauses put together.
-/

namespace Sys2Proof.Machine

set_option Elab.async false

/-! ### The state a playout leaves -/

section PlayedOut

variable {s : State} {tdm : List Sample} {frames : Bank 4 PlayedFrame} {p : Word}

/-- The frame a playout plays is t - D (R45). -/
theorem beforePlayout_playoutFrame (s : State) (tdm : List Sample) :
    (s.beforePlayout tdm).playoutFrame = s.clock.frame - BitVec.ofNat 32 s.merge.delay := by
  obtain ⟨hmerge, -⟩ := readied_fields (beforePlayout_readies s tdm)
  obtain ⟨hclock, -⟩ := readied_kept (beforePlayout_readies s tdm)
  rw [State.playoutFrame, minusFrames, hmerge, hclock]

theorem beforePlayout_framesNow (hp : p = s.clock.frame - BitVec.ofNat 32 s.merge.delay)
    (hf : ∀ o : Fin 4, frames.get o = ((s.merge.records.get o).play p).2) : (s.beforePlayout tdm).framesNow = frames := by
  obtain ⟨hmerge, -⟩ := readied_fields (beforePlayout_readies s tdm)
  apply Bank.ext_get
  intro o
  rw [framesNow_get, beforePlayout_playoutFrame, hmerge, hf, hp]

theorem playedOut_merge (s : State) (tdm : List Sample) : (s.playedOut tdm).merge.playedNow = true
    ∧ (s.playedOut tdm).merge.delay = s.merge.delay
    ∧ (s.playedOut tdm).merge.point = s.clock.frame - BitVec.ofNat 32 s.merge.delay + 1
    ∧ ∀ o : Fin 4, (s.playedOut tdm).merge.records.get o
      = ((s.merge.records.get o).play (s.clock.frame - BitVec.ofNat 32 s.merge.delay)).1 := by
  obtain ⟨hmerge, -⟩ := played_fields (closes_playedOut s tdm) (listens_consumed s tdm)
  obtain ⟨hbefore, -⟩ := readied_fields (beforePlayout_readies s tdm)
  rw [hmerge, hbefore, ← beforePlayout_playoutFrame s tdm]
  refine ⟨rfl, rfl, rfl, fun o => ?_⟩
  rw [← hbefore]
  exact recordsNow_get _ o

theorem playedOut_tdmIn (s : State) (tdm : List Sample) (c : Fin 64) :
    (s.playedOut tdm).conv.tdmIn.get c = tdm.getD c.val 0 := by
  obtain ⟨-, -, hin, -⟩ := played_fields (closes_playedOut s tdm) (listens_consumed s tdm)
  obtain ⟨-, -, hsamples, -⟩ := readied_fields (beforePlayout_readies s tdm)
  rw [hin, hsamples, tdmSamples, Bank.mapNum_get]

theorem playedOut_delivery (s : State) (tdm : List Sample) : (s.playedOut tdm).delivery = Bank.mapAll Fade.step s.delivery := by
  obtain ⟨-, hmap, -⟩ := played_fields (closes_playedOut s tdm) (listens_consumed s tdm)
  obtain ⟨-, hbefore, -⟩ := readied_fields (beforePlayout_readies s tdm)
  rw [hmap, hbefore]

theorem playedOut_kept (s : State) (tdm : List Sample) : (s.playedOut tdm).clock = s.clock ∧ (s.playedOut tdm).ports = s.ports
    ∧ (s.playedOut tdm).xmit = s.xmit ∧ (s.playedOut tdm).cfg = s.cfg ∧ (s.playedOut tdm).passed = s.passed
    ∧ (s.playedOut tdm).noteList = s.noteList ∧ (s.playedOut tdm).built = s.built ∧ (s.playedOut tdm).mark = s.mark
    ∧ (s.playedOut tdm).talk.gate = s.talk.gate := by
  obtain ⟨-, -, -, htalk⟩ := played_fields (closes_playedOut s tdm) (listens_consumed s tdm)
  obtain ⟨-, -, -, hbefore, -⟩ := readied_fields (beforePlayout_readies s tdm)
  obtain ⟨h1, h2, h3, h4, h5, h6, h7, h8⟩ := played_kept (closes_playedOut s tdm) (listens_consumed s tdm)
  obtain ⟨k1, k2, k3, k4, k5, k6, k7, k8⟩ := readied_kept (beforePlayout_readies s tdm)
  exact ⟨h1.trans k1, h2.trans k2, h3.trans k3, h4.trans k4, h5.trans k5, h6.trans k6, h7.trans k7, h8.trans k8,
    congrArg Talk.gate (htalk.trans hbefore)⟩

theorem playedOut_setting (s : State) (tdm : List Sample) (n : Fin 64) :
    (s.playedOut tdm).setting n = (s.beforePlayout tdm).setting n := played_setting (closes_playedOut s tdm) (listens_consumed s tdm) n

/-- Tracking entries behind a playout (R97). -/
theorem playedOut_track (s : State) (tdm : List Sample) (u : Fin 4) (n : Fin 64) : (s.playedOut tdm).track u n
    = ((s.referenced u n).followed (s.setting n).effective ((s.playedOut tdm).setting n).effective).advance
        ((s.playedOut tdm).setting n).effective := by
  rw [played_track (closes_playedOut s tdm) (listens_consumed s tdm), playedOut_setting, beforePlayout_track]

section Frames

variable (hf : (s.beforePlayout tdm).framesNow = frames)

include hf

theorem playedOut_delivered (c : Fin 64) : (s.playedOut tdm).conv.delivered.get c
    = scaleSample ((s.playedOut tdm).outputSample frames (s.delivery.get c).step.current) (s.delivery.get c).step.gain 48 := by
  obtain ⟨-, hbefore, -⟩ := readied_fields (beforePlayout_readies s tdm)
  rw [played_delivered (closes_playedOut s tdm) (listens_consumed s tdm), hf, hbefore]

theorem playedOut_mixRec {m : Fin 32} (h : (s.mixRec m).cue = none) : (s.playedOut tdm).mixRec m
    = (s.mixRec m).compute frames (s.playedOut tdm).gain.tracking (s.insert m).holder := by
  obtain ⟨-, -, -, htalk, -⟩ := readied_fields (beforePlayout_readies s tdm)
  rw [played_mixRec (closes_playedOut s tdm) (listens_consumed s tdm), hf, beforePlayout_mixRec h, State.insert, htalk]
  rfl

theorem playedOut_detector (k : Fin 8) : (s.playedOut tdm).meter.detectors.get k = (s.meter.detectors.get k).map fun d =>
    if d.left = 0 then d else d.take ((s.playedOut tdm).channelSample frames d.channel) := by
  obtain ⟨-, -, -, -, hmeter⟩ := readied_fields (beforePlayout_readies s tdm)
  rw [played_detector (closes_playedOut s tdm) (listens_consumed s tdm), hf, hmeter]

end Frames

/-! ### Its detectors (R177) -/

/-- A detector whose window is not over takes its channel's sample. -/
theorem playedOut_measures (hf : (s.beforePlayout tdm).framesNow = frames) {k : Fin 8} {d : Measuring}
    (hd : s.meter.detectors.get k = some d) (h : d.left ≠ 0) : (s.playedOut tdm).meter.detectors.get k = some { d with
      left := d.left - 1, peak := max d.peak ((s.playedOut tdm).channelSample frames d.channel).toInt.natAbs
      overs := if 8388607 ≤ ((s.playedOut tdm).channelSample frames d.channel).toInt.natAbs then d.overs + 1 else d.overs } := by
  rw [playedOut_detector hf, hd, Option.map_some, if_neg h]
  rfl

theorem playedOut_measured (hf : (s.beforePlayout tdm).framesNow = frames) {k : Fin 8} {d : Measuring}
    (hd : s.meter.detectors.get k = some d) (h : d.left = 0) : (s.playedOut tdm).meter.detectors.get k = some d := by
  rw [playedOut_detector hf, hd, Option.map_some, if_pos h]

theorem playedOut_unmeasured (hf : (s.beforePlayout tdm).framesNow = frames) {k : Fin 8}
    (hd : s.meter.detectors.get k = none) : (s.playedOut tdm).meter.detectors.get k = none := by
  rw [playedOut_detector hf, hd, Option.map_none]

/-! ### Its outputs (R59) -/

/-- An output at its entry's gain, whatever its source. -/
theorem playedOut_output (hf : (s.beforePlayout tdm).framesNow = frames) {c : Fin 64} {e : Fade OutputSource}
    (he : e = (s.delivery.get c).step) {source : OutputSource} (hsource : e.current = source) {x : Sample}
    (hx : (s.playedOut tdm).outputSample frames source = x) :
    (s.playedOut tdm).conv.delivered.get c = toSample (Int.tdiv (x.toInt * e.gain) 48) := by
  rw [playedOut_delivered hf, ← he, hsource, hx]
  rfl

theorem silent_output (gain : Nat) : toSample (Int.tdiv ((0 : Sample).toInt * gain) 48) = 0 := by
  rw [show (0 : Sample).toInt = 0 from rfl, Int.zero_mul, Int.zero_tdiv]
  rfl

theorem outputSample_tracked (t : State) (frames : Bank 4 PlayedFrame) (o u : Fin 4) (k : Fin 64) :
    t.outputSample frames (.slot o k (some u)) = if o = 0 then toSample (max (-8388608)
        (min ((((frames.get o).slots.get k).toInt * (t.track u k).k + 524288) / 1048576) 8388607))
      else (frames.get o).slots.get k :=
  (trackedSlot_tracked t frames o u k).trans (mixSample_eq frames _ o k)

/-! ### Its streams (R64, R70) -/

section Streams

variable (hp : p = s.clock.frame - BitVec.ofNat 32 s.merge.delay) (hf : (s.beforePlayout tdm).framesNow = frames)

include hp hf

theorem consumed_eq : ∃ records : Bank 4 MergeRec,
    s.consumed tdm = ((s.beforePlayout tdm).measured records frames).takeStreams p frames (indices 4) :=
  ⟨_, by rw [State.consumed, hf, beforePlayout_playoutFrame, hp]⟩

theorem playedOut_inbox : (s.playedOut tdm).inbox = s.inbox ++ (indices 4).flatMap (s.commandsOf p frames) := by
  obtain ⟨records, hconsumed⟩ := consumed_eq hp hf
  obtain ⟨hcfg, hclock, hinbox, hstream⟩ := measured_streams (records := records) (frames := frames) (beforePlayout_readies s tdm)
  have hcommands : ((s.beforePlayout tdm).measured records frames).commandsOf p frames = s.commandsOf p frames :=
    funext fun o => commandsOf_congr hcfg (hstream o) hclock
  obtain ⟨hplayed, -⟩ := played_streams (closes_playedOut s tdm)
  rw [hplayed, hconsumed, takeStreams_inbox (indices_nodup 4), hinbox, hcommands]

theorem playedOut_stream {o : Fin 4} (h : o ≠ s.cfg.id) : (s.playedOut tdm).stream o = s.streamAfter p frames o := by
  obtain ⟨records, hconsumed⟩ := consumed_eq hp hf
  obtain ⟨hcfg, -, -, hstream⟩ := measured_streams (records := records) (frames := frames) (beforePlayout_readies s tdm)
  obtain ⟨-, hplayed⟩ := played_streams (closes_playedOut s tdm)
  have hother : o ≠ ((s.beforePlayout tdm).measured records frames).cfg.id := by rw [hcfg]; exact h
  rw [hplayed, hconsumed, takeStreams_stream hother, streamAfter_congr hcfg (hstream o)]

/-- The fields of a stream behind a playout. -/
theorem playedOut_stream_fields {o : Fin 4} {got : Assembler × Nat × List (Nat × List Byte)} (h : o ≠ s.cfg.id)
    (hgot : got = s.assembled p frames o) : (s.playedOut tdm).svc.lastFrame.get o = some p
      ∧ (s.playedOut tdm).svc.assemblers.get o = got.1
      ∧ (s.playedOut tdm).svc.framing.get o = s.svc.framing.get o + BitVec.ofNat 32 got.2.1
      ∧ (s.playedOut tdm).svc.taken.get o = s.svc.taken.get o
        + BitVec.ofNat 32 (got.2.2.filter fun m => usable s.isStage o m.1 m.2.length).length
      ∧ (s.playedOut tdm).svc.unusable.get o = s.svc.unusable.get o
        + BitVec.ofNat 32 (got.2.2.filter fun m => !usable s.isStage o m.1 m.2.length).length := by
  have hstream := playedOut_stream hp hf h
  simp only [State.stream, State.streamAfter, Prod.mk.injEq, ← hgot] at hstream
  obtain ⟨hassembler, hlast, hframing, htaken, hunusable⟩ := hstream
  exact ⟨hlast, hassembler, hframing, htaken, hunusable⟩

end Streams

end PlayedOut

/-- Settles O27, from what a playout leaves in each block, the frame computation of a mix, and the messages of a stream. -/
theorem playoutPlaysEveryOrigin : Obligations.PlayoutPlaysEveryOrigin := by
  unfold Obligations.PlayoutPlaysEveryOrigin
  refine ⟨fun s tdm hrun => ⟨fun hnow => ?_, exec_playout_again tdm hrun⟩,
    fun r p => ⟨fun f => play_present, play_empty, fun f => play_other⟩,
    fun s tdm p frames hrun hnow hp hframes => ?_, fun s t tdm u n x e f hrun hnow ht he hf hx => ?_,
    fun s frames => ⟨fun o k => (channelSample_slot o k (tracking := 255) (by decide)).trans (trackedSlot_plain s frames o k),
      fun o u k => ?_, channelSample_mix, channelSample_input⟩,
    fun x y frames tables holder hy => ?_, mixSample_eq, source_fields,
    fun last p f => ⟨streamItems_missing, streamItems_next, fun l => streamItems_skipped⟩,
    fun m id _ hdest hkind hbody => ⟨takeAll_own hdest {} hkind hbody, takeAll_other hdest, fun a ha hown =>
      ⟨(takeAll_own hdest a hkind hbody hown).trans (by rw [if_neg ha]), takeAll_gap ha⟩⟩,
    fun stage o kind n => ?_, fun o f r l q a b c d e g m v w x set other h i j text records =>
      ⟨rfl, command_gainAnnounce .., rfl, command_claim .., command_release .., command_ownerAnnounce .., command_reference ..,
        command_mixSends .., command_mixSet .., command_mixCue .., rfl, command_talkOpen .., command_talkClose ..,
        command_talkState .., command_loopRequest .., rfl, rfl⟩, leBytes_eq_map⟩
  · obtain ⟨hplayed, hdelay, hpoint, hrecords⟩ := playedOut_merge s tdm
    exact ⟨s.playedOut tdm, exec_playout tdm hrun hnow, hplayed, hdelay, hpoint, hrecords, playedOut_tdmIn s tdm,
      playedOut_delivery s tdm, playedOut_kept s tdm⟩
  · have hf : (s.beforePlayout tdm).framesNow = frames := beforePlayout_framesNow hp hframes
    refine ⟨s.playedOut tdm, exec_playout tdm hrun hnow, fun c e he => ⟨fun hc => ?_, fun o k hc => playedOut_output hf he hc rfl,
        fun o k u x hc hx => playedOut_output hf he hc ((outputSample_tracked _ frames o u k).trans hx.symm),
        fun m hc => playedOut_output hf he hc rfl, fun n hc => playedOut_output hf he hc rfl⟩,
      fun m hcue => playedOut_mixRec hf hcue, fun k d hd => ⟨playedOut_measures hf hd, playedOut_measured hf hd⟩,
      fun k hd => playedOut_unmeasured hf hd, fun o got ho hgot => playedOut_stream_fields hp hf ho hgot,
      (playedOut_inbox hp hf).trans (congrArg (fun g => s.inbox ++ (indices 4).flatMap g) (commandsOf_eq s p frames))⟩
    exact (playedOut_output hf he hc rfl).trans (silent_output _)
  · have hleft : s.playedOut tdm = t := Host.Outcome.next.inj ((exec_playout tdm hrun hnow).symm.trans ht)
    have htrack : t.track u n = ((s.referenced u n).followed e f).advance f := by
      rw [← hleft, playedOut_track, hleft, ← he, ← hf]
    rw [he] at hx
    rw [htrack, referenced_eq hx]
    exact ⟨followed_advance_same, followed_advance_moved⟩
  · have hslot := channelSample_slot (s := s) (frames := frames) o k (tracking := u.val) (by omega)
    rw [hslot, index_fin, trackedSlot_tracked]
    exact mixSample_eq frames (s.gain.tracking.get u) o k
  · subst hy
    refine ⟨rfl, compute_sends, compute_inactive, fun acc y1 g y2 talk v hactive hacc hy1 hg hy2 htalk hv => ?_⟩
    refine compute_active hactive ?_
    rw [Mix.level, mixSum_eq, hv, hy2, hg, hy1, hacc]
    exact congrArg _ (talkSample_eq htalk)
  · rw [usable_iff, lengthFits_iff]

end Sys2Proof.Machine

/-!
What every step keeps of the service unit's bounds (O58): the lengths of the queues, of the reply hold and of the pending request table
(spec 04, R71, R75, R76), and the class of a held fault announce (spec 05, R93). First the rules of the service unit's own operations.
-/

namespace Sys2Proof.Machine

set_option Elab.async false

/-! ### The service unit (spec 04) -/

section Service

variable {v w : Service} {q : QueueClass} {k : Held} {m : Message} {xs : List Held}

/-- The bounds on a service unit alone (R71, R75, R76). -/
structure Service.Bounded (v : Service) : Prop where
  urgent : v.urgent.length ≤ 16
  normal : v.normal.length ≤ 16
  replies : v.replies.length ≤ 32
  requests : v.requests.length ≤ 64

/-- A service unit that holds no more than a bounded one. -/
theorem Service.Bounded.of_le (h : w.Bounded) (hu : v.urgent.length ≤ w.urgent.length := by exact le_rfl)
    (hn : v.normal.length ≤ w.normal.length := by exact le_rfl) (hr : v.replies.length ≤ w.replies.length := by exact le_rfl)
    (hq : v.requests.length ≤ w.requests.length := by exact le_rfl) : v.Bounded :=
  ⟨hu.trans h.urgent, hn.trans h.normal, hr.trans h.replies, hq.trans h.requests⟩

theorem hasRoom_iff : v.hasRoom q = true ↔ (v.queue q).length < 16 := decide_eq_true_iff

theorem hasRoom_of_mayPlace (h : v.mayPlace q = true) : v.hasRoom q = true := (Bool.and_eq_true_iff.mp h).1

/-- A room list replaced leaves the room. -/
theorem hasRoom_setRoom (p : QueueClass) : (v.setRoom q xs).hasRoom p = v.hasRoom p := by
  cases q <;> cases p <;> rfl

theorem Service.Bounded.setRoom (h : v.Bounded) : (v.setRoom q xs).Bounded := by
  cases q with
  | urgent => exact h.of_le
  | normal => exact h.of_le

theorem Service.Bounded.hold (h : v.Bounded) : (v.hold q k).Bounded := by
  unfold Service.hold
  split
  · exact h
  · exact h.setRoom

theorem Service.Bounded.unhold (h : v.Bounded) : (v.unhold k).Bounded := h.of_le

/-- A message is placed where its queue has room (R71). -/
theorem Service.Bounded.enqueue (h : v.Bounded) (hroom : v.hasRoom (kindClass m.kind) = true) : (v.enqueue m).Bounded := by
  rw [hasRoom_iff] at hroom
  unfold Service.enqueue
  cases hk : kindClass m.kind with
  | urgent => exact { h with urgent := by simpa [Service.queue, hk] using hroom }
  | normal => exact { h with normal := by simpa [Service.queue, hk] using hroom }

/-- A reply is queued, kept in the hold of 32, or dropped (R75). -/
theorem Service.Bounded.reply (h : v.Bounded) : (v.reply m).Bounded := by
  unfold Service.reply
  extract_lets p
  split
  · rename_i hp
    exact h.enqueue (hasRoom_of_mayPlace hp)
  · split
    · rename_i hlt
      have hlen : (v.replies ++ [m]).length ≤ 32 := by simpa [Config.replyRoom] using hlt
      exact { h.setRoom (q := p) (xs := v.room p ++ [.reply]) with replies := hlen }
    · exact h.of_le

theorem Service.Bounded.withdraw {mine : Message → Bool} (h : v.Bounded) : (v.withdraw mine).Bounded :=
  h.of_le (List.length_filter_le _ _) (List.length_filter_le _ _)

/-! The service bytes are taken from the queues (R72, R74). -/

theorem takeHead_length (reach : List Nat) (ms : List Message) : (takeHead reach ms).2.2.length ≤ ms.length := by
  induction ms with
  | nil => exact le_rfl
  | cons m ms ih =>
    unfold takeHead
    split
    · exact Nat.le_succ _
    · exact Nat.le_succ_of_le ih

theorem Service.Bounded.placeByte {bytes : List ServiceByte} (h : v.Bounded) : (v.placeByte bytes m).1.Bounded := by
  unfold Service.placeByte
  split
  · exact h.of_le
  · exact h.of_le
  · exact h.of_le

theorem Service.Bounded.fillOne {reach : List Nat} (h : v.Bounded) : (v.fillOne reach).1.Bounded := by
  unfold Service.fillOne
  split
  · exact h.placeByte
  · extract_lets u v1 n v2
    have h1 : v1.Bounded := h.of_le (takeHead_length reach v.urgent)
    have h2 : v2.Bounded := h1.of_le le_rfl (takeHead_length reach v1.normal)
    split
    · exact h1.placeByte
    · split
      · exact h2.placeByte
      · exact h2

theorem Service.Bounded.fill {reach : List Nat} {n : Nat} (h : v.Bounded) : (v.fill reach n).1.Bounded := by
  induction n generalizing v with
  | zero => exact h
  | succ n ih => exact ih h.fillOne

end Service

/-! ### The queue a producer waits for (spec 04, section 4.1, R73) -/

section Places

variable {s : State} {q : QueueClass} {l : Fin 16}

/-- A step that queues references waits for the urgent queue. -/
theorem placesIn_reference {todo : List (Fin 64 × RefMode)} {n : Nat} {fs : List Word}
    (h : s.op? l = some (.setReference todo n fs)) :
    s.placesIn q (.lane l) = decide (q = .urgent) := by
  simp only [State.placesIn, h]

/-- Any other step waits for the queue of its held message's class. -/
theorem placesIn_held {m : Message} (hop : ∀ (todo : List (Fin 64 × RefMode)) (n : Nat) (fs : List Word),
    s.op? l = some (.setReference todo n fs) → False) (hm : (s.lane l).held = some m) :
    s.placesIn q (.lane l) = decide (kindClass m.kind = q) := by
  unfold State.placesIn
  simp only [hm]

end Places

/-! ### The bounds of a state -/

section State

variable {s t : State} {v : Service} {q : QueueClass} {m : Message}

/-- A fault announce that is held is one of an urgent kind (R93). -/
def State.faultsUrgent (s : State) : Prop :=
  ∀ (n : Fin 64) (m : Message), s.gain.heldFaults.get n = some m → kindClass m.kind = .urgent

theorem queuesBounded_iff : s.queuesBounded ↔ s.svc.Bounded ∧ s.faultsUrgent := by
  constructor
  · rintro ⟨hu, hn, hr, hq, hf⟩
    exact ⟨⟨hu, hn, hr, hq⟩, hf⟩
  · rintro ⟨h, hf⟩
    exact ⟨h.urgent, h.normal, h.replies, h.requests, hf⟩

theorem bounded_service (h : s.queuesBounded) : s.svc.Bounded := (queuesBounded_iff.mp h).1

theorem bounded_faults (h : s.queuesBounded) : s.faultsUrgent := (queuesBounded_iff.mp h).2

/-- A state with the service unit and the held fault announces of one that is within its bounds. -/
theorem bounded_of_same (h : s.queuesBounded) (hv : t.svc = s.svc := by rfl)
    (hf : t.gain.heldFaults = s.gain.heldFaults := by rfl) : t.queuesBounded := by
  unfold State.queuesBounded at *
  rwa [hv, hf]

/-- A change of the service unit that keeps its bounds. -/
theorem bounded_withService (h : s.queuesBounded) (hv : v.Bounded) : { s with svc := v }.queuesBounded :=
  have hf : s.faultsUrgent := bounded_faults h
  queuesBounded_iff.mpr ⟨hv, hf⟩

theorem bounded_ite {c : Prop} [Decidable c] {a b : State} (ha : a.queuesBounded) (hb : b.queuesBounded) :
    (if c then a else b).queuesBounded := by
  split
  · exact ha
  · exact hb

/-- An operation of the lane engine on one lane. -/
theorem bounded_worksOn {l : Fin 16} (ht : WorksOn l t s) (h : s.queuesBounded) : t.queuesBounded := by
  rw [ht.only]
  exact h

/-- A rewrite of views. -/
theorem bounded_showsOnly (ht : ShowsOnly t s) (h : s.queuesBounded) : t.queuesBounded := by
  rw [ht.only]
  exact h

/-! ### Messages placed, replied and requested (spec 04, R71, R73, R75, R76) -/

theorem bounded_enqueue (h : s.queuesBounded) (hroom : s.svc.hasRoom (kindClass m.kind) = true) : (s.enqueue m).queuesBounded :=
  bounded_withService h ((bounded_service h).enqueue hroom)

theorem bounded_reply (h : s.queuesBounded) : (s.reply m).queuesBounded := bounded_withService h (bounded_service h).reply

/-- A producer keeps what placing one message where there is room keeps. -/
theorem bounded_pump {k : Held} {wants : State → Bool} {send : State → State}
    (hs : ∀ t : State, t.queuesBounded → t.svc.hasRoom q = true → (send t).queuesBounded) (n : Nat) (h : s.queuesBounded) :
    (pump q k wants send n s).queuesBounded := by
  induction n generalizing s with
  | zero => exact h
  | succ n ih =>
    unfold Machine.pump
    split
    · split
      · rename_i hp
        exact ih (hs s h (hasRoom_of_mayPlace hp))
      · exact bounded_withService h (bounded_service h).hold
    · exact bounded_withService h (bounded_service h).setRoom

theorem bounded_submit {l : Fin 16} (h : s.queuesBounded) : (s.submit l m).queuesBounded := by
  unfold State.submit
  extract_lets p
  split
  · rename_i hp
    exact bounded_enqueue h (hasRoom_of_mayPlace hp)
  · exact bounded_withService (s := s.modLane l _) h (bounded_service h).hold

/-- A request is given where an entry is free (R76). -/
theorem bounded_give {l : Fin 16} {w : Want} (h : s.queuesBounded) (hfree : s.svc.requests.length < 64) :
    (s.give l w).queuesBounded := by
  refine bounded_submit (bounded_withService (s := s.modLane l _) h { bounded_service h with requests := ?_ })
  simpa using hfree

theorem bounded_request {l : Fin 16} {w : Want} (h : s.queuesBounded) : (s.request l w).queuesBounded := by
  unfold State.request
  split
  · rename_i hfree
    exact bounded_give h (of_decide_eq_true (Bool.and_eq_true_iff.mp hfree).1)
  · exact h

theorem bounded_freeEntry {l : Fin 16} {number : Nat} (h : s.queuesBounded) : (s.freeEntry l number).queuesBounded :=
  bounded_withService h ((bounded_service h).of_le le_rfl le_rfl le_rfl (List.length_filter_le _ _))

theorem bounded_withdraw {l : Fin 16} (h : s.queuesBounded) : (s.withdraw l).queuesBounded := by
  unfold State.withdraw
  extract_lets mine v
  have hv : v.Bounded := (bounded_service h).withdraw.unhold
  exact bounded_withService (s := s.modLane l _) h (hv.of_le le_rfl le_rfl le_rfl (List.length_filter_le _ _))

/-- An operation set leaves the service unit. -/
theorem putOp_svc (s : State) (l : Fin 16) (op : Op) : (s.putOp l op).svc = s.svc := by
  unfold State.putOp
  split
  · rw [(worksOn_setLane s l _).only]
  · rfl

end State
end Sys2Proof.Machine

/-!
What every command keeps of the service unit's bounds (O58): one lemma for each operation of the model that branches or sends a message; an
operation that only updates other fields keeps them by definition, and needs none.
-/

namespace Sys2Proof.Machine

-- One theorem at a time, as in the tests: side by side the proofs need more threads than a check has memory for.
set_option Elab.async false

section Kept

variable {s : State}

/-! ### RAM, ATTENTION and the lists -/

theorem bounded_store {a : Nat} {bs : List Byte} (h : s.queuesBounded) : (s.store a bs).queuesBounded :=
  bounded_worksOn (worksOn_store 0 s a bs) h

theorem bounded_poke {a : Nat} {w : Word} (h : s.queuesBounded) : (s.poke a w).queuesBounded := bounded_store h

theorem bounded_attend {i : Nat} (h : s.queuesBounded) : (s.attend i).queuesBounded := bounded_ite h h

theorem bounded_addFault {w : List Word} (h : s.queuesBounded) : (s.addFault w).queuesBounded :=
  bounded_ite (bounded_attend (bounded_store (bounded_store (s := { s with faultLog.written := s.faultLog.written + 1 }) h)))
    (bounded_store (s := { s with faultLog.dropped := s.faultLog.dropped + 1 }) h)

theorem bounded_addNote {q : Fin 4} {f : Word} {text : List Byte} (h : s.queuesBounded) : (s.addNote q f text).queuesBounded :=
  bounded_ite (bounded_attend (bounded_store (bounded_store (s := { s with noteList.written := s.noteList.written + 1 }) h)))
    (bounded_store (s := { s with noteList.dropped := s.noteList.dropped + 1 }) h)

theorem bounded_fault {k : FaultKind} {p : Option Port} {o n : Option (Fin 4)} {w : List Word} (h : s.queuesBounded) :
    (s.fault k p o n w).queuesBounded := bounded_addFault h

theorem bounded_storeJoined {j : Join} {i : Nat} {bs : List Byte} (h : s.queuesBounded) : (s.storeJoined j i bs).queuesBounded :=
  foldl_keeps (fun _ _ ht => bounded_store ht) _ h

/-! ### The lane engine (spec 01, R11 to R19) -/

theorem bounded_setLane {l : Fin 16} {x : Lane} (h : s.queuesBounded) : (s.setLane l x).queuesBounded :=
  bounded_worksOn (worksOn_setLane s l x) h

theorem bounded_beginAt {l : Fin 16} {a : Nat} (h : s.queuesBounded) : (s.beginAt l a).queuesBounded :=
  bounded_worksOn (worksOn_beginAt s l a) h

theorem bounded_closeJoin {l : Fin 16} {j : Join} {st : Status} {d : Nat} {n : Word} (h : s.queuesBounded) :
    (s.closeJoin l j st d n).queuesBounded := bounded_worksOn (worksOn_closeJoin s l j st d n) h

theorem bounded_haltAt {l : Fin 16} {a : Nat} (h : s.queuesBounded) : (s.haltAt l a).queuesBounded :=
  bounded_worksOn (worksOn_haltAt s l a) h

theorem bounded_finish {l : Fin 16} {j : Join} {st : Status} {d : Nat} {n : Word} (h : s.queuesBounded) :
    (s.finish l j st d n).queuesBounded := bounded_worksOn (worksOn_finish s l j st d n) h

theorem bounded_finishCancelled {l : Fin 16} {j : Join} {n : Word} (h : s.queuesBounded) :
    (s.finishCancelled l j n).queuesBounded :=
  bounded_worksOn (worksOn_finishCancelled s l j n) h

theorem bounded_endStep {l : Fin 16} {st : Status} {d : Nat} {n : Word} (h : s.queuesBounded) :
    (s.endStep l st d n).queuesBounded :=
  bounded_worksOn (worksOn_endStep s l st d n) h

theorem bounded_setOp {l : Fin 16} {j : Join} {op : Op} (h : s.queuesBounded) : (s.setOp l j op).queuesBounded :=
  bounded_setLane h

theorem bounded_putOp {l : Fin 16} {op : Op} (h : s.queuesBounded) : (s.putOp l op).queuesBounded := by
  unfold State.putOp
  split
  · exact bounded_setLane h
  · exact h

/-- A step begun keeps what its block keeps. -/
theorem bounded_startStep {l : Fin 16} {kind : Nat} {act : Join → State → State} (ha : ∀ j : Join, (act j s).queuesBounded)
    (h : s.queuesBounded) : (s.startStep l kind act).queuesBounded := by
  unfold State.startStep
  split
  · refine bounded_ite ?_ h
    split
    · exact bounded_ite (bounded_finish h) (ha _)
    · exact bounded_setLane h
    · exact bounded_finish h
    · exact bounded_haltAt (bounded_closeJoin h)
    · exact h
  · exact h

theorem bounded_continueJoin {l : Fin 16} {j : Join} {a : Nat} (h : s.queuesBounded) : (s.continueJoin l j a).queuesBounded :=
  bounded_ite (bounded_haltAt (bounded_closeJoin h)) (bounded_setLane h)

theorem bounded_reread {l : Fin 16} (h : s.queuesBounded) : (s.reread l).queuesBounded := by
  unfold State.reread
  split
  · exact h
  · refine bounded_ite h ?_
    split
    · exact bounded_continueJoin h
    · exact bounded_beginAt h

theorem bounded_takePost {l : Fin 16} (h : s.queuesBounded) : (s.takePost l).queuesBounded := by
  refine bounded_ite h ?_
  split
  · exact h
  · exact bounded_reread (bounded_setLane h)
  · exact bounded_beginAt (bounded_setLane h)

theorem bounded_refuseKind {l : Fin 16} (h : s.queuesBounded) : (s.refuseKind l).queuesBounded := by
  unfold State.refuseKind
  split
  · exact bounded_ite (bounded_startStep (fun _ => h) h) h
  · exact h

theorem bounded_beginWait {l : Fin 16} {j : Join} (h : s.queuesBounded) : (s.beginWait l j).queuesBounded := by
  unfold State.beginWait
  extract_lets
  split
  · exact bounded_finish h
  · exact bounded_ite (bounded_ite (bounded_finish h) (bounded_finish h)) (bounded_ite (bounded_finish h) (bounded_setOp h))

theorem bounded_endFrameWait {l : Fin 16} (h : s.queuesBounded) : (s.endFrameWait l).queuesBounded :=
  bounded_ite (bounded_endStep h) h

/-! ### The service unit (spec 04) -/

theorem bounded_remoteRequest {l : Fin 16} {w : Want} (h : s.queuesBounded) : (s.remoteRequest l w).queuesBounded :=
  bounded_ite (bounded_request h) (bounded_endStep h)

theorem bounded_beginNote {l : Fin 16} {j : Join} (h : s.queuesBounded) : (s.beginNote l j).queuesBounded :=
  bounded_ite (bounded_finish h)
    (bounded_ite (bounded_ite (bounded_finish (bounded_addNote h)) (bounded_finish (bounded_addNote h)))
      (bounded_ite (bounded_finish h) (bounded_submit (bounded_setOp h))))

/-! ### The gain unit (spec 05) -/

theorem bounded_sendReference {n : Fin 64} {v : Option Int} (h : s.queuesBounded) (hroom : s.svc.hasRoom .urgent = true) :
    (s.sendReference n v).queuesBounded :=
  bounded_enqueue (s := s.modTrack s.cfg.id n _) h hroom

theorem bounded_writeOutcomes {os ns : List InputStep} (h : s.queuesBounded) : (s.writeOutcomes os ns).queuesBounded := by
  induction os generalizing s ns with
  | nil => exact h
  | cons o os ih =>
    cases ns with
    | nil => exact h
    | cons n ns =>
      unfold State.writeOutcomes
      refine ih ?_
      split
      · exact bounded_store h
      · exact h

theorem bounded_settleEntries {l : Fin 16} {f : Nat → InputStep → InputStep} (h : s.queuesBounded) :
    (s.settleEntries l f).queuesBounded := by
  unfold State.settleEntries
  split
  · exact bounded_ite (bounded_endStep (bounded_putOp (bounded_writeOutcomes h))) (bounded_putOp (bounded_writeOutcomes h))
  · exact h

theorem bounded_settleAllEntries {f : InputStep → InputStep} (h : s.queuesBounded) : (s.settleAllEntries f).queuesBounded :=
  foldl_keeps (fun _ _ ht => bounded_settleEntries ht) _ h

theorem bounded_endEntry {l : Fin 16} {i : Nat} {st : Status} (h : s.queuesBounded) : (s.endEntry l i st).queuesBounded :=
  bounded_settleEntries h

theorem bounded_refuse {q : Requester} {n : Fin 64} {st : Status} (h : s.queuesBounded) : (s.refuse q n st).queuesBounded := by
  cases q with
  | remote => exact bounded_reply h
  | lane => exact bounded_endEntry h
  | forgotten => exact h

theorem bounded_announce {n : Fin 64} (h : s.queuesBounded) (hroom : s.svc.hasRoom .urgent = true) :
    (s.announce n).queuesBounded := by
  unfold State.announce
  extract_lets e f
  split
  · exact h
  · extract_lets mutes s1 s2
    have h2 : s2.queuesBounded := bounded_enqueue (s := s.modInput n _) h hroom
    exact bounded_of_same h2

theorem bounded_pumpPending {n : Fin 64} (h : s.queuesBounded) : (s.pumpPending n).queuesBounded :=
  bounded_pump (fun _ => bounded_announce) _ h

theorem bounded_takeGain {n : Fin 64} {x : Setting} {q : Requester} (h : s.queuesBounded) : (s.takeGain n x q).queuesBounded := by
  refine bounded_ite (bounded_refuse h) ?_
  split
  · exact bounded_pumpPending (s := s.modInput n _) h
  · split
    · exact bounded_refuse (s := s.modInput n _) h
    · exact h

theorem bounded_endApplied {q : Requester} (h : s.queuesBounded) : (s.endApplied q).queuesBounded := by
  cases q with
  | remote => exact h
  | lane => exact bounded_endEntry h
  | forgotten => exact h

theorem bounded_promote {n : Fin 64} (h : s.queuesBounded) : (s.promote n).queuesBounded := by
  unfold State.promote
  extract_lets
  split
  · exact h
  · exact bounded_ite (bounded_pumpPending (s := State.modInput _ n _) h) (bounded_refuse (s := s.modInput n _) h)

theorem bounded_applyPending {n : Fin 64} (h : s.queuesBounded) : (s.applyPending n).queuesBounded := by
  unfold State.applyPending
  extract_lets
  split
  · exact h
  · exact bounded_promote (bounded_endApplied (bounded_ite h h))

theorem bounded_lateGain {n : Fin 64} {f : Word} (h : s.queuesBounded) : (s.lateGain n f).queuesBounded :=
  bounded_fault (s := State.mk ..) h

theorem bounded_applyScheduled {n : Fin 64} (h : s.queuesBounded) : (s.applyScheduled n).queuesBounded := by
  unfold State.applyScheduled
  extract_lets
  split
  · exact h
  · exact bounded_settleAllEntries (bounded_ite (bounded_lateGain (bounded_ite h h)) (bounded_ite h h))

theorem bounded_endMute {n : Fin 64} (h : s.queuesBounded) : (s.endMute n).queuesBounded := bounded_ite h h

theorem bounded_retestSwitches {f : Word} (h : s.queuesBounded) : (s.retestSwitches f).queuesBounded := bounded_ite h h

theorem bounded_applyReference {u : Fin 4} {n : Fin 64} (h : s.queuesBounded) : (s.applyReference u n).queuesBounded := by
  unfold State.applyReference
  split
  · exact h
  · exact h

theorem bounded_sendRefRefresh (h : s.queuesBounded) (hroom : s.svc.hasRoom .urgent = true) : s.sendRefRefresh.queuesBounded := by
  unfold State.sendRefRefresh
  split
  · exact h
  · exact bounded_of_same (bounded_sendReference h hroom)

theorem bounded_pumpRefRefresh (h : s.queuesBounded) : s.pumpRefRefresh.queuesBounded :=
  bounded_pump (fun _ => bounded_sendRefRefresh) _ h

theorem bounded_startRefRefresh (h : s.queuesBounded) : s.startRefRefresh.queuesBounded :=
  bounded_pumpRefRefresh (s := State.mk ..) h

theorem bounded_sendGainRefresh (h : s.queuesBounded) (hroom : s.svc.hasRoom .urgent = true) :
    s.sendGainRefresh.queuesBounded := by
  unfold State.sendGainRefresh
  split
  · exact h
  · extract_lets e m
    have hm : m.kind = 2 := by
      unfold m
      split
      · split
        · rfl
        · rfl
      · rfl
    exact bounded_of_same (bounded_enqueue h (by rw [hm]; exact hroom))

theorem bounded_pumpGainRefresh (h : s.queuesBounded) : s.pumpGainRefresh.queuesBounded :=
  bounded_pump (fun _ => bounded_sendGainRefresh) _ h

theorem bounded_startGainRefresh (h : s.queuesBounded) : s.startGainRefresh.queuesBounded :=
  bounded_pumpGainRefresh (s := State.mk ..) h

/-- An input's held fault announce replaced by none or by one of an urgent kind. -/
theorem bounded_setFault {n : Fin 64} {x : Option Message} (h : s.queuesBounded)
    (hx : ∀ m : Message, x = some m → kindClass m.kind = .urgent) :
    { s with gain.heldFaults := s.gain.heldFaults.set n x }.queuesBounded := by
  have hv : s.svc.Bounded := bounded_service h
  refine queuesBounded_iff.mpr ⟨hv, fun k m hm => ?_⟩
  rw [Bank.set_get] at hm
  split at hm
  · exact hx m hm
  · exact bounded_faults h k m hm

/-- A held fault announce is of an urgent kind, the class of the queue it waits for (R93). -/
theorem bounded_sendFaultAnnounce {n : Fin 64} (h : s.queuesBounded) (hroom : s.svc.hasRoom .urgent = true) :
    (s.sendFaultAnnounce n).queuesBounded := by
  unfold State.sendFaultAnnounce
  split
  · exact h
  · rename_i m hm
    have hsent : (s.enqueue m).queuesBounded := bounded_enqueue h (by rw [bounded_faults h n m hm]; exact hroom)
    exact bounded_setFault hsent fun _ hx => nomatch hx

theorem bounded_pumpFault {n : Fin 64} (h : s.queuesBounded) : (s.pumpFault n).queuesBounded :=
  bounded_pump (fun _ => bounded_sendFaultAnnounce) _ h

theorem bounded_announceFault {n : Fin 64} (h : s.queuesBounded) : (s.announceFault n).queuesBounded := by
  have hgive : ∀ m : Message, kindClass m.kind = .urgent →
      ({ s with gain.heldFaults := s.gain.heldFaults.set n (some m) }.pumpFault n).queuesBounded := fun m hm =>
    bounded_pumpFault (bounded_setFault h fun x hx => by cases hx; exact hm)
  unfold State.announceFault
  extract_lets
  split
  · exact hgive _ rfl
  · split
    · exact hgive _ rfl
    · exact h

theorem bounded_phantomShort {n : Fin 64} (h : s.queuesBounded) : (s.phantomShort n).queuesBounded :=
  bounded_fault (bounded_announceFault (s := State.modInput _ n _) h)

theorem bounded_orphan {t : Fin 4} {lost : Bool} (h : s.queuesBounded) : (s.orphan t lost).queuesBounded :=
  bounded_ite h (bounded_reply (s := State.mk ..) h)

theorem bounded_gainReach {o : Fin 4} {up : Bool} (h : s.queuesBounded) : (s.gainReach o up).queuesBounded := by
  have h1 : (if s.isStage then
      let a := s.orphan o (!up)
      if up then a.startGainRefresh else a
    else if !up && decide (o = 0) then s.mirrorStale
    else s).queuesBounded :=
    bounded_ite (bounded_ite (bounded_startGainRefresh (bounded_orphan h)) (bounded_orphan h)) (bounded_ite h h)
  exact bounded_ite (bounded_startRefRefresh h1) h1

theorem bounded_takeRequest {q : Fin 4} {t : Tag} {i g p f : Byte} (h : s.queuesBounded) :
    (s.takeRequest q t i g p f).queuesBounded := by
  unfold State.takeRequest
  split
  · exact h
  · exact bounded_takeGain h

theorem bounded_takeClaim {q : Fin 4} {t : Tag} {i : BitVec 64} (h : s.queuesBounded) : (s.takeClaim q t i).queuesBounded :=
  have h1 := bounded_reply (s := s.claimTable q i) (m := ownerMessage i (ownerByte (some q)) t (s.granted q i)) h
  bounded_ite (bounded_startGainRefresh h1) h1

theorem bounded_answerGain {t : Tag} {f : Word} (h : s.queuesBounded) : (s.answerGain t f).queuesBounded := by
  unfold State.answerGain
  split
  · exact h
  · exact bounded_settleEntries (bounded_freeEntry h)

theorem bounded_supersede {old : Option Scheduled} {f : Word} (h : s.queuesBounded) : (s.supersede old f).queuesBounded := by
  unfold State.supersede
  split
  · exact h
  · refine bounded_ite ?_ h
    split
    · exact bounded_settleEntries h
    · exact h

theorem bounded_freshen {n : Fin 64} (h : s.queuesBounded) : (s.freshen n).queuesBounded := bounded_ite (bounded_ite h h) h

theorem bounded_takeAnnounce {i g p f o st x : Byte} {w : Word} {t : Tag} {k : Byte} (h : s.queuesBounded) :
    (s.takeAnnounce i g p f o st x w t k).queuesBounded := by
  unfold State.takeAnnounce
  split
  · exact bounded_ite h (bounded_supersede (bounded_freshen (s := s.modMirror _ _) h))
  · exact h

theorem bounded_takeRefused {t : Tag} {x : Byte} (h : s.queuesBounded) : (s.takeRefused t x).queuesBounded := by
  unfold State.takeRefused
  split
  · exact h
  · exact bounded_settleEntries (bounded_freeEntry h)

theorem bounded_endClaim {l : Fin 16} {x : BitVec 64} (h : s.queuesBounded) : (s.endClaim l x).queuesBounded := by
  unfold State.endClaim
  split
  · exact bounded_endStep (bounded_storeJoined h)
  · exact h

theorem bounded_answerOwner {t : Tag} {x : BitVec 64} (h : s.queuesBounded) : (s.answerOwner t x).queuesBounded := by
  unfold State.answerOwner
  split
  · exact h
  · exact bounded_endClaim (bounded_freeEntry h)

theorem bounded_takeOwners {o : Byte} {x : BitVec 64} (h : s.queuesBounded) : (s.takeOwners o x).queuesBounded := by
  unfold State.takeOwners
  split
  · exact h
  · exact h

theorem bounded_takeReference {q : Fin 4} {i v : Byte} {f : Word} (h : s.queuesBounded) :
    (s.takeReference q i v f).queuesBounded := by
  unfold State.takeReference
  split
  · exact h
  · exact h

theorem bounded_takeReport {w : BitVec 16} (h : s.queuesBounded) : (s.takeReport w).queuesBounded := by
  unfold State.takeReport
  split
  · exact bounded_ite (bounded_phantomShort h) h
  · exact h

theorem bounded_endReferences (h : s.queuesBounded) : s.endReferences.queuesBounded :=
  foldl_keeps (fun t l ht => by
    split
    · exact bounded_ite (bounded_endStep ht) ht
    · exact ht) _ h

theorem bounded_sendInputs {l : Fin 16} {n : Nat} (h : s.queuesBounded) : (State.sendInputs l n s).queuesBounded := by
  induction n generalizing s with
  | zero => exact h
  | succ n ih =>
    unfold State.sendInputs
    split
    · refine bounded_ite h ?_
      split
      · exact h
      · split
        · exact h
        · exact ih (bounded_request (bounded_putOp h))
    · exact h

theorem bounded_moreInputs {l : Fin 16} (h : s.queuesBounded) : (s.moreInputs l).queuesBounded := by
  unfold State.moreInputs
  split
  · exact bounded_sendInputs h
  · exact h

theorem bounded_sendHeadReference {l : Fin 16} (h : s.queuesBounded) (hroom : s.svc.hasRoom .urgent = true) :
    (s.sendHeadReference l).queuesBounded := by
  unfold State.sendHeadReference
  split
  · exact bounded_sendReference (bounded_putOp h) (by rw [putOp_svc]; exact hroom)
  · exact h

theorem bounded_sendReferences {l : Fin 16} {n : Nat} (h : s.queuesBounded) : (State.sendReferences l n s).queuesBounded := by
  induction n generalizing s with
  | zero => exact h
  | succ n ih =>
    unfold State.sendReferences
    split
    · split
      · rename_i hp
        exact ih (bounded_sendHeadReference h (hasRoom_of_mayPlace hp))
      · exact bounded_withService (s := s.putOp l _) (bounded_putOp h) (bounded_service h).hold
    · exact h

theorem bounded_moreReferences {l : Fin 16} (h : s.queuesBounded) : (s.moreReferences l).queuesBounded := by
  unfold State.moreReferences
  split
  · exact bounded_sendReferences h
  · exact h

theorem bounded_takeEntries {l : Fin 16} {es : List InputStep} (h : s.queuesBounded) : (s.takeEntries l es).queuesBounded :=
  foldl_keeps (fun _ _ ht => bounded_takeGain ht) _ h

theorem bounded_beginInputs {l : Fin 16} {j : Join} (h : s.queuesBounded) : (s.beginInputs l j).queuesBounded := by
  have h1 : ∀ es : List InputStep, ((s.openOutcomes es).setOp l j (.setInput es)).queuesBounded := fun es =>
    bounded_setOp (foldl_keeps (fun _ _ ht => bounded_store ht) es h)
  exact bounded_ite (bounded_finish h) (bounded_ite (bounded_finish h) (bounded_ite (bounded_finish h) (bounded_ite (bounded_finish h)
    (bounded_ite (bounded_takeEntries (h1 _)) (bounded_moreInputs (h1 _))))))

theorem bounded_remoteClaim {l : Fin 16} {j : Join} {rel : Bool} {i : BitVec 64} (h : s.queuesBounded) :
    (s.remoteClaim l j rel i).queuesBounded :=
  bounded_remoteRequest (bounded_setOp h)

theorem bounded_stageClaim {l : Fin 16} {j : Join} {rel : Bool} {i x : BitVec 64} (h : s.queuesBounded) :
    (s.stageClaim l j rel i x).queuesBounded :=
  bounded_ite (bounded_submit (bounded_setOp h)) (bounded_endClaim (bounded_submit (bounded_setOp h)))

theorem bounded_beginClaim {l : Fin 16} {j : Join} (h : s.queuesBounded) : (s.beginClaim l j).queuesBounded := by
  have h1 : ∀ i : BitVec 64, ((s.claimTable 0 i).stageClaim l j false i (s.granted 0 i)).queuesBounded := fun i =>
    bounded_stageClaim (s := s.claimTable 0 i) h
  exact bounded_ite (bounded_ite (bounded_startGainRefresh (h1 _)) (h1 _)) (bounded_remoteClaim h)

theorem bounded_beginRelease {l : Fin 16} {j : Join} (h : s.queuesBounded) : (s.beginRelease l j).queuesBounded :=
  bounded_ite (bounded_stageClaim (s := s.releaseTable 0 _) h) (bounded_remoteClaim h)

theorem bounded_beginReferences {l : Fin 16} {j : Join} (h : s.queuesBounded) : (s.beginReferences l j).queuesBounded :=
  bounded_ite (bounded_finish h) (bounded_ite (bounded_finish h) (bounded_ite (bounded_finish h)
    (bounded_moreReferences (bounded_setOp h))))

/-! ### The mix engine (spec 06) -/

theorem bounded_modMix {m : Fin 32} {f : Mix → Mix} (h : s.queuesBounded) : (s.modMix m f).queuesBounded := bounded_of_same h

theorem bounded_applySends {q : Option (Fin 4)} {a : MixAnswer} {rs : List SendRecord} (h : s.queuesBounded) :
    (s.applySends q a rs).1.queuesBounded := by
  induction rs generalizing s a with
  | nil => exact h
  | cons x xs ih =>
    unfold State.applySends
    split
    · exact ih h
    · split
      · exact ih h
      · exact ih (bounded_modMix h)

theorem bounded_stageRecords {m : Fin 32} {a : MixAnswer} {rs : List SendRecord} (h : s.queuesBounded) :
    (s.stageRecords m a rs).1.queuesBounded := by
  induction rs generalizing s a with
  | nil => exact h
  | cons x xs ih =>
    unfold State.stageRecords
    split
    · exact h
    · split
      · exact ih h
      · split
        · exact ih (bounded_modMix h)
        · exact ih h

theorem bounded_closeStaging {m : Fin 32} {last : Bool} {a : MixAnswer} (h : s.queuesBounded) :
    (s.closeStaging m last a).1.queuesBounded := by
  unfold State.closeStaging
  split
  · exact h
  · split
    · exact h
    · exact h

theorem bounded_takeStaged {q : Fin 4} {last : Bool} {rs : List SendRecord} (h : s.queuesBounded) :
    (s.takeStaged q last rs).1.queuesBounded := by
  unfold State.takeStaged
  extract_lets
  split
  · exact h
  · split
    · split
      · exact h
      · exact bounded_closeStaging (bounded_stageRecords (bounded_modMix h))
    · split
      · exact h
      · split
        · exact h
        · split
          · exact h
          · exact bounded_closeStaging (bounded_stageRecords h)
    · exact h

theorem bounded_mixAck {q : Fin 4} {t : Tag} {a : MixAnswer} (h : s.queuesBounded) : (s.mixAck q t a).queuesBounded :=
  bounded_reply h

theorem bounded_endMixStep {l : Fin 16} {a : MixAnswer} {u : Option Status} (h : s.queuesBounded) :
    (s.endMixStep l a u).queuesBounded :=
  bounded_endStep h

theorem bounded_finishRecord {k : Fin 16} (h : s.queuesBounded) : (s.finishRecord k).queuesBounded := by
  unfold State.finishRecord
  split
  · exact h
  · refine bounded_ite h ?_
    split
    · exact bounded_endMixStep (s := State.mk ..) h
    · exact bounded_mixAck (s := State.mk ..) h
    · exact h

theorem bounded_settleCue {k : Fin 16} {f : MixAnswer → MixAnswer} (h : s.queuesBounded) : (s.settleCue k f).queuesBounded := by
  unfold State.settleCue
  split
  · exact h
  · exact bounded_finishRecord (s := State.mk ..) h

theorem bounded_giveCue {k : Fin 16} {c : CueSpec} {m : Fin 32} (h : s.queuesBounded) : (s.giveCue k c m).queuesBounded := by
  unfold State.giveCue
  extract_lets
  split
  · exact h
  · exact bounded_settleCue (bounded_modMix h)

theorem bounded_cueMixes {k : Fin 16} {w : CueRequester} {c : CueSpec} {ms : List (Fin 32)} {a : MixAnswer} (h : s.queuesBounded) :
    (s.cueMixes k w c ms a).queuesBounded := foldl_keeps (s := State.mk ..) (fun _ _ ht => bounded_giveCue ht) ms h

theorem bounded_takeCue {m : Fin 32} (h : s.queuesBounded) : (s.takeCue m).queuesBounded := by
  unfold State.takeCue
  split
  · exact h
  · extract_lets s1
    have h1 : s1.queuesBounded := h
    split
    · exact bounded_ite (bounded_settleCue (bounded_modMix h1)) (bounded_settleCue h1)
    · exact bounded_settleCue h1

theorem bounded_nextPart {l : Fin 16} (h : s.queuesBounded) : (s.nextPart l).queuesBounded := by
  unfold State.nextPart
  split
  · split
    · exact bounded_endMixStep h
    · exact bounded_ite (bounded_request (bounded_putOp h)) (bounded_endMixStep h)
  · exact h

theorem bounded_partAnswered {l : Fin 16} {a b c : Nat} (h : s.queuesBounded) : (s.partAnswered l a b c).queuesBounded := by
  unfold State.partAnswered
  split
  · exact bounded_nextPart (bounded_putOp h)
  · exact h

theorem bounded_partUnanswered {l : Fin 16} {st : Status} (h : s.queuesBounded) : (s.partUnanswered l st).queuesBounded := by
  unfold State.partUnanswered
  split
  · exact bounded_endMixStep h
  · exact h

theorem bounded_startParts {l : Fin 16} {j : Join} {u : Fin 4} {k : Nat} {st : Bool} {bs : List (List Byte)} (h : s.queuesBounded) :
    (s.startParts l j u k st bs).queuesBounded := bounded_ite (bounded_nextPart (bounded_setOp h)) (bounded_endStep (bounded_setOp h))

theorem bounded_takeSends {q : Fin 4} {t : Tag} {st last : Bool} {ws : List Word} (h : s.queuesBounded) :
    (s.takeSends q t st last ws).queuesBounded := by
  unfold State.takeSends
  extract_lets rs done
  have hd : done.1.queuesBounded := by
    cases st with
    | true => exact bounded_takeStaged h
    | false => exact bounded_applySends h
  exact bounded_mixAck hd

theorem bounded_cueLane {l : Fin 16} {w : Word} {c : CueSpec} {k : Fin 16} (h : s.queuesBounded) :
    (s.cueLane l w c k).queuesBounded :=
  bounded_cueMixes (bounded_putOp h)

theorem bounded_takeMixCue {q : Fin 4} {t : Tag} {w : Word} {n : Byte} {f d : Word} (h : s.queuesBounded) :
    (s.takeMixCue q t w n f d).queuesBounded := by
  refine bounded_ite (bounded_mixAck h) (bounded_ite (bounded_mixAck h) ?_)
  split
  · exact bounded_mixAck h
  · exact bounded_cueMixes h

theorem bounded_takeMixAck {t : Tag} {a b c : Byte} (h : s.queuesBounded) : (s.takeMixAck t a b c).queuesBounded := by
  unfold State.takeMixAck
  split
  · exact h
  · exact bounded_partAnswered (bounded_freeEntry h)

theorem bounded_grantRecord (h : s.queuesBounded) : s.grantRecord.queuesBounded := by
  unfold State.grantRecord
  split
  · extract_lets _ s1
    have h1 : s1.queuesBounded := bounded_of_same h
    split
    · exact bounded_cueLane h1
    · exact h1
  · exact h

/-! ### The talk unit (spec 07) -/

theorem bounded_modGroup {g : Fin 8} {f : Group → Group} (h : s.queuesBounded) : (s.modGroup g f).queuesBounded :=
  bounded_of_same h

theorem bounded_endTalkStep {l : Fin 16} (h : s.queuesBounded) : (s.endTalkStep l).queuesBounded := by
  unfold State.endTalkStep
  split
  · exact bounded_ite (bounded_endStep h) (bounded_ite (bounded_endStep h) h)
  · exact h

theorem bounded_endTalkSteps (h : s.queuesBounded) : s.endTalkSteps.queuesBounded :=
  foldl_keeps (fun _ _ ht => bounded_endTalkStep ht) _ h

theorem bounded_flag {t : Fin 4} {g : Fin 8} (h : s.queuesBounded) : (s.flag t g).queuesBounded := bounded_ite (bounded_ite h h) h

theorem bounded_flagMix {t : Fin 4} {m : Fin 32} (h : s.queuesBounded) : (s.flagMix t m).queuesBounded :=
  foldl_keeps (fun _ _ ht => bounded_ite (bounded_flag ht) ht) _ h

theorem bounded_setInsert {m : Fin 32} {i : Insert} (h : s.queuesBounded) : (s.setInsert m i).queuesBounded :=
  foldl_keeps (fun _ _ ht => bounded_ite ht (bounded_flagMix ht)) _ (bounded_ite h h)

theorem bounded_followPresent {t : Fin 4} {b a : Word} (h : s.queuesBounded) : (s.followPresent t b a).queuesBounded :=
  foldl_keeps (fun _ _ ht => bounded_ite (bounded_setInsert ht) (bounded_ite (bounded_setInsert ht) ht)) _ h

theorem bounded_setTalkerGroup {t : Fin 4} {g : Fin 8} {x : TalkerGroup} (h : s.queuesBounded) :
    (s.setTalkerGroup t g x).queuesBounded :=
  bounded_of_same h

theorem bounded_takeOpen {t : Fin 4} {g : Fin 8} {q : Byte} {w : Word} (h : s.queuesBounded) :
    (s.takeOpen t g q w).queuesBounded :=
  bounded_flag (bounded_followPresent (bounded_setTalkerGroup h))

theorem bounded_takeClose {t : Fin 4} {g : Fin 8} (h : s.queuesBounded) : (s.takeClose t g).queuesBounded :=
  bounded_of_same (bounded_followPresent (b := s.presentSet t) (bounded_setTalkerGroup (s := s) h))

theorem bounded_loseInsert {m : Fin 32} (h : s.queuesBounded) : (s.loseInsert m).queuesBounded :=
  foldl_keeps (fun _ _ ht => foldl_keeps (fun _ _ ht' =>
    bounded_ite (bounded_flag (bounded_setTalkerGroup ht')) (bounded_ite (bounded_flag ht') ht')) _ ht) _ (bounded_ite h h)

theorem bounded_sendTalkState {t : Fin 4} (h : s.queuesBounded) (hroom : s.svc.hasRoom .urgent = true) :
    (s.sendTalkState t).queuesBounded := by
  unfold State.sendTalkState
  split
  · exact h
  · exact bounded_enqueue (s := State.mk ..) h hroom

theorem bounded_pumpTalkReply {t : Fin 4} (h : s.queuesBounded) : (s.pumpTalkReply t).queuesBounded :=
  bounded_pump (fun _ => bounded_sendTalkState) _ h

theorem bounded_sendOutbox (h : s.queuesBounded) (hroom : s.svc.hasRoom .urgent = true) : s.sendOutbox.queuesBounded := by
  unfold State.sendOutbox
  split
  · exact h
  · extract_lets
    split
    · exact bounded_enqueue (s := s.modGroup _ _) h hroom
    · exact bounded_enqueue (s := s.modGroup _ _) h hroom

theorem bounded_pumpOutbox (h : s.queuesBounded) : s.pumpOutbox.queuesBounded :=
  foldl_keeps (fun t b ht => by
    split
    · exact bounded_ite ht ht
    · exact ht) _ (bounded_pump (fun _ => bounded_sendOutbox) _ h)

theorem bounded_pumpTalk (h : s.queuesBounded) : s.pumpTalk.queuesBounded :=
  bounded_endTalkSteps (foldl_keeps (fun _ _ ht => bounded_pumpTalkReply ht) _ (bounded_pumpOutbox h))

theorem bounded_openAt {g : Fin 8} {u : Fin 4} (h : s.queuesBounded) : (s.openAt g u).queuesBounded :=
  bounded_ite (bounded_takeOpen (bounded_modGroup h)) (bounded_ite (bounded_modGroup h) (bounded_modGroup h))

theorem bounded_openGroup {g : Fin 8} (h : s.queuesBounded) : (s.openGroup g).queuesBounded :=
  bounded_pumpTalk (foldl_keeps (fun _ _ ht => bounded_openAt ht) _ (bounded_modGroup h))

theorem bounded_closeAt {g : Fin 8} {u : Fin 4} (h : s.queuesBounded) : (s.closeAt g u).queuesBounded :=
  bounded_ite (bounded_takeClose h) (bounded_modGroup h)

theorem bounded_closeGroup {g : Fin 8} (h : s.queuesBounded) : (s.closeGroup g).queuesBounded :=
  bounded_pumpTalk (foldl_keeps (fun _ _ ht => bounded_closeAt ht) _ (bounded_modGroup h))

theorem bounded_addOpener {g : Fin 8} {o : Opener} (h : s.queuesBounded) : (s.addOpener g o).queuesBounded :=
  bounded_ite (bounded_modGroup h) (bounded_openGroup (bounded_modGroup h))

theorem bounded_removeOpener {g : Fin 8} {o : Opener} (h : s.queuesBounded) : (s.removeOpener g o).queuesBounded :=
  bounded_ite (bounded_closeGroup (bounded_modGroup h)) (bounded_modGroup h)

theorem bounded_talkTargetReach {u : Fin 4} {up : Bool} (h : s.queuesBounded) : (s.talkTargetReach u up).queuesBounded :=
  foldl_keeps (fun _ _ ht => bounded_ite (bounded_ite (bounded_modGroup ht) ht)
    (bounded_ite (bounded_modGroup (bounded_modGroup ht)) (bounded_modGroup ht))) _ h

theorem bounded_talkerGone {t : Fin 4} (h : s.queuesBounded) : (s.talkerGone t).queuesBounded := by
  have h1 := bounded_followPresent (t := t) (b := s.presentSet t) (a := 0)
    (s := { s with talk.talkers := s.talk.talkers.set t {} }) h
  exact bounded_of_same (bounded_withService h1 (bounded_service h1).unhold)

theorem bounded_talkReach {o : Fin 4} {up : Bool} (h : s.queuesBounded) : (s.talkReach o up).queuesBounded :=
  bounded_pumpTalk (bounded_ite (bounded_talkTargetReach h) (bounded_talkerGone (bounded_talkTargetReach h)))

theorem bounded_talkPress {b g : Fin 8} {m : TalkMode} (h : s.queuesBounded) : (s.talkPress b g m).queuesBounded :=
  (bounded_addOpener h)

theorem bounded_talkStop {b g : Fin 8} (h : s.queuesBounded) : (s.talkStop b g).queuesBounded := bounded_removeOpener h

theorem bounded_talkEvent {b g : Fin 8} {m : TalkMode} {p : Bool} (h : s.queuesBounded) :
    (s.talkEvent b g m p).queuesBounded := by
  unfold State.talkEvent
  split
  · exact bounded_talkPress h
  · exact bounded_talkStop h
  · split
    · exact bounded_talkStop h
    · exact h
    · exact bounded_ite h (bounded_talkStop h)
  · exact h

theorem bounded_cuePress {b : Fin 8} {w : Word} {n : Nat} (h : s.queuesBounded) : (s.cuePress b w n).queuesBounded := by
  refine bounded_ite h ?_
  split
  · exact bounded_cueMixes h
  · exact h

theorem bounded_act {b : Fin 8} {p : Bool} (h : s.queuesBounded) : (s.act b p).queuesBounded := by
  unfold State.act
  split
  · exact h
  · exact bounded_talkEvent h
  · exact bounded_ite (bounded_ite (bounded_beginAt h) h) h
  · exact bounded_ite (bounded_cuePress h) h

theorem bounded_detected {b : Fin 8} {p : Bool} (h : s.queuesBounded) : (s.detected b p).queuesBounded := by
  have h1 : (if p then s.modButton b fun x => { x with presses := x.presses + 1 } else s).queuesBounded := bounded_ite h h
  exact bounded_ite (bounded_attend (bounded_act h1)) (bounded_act h1)

theorem bounded_endButtonWaits {b : Fin 8} {v : Bool} (h : s.queuesBounded) : (s.endButtonWaits b v).queuesBounded :=
  foldl_keeps (fun t l ht => by
    split
    · exact bounded_ite (bounded_endStep ht) ht
    · exact ht) _ h

theorem bounded_setMixValues {m : Fin 32} {a : Bool} {x y z : Nat} (h : s.queuesBounded) :
    (s.setMixValues m a x y z).queuesBounded := by
  unfold State.setMixValues
  extract_lets was s1 s2
  have h2 : s2.queuesBounded := bounded_ite (a := s1.retargetDuck m) (b := s1) h h
  exact bounded_ite (bounded_loseInsert h2) h2

theorem bounded_takeMixSet {q : Fin 4} {t : Tag} {m a : Byte} {x y z : BitVec 16} (h : s.queuesBounded) :
    (s.takeMixSet q t m a x y z).queuesBounded := by
  unfold State.takeMixSet
  split
  · exact bounded_mixAck h
  · exact bounded_ite (bounded_mixAck h) (bounded_mixAck (bounded_pumpTalk (bounded_setMixValues h)))

theorem bounded_applyMixEntry {b : List Byte} (h : s.queuesBounded) : (s.applyMixEntry b).queuesBounded := by
  unfold State.applyMixEntry
  split
  · exact h
  · extract_lets s1
    have h1 : s1.queuesBounded := by
      unfold s1
      split
      · exact h
      · exact h
    exact bounded_setMixValues h1

theorem bounded_beginSetMix {l : Fin 16} {j : Join} (h : s.queuesBounded) : (s.beginSetMix l j).queuesBounded := by
  unfold State.beginSetMix
  extract_lets
  split
  · exact bounded_finish h
  · refine bounded_ite (bounded_finish (bounded_pumpTalk (foldl_keeps (fun _ _ ht => bounded_applyMixEntry ht) _ h))) ?_
    split
    · exact bounded_startParts h
    · exact h

theorem bounded_beginLoad {l : Fin 16} {j : Join} (h : s.queuesBounded) : (s.beginLoad l j).queuesBounded := by
  refine bounded_ite (bounded_finish h) (bounded_ite (bounded_finish (bounded_applySends h)) ?_)
  split
  · exact bounded_startParts h
  · exact h

theorem bounded_stageHere {l : Fin 16} {j : Join} {m : Fin 32} {rs : List SendRecord} (h : s.queuesBounded) :
    (s.stageHere l j m rs).queuesBounded :=
  bounded_ite (bounded_finish h) (bounded_ite (bounded_finish h) (bounded_finish (bounded_modMix h)))

theorem bounded_beginScene {l : Fin 16} {j : Join} (h : s.queuesBounded) : (s.beginScene l j).queuesBounded := by
  unfold State.beginScene
  extract_lets
  split
  · exact bounded_finish h
  · refine bounded_ite (bounded_stageHere h) ?_
    split
    · exact bounded_startParts h
    · exact h

theorem bounded_beginCue {l : Fin 16} {j : Join} (h : s.queuesBounded) : (s.beginCue l j).queuesBounded := by
  refine bounded_ite (bounded_finish h) (bounded_ite ?_ ?_)
  · split
    · exact bounded_cueLane (bounded_setOp h)
    · exact bounded_of_same (bounded_setOp (l := l) (j := j) h)
  · split
    · exact bounded_startParts h
    · exact h

theorem bounded_beginRead {l : Fin 16} {j : Join} (h : s.queuesBounded) : (s.beginRead l j).queuesBounded :=
  have h1 : ∀ ws : List Word, (s.storeWords j 0 ws).queuesBounded := fun _ => bounded_storeJoined h
  bounded_finish (bounded_ite (bounded_of_same (h1 _)) (h1 _))

theorem bounded_talkerOpens {q : Fin 4} {g x : Byte} {w : Word} (h : s.queuesBounded) :
    (s.talkerOpens q g x w).queuesBounded := by
  unfold State.talkerOpens
  split
  · exact bounded_pumpTalk (bounded_takeOpen h)
  · exact h

theorem bounded_talkerCloses {q : Fin 4} {g : Byte} (h : s.queuesBounded) : (s.talkerCloses q g).queuesBounded := by
  unfold State.talkerCloses
  split
  · exact bounded_pumpTalk (bounded_takeClose h)
  · exact h

theorem bounded_takeState {q : Fin 4} {g x : Byte} {a b : Word} (h : s.queuesBounded) :
    (s.takeState q g x a b).queuesBounded := by
  unfold State.takeState
  split
  · exact h
  · exact bounded_ite (bounded_endTalkSteps (bounded_modGroup h)) h

theorem bounded_answerTimeout {g : Fin 8} {u : Fin 4} (h : s.queuesBounded) : (s.answerTimeout g u).queuesBounded :=
  bounded_pumpTalk (bounded_modGroup h)

theorem bounded_beginGroup {l : Fin 16} {j : Join} (h : s.queuesBounded) : (s.beginGroup l j).queuesBounded := by
  unfold State.beginGroup
  extract_lets
  split
  · exact bounded_finish h
  · refine bounded_ite (bounded_finish h) ?_
    split
    · exact bounded_finish h
    · exact bounded_ite (bounded_finish h) (bounded_ite (bounded_finish h) (bounded_finish (bounded_ite h h)))

theorem bounded_endAction {b : Fin 8} (h : s.queuesBounded) : (s.endAction b).queuesBounded :=
  foldl_keeps (fun _ _ ht => bounded_ite (bounded_removeOpener ht) ht) _ h

theorem bounded_applyButton {e : ButtonEntry} (h : s.queuesBounded) : (s.applyButton e).queuesBounded := by
  cases e with
  | lamp => exact h
  | button i d a n =>
    have h1 : ((s.endAction i).modButton i fun x => { x with detection := d, action := a, notify := n }).queuesBounded :=
      (bounded_endAction h)
    exact bounded_ite (bounded_detected h1) h1

theorem bounded_beginButtons {l : Fin 16} {j : Join} (h : s.queuesBounded) : (s.beginButtons l j).queuesBounded := by
  unfold State.beginButtons
  split
  · exact bounded_finish h
  · exact bounded_finish (foldl_keeps (fun _ _ ht => bounded_applyButton ht) _ h)

theorem bounded_beginTalk {l : Fin 16} {j : Join} (h : s.queuesBounded) : (s.beginTalk l j).queuesBounded := by
  unfold State.beginTalk
  split
  · exact bounded_finish h
  · exact bounded_ite (bounded_endTalkSteps (bounded_addOpener (bounded_setOp h))) (bounded_finish (bounded_removeOpener h))

/-! ### The meter unit (spec 09) -/

theorem bounded_setSweep {l : Fin 16} {x : Option Sweep} (h : s.queuesBounded) : (s.setSweep l x).queuesBounded :=
  bounded_of_same h

theorem bounded_queueSweep {l : Fin 16} {x : Sweep} (h : s.queuesBounded) : (s.queueSweep l x).queuesBounded := bounded_of_same h

theorem bounded_writeResult {x : Sweep} {d : Measuring} (h : s.queuesBounded) : (s.writeResult x d).queuesBounded :=
  bounded_store (bounded_store (bounded_store h))

theorem bounded_clearResults {x : Sweep} (h : s.queuesBounded) : (s.clearResults x).queuesBounded :=
  foldl_keeps (fun _ _ ht => bounded_store ht) _ h

theorem bounded_endSweep {l : Fin 16} {x : Sweep} (h : s.queuesBounded) : (s.endSweep l x).queuesBounded :=
  bounded_endStep (bounded_of_same
    (bounded_storeJoined (j := s.join l) (i := 20) (bs := [x.missed].flatMap fun w => leBytes 4 w.toNat) h))

theorem bounded_passComplete {l : Fin 16} {x : Sweep} (h : s.queuesBounded) : (s.passComplete l x).queuesBounded := by
  unfold State.passComplete
  extract_lets
  split
  · exact bounded_endSweep h
  · exact bounded_endSweep h
  · exact bounded_ite (bounded_endSweep h) (bounded_ite (bounded_setSweep h) (bounded_of_same h))
  · split
    · exact bounded_ite (bounded_endSweep h) (bounded_of_same h)
    · exact bounded_endSweep h

theorem bounded_beginPass (h : s.queuesBounded) : s.beginPass.queuesBounded := by
  unfold State.beginPass
  split
  · exact h
  · split
    · exact h
    · exact bounded_of_same h

theorem bounded_windowEnd {k : Fin 8} {d : Measuring} (h : s.queuesBounded) : (s.windowEnd k d).queuesBounded := by
  unfold State.windowEnd
  split
  · exact h
  · split
    · exact h
    · rename_i x _
      have h1 : (s.writeResult x d).queuesBounded := bounded_writeResult h
      generalize s.writeResult x d = s1 at h1
      exact bounded_ite (bounded_of_same h1) (bounded_ite (bounded_passComplete (bounded_of_same h1)) (bounded_of_same h1))

theorem bounded_buttonTrigger {b : Fin 8} {v : Bool} {l : Fin 16} (h : s.queuesBounded) :
    (s.buttonTrigger b v l).queuesBounded := by
  unfold State.buttonTrigger
  split
  · split
    · refine bounded_ite ?_ h
      split
      · exact bounded_queueSweep h
      · exact bounded_setSweep h
    · exact h
  · exact h

theorem bounded_frameTrigger {l : Fin 16} (h : s.queuesBounded) : (s.frameTrigger l).queuesBounded := by
  unfold State.frameTrigger
  split
  · exact bounded_ite (bounded_queueSweep h) h
  · exact h

theorem bounded_createSweep {l : Fin 16} {j : Join} {x : Sweep} (h : s.queuesBounded) : (s.createSweep l j x).queuesBounded := by
  have h1 : (((s.storeWords j 20 [0]).clearResults x).setOp l j .meter).queuesBounded :=
    bounded_setOp (bounded_clearResults (bounded_storeJoined h))
  exact bounded_ite (bounded_frameTrigger (bounded_setSweep h1)) (bounded_queueSweep h1)

theorem bounded_beginMeter {l : Fin 16} {j : Join} (h : s.queuesBounded) : (s.beginMeter l j).queuesBounded := by
  refine bounded_ite (bounded_finish h) ?_
  split
  · exact bounded_finish h
  · exact bounded_createSweep h
  · exact bounded_finish h

theorem bounded_detectorDone {k : Fin 8} (h : s.queuesBounded) : (s.detectorDone k).queuesBounded := by
  unfold State.detectorDone
  split
  · exact bounded_ite (bounded_windowEnd h) h
  · exact h

theorem bounded_levelChanged {b : Fin 8} {v : Bool} (h : s.queuesBounded) : (s.levelChanged b v).queuesBounded := by
  unfold State.levelChanged
  extract_lets s0 s1 s2
  have h1 : s1.queuesBounded := h
  have h2 : s2.queuesBounded := by
    unfold s2
    split
    · exact bounded_detected h1
    · exact h1
  exact foldl_keeps (fun _ _ ht => bounded_buttonTrigger ht) _ (bounded_endButtonWaits h2)

theorem bounded_debounce {b : Fin 8} {v : Bool} (h : s.queuesBounded) : (s.debounce b v).queuesBounded :=
  have h1 := h
  bounded_ite h (bounded_ite h1 (bounded_ite h1 (bounded_ite h1 (bounded_levelChanged h1))))

/-! ### The clock unit and the supervisor (spec 02, R36 to R43; spec 08, R160 to R164) -/

theorem bounded_requestEnds {q : Request} {st : Status} (h : s.queuesBounded) : (s.requestEnds q st).queuesBounded :=
  bounded_ite (bounded_settleEntries (bounded_freeEntry h))
    (bounded_ite (bounded_partUnanswered (bounded_freeEntry h)) (bounded_endStep (bounded_freeEntry h)))

theorem bounded_timeOut {l : Fin 16} {q : Byte} (h : s.queuesBounded) : (s.timeOut l q).queuesBounded := by
  unfold State.timeOut
  split
  · exact bounded_requestEnds h
  · exact h

theorem bounded_endReachWaits {o : Fin 4} {up : Bool} (h : s.queuesBounded) : (s.endReachWaits o up).queuesBounded :=
  foldl_keeps (fun t l ht => by
    split
    · exact bounded_ite (bounded_endStep ht) ht
    · exact bounded_ite (bounded_endStep ht) ht
    · exact ht) _ h

theorem bounded_clockRecord {c : Clock} (h : s.queuesBounded) : (s.clockRecord c).queuesBounded := bounded_ite h (bounded_fault h)

theorem bounded_chooseSource (h : s.queuesBounded) : s.chooseSource.queuesBounded := by
  refine bounded_ite h ?_
  split
  · exact bounded_clockRecord (s := State.mk ..) h
  · exact bounded_clockRecord (s := State.mk ..) h

theorem bounded_clockPathLost {o : Fin 4} {p : Port} (h : s.queuesBounded) : (s.clockPathLost o p).queuesBounded := by
  refine bounded_ite ?_ h
  split
  · exact h
  · exact h

theorem bounded_changeDelay {d : Nat} (h : s.queuesBounded) : (s.changeDelay d).queuesBounded :=
  bounded_ite h (bounded_retestSwitches (s := State.mk ..) h)

theorem bounded_frameJump {f : Word} (h : s.queuesBounded) : (s.frameJump f).queuesBounded :=
  foldl_keeps (fun _ _ ht => bounded_frameTrigger (bounded_endFrameWait ht)) _
    (bounded_retestSwitches (bounded_fault (s := State.mk ..) h))

theorem bounded_follow40 {d : Int} {f : Word} (h : s.queuesBounded) : (s.follow40 d f).queuesBounded :=
  bounded_ite (bounded_frameJump h) h

theorem bounded_clockArrival {o : Fin 4} {p : Port} {f : Word} {x : BitVec 8} (h : s.queuesBounded) :
    (s.clockArrival o p f x).queuesBounded := by
  refine bounded_ite h ?_
  extract_lets diff _ s1
  have h1 : s1.queuesBounded := bounded_of_same h
  split
  · exact h1
  · refine bounded_ite (bounded_follow40 (bounded_ite ?_ h1)) (bounded_ite ?_ h1)
    · exact bounded_of_same h1
    · exact bounded_of_same h1

theorem bounded_reachReport {o : Fin 4} {up : Bool} (h : s.queuesBounded) : (s.reachReport o up).queuesBounded := by
  have h1 : (if up then s else s.serviceReach o).queuesBounded :=
    bounded_ite h (foldl_keeps (fun _ _ ht => bounded_requestEnds ht) _ h)
  exact bounded_endReachWaits (bounded_talkReach (s := State.mixReach _ _ _) (bounded_gainReach (bounded_chooseSource h1)))

theorem bounded_reachChange {o : Fin 4} {p : Port} {up : Bool} (h : s.queuesBounded) : (s.reachChange o p up).queuesBounded :=
  bounded_reachReport (bounded_ite (bounded_fault (s := s) h) (bounded_fault h))

theorem bounded_pathRecord {o : Fin 4} {p : Port} {up : Bool} (h : s.queuesBounded) : (s.pathRecord o p up).queuesBounded :=
  bounded_fault h

theorem bounded_losePath {o : Fin 4} {p : Port} (h : s.queuesBounded) : (s.losePath o p).queuesBounded := by
  have h1 := bounded_clockPathLost (o := o) (p := p) (bounded_pathRecord (o := o) (p := p) (up := false)
    (s := s.modPath o p fun x => { x with up := false, losses := x.losses + 1 }) h)
  exact bounded_ite h1 (bounded_reachChange h1)

theorem bounded_pathArrival {o : Fin 4} {p : Port} {n : Nat} {w : Word} (h : s.queuesBounded) :
    (s.pathArrival o p n w).queuesBounded := by
  unfold State.pathArrival
  extract_lets was _ s1 s2 s4 s3
  have h2 : s2.queuesBounded := bounded_of_same h
  have h4 : s4.queuesBounded := bounded_pathRecord h2
  have h3 : s3.queuesBounded := bounded_ite h2 (bounded_ite h4 (bounded_reachChange h4))
  exact bounded_ite (bounded_changeDelay h3) h3

theorem bounded_losePaths {p : Port} (h : s.queuesBounded) : (s.losePaths p).queuesBounded :=
  foldl_keeps (fun _ _ ht => bounded_ite (bounded_losePath ht) ht) _ h

theorem bounded_setClosure {d : Direction} {c : Closure} (h : s.queuesBounded) : (s.setClosure d c).queuesBounded := by
  cases d with
  | eastward => exact h
  | westward => exact h

theorem bounded_closureReport {p : Port} {n : Nat} {f : Word} (h : s.queuesBounded) : (s.closureReport p n f).queuesBounded :=
  bounded_ite h (bounded_setClosure h)

theorem bounded_conflict {p : Port} {m : BitVec 16} (h : s.queuesBounded) : (s.conflict p m).queuesBounded := by
  have h1 := bounded_attend (i := 22) h
  exact bounded_ite h1 (bounded_fault (s := State.setPort _ _ _) h1)

/-! ### The ring ports (spec 08) -/

theorem bounded_leftUp {p : Port} (h : s.queuesBounded) : (s.leftUp p).queuesBounded :=
  bounded_losePaths (bounded_setClosure (s := s.setPort _ _) h)

theorem bounded_reportDark {p : Port} {n : Option (Fin 4)} {k : Nat} (h : s.queuesBounded) : (s.reportDark p n k).queuesBounded :=
  bounded_ite h (bounded_fault (s := s.setPort _ _) h)

theorem bounded_enterDark {p : Port} (h : s.queuesBounded) : (s.enterDark p).queuesBounded := by
  have h1 : ((s.setPort p ((s.port p).enter .dark)).reportDark p (s.neighbour p) (s.port p).timer).queuesBounded :=
    bounded_reportDark (s := s.setPort _ _) h
  exact bounded_ite (bounded_leftUp h1) h1

theorem bounded_enterUp {p : Port} (h : s.queuesBounded) : (s.enterUp p).queuesBounded := bounded_fault (s := s.setPort _ _) h

theorem bounded_flap {p : Port} {c : FlapCause} (h : s.queuesBounded) : (s.flap p c).queuesBounded := by
  unfold State.flap
  extract_lets x was near r1 _ r2 s3
  have h3 : s3.queuesBounded := by
    refine bounded_ite (bounded_fault (s := s.setPort _ _) h) ?_
    split
    · exact bounded_reportDark (s := s.setPort _ _) h
    · exact bounded_fault (s := s.setPort _ _) h
  exact bounded_ite (bounded_leftUp h3) h3

theorem bounded_checkFailed {p : Port} (h : s.queuesBounded) : (s.checkFailed p).queuesBounded :=
  bounded_ite (bounded_flap (s := s.setPort _ _) h) h

theorem bounded_receiveAcquire {p : Port} {b : Burst} {v : Bool} (h : s.queuesBounded) : (s.receiveAcquire p b v).queuesBounded :=
  bounded_ite h h

theorem bounded_receiveQualify {p : Port} {b : Burst} {v : Bool} (h : s.queuesBounded) : (s.receiveQualify p b v).queuesBounded :=
  bounded_ite h (bounded_ite h (bounded_ite (bounded_ite (bounded_enterUp (s := State.mk ..) h) h) h))

theorem bounded_forward {p : Port} {b : Burst} (h : s.queuesBounded) : (s.forward p b).queuesBounded :=
  bounded_ite h (bounded_ite h h)

theorem bounded_enterLoop {p : Port} {x : LoopRole} {n : Nat} {l : Option (Fin 16)} (h : s.queuesBounded) :
    (s.enterLoop p x n l).queuesBounded :=
  bounded_ite (bounded_leftUp (s := s.setPort _ _) h) h

theorem bounded_writeLoop {x : LoopRec} (h : s.queuesBounded) : (s.writeLoop x).queuesBounded := by
  unfold State.writeLoop
  split
  · exact bounded_storeJoined h
  · exact h

theorem bounded_endTester {x : LoopRec} {o : LoopOutcome} (h : s.queuesBounded) : (s.endTester x o).queuesBounded := by
  unfold State.endTester
  split
  · exact bounded_endStep h
  · exact bounded_endStep h
  · exact h

theorem bounded_endLoop {p : Port} {o : LoopOutcome} (h : s.queuesBounded) : (s.endLoop p o).queuesBounded := by
  unfold State.endLoop
  split
  · exact h
  · rename_i x _
    have h1 : (s.writeLoop x).queuesBounded := bounded_writeLoop h
    have h2 : (if o = .broken then (s.writeLoop x).enterDark p else (s.writeLoop x).enterAcquire p).queuesBounded :=
      bounded_ite (bounded_enterDark h1) h1
    exact bounded_endTester (bounded_fault (s := State.setPort _ _ _) h2)

theorem bounded_giveBurst {p : Port} {b : Burst} (h : s.queuesBounded) : (s.giveBurst p b).queuesBounded := by
  unfold State.giveBurst
  extract_lets
  split
  · exact h
  · split
    · exact bounded_ite h h
    · exact h
  · exact h

theorem bounded_sendForward {p : Port} (h : s.queuesBounded) : (s.sendForward p).queuesBounded := by
  refine bounded_ite h ?_
  split
  · exact bounded_ite h h
  · exact h

theorem bounded_loseSignal {p : Port} (h : s.queuesBounded) : (s.loseSignal p).queuesBounded := by
  unfold State.loseSignal
  split
  · exact bounded_flap h
  · exact bounded_flap h
  · split
    · split
      · exact h
      · exact bounded_endLoop h
      · exact bounded_endLoop h
    · exact h
  · exact h
  · exact h
  · exact h

theorem bounded_startLoop {l : Fin 16} {j : Join} {p : Port} {far : Bool} {n : Nat} (h : s.queuesBounded) :
    (s.startLoop l j p far n).queuesBounded := by
  have h1 : ((s.storeWords j 8 [0, 0, 0, 0, snap n]).setOp l j (.loopTest p n)).queuesBounded := bounded_setOp (bounded_storeJoined h)
  refine bounded_ite ?_ (bounded_enterLoop h1)
  split
  · exact bounded_remoteRequest h1
  · exact h1

theorem bounded_beginLoop {l : Fin 16} {j : Join} (h : s.queuesBounded) : (s.beginLoop l j).queuesBounded := by
  unfold State.beginLoop
  extract_lets
  split
  · exact bounded_finish h
  · refine bounded_ite (bounded_finish h) ?_
    split
    · exact bounded_finish h
    · exact bounded_startLoop h

theorem bounded_takeLoopRequest {q : Fin 4} {t : Tag} {p : Byte} {d : Word} (h : s.queuesBounded) :
    (s.takeLoopRequest q t p d).queuesBounded := by
  unfold State.takeLoopRequest
  split
  · exact bounded_reply h
  · exact bounded_ite (bounded_reply h) (bounded_reply h)

theorem bounded_answerLoop {l : Fin 16} {x : Byte} (h : s.queuesBounded) : (s.answerLoop l x).queuesBounded := by
  unfold State.answerLoop
  split
  · exact bounded_ite (bounded_endStep h) (bounded_ite (bounded_enterLoop h) (bounded_endStep h))
  · exact h

theorem bounded_takeLoopReply {t : Tag} {x : Byte} (h : s.queuesBounded) : (s.takeLoopReply t x).queuesBounded := by
  unfold State.takeLoopReply
  split
  · exact h
  · exact bounded_answerLoop (bounded_freeEntry h)

theorem bounded_dealWith {p : Port} {x : BitVec 8} {b : Burst} (h : s.queuesBounded) : (s.dealWith p x b).queuesBounded :=
  bounded_ite (bounded_ite (bounded_closureReport h) (bounded_conflict h))
    (bounded_forward (bounded_pathArrival (s := State.mk ..) (bounded_clockArrival (s := s) h)))

theorem bounded_receiveLoop {p : Port} {w : Bool} {b : Burst} (h : s.queuesBounded) : (s.receiveLoop p w b).queuesBounded := by
  unfold State.receiveLoop
  extract_lets
  split
  · split
    · exact h
    · exact h
    · exact h
  · exact h

theorem bounded_receive {p : Port} {x : BitVec 8} {w : Bool} {b : Burst} (h : s.queuesBounded) :
    (s.receive p x w b).queuesBounded := by
  have h1 : ∀ v : Bool, (s.countCheck p v).queuesBounded := fun _ => h
  unfold State.receive
  extract_lets
  split
  · exact h
  · exact bounded_receiveAcquire (h1 _)
  · exact bounded_receiveQualify (h1 _)
  · exact bounded_ite (bounded_dealWith (h1 _)) (bounded_checkFailed (h1 _))
  · exact h1 _
  · exact bounded_receiveLoop h

/-! ### Cancels and scans (spec 01, R12, R16) -/

theorem bounded_cancelLoop {l : Fin 16} {p : Port} (h : s.queuesBounded) : (s.cancelLoop l p).queuesBounded := by
  unfold State.cancelLoop
  split
  · exact bounded_ite (bounded_endLoop h) h
  · exact h

theorem bounded_cancelCue {l : Fin 16} {k : Option (Fin 16)} (h : s.queuesBounded) : (s.cancelCue l k).queuesBounded := by
  cases k with
  | none => exact h
  | some => exact h

theorem bounded_cancelOp {l : Fin 16} {op : Op} (h : s.queuesBounded) : (s.cancelOp l op).1.queuesBounded := by
  cases op with
  | wait => exact h
  | mapSlots => exact h
  | patchOutputs => exact h
  | sendNote => exact bounded_withdraw h
  | setInput => exact (bounded_withdraw (bounded_writeOutcomes h))
  | claim => exact bounded_withdraw h
  | setReference => exact bounded_withdraw h
  | mixRemote => exact bounded_withdraw h
  | cueScene => exact bounded_cancelCue h
  | talkOpen => exact h
  | loopTest => exact bounded_cancelLoop (bounded_withdraw h)
  | meter =>
    simp only [State.cancelOp]
    split
    · exact (bounded_storeJoined h)
    · exact h

theorem bounded_cancelLane {l : Fin 16} (h : s.queuesBounded) : (s.cancelLane l).queuesBounded := by
  unfold State.cancelLane
  extract_lets
  split
  · exact bounded_finishCancelled (bounded_cancelOp h)
  · exact bounded_finishCancelled h
  · exact bounded_finishCancelled h
  · exact bounded_ite h (bounded_setLane h)

theorem bounded_scanLane {l : Fin 16} (h : s.queuesBounded) : (s.scanLane l).queuesBounded := by
  unfold State.scanLane
  extract_lets s1
  have h1 : s1.queuesBounded := bounded_ite h (bounded_cancelLane (bounded_poke h))
  exact bounded_takePost h1

theorem bounded_scanLanes (h : s.queuesBounded) : s.scanLanes.queuesBounded :=
  foldl_keeps (s := State.mk ..) (fun _ _ ht => bounded_scanLane ht) _ h

/-! ### Playout, burst and map steps (spec 02, spec 03) -/

theorem bounded_completeMessage {o : Fin 4} {m : Nat × List Byte} (h : s.queuesBounded) :
    (s.completeMessage o m).queuesBounded := by
  unfold State.completeMessage
  split
  · exact bounded_withService (s := { s with inbox := _ }) h (bounded_service h).of_le
  · exact bounded_withService h (bounded_service h).of_le

theorem bounded_takeStream {p : Word} {f : Bank 4 PlayedFrame} {o : Fin 4} (h : s.queuesBounded) :
    (s.takeStream p f o).queuesBounded :=
  bounded_ite h (foldl_keeps (fun _ _ ht => bounded_completeMessage ht) _ (bounded_withService h (bounded_service h).of_le))

theorem bounded_applyReferences (h : s.queuesBounded) : s.applyReferences.queuesBounded :=
  foldl_keeps (fun _ _ ht => foldl_keeps (fun _ _ ht' => bounded_ite (bounded_applyReference ht') ht') _ ht) _ h

theorem bounded_applyGains (h : s.queuesBounded) : s.applyGains.queuesBounded :=
  foldl_keeps (fun _ _ ht => bounded_ite (bounded_ite (bounded_applyPending ht) ht) (bounded_ite (bounded_applyScheduled ht) ht)) _ h

theorem bounded_endMutes (h : s.queuesBounded) : s.endMutes.queuesBounded :=
  foldl_keeps (fun _ _ ht => bounded_ite (bounded_endMute ht) ht) _ h

theorem bounded_advanceRamps (h : s.queuesBounded) : s.advanceRamps.queuesBounded := bounded_of_same h

theorem bounded_takeCues (h : s.queuesBounded) : s.takeCues.queuesBounded :=
  foldl_keeps (fun _ _ ht => bounded_ite (bounded_takeCue ht) ht) _ h

theorem bounded_beforePlayout {tdm : List Sample} (h : s.queuesBounded) : (s.beforePlayout tdm).queuesBounded := by
  unfold State.beforePlayout
  extract_lets _ s1
  have h1 : s1.queuesBounded := bounded_of_same h
  exact bounded_takeCues (bounded_advanceRamps (bounded_endMutes (bounded_applyGains (bounded_applyReferences h1))))

theorem bounded_computeMixes {f : Bank 4 PlayedFrame} (h : s.queuesBounded) : (s.computeMixes f).queuesBounded :=
  bounded_of_same h

theorem bounded_deliver {f : Bank 4 PlayedFrame} (h : s.queuesBounded) : (s.deliver f).queuesBounded := bounded_of_same h

theorem bounded_measure {f : Bank 4 PlayedFrame} (h : s.queuesBounded) : (s.measure f).queuesBounded := bounded_of_same h

theorem bounded_playoutEnd {p : Word} (h : s.queuesBounded) :
    ({ s.endReferences with merge.playedNow := true, merge.point := p + 1, gain.switched := [] } : State).queuesBounded := by
  have h1 : s.endReferences.queuesBounded := bounded_endReferences h
  generalize s.endReferences = s1 at h1
  exact bounded_of_same h1

theorem bounded_playFrames {p : Word} {records : Bank 4 MergeRec} {frames : Bank 4 PlayedFrame} (h : s.queuesBounded) :
    ((indices 4).foldl (fun (st : State) o => st.takeStream p frames o)
      ((({ s with merge.records := records }.computeMixes frames).deliver frames).measure frames)).queuesBounded :=
  foldl_keeps (fun _ _ ht => bounded_takeStream ht) _
    (bounded_measure (bounded_deliver (bounded_computeMixes (bounded_of_same h))))

theorem bounded_playout {tdm : List Sample} (h : s.queuesBounded) : (s.playout tdm).queuesBounded := by
  have h1 (p records frames) := bounded_playoutEnd (p := p)
    (bounded_playFrames (p := p) (records := records) (frames := frames) (bounded_beforePlayout (tdm := tdm) h))
  unfold State.playout
  generalize s.beforePlayout tdm = s1 at h1 ⊢
  exact h1 _ _ _

theorem bounded_messageSent {m : Message} (h : s.queuesBounded) : (s.messageSent m).queuesBounded := by
  unfold State.messageSent
  split
  · exact h
  · split
    · exact h
    · exact bounded_ite (bounded_withService h ((bounded_service h).of_le le_rfl le_rfl le_rfl (List.length_map _).le))
        (bounded_requestEnds h)
  · split
    · exact bounded_endStep h
    · exact h
  · exact h
  · exact bounded_ite (bounded_enterLoop h) h

theorem bounded_messageDiscarded {m : Message} (h : s.queuesBounded) : (s.messageDiscarded m).queuesBounded := by
  unfold State.messageDiscarded
  split
  · split
    · exact bounded_requestEnds h
    · exact h
  · split
    · exact bounded_endStep h
    · exact h
  · exact h

theorem bounded_serviceEvent {e : ServiceEvent} (h : s.queuesBounded) : (s.serviceEvent e).queuesBounded := by
  cases e with
  | sent => exact bounded_messageSent h
  | discarded => exact bounded_messageDiscarded h

theorem bounded_build (h : s.queuesBounded) : s.build.queuesBounded := by
  have hfill := bounded_withService h ((bounded_service h).fill (reach := s.reachList) (n := 8))
  exact foldl_keeps (s := State.mk ..) (fun _ _ ht => bounded_serviceEvent ht) _
    (bounded_giveBurst (bounded_giveBurst (s := State.mk ..) hfill))

theorem bounded_settleSlots {l : Fin 16} (h : s.queuesBounded) : (s.settleSlots l).queuesBounded := by
  unfold State.settleSlots
  split
  · exact bounded_ite (bounded_endStep h) h
  · exact h

theorem bounded_beginSlots {l : Fin 16} {j : Join} (h : s.queuesBounded) : (s.beginSlots l j).queuesBounded := by
  unfold State.beginSlots
  extract_lets
  split
  · exact bounded_finish h
  · exact bounded_settleSlots (bounded_setOp (s := State.mk ..) h)

theorem bounded_settleOutputs {l : Fin 16} (h : s.queuesBounded) : (s.settleOutputs l).queuesBounded := by
  unfold State.settleOutputs
  split
  · exact bounded_ite (bounded_endStep h) h
  · exact h

theorem bounded_beginOutputs {l : Fin 16} {j : Join} (h : s.queuesBounded) : (s.beginOutputs l j).queuesBounded := by
  unfold State.beginOutputs
  split
  · exact bounded_finish h
  · exact bounded_settleOutputs (bounded_setOp (s := State.mk ..) h)

/-! ### Grants of room and entries (spec 04, R73, R76) -/

theorem bounded_afterPlaced {l : Fin 16} (h : s.queuesBounded) : (s.afterPlaced l).queuesBounded := by
  unfold State.afterPlaced
  split
  · exact bounded_moreInputs h
  · exact bounded_endClaim h
  · exact h

theorem bounded_placeHeld {q : QueueClass} {l : Fin 16} (h : s.queuesBounded) (hroom : s.svc.hasRoom q = true)
    (hp : s.placesIn q (.lane l) = true) : (s.placeHeld l).queuesBounded := by
  unfold State.placeHeld
  split
  · rename_i hop
    rw [placesIn_reference hop, decide_eq_true_eq] at hp
    subst hp
    exact bounded_moreReferences (bounded_sendHeadReference h hroom)
  · rename_i hop
    split
    · rename_i m hm
      rw [placesIn_held hop hm, decide_eq_true_eq] at hp
      subst hp
      exact bounded_afterPlaced (bounded_enqueue (s := s.modLane l _) h hroom)
    · exact h

theorem bounded_placeReply {q : QueueClass} (h : s.queuesBounded) (hroom : s.svc.hasRoom q = true) :
    (s.placeReply q).queuesBounded := by
  unfold State.placeReply
  split
  · exact h
  · rename_i m hm
    have hq : kindClass m.kind = q := by simpa using List.find?_some hm
    have hv : ({ s.svc with replies := s.svc.replies.erase m } : Service).Bounded :=
      (bounded_service h).of_le le_rfl le_rfl List.length_erase_le
    exact bounded_enqueue (bounded_withService h hv) (by rw [hq]; exact hroom)

/-- A producer that is given room in the queue its message goes into (R73). -/
theorem bounded_place {q : QueueClass} {k : Held} (h : s.queuesBounded) (hroom : s.svc.hasRoom q = true)
    (hp : s.placesIn q k = true) : (s.place q k).queuesBounded := by
  have hurgent : s.placesIn q k = decide (q = .urgent) → s.svc.hasRoom .urgent = true := fun he => by
    rw [he, decide_eq_true_eq] at hp
    exact hp ▸ hroom
  cases k with
  | lane => exact bounded_placeHeld h hroom hp
  | pendingGain => exact bounded_ite (bounded_announce h (hurgent rfl)) h
  | faultAnnounce => exact bounded_sendFaultAnnounce h (hurgent rfl)
  | gainRefresh => exact bounded_pumpGainRefresh (bounded_sendGainRefresh h (hurgent rfl))
  | refRefresh => exact bounded_pumpRefRefresh (bounded_sendRefRefresh h (hurgent rfl))
  | outbox => exact bounded_pumpOutbox (bounded_sendOutbox h (hurgent rfl))
  | talkReply => exact bounded_pumpTalkReply (bounded_sendTalkState h (hurgent rfl))
  | reply => exact bounded_placeReply h hroom

theorem bounded_grantRoom {q : QueueClass} (h : s.queuesBounded) : (s.grantRoom q).queuesBounded := by
  obtain ⟨-, he⟩ | ⟨k, rest, t, -, hroom, rfl, he⟩ := grantRoom_cases s q
  · rw [he]
    exact h
  · have ht := bounded_withService h ((bounded_service h).setRoom (q := q) (xs := rest))
    rw [he]
    split
    · rename_i hp
      exact bounded_place ht (by rw [hasRoom_setRoom]; exact hroom) hp
    · exact ht

theorem bounded_grantEntry (h : s.queuesBounded) : s.grantEntry.queuesBounded := by
  unfold State.grantEntry
  split
  · exact h
  · split
    · rename_i hfree
      extract_lets _ s1
      have h1 : s1.queuesBounded := bounded_withService h (bounded_service h).of_le
      split
      · exact bounded_moreInputs (bounded_give h1 hfree)
      · exact h1
    · exact h

theorem bounded_rewrite {v : View} (h : s.queuesBounded) : (s.rewrite v).queuesBounded :=
  bounded_showsOnly (showsOnly_rewrite s v) h

theorem bounded_viewChanged {v : View} (h : s.queuesBounded) : (s.viewChanged v).queuesBounded :=
  bounded_showsOnly (showsOnly_viewChanged s v) h

/-! ### Operations without a branch -/

theorem bounded_takeRelease {q : Fin 4} {t : Tag} {i : BitVec 64} (h : s.queuesBounded) : (s.takeRelease q t i).queuesBounded :=
  bounded_reply (s := s.releaseTable q i) h

theorem bounded_beginRanks {l : Fin 16} {j : Join} (h : s.queuesBounded) : (s.beginRanks l j).queuesBounded :=
  bounded_finish (s := State.mk ..) h

theorem bounded_setPort {p : Port} {x : PortRec} (h : s.queuesBounded) : (s.setPort p x).queuesBounded := bounded_of_same h

theorem bounded_enterAcquire {p : Port} (h : s.queuesBounded) : (s.enterAcquire p).queuesBounded := bounded_setPort h

theorem bounded_openClosure {d : Direction} (h : s.queuesBounded) : (s.openClosure d).queuesBounded := bounded_setClosure h

/-! ### The start of a run (spec 01, R8 to R11, R20, R21) -/

theorem bounded_pokeAll {a : Nat} {ws : List Word} (h : s.queuesBounded) : (s.pokeAll a ws).queuesBounded := bounded_store h

theorem bounded_writeView {v : View} (h : s.queuesBounded) : (s.writeView v).queuesBounded :=
  bounded_showsOnly (showsOnly_writeView s v) h

theorem bounded_initList {base capacity : Nat} (h : s.queuesBounded) : (s.initList base capacity).queuesBounded :=
  bounded_pokeAll h

theorem bounded_initLane {l : Fin 16} (h : s.queuesBounded) : (s.initLane l).queuesBounded :=
  bounded_poke (bounded_pokeAll (s := State.mk ..) h)

theorem bounded_prepareRam (h : s.queuesBounded) : s.prepareRam.queuesBounded := by
  unfold State.prepareRam
  have h1 : s.writeInUse.queuesBounded := bounded_pokeAll h
  have h2 := foldl_keeps (f := fun st l => st.initLane l) (fun _ _ ht => bounded_initLane ht) (indices 16) h1
  exact bounded_writeView (bounded_writeView (bounded_writeView (bounded_initList (bounded_initList h2))))

theorem bounded_enterRunning (h : s.queuesBounded) : s.enterRunning.queuesBounded :=
  bounded_attend (bounded_attend (bounded_attend (bounded_of_same h)))

theorem bounded_beginRun {c : RunConfig} (h : s.queuesBounded) : (s.beginRun c).queuesBounded :=
  bounded_enterRunning (bounded_prepareRam (bounded_of_same h))

theorem bounded_checkAnchor (h : s.queuesBounded) : s.checkAnchor.queuesBounded := by
  unfold State.checkAnchor
  split
  · exact bounded_beginRun h
  · exact h

/-! ### The stopped state, and writes to CONTROL (spec 01, R3, R6, R7) -/

/-- A state with nothing at the service unit and no fault announce held. -/
theorem bounded_atRest {t : State} (hv : t.svc = {} := by rfl) (hf : t.gain.heldFaults = Vector.replicate 64 none := by rfl) :
    t.queuesBounded := by
  refine queuesBounded_iff.mpr ⟨by rw [hv]; exact ⟨by decide, by decide, by decide, by decide⟩, fun n m hm => ?_⟩
  rw [hf, Bank.get_eq, Vector.getElem_replicate] at hm
  cases hm

theorem bounded_controlWrite {w : Word} (h : s.queuesBounded) : (s.controlWrite w).queuesBounded := by
  refine bounded_ite bounded_atRest ?_
  split
  · exact h
  · exact h
  · exact h
  · exact bounded_atRest

/-! ### Every command, and the idle step -/

/-- A command of a running terminal whose operation keeps the bounds. -/
theorem bounded_running {f : State → State} (h : s.queuesBounded) (hf : ∀ {t : State}, t.queuesBounded → (f t).queuesBounded) :
    (running f s).queuesBounded :=
  bounded_ite (bounded_showsOnly (showsOnly_withViews (f s) s) (hf h)) h

/-- A begun step that is handed to its block. -/
theorem bounded_runStep {l : Fin 16} {kind : Nat} {act : Join → State → State} (h : s.queuesBounded)
    (ha : ∀ {t : State} {j : Join}, t.queuesBounded → (act j t).queuesBounded) :
    (running (fun st => st.startStep l kind act) s).queuesBounded :=
  bounded_running h fun ht => bounded_startStep (fun _ => ha ht) ht

/-- Every command answers a next state, and that keeps the bounds. -/
theorem exec_bounded (h : s.queuesBounded) (c : Instr) : ∃ t : State, exec c s = .next t ∧ t.queuesBounded := by
  cases c with
  | powerOn => exact ⟨_, rfl, bounded_atRest⟩
  | resetPinLow => exact ⟨_, rfl, bounded_atRest⟩
  | resetPinRelease => exact ⟨_, rfl, bounded_ite bounded_atRest h⟩
  | hostRamWrite => exact ⟨_, rfl, bounded_ite h (bounded_poke h)⟩
  | softReset => exact ⟨_, rfl, bounded_ite h (bounded_controlWrite h)⟩
  | runStart => exact ⟨_, rfl, bounded_ite h (bounded_controlWrite h)⟩
  | runStop => exact ⟨_, rfl, bounded_ite h (bounded_controlWrite h)⟩
  | attentionMaskWrite => exact ⟨_, rfl, bounded_ite h (bounded_controlWrite h)⟩
  | attentionClear => exact ⟨_, rfl, bounded_ite h (bounded_of_same h)⟩
  | ignoredRegisterWrite => exact ⟨_, rfl, h⟩
  | anchorCheck => exact ⟨_, rfl, bounded_ite (bounded_checkAnchor h) h⟩
  | laneScan => exact ⟨_, rfl, bounded_running h fun h => bounded_ite (bounded_scanLanes h) h⟩
  | stepBadKind => exact ⟨_, rfl, bounded_running h fun h => bounded_refuseKind h⟩
  | mark => exact ⟨_, rfl, bounded_runStep h fun h => bounded_finish h⟩
  | wait => exact ⟨_, rfl, bounded_runStep h fun h => bounded_beginWait h⟩
  | waitElapsed => exact ⟨_, rfl, bounded_running h fun h => bounded_ite (bounded_endStep h) h⟩
  | waitFrameReached => exact ⟨_, rfl, bounded_running h fun h => bounded_endFrameWait h⟩
  | waitTimeout => exact ⟨_, rfl, bounded_running h fun h => bounded_ite (bounded_endStep h) h⟩
  | viewRewriteFollowup => exact ⟨_, rfl, bounded_running h fun h => bounded_ite (bounded_rewrite h) h⟩
  | burstBuild => exact ⟨_, rfl, bounded_running h fun h => bounded_ite (bounded_build h) h⟩
  | burstReceive => exact ⟨_, rfl, bounded_running h fun h => bounded_receive h⟩
  | forwardBufferSend => exact ⟨_, rfl, bounded_running h fun h => bounded_sendForward h⟩
  | mapSlots => exact ⟨_, rfl, bounded_runStep h fun h => bounded_beginSlots h⟩
  | mapSlotsSettled => exact ⟨_, rfl, bounded_running h fun h => bounded_settleSlots h⟩
  | playout => exact ⟨_, rfl, bounded_running h fun h => bounded_ite h (bounded_playout h)⟩
  | patchOutputs => exact ⟨_, rfl, bounded_runStep h fun h => bounded_beginOutputs h⟩
  | patchOutputsSettled => exact ⟨_, rfl, bounded_running h fun h => bounded_settleOutputs h⟩
  | gainRequest => exact ⟨_, rfl, bounded_running h fun h => bounded_ite (bounded_takeRequest h) h⟩
  | gainAnnounce => exact ⟨_, rfl, bounded_running h fun h => bounded_ite h (bounded_takeAnnounce (bounded_answerGain h))⟩
  | gainRefused => exact ⟨_, rfl, bounded_running h fun h => bounded_takeRefused h⟩
  | claim => exact ⟨_, rfl, bounded_running h fun h => bounded_ite (bounded_takeClaim h) h⟩
  | release => exact ⟨_, rfl, bounded_running h fun h => bounded_ite (bounded_takeRelease h) h⟩
  | ownerAnnounce => exact ⟨_, rfl, bounded_running h fun h => bounded_ite h (bounded_takeOwners (bounded_answerOwner h))⟩
  | reference => exact ⟨_, rfl, bounded_running h fun h => bounded_takeReference h⟩
  | mixSends => exact ⟨_, rfl, bounded_running h fun h => bounded_takeSends h⟩
  | mixSet => exact ⟨_, rfl, bounded_running h fun h => bounded_takeMixSet h⟩
  | mixCue => exact ⟨_, rfl, bounded_running h fun h => bounded_takeMixCue h⟩
  | mixAck => exact ⟨_, rfl, bounded_running h fun h => bounded_takeMixAck h⟩
  | talkOpen => exact ⟨_, rfl, bounded_running h fun h => bounded_talkerOpens h⟩
  | talkClose => exact ⟨_, rfl, bounded_running h fun h => bounded_talkerCloses h⟩
  | talkState => exact ⟨_, rfl, bounded_running h fun h => bounded_takeState h⟩
  | loopRequest => exact ⟨_, rfl, bounded_running h fun h => bounded_takeLoopRequest h⟩
  | loopReply => exact ⟨_, rfl, bounded_running h fun h => bounded_takeLoopReply h⟩
  | note => exact ⟨_, rfl, bounded_running h fun h => bounded_addNote h⟩
  | roomGrant => exact ⟨_, rfl, bounded_running h fun h => bounded_grantRoom h⟩
  | pendingEntryGrant => exact ⟨_, rfl, bounded_running h fun h => bounded_grantEntry h⟩
  | requestTimeout => exact ⟨_, rfl, bounded_running h fun h => bounded_timeOut h⟩
  | sendNote => exact ⟨_, rfl, bounded_runStep h fun h => bounded_beginNote h⟩
  | scheduledChangeApply => exact ⟨_, rfl, bounded_running h fun h => bounded_ite (bounded_applyScheduled h) h⟩
  | pendingChangeApply => exact ⟨_, rfl, bounded_running h fun h => bounded_ite (bounded_applyPending h) h⟩
  | phantomMuteEnd => exact ⟨_, rfl, bounded_running h fun h => bounded_ite (bounded_endMute h) h⟩
  | phantomShortReport => exact ⟨_, rfl, bounded_running h fun h => bounded_takeReport h⟩
  | scheduledReferenceApply =>
    exact ⟨_, rfl, bounded_running h fun h => bounded_ite (bounded_endReferences (bounded_applyReference h)) h⟩
  | setInput => exact ⟨_, rfl, bounded_runStep h fun h => bounded_beginInputs h⟩
  | claimInputs => exact ⟨_, rfl, bounded_runStep h fun h => bounded_beginClaim h⟩
  | releaseInputs => exact ⟨_, rfl, bounded_runStep h fun h => bounded_beginRelease h⟩
  | setReference => exact ⟨_, rfl, bounded_runStep h fun h => bounded_beginReferences h⟩
  | preampWordSend => exact ⟨_, rfl, bounded_ite h (bounded_of_same h)⟩
  | cueDue => exact ⟨_, rfl, bounded_running h fun h => bounded_ite (bounded_takeCue h) h⟩
  | cueRecordGrant => exact ⟨_, rfl, bounded_running h fun h => bounded_grantRecord h⟩
  | setMix => exact ⟨_, rfl, bounded_runStep h fun h => bounded_beginSetMix h⟩
  | loadSends => exact ⟨_, rfl, bounded_runStep h fun h => bounded_beginLoad h⟩
  | stageScene => exact ⟨_, rfl, bounded_runStep h fun h => bounded_beginScene h⟩
  | cueScene => exact ⟨_, rfl, bounded_runStep h fun h => bounded_beginCue h⟩
  | readMixes => exact ⟨_, rfl, bounded_runStep h fun h => bounded_beginRead h⟩
  | talkAnswerTimeout => exact ⟨_, rfl, bounded_running h fun h => bounded_ite (bounded_answerTimeout h) h⟩
  | buttonDebounce => exact ⟨_, rfl, bounded_running (bounded_of_same h) fun h => bounded_debounce h⟩
  | lampFlashToggle => exact ⟨_, rfl, bounded_running h fun h => bounded_ite h h⟩
  | setTalkGroup => exact ⟨_, rfl, bounded_runStep h fun h => bounded_beginGroup h⟩
  | setRanks => exact ⟨_, rfl, bounded_runStep h fun h => bounded_beginRanks h⟩
  | setButton => exact ⟨_, rfl, bounded_runStep h fun h => bounded_beginButtons h⟩
  | talk => exact ⟨_, rfl, bounded_runStep h fun h => bounded_beginTalk h⟩
  | signalLoss => exact ⟨_, rfl, bounded_running (bounded_of_same h) fun h => bounded_loseSignal h⟩
  | signalPresent => exact ⟨_, rfl, bounded_running (bounded_of_same h) fun h => bounded_ite (bounded_enterAcquire h) h⟩
  | darkProbe => exact ⟨_, rfl, bounded_running h fun h => bounded_ite (bounded_enterAcquire h) h⟩
  | acquireTimeout => exact ⟨_, rfl, bounded_running h fun h => bounded_ite (bounded_enterDark h) h⟩
  | quarantineEnd => exact ⟨_, rfl, bounded_running h fun h => bounded_ite (bounded_enterAcquire h) h⟩
  | pathTimeout => exact ⟨_, rfl, bounded_running h fun h => bounded_ite (bounded_losePath h) h⟩
  | closureTimeout => exact ⟨_, rfl, bounded_running h fun h => bounded_ite (bounded_openClosure h) h⟩
  | conflictFlagClear => exact ⟨_, rfl, bounded_running h fun h => bounded_ite h h⟩
  | ringViewRefresh => exact ⟨_, rfl, bounded_running h fun h => bounded_ite (bounded_viewChanged h) h⟩
  | loopTest => exact ⟨_, rfl, bounded_runStep h fun h => bounded_beginLoop h⟩
  | returnLoopEnd => exact ⟨_, rfl, bounded_running h fun h => bounded_ite (bounded_endLoop h) h⟩
  | testerWindowEnd => exact ⟨_, rfl, bounded_running h fun h => bounded_ite (bounded_endLoop h) h⟩
  | meter => exact ⟨_, rfl, bounded_runStep h fun h => bounded_beginMeter h⟩
  | meterPassBegin => exact ⟨_, rfl, bounded_running h fun h => bounded_ite (bounded_beginPass h) h⟩
  | detectorWindowEnd => exact ⟨_, rfl, bounded_running h fun h => bounded_detectorDone h⟩
  | meterFrameTrigger => exact ⟨_, rfl, bounded_running h fun h => bounded_frameTrigger h⟩
  | wordClockPresent => exact ⟨_, rfl, bounded_ite h (bounded_of_same h)⟩
  | wordClockAbsent => exact ⟨_, rfl, bounded_ite h (bounded_of_same h)⟩
  | wordClockPhaseLock => exact ⟨_, rfl, bounded_ite (bounded_of_same h) h⟩

/-- A frame edge (log entry 1). -/
theorem bounded_tick (h : s.queuesBounded) : s.tick.queuesBounded := by
  have hopen : s.openFrame.queuesBounded :=
    bounded_withService (s := { s.openFrame with svc := s.svc }) h
      ((bounded_service h).of_le le_rfl le_rfl le_rfl (List.length_map _).le)
  refine bounded_ite h ?_
  split
  · exact hopen
  · unfold State.readAnchorWord
    split
    · exact h
    · exact h
  · exact h

/-- What a step does with nothing waiting. -/
theorem bounded_idle (h : s.queuesBounded) : s.idle.queuesBounded := by
  obtain ⟨-, he⟩ | ⟨-, -, he⟩ | ⟨-, -, he⟩ := idle_cases s
  · rw [he]
    exact h
  · rw [he]
    exact h
  · rw [he]
    exact bounded_tick h

/-- Every step answers a state that keeps the bounds. -/
theorem step_bounded (h : s.queuesBounded) : ∃ t : State, step s = .next t ∧ t.queuesBounded := by
  cases hp : s.pending with
  | nil => exact ⟨_, step_empty hp, bounded_idle h⟩
  | cons c rest =>
    obtain ⟨t, he, ht⟩ := exec_bounded (s := { s with pending := rest }) h c
    exact ⟨t, by rw [← he]; simp [step, hp], ht⟩

end Kept

/-- Settles O58: a message is placed only where its queue has room, a reply held and an entry taken only below their bounds, and what
is held of a fault announce is of an urgent kind. -/
theorem stepKeepsQueueBounds : Obligations.StepKeepsQueueBounds := by
  intro s t h he
  obtain ⟨u, hu, hb⟩ := step_bounded h
  obtain rfl : u = t := by simpa [hu] using he
  exact hb

end Sys2Proof.Machine

/-!
Grants of room and of entries, and replies (O41): what ROOM_GRANT and PENDING_ENTRY_GRANT do where there is something to give and where
there is not (spec 04, R73, R76), what becomes of a reply (R75), and how many grants a frame queues.
-/

namespace Sys2Proof.Machine

set_option Elab.async false

section Grants

variable {s : State} {q : QueueClass} {l : Fin 16} {j : Join} {m : Message}

/-- What lanes and the service unit hold is shown in no view. -/
theorem withViews_lanes_service (s : State) (lanes : Bank 16 Lane) (v : Service) :
    ({ s with lanes := lanes, svc := v } : State).withViews s = { s with lanes := lanes, svc := v } :=
  withViews_same fun w => by cases w <;> rfl

/-- What the service unit holds is shown in no view. -/
theorem withViews_service (s : State) (v : Service) : ({ s with svc := v } : State).withViews s = { s with svc := v } :=
  withViews_lanes_service s s.lanes v

theorem activity_of_op {op : Op} (h : s.op? l = some op) : ∃ j : Join, (s.lane l).activity = .working j op := by
  unfold State.op? at h
  split at h
  · rename_i j op' hact
    exact ⟨j, Option.some.inj h ▸ hact⟩
  · cases h

/-! ### ROOM_GRANT (R73) -/

theorem exec_roomGrant (hrun : s.isRunning = true) : leaves (.roomGrant q) s (s.grantRoom q) :=
  congrArg Host.Outcome.next (running_of (fun st => st.grantRoom q) hrun)

theorem grantRoom_nothing (h : s.svc.room q = [] ∨ s.svc.hasRoom q = false) : s.grantRoom q = s := by
  obtain ⟨-, he⟩ | ⟨k, rest, t, hroom, hfree, -, -⟩ := grantRoom_cases s q
  · exact he
  · simp [hroom, hfree] at h

theorem grantRoom_first {k : Held} {rest : List Held} (hroom : s.svc.room q = k :: rest) (hfree : s.svc.hasRoom q = true) :
    s.grantRoom q = if State.placesIn { s with svc := s.svc.setRoom q rest } q k then
      ({ s with svc := s.svc.setRoom q rest } : State).place q k else { s with svc := s.svc.setRoom q rest } := by
  obtain ⟨h | h, -⟩ | ⟨k', rest', t, hroom', -, rfl, he⟩ := grantRoom_cases s q
  · rw [hroom] at h
    cases h
  · rw [hfree] at h
    cases h
  · obtain ⟨rfl, rfl⟩ := List.cons.inj (hroom.symm.trans hroom')
    exact he

/-- The first producer that waits for room, where the queue is the one its message goes into, places it (R73). -/
theorem roomGrant_placed {k : Held} {rest : List Held} {t : State} (hrun : s.isRunning = true) (hroom : s.svc.room q = k :: rest)
    (hfree : s.svc.hasRoom q = true) (hp : State.placesIn { s with svc := s.svc.setRoom q rest } q k = true)
    (ht : ({ s with svc := s.svc.setRoom q rest } : State).place q k = t) : leaves (.roomGrant q) s t := by
  have hgrant : s.grantRoom q = t := (grantRoom_first hroom hfree).trans ((if_pos hp).trans ht)
  exact hgrant ▸ exec_roomGrant hrun

/-- Where it is another queue, the producer leaves the list (R73). -/
theorem roomGrant_left {k : Held} {rest : List Held} (hrun : s.isRunning = true) (hroom : s.svc.room q = k :: rest)
    (hfree : s.svc.hasRoom q = true) (hp : State.placesIn { s with svc := s.svc.setRoom q rest } q k = false) :
    exec (.roomGrant q) s = .next { s with svc := s.svc.setRoom q rest } := by
  have hgrant := (grantRoom_first hroom hfree).trans (if_neg (by simp [hp]))
  rw [exec_roomGrant hrun, hgrant, withViews_service]

/-- A step that waits for nothing but its message has it queued (R73, R80). -/
theorem placeHeld_note {n : Nat} (hact : (s.lane l).activity = .working j (.sendNote n)) (hm : (s.lane l).held = some m) :
    s.placeHeld l = (s.modLane l fun x => { x with held := none }).enqueue m := by
  have hlane : ((s.modLane l fun x => { x with held := none }).enqueue m).lane l = { s.lane l with held := none } :=
    (Bank.update_get ..).trans (if_pos rfl)
  have hop : ((s.modLane l fun x => { x with held := none }).enqueue m).op? l = some (.sendNote n) :=
    op_working (by rw [hlane]; exact hact)
  unfold State.placeHeld
  simp only [op_working hact, hm, State.afterPlaced, hop]

theorem placesIn_note {n : Nat} (hact : (s.lane l).activity = .working j (.sendNote n)) (hm : (s.lane l).held = some m) :
    s.placesIn q (.lane l) = decide (kindClass m.kind = q) :=
  placesIn_held (fun _ _ _ he => by rw [op_working hact] at he; cases he) hm

/-- The room goes to a held note (R73, R80). -/
theorem roomGrant_note {rest : List Held} {n : Nat} (hroom : s.svc.room q = .lane l :: rest) (hfree : s.svc.hasRoom q = true)
    (hq : kindClass m.kind = q) (hm : (s.lane l).held = some m) (hw : s.works l j (.sendNote n) = true) :
    exec (.roomGrant q) s = .next { s with
      lanes := Bank.update s.lanes l fun x => { x with held := none }
      svc := (s.svc.setRoom q rest).enqueue m } := by
  obtain ⟨hrun, hact⟩ := works_iff.mp hw
  have hplaces : State.placesIn { s with svc := s.svc.setRoom q rest } q (.lane l) = true :=
    (placesIn_note hact hm).trans (decide_eq_true hq)
  have hplaced : ({ s with svc := s.svc.setRoom q rest } : State).place q (.lane l) = { s with
      lanes := Bank.update s.lanes l fun x => { x with held := none }
      svc := (s.svc.setRoom q rest).enqueue m } := placeHeld_note hact hm
  exact (roomGrant_placed hrun hroom hfree hplaces hplaced).trans (congrArg _ (withViews_lanes_service s _ _))

/-- The room goes to the first held reply of the queue's class (R75). -/
theorem roomGrant_reply {rest : List Held} (hrun : s.isRunning = true) (hroom : s.svc.room q = .reply :: rest)
    (hfree : s.svc.hasRoom q = true) (hm : s.svc.replies.find? (fun x => decide (kindClass x.kind = q)) = some m) :
    exec (.roomGrant q) s = .next { s with
      svc := { s.svc.setRoom q rest with replies := s.svc.replies.erase m }.enqueue m } := by
  have hreplies : (s.svc.setRoom q rest).replies = s.svc.replies := by cases q <;> rfl
  have hplaced : ({ s with svc := s.svc.setRoom q rest } : State).place q .reply = { s with
      svc := { s.svc.setRoom q rest with replies := s.svc.replies.erase m }.enqueue m } := by
    show State.placeReply { s with svc := s.svc.setRoom q rest } q = _
    unfold State.placeReply
    simp only [hreplies, hm]
    rfl
  exact (roomGrant_placed hrun hroom hfree rfl hplaced).trans (congrArg _ (withViews_service s _))

/-! ### PENDING_ENTRY_GRANT (R76) -/

theorem exec_pendingEntryGrant (hrun : s.isRunning = true) : leaves .pendingEntryGrant s s.grantEntry :=
  congrArg Host.Outcome.next (running_of (fun st => st.grantEntry) hrun)

theorem grantEntry_nothing (h : s.svc.entryWait = [] ∨ 64 ≤ s.svc.requests.length) : s.grantEntry = s := by
  unfold State.grantEntry
  split
  · rfl
  · rename_i l rest hwait
    exact if_neg fun hlt => h.elim (by simp [hwait]) (Nat.not_le.mpr hlt)

theorem grantEntry_first {rest : List (Fin 16)} {w : Want} (hwait : s.svc.entryWait = l :: rest)
    (hfree : s.svc.requests.length < 64) (hw : (s.lane l).want = some w) :
    s.grantEntry = (({ s with svc.entryWait := rest } : State).give l w).moreInputs l := by
  have hw' : (({ s with svc.entryWait := rest } : State).lane l).want = some w := hw
  unfold State.grantEntry
  simp only [hwait, hw']
  exact if_pos hfree

/-- A message given with room is queued (R71). -/
theorem submit_queued (h : s.svc.mayPlace (kindClass m.kind) = true) : s.submit l m = s.enqueue m := if_pos h

/-- A step that is no SET INPUT has no further entries to ask for. -/
theorem moreInputs_other (h : ∀ es : List InputStep, s.op? l ≠ some (.setInput es)) : s.moreInputs l = s := by
  unfold State.moreInputs
  split
  · rename_i es hop
    exact absurd hop (h es)
  · rfl

/-- The state after a request is given with room for its message. -/
def State.given (s : State) (l : Fin 16) (w : Want) : State :=
  { s with
    lanes := Bank.update s.lanes l fun x => { x with given := x.given + 1, want := none }
    svc := Service.enqueue { s.svc with
        requests := s.svc.requests ++ [{
          lane := l, number := (s.lane l).given + 1, target := w.target, kind := w.kind, state := .queued }] }
      { kind := w.kind, dest := w.target.val, producer := .request l ((s.lane l).given + 1)
        body := [BitVec.ofNat 8 s.cfg.id.val, BitVec.ofNat 8 l.val, (s.lane l).seq + 1] ++ w.body } }

theorem mayPlace_requests (v : Service) (rs : List Request) (q : QueueClass) :
    { v with requests := rs }.mayPlace q = v.mayPlace q := by
  cases q <;> rfl

theorem mayPlace_entryWait (v : Service) (ls : List (Fin 16)) (q : QueueClass) :
    { v with entryWait := ls }.mayPlace q = v.mayPlace q := by
  cases q <;> rfl

/-- A request is given with its entry and its tag, and its message is queued (R67, R76). -/
theorem give_queued {w : Want} (h : s.svc.mayPlace (kindClass w.kind) = true) : s.give l w = s.given l w := by
  have hlanes : (Bank.update s.lanes l fun x => { x with given := (s.lane l).given + 1, want := none })
      = Bank.update s.lanes l fun x => { x with given := x.given + 1, want := none } := rfl
  have hseq : BitVec.ofNat 8 ((s.lane l).given + 1) = (s.lane l).seq + 1 := BitVec.ofNat_add ..
  unfold State.give State.given
  rw [submit_queued ((mayPlace_requests ..).trans h), ← hlanes, ← hseq]
  rfl

theorem pendingEntryGrant_given {rest : List (Fin 16)} {w : Want} {op : Op} (hwait : s.svc.entryWait = l :: rest)
    (hfree : s.svc.requests.length < 64) (hw : (s.lane l).want = some w) (hworks : s.works l j op = true)
    (hop : ∀ es : List InputStep, op ≠ .setInput es) (hroom : s.svc.mayPlace (kindClass w.kind) = true) :
    exec .pendingEntryGrant s = .next (({ s with svc.entryWait := rest } : State).given l w) := by
  obtain ⟨hrun, hact⟩ := works_iff.mp hworks
  have hgiven : ((({ s with svc.entryWait := rest } : State).given l w).lane l).activity = .working j op :=
    (congrArg Lane.activity ((Bank.update_get ..).trans (if_pos rfl))).trans hact
  have hgive : ({ s with svc.entryWait := rest } : State).give l w = ({ s with svc.entryWait := rest } : State).given l w :=
    give_queued ((mayPlace_entryWait s.svc rest _).trans hroom)
  rw [exec_pendingEntryGrant hrun, grantEntry_first hwait hfree hw, hgive,
    moreInputs_other fun es he => hop es (Option.some.inj ((op_working hgiven).symm.trans he))]
  exact congrArg Host.Outcome.next (withViews_lanes_service s _ _)

/-! ### Replies (R75) -/

theorem reply_queued {v : Service} (h : v.mayPlace (kindClass m.kind) = true) : v.reply m = v.enqueue m := if_pos h

theorem reply_held {v : Service} (h : v.mayPlace (kindClass m.kind) = false) (hlt : v.replies.length < 32) : v.reply m
    = { v.setRoom (kindClass m.kind) (v.room (kindClass m.kind) ++ [.reply]) with replies := v.replies ++ [m] } :=
  (if_neg (by simp [h])).trans (if_pos hlt)

theorem reply_dropped {v : Service} (h : v.mayPlace (kindClass m.kind) = false) (hle : 32 ≤ v.replies.length) :
    v.reply m = { v with replyDrops := v.replyDrops + 1 } :=
  (if_neg (by simp [h])).trans (if_neg (Nat.not_lt.mpr hle))

/-! ### The grants of a frame (log entry 31) -/

/-- A grant of room or of an entry. -/
def isGrant (c : Instr) : Prop := (∃ q : QueueClass, c = .roomGrant q) ∨ c = .pendingEntryGrant

theorem stepCommand_not_isGrant (kind : Nat) (l : Fin 16) : ¬ isGrant (stepCommand kind l) := by
  unfold stepCommand isGrant
  split <;> simp

theorem dueSteps_count {c : Instr} (hc : isGrant c) : s.dueSteps.count c = 0 := by
  refine List.count_eq_zero.mpr fun hmem => ?_
  obtain ⟨l, -, hl⟩ := List.mem_flatMap.mp hmem
  split at hl
  · rw [List.mem_singleton] at hl
    exact stepCommand_not_isGrant _ l (hl ▸ hc)
  · cases hl

theorem fades_count {c : Instr} (hc : isGrant c) (ls : List (Fin 16)) : (ls.flatMap s.fades).count c = 0 := by
  refine List.count_eq_zero.mpr fun hmem => ?_
  obtain ⟨l, -, hl⟩ := List.mem_flatMap.mp hmem
  unfold State.fades at hl
  obtain ⟨q, rfl⟩ | rfl := hc
  · split at hl <;> simp at hl
  · split at hl <;> simp at hl

/-- Of the work of a round, the grants alone give room and entries. -/
theorem roundWork_count {c : Instr} (hc : isGrant c) (hlow : s.resetLow = false) (hrun : s.isRunning = true) (hr : s.rounds < 65536) :
    s.roundWork.count c = s.dueGrants.count c := by
  rw [roundWork_eq hlow hrun hr, List.count_append, List.count_append, dueSteps_count hc, fades_count hc, Nat.add_zero]

theorem grants_count_room (room : QueueClass → Nat) (entries records : Nat) (q : QueueClass) :
    (grants room entries records).count (.roomGrant q) = room q := by
  cases q <;> simp [grants, List.count_append, List.count_replicate]

theorem grants_count_entry (room : QueueClass → Nat) (entries records : Nat) :
    (grants room entries records).count .pendingEntryGrant = entries := by
  simp [grants, List.count_append, List.count_replicate]

end Grants

/-- Settles O41: each command from what its operation gives, and the number of grants from the lists that make up a round's work. -/
theorem roomIsGranted : Obligations.RoomIsGranted := by
  unfold Obligations.RoomIsGranted
  refine ⟨fun s q hrun => ⟨fun h => ?_, fun k rest hroom hfree =>
      ⟨fun hp => roomGrant_placed hrun hroom hfree hp rfl, roomGrant_left hrun hroom hfree⟩, fun l rest m j n hroom hfree hq hm =>
      roomGrant_note hroom hfree hq hm, fun rest m hroom hfree => roomGrant_reply hrun hroom hfree⟩,
    fun s hrun => ⟨fun h => ?_, fun l rest w j op hwait hfree hw hworks hop hroom =>
      pendingEntryGrant_given hwait hfree hw hworks hop hroom⟩,
    fun v m => ⟨reply_queued, reply_held, reply_dropped⟩, fun s q hlow hrun hr => ⟨?_, ?_⟩,
    fun s q l => ⟨fun j todo n fs hact => placesIn_reference (op_working hact),
      fun m hact hm => placesIn_held (fun todo n fs hop => ?_) hm, rfl, rfl, rfl, rfl, fun n => ⟨rfl, rfl⟩, fun u => rfl⟩⟩
  · rw [exec_roomGrant hrun, grantRoom_nothing h, withViews_self]
  · rw [exec_pendingEntryGrant hrun, grantEntry_nothing h, withViews_self]
  · rw [roundWork_count (.inl ⟨q, rfl⟩) hlow hrun hr]
    exact grants_count_room ..
  · rw [roundWork_count (.inr rfl) hlow hrun hr]
    exact grants_count_entry ..
  · obtain ⟨j, hj⟩ := activity_of_op hop
    exact hact j todo n fs hj

end Sys2Proof.Machine

/-!
The gain unit's rules (spec 05): a producer with one message, entries of a SET INPUT step that end, requests refused and taken at the
stage, input sets; and the commands that act on them.
-/

namespace Sys2Proof.Machine

set_option Elab.async false

/-! ### A producer with one message (spec 04, R73) -/

section Pump

variable {q : QueueClass} {h : Held} {wants : State → Bool} {send : State → State} {n : Nat} {s : State}

/-- A producer that may place has no one before it in the room list. -/
theorem room_of_mayPlace {v : Service} (hp : v.mayPlace q = true) : v.room q = [] :=
  List.isEmpty_iff.mp (Bool.and_eq_true_iff.mp hp).2

theorem setRoom_room (v : Service) (q : QueueClass) : v.setRoom q (v.room q) = v := by
  cases q <;> rfl

/-- A producer with one message and room for it places it, and is done. -/
theorem pump_single (hw : wants s = true) (hp : s.svc.mayPlace q = true) (hdone : wants (send s) = false)
    (hroom : (send s).svc.room q = []) : pump q h wants send (n + 2) s = send s := by
  have hset : (send s).svc.setRoom q [] = (send s).svc := (congrArg ((send s).svc.setRoom q) hroom.symm).trans (setRoom_room _ q)
  have hrest : pump q h wants send (n + 1) (send s) = send s := by
    rw [pump_rest hdone, hroom]
    show ({ send s with svc := (send s).svc.setRoom q [] } : State) = send s
    rw [hset]
  rw [← hrest, pump]
  simp [hw, hp]

/-- A message placed leaves the room lists. -/
theorem enqueue_room (v : Service) (m : Message) (q : QueueClass) : (v.enqueue m).room q = v.room q := by
  unfold Service.enqueue
  cases q <;> split <;> rfl

end Pump

/-! ### Commands of a running terminal -/

section Running

variable {c : Instr} {f : State → State} {s u : State}

/-- A command of a running terminal leaves what its operation gives. -/
theorem leaves_of (hc : exec c s = .next (running f s)) (hrun : s.isRunning = true) (hu : f s = u) : leaves c s u := by
  unfold leaves
  rw [hc, running_of f hrun, hu]

/-- Where no view shows the difference, the command answers it. -/
theorem exec_of_leaves (h : leaves c s u) (hv : ∀ v : View, u.viewTrigger v = s.viewTrigger v) : exec c s = .next u := by
  unfold leaves at h
  rw [h, withViews_same hv]

theorem exec_of_nothing (h : leaves c s s) : exec c s = .next s := exec_of_leaves h fun _ => rfl

end Running

/-! ### Table entries changed -/

theorem update_congr {n : Nat} {α : Type} {v : Bank n α} {i : Fin n} {f g : α → α} (h : f (v.get i) = g (v.get i)) :
    Bank.update v i f = Bank.update v i g := by
  unfold Bank.update
  rw [h]

section Inputs

variable {s : State} {n : Fin 64}

theorem modInput_congr {f g : InputEntry → InputEntry} (h : f (s.gain.table.get n) = g (s.gain.table.get n)) :
    s.modInput n f = s.modInput n g := by
  unfold State.modInput
  rw [update_congr h]

theorem modInput_modInput (f g : InputEntry → InputEntry) : (s.modInput n f).modInput n g = s.modInput n fun e => g (f e) := by
  unfold State.modInput
  rw [Bank.update_update]

theorem modInput_self (f : InputEntry → InputEntry) : (s.modInput n f).gain.table.get n = f (s.gain.table.get n) :=
  (Bank.update_get ..).trans (if_pos rfl)

theorem modInput_other (f : InputEntry → InputEntry) {k : Fin 64} (h : k ≠ n) :
    (s.modInput n f).gain.table.get k = s.gain.table.get k :=
  (Bank.update_get ..).trans (if_neg h)

end Inputs

/-! ### A lane's step at its block -/

section Op

variable {s : State} {l : Fin 16} {j : Join} {op : Op}

/-- A lane's step in progress with another operation. -/
def State.withOp (s : State) (l : Fin 16) (j : Join) (op : Op) : State :=
  { s with lanes := s.lanes.set l { s.lane l with activity := .working j op } }

theorem withOp_self (s : State) (l : Fin 16) (j : Join) (op : Op) :
    (s.withOp l j op).lane l = { s.lane l with activity := .working j op } := (Bank.set_get ..).trans (if_pos rfl)

theorem withOp_other {k : Fin 16} (h : k ≠ l) : (s.withOp l j op).lane k = s.lane k := (Bank.set_get ..).trans (if_neg h)

theorem withOp_working (s : State) (l : Fin 16) (j : Join) (op : Op) : ((s.withOp l j op).lane l).activity = .working j op := by
  rw [withOp_self]

theorem setOp_eq (s : State) (l : Fin 16) (j : Join) (op : Op) : s.setOp l j op = s.withOp l j op := setOp_only s l j op

theorem putOp_working {old : Op} (h : (s.lane l).activity = .working j old) : s.putOp l op = s.withOp l j op := by
  unfold State.putOp
  simp only [h]
  exact setLane_same_words s l _ rfl

theorem withOp_withOp (s : State) (l : Fin 16) (j k : Join) (old op : Op) : (s.withOp l j old).withOp l k op = s.withOp l k op := by
  show ({ s with lanes := (s.lanes.set l _).set l { (s.withOp l j old).lane l with activity := .working k op } } : State) = _
  rw [withOp_self, lanes_set_set]
  rfl

theorem putOp_withOp (s : State) (l : Fin 16) (j : Join) (old op : Op) : (s.withOp l j old).putOp l op = s.withOp l j op := by
  rw [putOp_working (withOp_working ..), withOp_withOp]

end Op

/-! ### Entries of a SET INPUT step (R102) -/

section Entries

variable {s : State} {l : Fin 16} {j : Join} {es : List InputStep}

theorem writeOutcomes_same (s : State) (es : List InputStep) : s.writeOutcomes es es = s := by
  induction es with
  | nil => rfl
  | cons e es ih =>
    unfold State.writeOutcomes
    cases he : e.ended? with
    | none => exact ih
    | some st => exact ih

/-- One entry that ends has its outcome byte written (R101). -/
theorem writeOutcomes_set {i : Nat} {e : InputStep} {st : Status} (hi : es[i]? = some e) (he : e.ended? = none) :
    s.writeOutcomes es (es.set i (e.endWith st)) = s.store e.outcome [BitVec.ofNat 8 st.code] := by
  induction es generalizing i with
  | nil => cases hi
  | cons e' es ih =>
    cases i with
    | zero =>
      obtain rfl : e' = e := Option.some.inj hi
      have hend : (e'.endWith st).ended? = some st := rfl
      rw [List.set_cons_zero]
      unfold State.writeOutcomes
      simp only [he, hend]
      exact writeOutcomes_same _ es
    | succ i =>
      have hrest : s.writeOutcomes es (es.set i (e.endWith st)) = _ := ih hi
      rw [List.set_cons_succ]
      unfold State.writeOutcomes
      cases e'.ended? <;> exact hrest

theorem writeOutcomes_lanes (s : State) (os ns : List InputStep) : (s.writeOutcomes os ns).lanes = s.lanes := by
  induction os generalizing s ns with
  | nil => rfl
  | cons o os ih =>
    cases ns with
    | nil => rfl
    | cons n ns =>
      unfold State.writeOutcomes
      rw [ih]
      split <;> rfl

theorem worksOn_writeOutcomes (l : Fin 16) (s : State) (os ns : List InputStep) : WorksOn l (s.writeOutcomes os ns) s := by
  induction os generalizing s ns with
  | nil => exact .refl l s
  | cons o os ih =>
    cases ns with
    | nil => exact .refl l s
    | cons n ns =>
      unfold State.writeOutcomes
      refine (ih _ ns).trans ?_
      split
      · exact worksOn_store l s _ _
      · exact .refl l s

theorem worksOn_putOp (s : State) (l : Fin 16) (op : Op) : WorksOn l (s.putOp l op) s := by
  unfold State.putOp
  split
  · exact worksOn_setLane s l _
  · exact .refl l s

/-- Entries that change are an affair of the lane engine, on their lane alone. -/
theorem worksOn_settleEntries (s : State) (l : Fin 16) (f : Nat → InputStep → InputStep) : WorksOn l (s.settleEntries l f) s := by
  unfold State.settleEntries
  split
  · rename_i es _
    extract_lets es' s1
    have h1 : WorksOn l s1 s := (worksOn_putOp _ l _).trans (worksOn_writeOutcomes l s es es')
    split
    · exact (worksOn_endStep s1 l _ _ _).trans h1
    · exact h1
  · exact .refl l s

theorem lanesOnly_settleAllEntries (s : State) (f : InputStep → InputStep) : (s.settleAllEntries f).lanesOnly s :=
  foldl_keeps (P := fun t => t.lanesOnly s) (fun t l ht => (worksOn_settleEntries t l _).only.trans ht) _ (.refl s)

theorem lanesOnly_endSwitched (s : State) (n : Fin 64) (f : Word) : (s.endSwitched n f).lanesOnly s := lanesOnly_settleAllEntries s _

/-- Entries that change while a lane works on them: the step goes on with them, or ends once all have an outcome (R102). -/
theorem settleEntries_working (hact : (s.lane l).activity = .working j (.setInput es)) (f : Nat → InputStep → InputStep) :
    s.settleEntries l f = if (es.mapIdx f).all fun e => e.ended?.isSome then
        ((s.writeOutcomes es (es.mapIdx f)).withOp l j (.setInput (es.mapIdx f))).finish l j (inputsStatus (es.mapIdx f)) 0
          (BitVec.ofNat 32 (inputsOk (es.mapIdx f)))
      else (s.writeOutcomes es (es.mapIdx f)).withOp l j (.setInput (es.mapIdx f)) := by
  have hlane : (s.writeOutcomes es (es.mapIdx f)).lane l = s.lane l := congrArg (Vector.get · l) (writeOutcomes_lanes ..)
  have hput : (s.writeOutcomes es (es.mapIdx f)).putOp l (.setInput (es.mapIdx f))
      = (s.writeOutcomes es (es.mapIdx f)).withOp l j (.setInput (es.mapIdx f)) :=
    putOp_working (by rw [hlane, hact])
  have hact' : (((s.writeOutcomes es (es.mapIdx f)).withOp l j (.setInput (es.mapIdx f))).lane l).activity
      = .working j (.setInput (es.mapIdx f)) := withOp_working ..
  unfold State.settleEntries
  simp only [op_working hact, hput, endStep_working hact']

/-- A lane that works on no SET INPUT step has no entries to change. -/
theorem settleEntries_other (h : ∀ es : List InputStep, s.op? l ≠ some (.setInput es)) (f : Nat → InputStep → InputStep) :
    s.settleEntries l f = s := by
  unfold State.settleEntries
  split
  · rename_i es hop
    exact absurd hop (h es)
  · rfl

/-- The state after an entry of a lane's step has ended with a status, its step still in progress. -/
def State.entryEnded (s : State) (l : Fin 16) (j : Join) (es : List InputStep) (i : Nat) (e : InputStep) (st : Status) : State :=
  (s.store e.outcome [BitVec.ofNat 8 st.code]).withOp l j (.setInput (es.set i (e.endWith st)))

section One

variable {i : Nat} {e : InputStep} {st : Status} {f : Nat → InputStep → InputStep}
  (hact : (s.lane l).activity = .working j (.setInput es)) (hi : es[i]? = some e) (he : e.ended? = none)
  (hf : es.mapIdx f = es.set i (e.endWith st))

include hact hi he hf

/-- One entry ends while others have no outcome. -/
theorem settleEntries_one (hopen : ∃ y ∈ es.set i (e.endWith st), y.ended? = none) :
    s.settleEntries l f = s.entryEnded l j es i e st := by
  rw [settleEntries_working hact, hf, writeOutcomes_set hi he, if_neg]
  · rfl
  · obtain ⟨y, hy, hn⟩ := hopen
    intro hall
    have hsome := List.all_eq_true.mp hall y hy
    rw [hn] at hsome
    cases hsome

/-- The last entry ends, and with it the step. -/
theorem settleEntries_last (hall : ∀ y ∈ es.set i (e.endWith st), y.ended? ≠ none) :
    s.settleEntries l f = (s.entryEnded l j es i e st).finish l j (inputsStatus (es.set i (e.endWith st))) 0
      (BitVec.ofNat 32 (inputsOk (es.set i (e.endWith st)))) := by
  rw [settleEntries_working hact, hf, writeOutcomes_set hi he, if_pos]
  · rfl
  · exact List.all_eq_true.mpr fun y hy => Option.isSome_iff_ne_none.mpr (hall y hy)

end One

/-- Of the entries, the one at an index ends. -/
theorem mapIdx_endEntry {i : Nat} {e : InputStep} (st : Status) (hi : es[i]? = some e) (he : e.ended? = none) :
    (es.mapIdx fun k y => if k = i ∧ y.ended?.isNone then y.endWith st else y) = es.set i (e.endWith st) := by
  apply List.ext_getElem?
  intro k
  rw [List.getElem?_mapIdx, List.getElem?_set]
  by_cases hk : i = k
  · subst hk
    have hlt : i < es.length := (List.getElem?_eq_some_iff.mp hi).1
    rw [if_pos rfl, if_pos hlt, hi]
    simp [he]
  · simp [hk, Ne.symm hk]

end Entries

end Sys2Proof.Machine

/-!
GAIN REQUEST at the stage (O28): a pending change announced or held for room (spec 05, R90, R92; spec 04, R73), and a request refused,
pending or waiting (R89).
-/

namespace Sys2Proof.Machine

set_option Elab.async false

/-! ### A pending change is announced (R90, R92) -/

section Announce

variable {s : State} {n : Fin 64} {c : PendingChange} {f : Word}

/-- An entry whose pending change is announced for a switch frame (R90, R92). -/
def InputEntry.announcedFor (e : InputEntry) (c : PendingChange) (f : Word) : InputEntry :=
  { e with
    pending := some { c with switch := some f }
    mute := if c.setting.phantom = e.setting.phantom then e.mute else muteWindow e.mute f }

/-- The switch frame of a change announced now (R90). -/
def State.switchFrame (s : State) : Word := s.clock.frame + BitVec.ofNat 32 (s.merge.delay + s.cfg.latency + 32)

/-- The state after the pending change of an input is announced: entry, announcement and preamp word (R90, R92). -/
def State.announcing (s : State) (n : Fin 64) (c : PendingChange) (e : InputEntry) (f : Word) : State :=
  { s.modInput n (fun x => x.announcedFor c f) with
    svc := s.svc.enqueue (announceMessage n c.setting e.owner (stateBrought c e) e.orphaned f c.requester.tag false)
    conv := { s.conv with
      schedule := addWord s.conv.schedule { due := f - BitVec.ofNat 32 s.cfg.latency, input := n, setting := c.setting } } }

theorem announce_eq (hc : (s.gain.table.get n).pending = some c) :
    s.announce n = s.announcing n c (s.gain.table.get n) s.switchFrame := by
  have hentry : ∀ f : Word, (s.modInput n fun x => { x with
        pending := some { c with switch := some f }
        mute := if decide (c.setting.phantom ≠ (s.gain.table.get n).setting.phantom) = true then muteWindow x.mute f else x.mute })
      = s.modInput n fun x => x.announcedFor c f := fun f => modInput_congr (by
    simp only [InputEntry.announcedFor, decide_eq_true_eq, ne_eq, ite_not])
  unfold State.announce
  simp only [hc, hentry]
  rfl

theorem unannounced_of (hc : (s.gain.table.get n).pending = some c) : s.unannounced n = c.switch.isNone := by
  simp only [State.unannounced, hc]

/-- A pending change is announced where the urgent queue has room (R90). -/
theorem pumpPending_announces (hc : (s.gain.table.get n).pending = some c) (hs : c.switch = none)
    (hroom : s.svc.mayPlace .urgent = true) :
    s.pumpPending n = s.announcing n c (s.gain.table.get n) s.switchFrame := by
  have hafter : ((s.announce n).gain.table.get n).pending = some { c with switch := some s.switchFrame } := by
    rw [announce_eq hc]
    exact congrArg InputEntry.pending (modInput_self _)
  rw [← announce_eq hc]
  refine pump_single (by rw [unannounced_of hc, hs]; rfl) hroom (by rw [unannounced_of hafter]; rfl) ?_
  rw [announce_eq hc]
  exact (enqueue_room s.svc _ .urgent).trans (room_of_mayPlace hroom)

/-- It is held where the queue has none (R73). -/
theorem pumpPending_holds (hc : (s.gain.table.get n).pending = some c) (hs : c.switch = none)
    (hroom : s.svc.mayPlace .urgent = false) : s.pumpPending n = { s with svc := s.svc.hold .urgent (.pendingGain n) } :=
  pump_hold (by rw [unannounced_of hc, hs]; rfl) hroom

/-- A change that becomes pending now. -/
def State.pend (s : State) (n : Fin 64) (c : PendingChange) : State := s.modInput n fun e => { e with pending := some c }

theorem pend_pending : ((s.pend n c).gain.table.get n).pending = some c := congrArg InputEntry.pending (modInput_self _)

/-- A change that becomes pending with room in the urgent queue is announced at once (R90, R92). -/
theorem pend_announces (hs : c.switch = none) (hroom : s.svc.mayPlace .urgent = true) :
    (s.pend n c).pumpPending n = s.announcing n c (s.gain.table.get n) s.switchFrame := by
  have hself : (s.pend n c).gain.table.get n = { s.gain.table.get n with pending := some c } := modInput_self _
  rw [pumpPending_announces pend_pending hs hroom, hself]
  unfold State.announcing State.pend
  rw [modInput_modInput]
  rfl

theorem pend_holds (hs : c.switch = none) (hroom : s.svc.mayPlace .urgent = false) :
    (s.pend n c).pumpPending n = { s.pend n c with svc := s.svc.hold .urgent (.pendingGain n) } :=
  pumpPending_holds pend_pending hs hroom

end Announce

/-! ### A request is taken (R89) -/

section Take

variable {s : State} {n : Fin 64} {x : Setting} {r : Requester}

/-- A change asked for, before it is announced (R89). -/
def Requester.asks (r : Requester) (x : Setting) : PendingChange := { setting := x, requester := r, switch := none, keepsFault := false }

/-- The state after a request has become the waiting change of an input (R89). -/
def State.await (s : State) (n : Fin 64) (x : Setting) (r : Requester) : State :=
  s.modInput n fun e => { e with waiting := some { setting := x, requester := r, keepsFault := false } }

theorem takeGain_foreign (h : (s.gain.table.get n).owner ≠ some r.id) : s.takeGain n x r = s.refuse r n .notOwner := if_pos h

section Owned

variable (hown : (s.gain.table.get n).owner = some r.id)

include hown

theorem takeGain_pends (hp : (s.gain.table.get n).pending = none) : s.takeGain n x r = (s.pend n (r.asks x)).pumpPending n := by
  unfold State.takeGain
  simp only [hown, hp]
  exact if_neg fun h => h rfl

theorem takeGain_announces (hp : (s.gain.table.get n).pending = none) (hroom : s.svc.mayPlace .urgent = true) :
    s.takeGain n x r = s.announcing n (r.asks x) (s.gain.table.get n) s.switchFrame := by
  rw [takeGain_pends hown hp, pend_announces rfl hroom]

theorem takeGain_holds (hp : (s.gain.table.get n).pending = none) (hroom : s.svc.mayPlace .urgent = false) :
    s.takeGain n x r = { s.pend n (r.asks x) with svc := s.svc.hold .urgent (.pendingGain n) } := by
  rw [takeGain_pends hown hp, pend_holds rfl hroom]

variable {c : PendingChange} (hp : (s.gain.table.get n).pending = some c)

include hp

theorem takeGain_waits (hw : (s.gain.table.get n).waiting = none) : s.takeGain n x r = s.await n x r := by
  unfold State.takeGain
  simp only [hown, hp, hw]
  exact if_neg fun h => h rfl

theorem takeGain_supersedes {w : WaitingChange} (hw : (s.gain.table.get n).waiting = some w) :
    s.takeGain n x r = (s.await n x r).refuse w.requester n .superseded := by
  unfold State.takeGain
  simp only [hown, hp, hw]
  exact if_neg fun h => h rfl

end Owned

end Take

/-! ### GAIN_REQUEST -/

theorem askedSetting_eq (gain pad phantom : Byte) : askedSetting gain pad phantom
    = { gain := min gain.toNat 60, pad := decide (pad ≠ 0), phantom := decide (phantom ≠ 0) } := by
  simp only [askedSetting, bne, ne_eq, decide_not]
  rfl

section Request

variable {s : State} {q : Fin 4} {tag : Tag} {input gain pad phantom : Byte} (hrun : s.isRunning = true) (hid : s.cfg.id = 0)

include hrun hid

theorem leaves_gainRequest {u : State} (hu : s.takeRequest q tag input gain pad phantom = u) :
    leaves (.gainRequest q tag input gain pad phantom) s u :=
  leaves_of rfl hrun ((if_pos ((stage_iff s).mpr hid)).trans hu)

theorem leaves_gainRequest_input {n : Fin 64} {x : Setting} {u : State} (hn : input.toNat = n.val)
    (hx : x = { gain := min gain.toNat 60, pad := decide (pad ≠ 0), phantom := decide (phantom ≠ 0) })
    (hu : s.takeGain n x (.remote q tag) = u) : leaves (.gainRequest q tag input gain pad phantom) s u := by
  refine leaves_gainRequest hrun hid ?_
  unfold State.takeRequest
  rw [index_of_val hn, askedSetting_eq, ← hx]
  exact hu

theorem gainRequest_noInput (h : 63 < input.toNat) : exec (.gainRequest q tag input gain pad phantom) s = .next s :=
  exec_of_nothing (leaves_gainRequest hrun hid (by unfold State.takeRequest; rw [index_none.mpr h]))

end Request

/-- An older waiting change of a lane's step, whose entry ends SUPERSEDED (R89, R102). -/
theorem refuse_lane {s : State} {l : Fin 16} {i : Nat} {j : Join} {es : List InputStep} {e : InputStep} {n : Fin 64} {st : Status}
    (hact : (s.lane l).activity = .working j (.setInput es)) (hi : es[i]? = some e) (he : e.ended? = none) :
    ((∃ y ∈ es.set i (e.endWith st), y.ended? = none) → s.refuse (.lane l i) n st = s.entryEnded l j es i e st)
    ∧ ((∀ y ∈ es.set i (e.endWith st), y.ended? ≠ none) → s.refuse (.lane l i) n st
      = (s.entryEnded l j es i e st).finish l j (inputsStatus (es.set i (e.endWith st))) 0
        (BitVec.ofNat 32 (inputsOk (es.set i (e.endWith st))))) :=
  ⟨settleEntries_one hact hi he (mapIdx_endEntry st hi he), settleEntries_last hact hi he (mapIdx_endEntry st hi he)⟩

/-- An outcome byte that is written, and every other byte (R101). -/
theorem readByte_outcome (ram : List Host.Cell) (a : Nat) (b : Byte) :
    (a < Config.ramSize → readByte (storeBytes ram a [b]) a = b)
    ∧ ∀ x : Nat, x ≠ a → readByte (storeBytes ram a [b]) x = readByte ram x := by
  refine ⟨fun h => ?_, fun x hx => ?_⟩
  · rw [readByte_storeBytes, if_pos (by simp), if_pos h]
    simp
  · rw [readByte_storeBytes, if_neg (by simp; omega)]

/-- Settles O28: the cases of R89, each by what taking a request then is. -/
theorem gainRequestIsTaken : Obligations.GainRequestIsTaken := by
  unfold Obligations.GainRequestIsTaken
  refine ⟨fun s q tag input gain pad phantom hrun hid => ⟨gainRequest_noInput hrun hid, fun n x f hn hx hf =>
    ⟨fun hown => ?_, fun hown hp hroom => ?_, fun c hown hp hw => ?_⟩⟩,
    fun s q tag input gain pad phantom n x hrun hid hn hx hown => ⟨fun hp hroom => ?_, fun c w taken hp hw htaken =>
      ⟨fun o old hr => ?_, fun hr => ?_, fun l i j es e hr hworks hi he => ?_⟩⟩⟩
  · exact exec_of_leaves (leaves_gainRequest_input hrun hid hn hx (takeGain_foreign hown)) fun v => by cases v <;> rfl
  · refine leaves_gainRequest_input hrun hid hn hx ((takeGain_announces hown hp hroom).trans ?_)
    rw [hf, ← hown]
    rfl
  · exact leaves_gainRequest_input hrun hid hn hx (takeGain_waits hown hp hw)
  · exact leaves_gainRequest_input hrun hid hn hx (takeGain_holds hown hp hroom)
  all_goals
    have hsup := takeGain_supersedes (x := x) (r := .remote q tag) hown hp hw
    rw [hr] at hsup
  · exact leaves_gainRequest_input hrun hid hn hx (hsup.trans (by rw [htaken]; rfl))
  · exact leaves_gainRequest_input hrun hid hn hx (hsup.trans (by rw [htaken]; rfl))
  · have hact : (taken.lane l).activity = .working j (.setInput es) := by
      rw [htaken]
      exact (works_iff.mp hworks).2
    obtain ⟨hopen, hall⟩ := refuse_lane (n := n) (st := .superseded) hact hi he
    have htake : s.takeGain n x (.remote q tag) = taken.refuse (.lane l i) n .superseded := hsup.trans (by rw [htaken]; rfl)
    obtain ⟨hself, hother⟩ := readByte_outcome s.ram e.outcome 10
    refine ⟨taken.entryEnded l j es i e .superseded, _, rfl, rfl, ?_, ?_, ?_, ?_, ?_, ?_⟩
    · rw [htaken]
      exact hself
    · rw [htaken]
      exact hother
    · rw [State.entryEnded, withOp_self]
      rfl
    · intro k hk
      rw [State.entryEnded, withOp_other hk, htaken]
      rfl
    · exact fun h => leaves_gainRequest_input hrun hid hn hx (htake.trans (hopen h))
    · exact fun h => leaves_gainRequest_input hrun hid hn hx (htake.trans (hall h))

end Sys2Proof.Machine

/-!
Ownership at the stage (O29): input sets member by member, and the inputs a CLAIM is granted and a RELEASE releases (spec 05, R85, R86).
-/

namespace Sys2Proof.Machine

set_option Elab.async false

/-! ### Sets given by a test -/

/-- A power of two added to a smaller number is one more bit. -/
theorem testBit_add_two_pow {v m : Nat} (h : v < 2 ^ m) (i : Nat) : (v + 2 ^ m).testBit i = (v.testBit i || decide (i = m)) := by
  have hor := Nat.two_pow_add_eq_or_of_lt h 1
  rw [Nat.mul_one] at hor
  rw [Nat.add_comm, hor, Nat.testBit_or, Nat.testBit_two_pow, Bool.or_comm]
  simp only [eq_comm]

/-- The sum a set is made of has its members' bits. -/
theorem setOf_sum (p : Nat → Bool) (n : Nat) :
    ((List.range n).foldl (fun acc i => if p i then acc + 2 ^ i else acc) 0) < 2 ^ n
      ∧ ∀ i : Nat, ((List.range n).foldl (fun acc i => if p i then acc + 2 ^ i else acc) 0).testBit i = (decide (i < n) && p i) := by
  induction n with
  | zero => simp
  | succ n ih =>
    obtain ⟨hlt, hbits⟩ := ih
    rw [List.range_succ, List.foldl_append, List.foldl_cons, List.foldl_nil]
    have hpow : 2 ^ (n + 1) = 2 ^ n + 2 ^ n := by omega
    split
    next hp =>
      refine ⟨by omega, fun i => ?_⟩
      rw [testBit_add_two_pow hlt, hbits]
      rcases Nat.lt_trichotomy i n with hi | rfl | hi
      · simp [hi, Nat.lt_succ_of_lt hi, Nat.ne_of_lt hi]
      · simp [hp]
      · simp [Nat.not_lt_of_gt hi, Nat.ne_of_gt hi, Nat.not_lt.mpr (Nat.succ_le_of_lt hi)]
    next hp =>
      refine ⟨by omega, fun i => ?_⟩
      rw [hbits]
      rcases Nat.lt_trichotomy i n with hi | rfl | hi
      · simp [hi, Nat.lt_succ_of_lt hi]
      · simp [hp]
      · simp [Nat.not_lt_of_gt hi, Nat.not_lt.mpr (Nat.succ_le_of_lt hi)]

theorem setOf_getLsbD (n : Nat) (p : Nat → Bool) (i : Nat) : (setOf n p).getLsbD i = (decide (i < n) && p i) := by
  rw [setOf, BitVec.getLsbD_ofNat, (setOf_sum p n).2, ← Bool.and_assoc, Bool.and_self]

/-- A member of the inputs that a test accepts. -/
theorem inputsWhere_getLsbD (inputs : BitVec 64) (p : Fin 64 → Bool) (n : Fin 64) :
    (inputsWhere inputs p).getLsbD n.val = (inputs.getLsbD n.val && p n) := by
  simp only [inputsWhere, setOf_getLsbD, n.isLt, decide_true, Bool.true_and, index_fin]

theorem decide_isNone {α : Type} [DecidableEq α] (o : Option α) : o.isNone = decide (o = none) := by
  cases o <;> rfl

/-- Two sets of inputs with the same members are one. -/
theorem inputs_ext {v w : BitVec 64} (h : ∀ n : Fin 64, v.getLsbD n.val = w.getLsbD n.val) : v = w :=
  BitVec.eq_of_getLsbD_eq fun i hi => h ⟨i, hi⟩

/-! ### Claims and releases (R85, R86) -/

section Owners

variable (s : State) (q : Fin 4) (inputs : BitVec 64)

theorem granted_getLsbD (n : Fin 64) : (s.granted q inputs).getLsbD n.val
    = (inputs.getLsbD n.val && (decide ((s.gain.table.get n).owner = none) || decide ((s.gain.table.get n).owner = some q)
      || (s.gain.table.get n).orphaned)) := by
  rw [State.granted, inputsWhere_getLsbD]
  simp only [decide_isNone]

theorem released_getLsbD (n : Fin 64) : (s.released q inputs).getLsbD n.val
    = (inputs.getLsbD n.val && decide ((s.gain.table.get n).owner = some q)) := inputsWhere_getLsbD ..

theorem granted_zero : s.granted q 0 = 0 := inputs_ext fun n => (granted_getLsbD s q 0 n).trans (by simp)

theorem claimTable_get (n : Fin 64) : (s.claimTable q inputs).gain.table.get n
    = if (s.granted q inputs).getLsbD n.val = true then { s.gain.table.get n with owner := some q, orphaned := false }
      else s.gain.table.get n := Bank.mapNum_get ..

theorem releaseTable_get (n : Fin 64) : (s.releaseTable q inputs).gain.table.get n
    = if (s.released q inputs).getLsbD n.val = true then { s.gain.table.get n with owner := none, orphaned := false }
      else s.gain.table.get n := Bank.mapNum_get ..

variable {s q inputs} {tag : Tag} (hrun : s.isRunning = true) (hid : s.cfg.id = 0)

include hrun hid

theorem leaves_claim {u : State} (hu : s.takeClaim q tag inputs = u) : leaves (.claim q tag inputs) s u :=
  leaves_of rfl hrun ((if_pos ((stage_iff s).mpr hid)).trans hu)

theorem leaves_release {u : State} (hu : s.takeRelease q tag inputs = u) : leaves (.release q tag inputs) s u :=
  leaves_of rfl hrun ((if_pos ((stage_iff s).mpr hid)).trans hu)

end Owners

/-- Settles O29, by the inputs granted and released and the table they leave. -/
theorem claimAndReleaseMoveOwners : Obligations.ClaimAndReleaseMoveOwners := by
  unfold Obligations.ClaimAndReleaseMoveOwners
  refine ⟨fun s q tag inputs hrun hid => ⟨(s.claimTable q inputs).gain.table, s.granted q inputs, fun h => ?_, fun h => ?_,
      fun n => ⟨granted_getLsbD s q inputs n, claimTable_get s q inputs n⟩⟩,
    fun s q tag inputs hrun hid => ⟨(s.releaseTable q inputs).gain.table, s.released q inputs,
      leaves_release hrun hid rfl, fun n => ⟨released_getLsbD s q inputs n, releaseTable_get s q inputs n, ?_⟩⟩⟩
  · exact leaves_claim hrun hid (if_neg h)
  · subst h
    refine leaves_claim hrun hid ?_
    unfold State.takeClaim
    rw [granted_zero]
    rfl
  · rw [releaseTable_get]
    split <;> rfl

end Sys2Proof.Machine

/-!
What falls due at a playout in the gain unit, one input at a time: mutes that end and references that apply (O32; spec 05, R92, R97, R98).
-/

namespace Sys2Proof.Machine

set_option Elab.async false

section Due

variable {s : State} {n : Fin 64} {f : Word}

/-- A switch frame that the playout of this frame has reached is due. -/
theorem dueNow_of (hplayed : s.merge.playedNow = false) (hf : later f (s.clock.frame - BitVec.ofNat 32 s.merge.delay) = false) :
    s.dueNow f = true := by
  unfold State.dueNow State.playoutFrame minusFrames
  rw [hplayed, hf]
  rfl

/-- Deferred to this playout, or due at it (R84, R98). -/
theorem deferred_or_due {deferred : Bool} (hplayed : s.merge.playedNow = false)
    (h : deferred = true ∨ later f (s.clock.frame - BitVec.ofNat 32 s.merge.delay) = false) :
    (!s.merge.playedNow && (deferred || s.dueNow f)) = true := by
  rw [hplayed, Bool.not_false, Bool.true_and, Bool.or_eq_true]
  exact h.imp id (dueNow_of hplayed)

/-! ### Mutes (R92) -/

theorem leaves_phantomMuteEnd {u : State} (hrun : s.isRunning = true) (hdue : s.muteDue n = true) (hu : s.endMute n = u) :
    leaves (.phantomMuteEnd n) s u := leaves_of rfl hrun ((if_pos hdue).trans hu)

theorem phantomMuteEnd_stage {first last : Word} (hrun : s.isRunning = true) (hplayed : s.merge.playedNow = false)
    (hid : s.cfg.id = 0) (hm : (s.gain.table.get n).mute = some (first, last))
    (hf : later last (s.clock.frame - BitVec.ofNat 32 s.merge.delay) = false) :
    leaves (.phantomMuteEnd n) s (s.modInput n fun e => { e with
      mute := none, state := if e.state = .phantomFault then .phantomFault else .normal }) := by
  have hstage := (stage_iff s).mpr hid
  refine leaves_phantomMuteEnd hrun ?_ (if_pos hstage)
  unfold State.muteDue
  rw [if_pos hstage, hm]
  exact dueNow_of hplayed hf

theorem phantomMuteEnd_desk {last : Word} (hrun : s.isRunning = true) (hplayed : s.merge.playedNow = false)
    (hid : s.cfg.id ≠ 0) (hm : (s.gain.mirror.get n).muteEnd = some last)
    (hf : later last (s.clock.frame - BitVec.ofNat 32 s.merge.delay) = false) :
    leaves (.phantomMuteEnd n) s (s.modMirror n fun m => { m with
      muteEnd := none, state := if m.state = .phantomFault then .phantomFault else .normal }) := by
  have hdesk : ¬ s.isStage = true := fun h => hid ((stage_iff s).mp h)
  refine leaves_phantomMuteEnd hrun ?_ (if_neg hdesk)
  unfold State.muteDue
  rw [if_neg hdesk, hm]
  exact dueNow_of hplayed hf

end Due

/-! ### References (R97, R98) -/

section Reference

variable {s t : State} {o : Fin 4} {n : Fin 64} {r : ScheduledRef}

theorem track_lanesOnly (h : t.lanesOnly s) (p : Fin 4) (k : Fin 64) : t.track p k = s.track p k := by
  rw [h]
  rfl

theorem leaves_scheduledReferenceApply (hrun : s.isRunning = true) (hplayed : s.merge.playedNow = false)
    (hr : (s.track o n).scheduled = some r)
    (hf : r.deferred = true ∨ later r.switch (s.clock.frame - BitVec.ofNat 32 s.merge.delay) = false) :
    leaves (.scheduledReferenceApply o n) s (s.modTrack o n fun t =>
      t.onReference (decide (n ∈ s.gain.switched)) (s.setting n).effective r.value).endReferences := by
  have hdue : s.referenceDue o n = true := by
    unfold State.referenceDue
    rw [hr]
    exact deferred_or_due hplayed hf
  exact leaves_of rfl hrun ((if_pos hdue).trans (by rw [applyReference_some hr]))

end Reference

/-- Settles O32: a mute that is due ends, and a reference that is due applies as R97's three cases say. -/
theorem mutesEndAndReferencesApply : Obligations.MutesEndAndReferencesApply := by
  unfold Obligations.MutesEndAndReferencesApply
  refine fun s n hrun hplayed => ⟨fun first last hid => phantomMuteEnd_stage hrun hplayed hid,
    fun last hid => phantomMuteEnd_desk hrun hplayed hid, fun o r hr hf => ?_⟩
  have hlanes := lanesOnly_endReferences (s.modTrack o n fun t =>
    t.onReference (decide (n ∈ s.gain.switched)) (s.setting n).effective r.value)
  have htrack := fun p k => (track_lanesOnly hlanes p k).trans (modTrack_track s o p n k _)
  have hself := (htrack o n).trans (if_pos ⟨rfl, rfl⟩)
  refine ⟨_, leaves_scheduledReferenceApply hrun hplayed hr hf, fun heq => hself.trans (onReference_held _ heq),
    fun hne hno => hself.trans ?_, fun hne hin => hself.trans ?_, fun p k hpk => (htrack p k).trans (if_neg ?_), ?_, ?_, ?_⟩
  · rw [decide_eq_false hno]
    exact onReference_ramps hne
  · rw [decide_eq_true hin]
    exact onReference_at_once hne
  · exact fun h => hpk.elim (fun hp => hp h.1) fun hk => hk h.2
  all_goals
    rw [hlanes]
    rfl

end Sys2Proof.Machine

/-!
Switches of gain (O31): a desk's scheduled change and the stage's pending change as they apply (spec 05, R84, R91, R97), the waiting
change that follows (R90 to R92), and the test of R94 after a frame jump or a change of D.
-/

namespace Sys2Proof.Machine

set_option Elab.async false

/-! ### Frame of the lane engine -/

section Frame

variable {t s : State}

/-- What the lane engine works on is no part of the other blocks. -/
theorem lanesOnly_blocks (h : t.lanesOnly s) : t.gain = s.gain ∧ t.svc = s.svc ∧ t.conv = s.conv ∧ t.merge = s.merge
    ∧ t.clock = s.clock ∧ t.mix = s.mix ∧ t.cfg = s.cfg := by
  rw [h]
  exact ⟨rfl, rfl, rfl, rfl, rfl, rfl, rfl⟩

theorem fault_blocks (s : State) (k : FaultKind) (p : Option Port) (o n : Option (Fin 4)) (w : List Word) :
    (s.fault k p o n w).gain = s.gain ∧ (s.fault k p o n w).svc = s.svc ∧ (s.fault k p o n w).conv = s.conv
    ∧ (s.fault k p o n w).merge = s.merge ∧ (s.fault k p o n w).clock = s.clock ∧ (s.fault k p o n w).mix = s.mix := by
  rw [fault_only]
  exact ⟨rfl, rfl, rfl, rfl, rfl, rfl⟩

theorem lanesOnly_endApplied (s : State) (r : Requester) : (s.endApplied r).lanesOnly s := by
  cases r with
  | remote => exact .refl s
  | lane l i => exact (worksOn_settleEntries s l _).only
  | forgotten => exact .refl s

/-- A refusal works on the requester's lane or replies to it, and leaves the rest (R89). -/
theorem refuse_only (s : State) (r : Requester) (n : Fin 64) (st : Status) : s.refuse r n st = { s with
    lanes := (s.refuse r n st).lanes, ram := (s.refuse r n st).ram, svc := (s.refuse r n st).svc
    regs := { s.regs with attention := (s.refuse r n st).regs.attention } } := by
  cases r with
  | remote => rfl
  | lane l i =>
    have h : (s.refuse (.lane l i) n st).lanesOnly s := (worksOn_settleEntries s l _).only
    rw [h]
  | forgotten => rfl

end Frame

/-! ### The setting taken (R97) -/

section Taken

variable {s t : State} {n : Fin 64} {x y : Setting}

/-- An input whose setting has been taken: where the effective gain changes, every table's coefficient follows (R97). -/
def State.settingTaken (s : State) (n : Fin 64) (old new : Setting) : State :=
  if new.effective = old.effective then s else s.gainMoved n

theorem settingTaken_only (s : State) (n : Fin 64) (x y : Setting) : s.settingTaken n x y = { s with
    gain := { s.gain with tracking := (s.settingTaken n x y).gain.tracking, switched := (s.settingTaken n x y).gain.switched } } := by
  unfold State.settingTaken State.gainMoved
  split <;> rfl

theorem settingTaken_same (h : y.effective = x.effective) : s.settingTaken n x y = s := if_pos h

/-- A coefficient that follows a change of the effective gain. -/
theorem settingTaken_moved (h : y.effective ≠ x.effective) (hs : (s.setting n).effective = y.effective) (o : Fin 4) :
    (s.settingTaken n x y).track o n = (s.track o n).onGain y.effective := by
  unfold State.settingTaken
  rw [if_neg h, gainMoved_track, if_pos rfl, hs]

/-- What R97 says of the tables at a switch, for a state with the tables the setting taken leaves. -/
theorem tracking_follows {u : State} (hu : u.gain.tracking = (t.settingTaken n x y).gain.tracking)
    (ht : t.gain.tracking = s.gain.tracking) (hs : (t.setting n).effective = y.effective) :
    (y.effective = x.effective → u.gain.tracking = s.gain.tracking)
    ∧ (y.effective ≠ x.effective → ∀ o : Fin 4, (u.track o n).k = targetOf (s.track o n).reference y.effective
      ∧ (u.track o n).ramp = none ∧ (u.track o n).reference = (s.track o n).reference) := by
  refine ⟨fun h => ?_, fun h o => ?_⟩
  · rw [hu, settingTaken_same h, ht]
  · have htrack : u.track o n = (s.track o n).onGain y.effective := by
      have hread : u.track o n = (t.settingTaken n x y).track o n := congrArg (fun v => (Vector.get v o).get n) hu
      have hold : t.track o n = s.track o n := congrArg (fun v => (Vector.get v o).get n) ht
      rw [hread, settingTaken_moved h hs, hold]
    rw [htrack]
    exact ⟨rfl, rfl, rfl⟩

end Taken

/-! ### A desk's scheduled change (R84) -/

section Scheduled

variable {s : State} {n : Fin 64} {c : Scheduled}

/-- A late application that changes the effective gain is to be counted (R84). -/
def State.lateAt (s : State) (n : Fin 64) (c : Scheduled) : Bool :=
  decide (c.setting.effective ≠ (s.gain.mirror.get n).setting.effective) && c.deferred && c.counts

/-- The state once a scheduled change is taken and, if late, counted; its record and the ends of entries still to come. -/
def State.scheduledTaken (s : State) (n : Fin 64) (c : Scheduled) : State :=
  let t := (s.modMirror n fun m => m.applied c).settingTaken n (s.gain.mirror.get n).setting c.setting
  if s.lateAt n c then { t with gain.lateGains := t.gain.lateGains + 1 } else t

theorem applyScheduled_eq (hc : (s.gain.mirror.get n).scheduled = some c) : s.applyScheduled n
    = (if s.lateAt n c then (s.scheduledTaken n c).fault .lateGain none (some 0) none
          [BitVec.ofNat 32 n.val, c.switch, (s.scheduledTaken n c).playoutFrame, (s.scheduledTaken n c).gain.lateGains]
        else s.scheduledTaken n c).endSwitched n c.switch := by
  have htaken : (if decide (c.setting.effective ≠ (s.gain.mirror.get n).setting.effective) = true
        then (s.modMirror n fun m => m.applied c).gainMoved n else s.modMirror n fun m => m.applied c)
      = (s.modMirror n fun m => m.applied c).settingTaken n (s.gain.mirror.get n).setting c.setting := by
    simp only [State.settingTaken, decide_eq_true_eq, ne_eq, ite_not]
  unfold State.applyScheduled State.scheduledTaken
  simp only [hc, htaken]
  change (if s.lateAt n c = true then _ else _ : State).endSwitched n c.switch = _
  split <;> rfl

/-- Everything taking a scheduled change can do before its record. -/
theorem scheduledTaken_only (s : State) (n : Fin 64) (c : Scheduled) :
    s.scheduledTaken n c = { s with gain := (s.scheduledTaken n c).gain } := by
  unfold State.scheduledTaken
  rw [settingTaken_only]
  split <;> rfl

theorem scheduledTaken_mirror (s : State) (n : Fin 64) (c : Scheduled) :
    (s.scheduledTaken n c).gain.mirror = Bank.update s.gain.mirror n fun m => m.applied c := by
  unfold State.scheduledTaken
  rw [settingTaken_only]
  split <;> rfl

theorem scheduledTaken_lateGains (s : State) (n : Fin 64) (c : Scheduled) :
    (s.scheduledTaken n c).gain.lateGains = s.gain.lateGains + if s.lateAt n c then 1 else 0 := by
  unfold State.scheduledTaken
  rw [settingTaken_only]
  split
  · rfl
  · exact (BitVec.add_zero _).symm

theorem scheduledTaken_tracking (s : State) (n : Fin 64) (c : Scheduled) : (s.scheduledTaken n c).gain.tracking
    = ((s.modMirror n fun m => m.applied c).settingTaken n (s.gain.mirror.get n).setting c.setting).gain.tracking := by
  unfold State.scheduledTaken
  simp only []
  split <;> rfl

/-- The blocks a scheduled change's application leaves, and the gain unit it gives. -/
theorem applyScheduled_blocks (hc : (s.gain.mirror.get n).scheduled = some c) :
    (s.applyScheduled n).gain = (s.scheduledTaken n c).gain ∧ (s.applyScheduled n).svc = s.svc
    ∧ (s.applyScheduled n).conv = s.conv ∧ (s.applyScheduled n).merge = s.merge ∧ (s.applyScheduled n).clock = s.clock
    ∧ (s.applyScheduled n).mix = s.mix := by
  have htaken := scheduledTaken_only s n c
  rw [applyScheduled_eq hc]
  obtain ⟨hg, hsv, hcv, hme, hck, hmx, -⟩ := lanesOnly_blocks (lanesOnly_endSwitched (if s.lateAt n c then
      (s.scheduledTaken n c).fault .lateGain none (some 0) none
        [BitVec.ofNat 32 n.val, c.switch, (s.scheduledTaken n c).playoutFrame, (s.scheduledTaken n c).gain.lateGains]
      else s.scheduledTaken n c) n c.switch)
  rw [hg, hsv, hcv, hme, hck, hmx]
  split
  · obtain ⟨fg, fs, fc, fm, fk, fx⟩ := fault_blocks (s.scheduledTaken n c) .lateGain none (some 0) none
      [BitVec.ofNat 32 n.val, c.switch, (s.scheduledTaken n c).playoutFrame, (s.scheduledTaken n c).gain.lateGains]
    rw [fg, fs, fc, fm, fk, fx, htaken]
    exact ⟨rfl, rfl, rfl, rfl, rfl, rfl⟩
  · rw [htaken]
    exact ⟨rfl, rfl, rfl, rfl, rfl, rfl⟩

/-- A change that is neither deferred nor due is not applied. -/
theorem scheduledChangeApply_early (hrun : s.isRunning = true) (hc : (s.gain.mirror.get n).scheduled = some c) (hd : c.deferred = false)
    (hf : later c.switch (s.clock.frame - BitVec.ofNat 32 s.merge.delay) = true) :
    exec (.scheduledChangeApply n) s = .next s := by
  refine exec_of_nothing (leaves_of rfl hrun (if_neg ?_))
  have hlater : later c.switch s.playoutFrame = true := hf
  simp [State.scheduledDue, State.dueNow, hc, hd, hlater]

variable (hrun : s.isRunning = true) (hid : s.cfg.id ≠ 0)

include hid

theorem not_stage : s.isStage = false := Bool.eq_false_of_not_eq_true fun h => hid ((stage_iff s).mp h)

include hrun

theorem leaves_scheduledChangeApply (hplayed : s.merge.playedNow = false) (hc : (s.gain.mirror.get n).scheduled = some c)
    (hf : c.deferred = true ∨ later c.switch (s.clock.frame - BitVec.ofNat 32 s.merge.delay) = false) :
    leaves (.scheduledChangeApply n) s (s.applyScheduled n) := by
  refine leaves_of rfl hrun (if_pos ?_)
  unfold State.scheduledDue
  rw [not_stage hid, hc]
  exact deferred_or_due hplayed hf

end Scheduled

/-! ### The stage's pending change (R91, R92) -/

section Pending

variable {s : State} {n : Fin 64} {c : PendingChange}

/-- An entry with its pending change applied (R91 to R93). -/
def InputEntry.changed (e : InputEntry) (c : PendingChange) : InputEntry :=
  { e with setting := c.setting, state := stateAfter c e, pending := none }

/-- The state once a pending change is applied and its entry has ended; the waiting change still to be promoted. -/
def State.pendingTaken (s : State) (n : Fin 64) (c : PendingChange) : State :=
  ((s.modInput n fun e => e.changed c).settingTaken n (s.gain.table.get n).setting c.setting).endApplied c.requester

theorem applyPending_eq (hc : (s.gain.table.get n).pending = some c) : s.applyPending n = (s.pendingTaken n c).promote n := by
  have hentry : (s.modInput n fun y => { y with
        setting := c.setting, state := stateAfter c (s.gain.table.get n), pending := none })
      = s.modInput n fun e => e.changed c := modInput_congr rfl
  unfold State.applyPending State.pendingTaken State.settingTaken
  simp only [hc, hentry]

/-- What the gain unit and the other blocks are once a pending change is applied. -/
theorem pendingTaken_blocks (s : State) (n : Fin 64) (c : PendingChange) :
    (s.pendingTaken n c).gain.table = (s.modInput n fun e => e.changed c).gain.table
    ∧ (s.pendingTaken n c).gain.tracking
      = ((s.modInput n fun e => e.changed c).settingTaken n (s.gain.table.get n).setting c.setting).gain.tracking
    ∧ (s.pendingTaken n c).svc = s.svc ∧ (s.pendingTaken n c).conv = s.conv ∧ (s.pendingTaken n c).merge = s.merge
    ∧ (s.pendingTaken n c).clock = s.clock ∧ (s.pendingTaken n c).mix = s.mix ∧ (s.pendingTaken n c).cfg = s.cfg := by
  obtain ⟨hg, hsv, hcv, hme, hck, hmx, hcf⟩ := lanesOnly_blocks (lanesOnly_endApplied
    ((s.modInput n fun e => e.changed c).settingTaken n (s.gain.table.get n).setting c.setting) c.requester)
  unfold State.pendingTaken
  rw [hg, hsv, hcv, hme, hck, hmx, hcf, settingTaken_only]
  exact ⟨rfl, rfl, rfl, rfl, rfl, rfl, rfl, rfl⟩

theorem pendingTaken_self (s : State) (n : Fin 64) (c : PendingChange) :
    (s.pendingTaken n c).gain.table.get n = (s.gain.table.get n).changed c := by
  rw [(pendingTaken_blocks s n c).1]
  exact modInput_self _

theorem pendingTaken_other {k : Fin 64} (h : k ≠ n) : (s.pendingTaken n c).gain.table.get k = s.gain.table.get k := by
  rw [(pendingTaken_blocks s n c).1]
  exact modInput_other _ h

theorem pendingTaken_lane (h : ∀ (k : Fin 16) (p : Nat), c.requester ≠ .lane k p) (l : Fin 16) :
    (s.pendingTaken n c).lane l = s.lane l := by
  have hreq : ∀ t : State, t.endApplied c.requester = t := fun t => by
    cases hr : c.requester with
    | remote => rfl
    | lane k p => exact absurd hr (h k p)
    | forgotten => rfl
  unfold State.pendingTaken
  rw [hreq, settingTaken_only]
  rfl

theorem leaves_pendingChangeApply {f : Word} (hrun : s.isRunning = true) (hid : s.cfg.id = 0) (hplayed : s.merge.playedNow = false)
    (hc : (s.gain.table.get n).pending = some c) (hs : c.switch = some f)
    (hf : later f (s.clock.frame - BitVec.ofNat 32 s.merge.delay) = false) :
    leaves (.pendingChangeApply n) s ((s.pendingTaken n c).promote n) := by
  refine leaves_of rfl hrun ((if_pos ?_).trans (applyPending_eq hc))
  unfold State.pendingDue
  rw [(stage_iff s).mpr hid, hc]
  simp only [hs]
  exact dueNow_of hplayed hf

/-- What R97 says of the tables as a pending change applies. -/
theorem pending_tracking (hid : s.cfg.id = 0) {u : State} (hu : u.gain.tracking = (s.pendingTaken n c).gain.tracking) :
    (c.setting.effective = (s.gain.table.get n).setting.effective → u.gain.tracking = s.gain.tracking)
    ∧ (c.setting.effective ≠ (s.gain.table.get n).setting.effective →
      ∀ o : Fin 4, (u.track o n).k = targetOf (s.track o n).reference c.setting.effective
        ∧ (u.track o n).ramp = none ∧ (u.track o n).reference = (s.track o n).reference) := by
  refine tracking_follows (hu.trans (pendingTaken_blocks s n c).2.1) rfl ?_
  rw [modInput_setting ((stage_iff s).mpr hid), if_pos rfl]
  rfl

end Pending

/-! ### The waiting change (R90, R91) -/

section Promote

variable {s : State} {n : Fin 64} {w : WaitingChange}

/-- A waiting change as it becomes the pending one (R91). -/
def WaitingChange.promoted (w : WaitingChange) : PendingChange :=
  { setting := w.setting, requester := w.requester, switch := none, keepsFault := w.keepsFault }

/-- The state without the waiting change of an input. -/
def State.unwait (s : State) (n : Fin 64) : State := s.modInput n fun e => { e with waiting := none }

theorem promote_none (h : (s.gain.table.get n).waiting = none) : s.promote n = s := by
  unfold State.promote
  simp only [h]

theorem promote_owned (hw : (s.gain.table.get n).waiting = some w) (hown : (s.gain.table.get n).owner = some w.requester.id) :
    s.promote n = ((s.unwait n).pend n w.promoted).pumpPending n := by
  unfold State.promote
  simp only [hw]
  exact if_pos hown

theorem promote_foreign (hw : (s.gain.table.get n).waiting = some w) (hown : (s.gain.table.get n).owner ≠ some w.requester.id) :
    s.promote n = (s.unwait n).refuse w.requester n .notOwner := by
  unfold State.promote
  simp only [hw]
  exact if_neg hown

theorem promote_announces (hw : (s.gain.table.get n).waiting = some w) (hown : (s.gain.table.get n).owner = some w.requester.id)
    (hroom : s.svc.mayPlace .urgent = true) :
    s.promote n = (s.unwait n).announcing n w.promoted ((s.unwait n).gain.table.get n) s.switchFrame := by
  rw [promote_owned hw hown]
  exact pend_announces (s := s.unwait n) rfl hroom

theorem promote_holds (hw : (s.gain.table.get n).waiting = some w) (hown : (s.gain.table.get n).owner = some w.requester.id)
    (hroom : s.svc.mayPlace .urgent = false) :
    s.promote n = { (s.unwait n).pend n w.promoted with svc := s.svc.hold .urgent (.pendingGain n) } := by
  rw [promote_owned hw hown]
  exact pend_holds (s := s.unwait n) rfl hroom

theorem unwait_self (s : State) (n : Fin 64) : (s.unwait n).gain.table.get n = { s.gain.table.get n with waiting := none } :=
  modInput_self _

theorem unwait_other (s : State) {k : Fin 64} (h : k ≠ n) : (s.unwait n).gain.table.get k = s.gain.table.get k := modInput_other _ h

/-- The other inputs, the ramps and these blocks have no part in the promotion. -/
theorem promote_keeps (s : State) (n : Fin 64) : (∀ k : Fin 64, k ≠ n → (s.promote n).gain.table.get k = s.gain.table.get k)
    ∧ (s.promote n).gain.tracking = s.gain.tracking ∧ (s.promote n).merge = s.merge ∧ (s.promote n).clock = s.clock
    ∧ (s.promote n).mix = s.mix := by
  cases hw : (s.gain.table.get n).waiting with
  | none =>
    rw [promote_none hw]
    exact ⟨fun _ _ => rfl, rfl, rfl, rfl, rfl⟩
  | some w =>
    by_cases hown : (s.gain.table.get n).owner = some w.requester.id
    · cases hroom : s.svc.mayPlace .urgent with
      | true =>
        rw [promote_announces hw hown hroom]
        exact ⟨fun _ h => (modInput_other _ h).trans (unwait_other s h), rfl, rfl, rfl, rfl⟩
      | false =>
        rw [promote_holds hw hown hroom]
        exact ⟨fun _ h => (modInput_other _ h).trans (unwait_other s h), rfl, rfl, rfl, rfl⟩
    · rw [promote_foreign hw hown, refuse_only]
      exact ⟨fun _ h => unwait_other s h, rfl, rfl, rfl, rfl⟩

end Promote

/-! ### The test of R94 -/

section Retest

variable {s : State} {point : Word}

/-- A scheduled change, tested against a playout point (R94). -/
def Scheduled.tested (c : Scheduled) (point : Word) : Scheduled :=
  if earlier c.switch point then { c with deferred := true, counts := true } else { c with deferred := false }

theorem retestSwitches_stage (h : s.isStage = true) : s.retestSwitches point = s := if_pos h

section Desk

variable (h : s.isStage = false)

include h

theorem retestSwitches_desk : s.retestSwitches point = { s with gain := { s.gain with
    mirror := Bank.mapAll (fun m => { m with scheduled := m.scheduled.map fun c => c.tested point }) s.gain.mirror
    tracking := Bank.mapAll (fun table => Bank.mapAll (fun t =>
      { t with scheduled := t.scheduled.map fun r => { r with deferred := earlier r.switch point } }) table) s.gain.tracking } } :=
  if_neg (ne_true_of_eq_false h)

theorem retestSwitches_mirror (n : Fin 64) : (s.retestSwitches point).gain.mirror.get n
    = { s.gain.mirror.get n with scheduled := (s.gain.mirror.get n).scheduled.map fun c => c.tested point } := by
  rw [retestSwitches_desk h]
  exact Bank.mapAll_get ..

theorem retestSwitches_track (o : Fin 4) (n : Fin 64) : (s.retestSwitches point).track o n
    = { s.track o n with scheduled := (s.track o n).scheduled.map fun r => { r with deferred := earlier r.switch point } } := by
  have hrow : (s.retestSwitches point).gain.tracking.get o = Bank.mapAll (fun t : TrackEntry =>
      { t with scheduled := t.scheduled.map fun r => { r with deferred := earlier r.switch point } }) (s.gain.tracking.get o) := by
    rw [retestSwitches_desk h]
    exact Bank.mapAll_get ..
  rw [State.track, hrow]
  exact Bank.mapAll_get ..

end Desk

theorem changeDelay_moves {d : Nat} (h : d ≠ s.merge.delay) : s.changeDelay d
    = State.retestSwitches { s with merge := { s.merge with delay := d } }
      (s.clock.frame - BitVec.ofNat 32 d + if s.merge.playedNow then 1 else 0) := by
  unfold State.changeDelay
  rw [if_neg h]
  cases s.merge.playedNow <;> rfl

end Retest

/-! ### What O31 states -/

/-- A desk's scheduled change at its playout. -/
theorem scheduled_switches {s : State} {n : Fin 64} {c : Scheduled} (hrun : s.isRunning = true) (hplayed : s.merge.playedNow = false)
    (hid : s.cfg.id ≠ 0) (hc : (s.gain.mirror.get n).scheduled = some c)
    (hf : c.deferred = true ∨ later c.switch (s.clock.frame - BitVec.ofNat 32 s.merge.delay) = false) :
    ∃ u : State, leaves (.scheduledChangeApply n) s u
      ∧ u.gain.mirror.get n = { s.gain.mirror.get n with
          setting := c.setting, scheduled := none
          state := if c.state = .normal ∧ (s.gain.mirror.get n).state = .phantomMute ∧ (s.gain.mirror.get n).muteEnd ≠ none then
            .phantomMute else c.state
          muteEnd := if c.state = .phantomMute then some (c.switch + 9600) else (s.gain.mirror.get n).muteEnd }
      ∧ (∀ k : Fin 64, k ≠ n → u.gain.mirror.get k = s.gain.mirror.get k)
      ∧ (c.setting.effective = (s.gain.mirror.get n).setting.effective →
          u.gain.tracking = s.gain.tracking ∧ u.gain.lateGains = s.gain.lateGains)
      ∧ (c.setting.effective ≠ (s.gain.mirror.get n).setting.effective →
          (∀ o : Fin 4, (u.track o n).k = targetOf (s.track o n).reference c.setting.effective
            ∧ (u.track o n).ramp = none ∧ (u.track o n).reference = (s.track o n).reference)
          ∧ u.gain.lateGains = s.gain.lateGains + if c.deferred = true ∧ c.counts = true then 1 else 0)
      ∧ u.merge = s.merge ∧ u.clock = s.clock ∧ u.mix = s.mix ∧ u.svc = s.svc ∧ u.conv = s.conv := by
  obtain ⟨hg, hsv, hcv, hme, hck, hmx⟩ := applyScheduled_blocks hc
  have hmirror : (s.applyScheduled n).gain.mirror = Bank.update s.gain.mirror n fun m => m.applied c := by
    rw [hg, scheduledTaken_mirror]
  have hset : ((s.modMirror n fun m => m.applied c).setting n).effective = c.setting.effective := by
    rw [modMirror_setting (not_stage hid), if_pos rfl]
    rfl
  obtain ⟨hsame, hmoved⟩ := tracking_follows (u := s.applyScheduled n) (s := s)
    ((congrArg Gain.tracking hg).trans (scheduledTaken_tracking s n c)) rfl hset
  have hlate : (s.applyScheduled n).gain.lateGains = s.gain.lateGains + if s.lateAt n c then 1 else 0 := by
    rw [hg, scheduledTaken_lateGains]
  refine ⟨_, leaves_scheduledChangeApply hrun hid hplayed hc hf, ?_, fun k hk => ?_, fun he => ⟨hsame he, ?_⟩,
    fun he => ⟨hmoved he, ?_⟩, hme, hck, hmx, hsv, hcv⟩
  · rw [hmirror, Bank.update_get, if_pos rfl, MirrorEntry.applied]
    simp only [Option.isSome_iff_ne_none]
    rfl
  · rw [hmirror, Bank.update_get, if_neg hk]
  · rw [hlate, State.lateAt]
    simp [he]
  · rw [hlate, State.lateAt]
    simp [he]

/-- The stage's pending change at its playout, with no change waiting. -/
theorem pending_switches {s : State} {n : Fin 64} {c : PendingChange} {f : Word} (hrun : s.isRunning = true)
    (hplayed : s.merge.playedNow = false) (hid : s.cfg.id = 0) (hc : (s.gain.table.get n).pending = some c)
    (hs : c.switch = some f) (hw : (s.gain.table.get n).waiting = none)
    (hf : later f (s.clock.frame - BitVec.ofNat 32 s.merge.delay) = false) :
    ∃ u : State, leaves (.pendingChangeApply n) s u
      ∧ u.gain.table.get n = { s.gain.table.get n with
          setting := c.setting, pending := none
          state := if c.keepsFault then .phantomFault
            else if c.setting.phantom ≠ (s.gain.table.get n).setting.phantom then .phantomMute
            else if (s.gain.table.get n).state = .phantomMute then .phantomMute else .normal }
      ∧ (∀ k : Fin 64, k ≠ n → u.gain.table.get k = s.gain.table.get k)
      ∧ (c.setting.effective = (s.gain.table.get n).setting.effective → u.gain.tracking = s.gain.tracking)
      ∧ (c.setting.effective ≠ (s.gain.table.get n).setting.effective →
          ∀ o : Fin 4, (u.track o n).k = targetOf (s.track o n).reference c.setting.effective
            ∧ (u.track o n).ramp = none ∧ (u.track o n).reference = (s.track o n).reference)
      ∧ u.merge = s.merge ∧ u.clock = s.clock ∧ u.mix = s.mix ∧ u.svc = s.svc ∧ u.conv = s.conv := by
  obtain ⟨-, -, hsv, hcv, hme, hck, hmx, -⟩ := pendingTaken_blocks s n c
  have hpromote : (s.pendingTaken n c).promote n = s.pendingTaken n c := promote_none (by rw [pendingTaken_self]; exact hw)
  obtain ⟨hsame, hmoved⟩ := pending_tracking hid (u := s.pendingTaken n c) rfl
  exact ⟨_, hpromote ▸ leaves_pendingChangeApply hrun hid hplayed hc hs hf, pendingTaken_self s n c,
    fun k hk => pendingTaken_other hk, hsame, hmoved, hme, hck, hmx, hsv, hcv⟩

/-- A refusal to a lane, or to none that is known, sends nothing. -/
theorem refuse_svc {t : State} {r : Requester} {n : Fin 64} {st : Status} (h : ∀ (o : Fin 4) (tag : Tag), r ≠ .remote o tag) :
    (t.refuse r n st).svc = t.svc := by
  cases r with
  | remote o tag => exact absurd rfl (h o tag)
  | lane l i => exact (lanesOnly_blocks (worksOn_settleEntries t l _).only).2.1
  | forgotten => rfl

/-- An entry that is left in a list stands where another is set. -/
theorem mem_set_of_mem_eraseIdx {α : Type} {xs : List α} {i : Nat} {x y : α} (h : y ∈ xs.eraseIdx i) : y ∈ xs.set i x := by
  obtain ⟨k, hk, hne⟩ := List.mem_eraseIdx_iff_getElem?.mp h
  refine List.mem_of_getElem? (i := k) ?_
  rw [List.getElem?_set_ne (Ne.symm hk)]
  exact hne

section Follows

variable {s : State} {n : Fin 64} {c : PendingChange} {w : WaitingChange}

/-- A waiting change that is promoted with room, as a change of gain has applied (R90 to R92). -/
theorem pendingTaken_announces (hw : (s.gain.table.get n).waiting = some w)
    (hown : (s.gain.table.get n).owner = some w.requester.id) (hroom : s.svc.mayPlace .urgent = true) :
    ((s.pendingTaken n c).promote n).gain.table.get n
      = InputEntry.announcedFor { (s.gain.table.get n).changed c with waiting := none } w.promoted s.switchFrame
    ∧ ((s.pendingTaken n c).promote n).svc = s.svc.enqueue (announceMessage n w.setting (s.gain.table.get n).owner
        (stateBrought w.promoted ((s.gain.table.get n).changed c)) (s.gain.table.get n).orphaned s.switchFrame w.requester.tag false)
    ∧ ((s.pendingTaken n c).promote n).conv = { s.conv with schedule := addWord s.conv.schedule {
        due := s.switchFrame - BitVec.ofNat 32 s.cfg.latency, input := n, setting := w.setting } } := by
  obtain ⟨-, -, hsv, hcv, hme, hck, -, hcf⟩ := pendingTaken_blocks s n c
  have hself := pendingTaken_self s n c
  have hframe : (s.pendingTaken n c).switchFrame = s.switchFrame := by
    unfold State.switchFrame
    rw [hck, hme, hcf]
  rw [promote_announces (by rw [hself]; exact hw) (by rw [hself]; exact hown) (by rw [hsv]; exact hroom), hframe, unwait_self, hself]
  refine ⟨?_, ?_, ?_⟩
  · refine (modInput_self _).trans ?_
    rw [unwait_self, hself]
  · exact congrArg (fun v : Service => v.enqueue (announceMessage n w.setting (s.gain.table.get n).owner
      (stateBrought w.promoted ((s.gain.table.get n).changed c)) (s.gain.table.get n).orphaned s.switchFrame w.requester.tag false)) hsv
  · show ({ (s.pendingTaken n c).conv with schedule := addWord (s.pendingTaken n c).conv.schedule {
      due := s.switchFrame - BitVec.ofNat 32 (s.pendingTaken n c).cfg.latency, input := n, setting := w.setting } } : Converter) = _
    rw [hcv, hcf]

/-- One that is promoted without room (R73). -/
theorem pendingTaken_holds (hw : (s.gain.table.get n).waiting = some w)
    (hown : (s.gain.table.get n).owner = some w.requester.id) (hroom : s.svc.mayPlace .urgent = false) :
    ((s.pendingTaken n c).promote n).gain.table.get n
      = { (s.gain.table.get n).changed c with waiting := none, pending := some w.promoted }
    ∧ ((s.pendingTaken n c).promote n).svc = s.svc.hold .urgent (.pendingGain n)
    ∧ ((s.pendingTaken n c).promote n).conv = s.conv := by
  obtain ⟨-, -, hsv, hcv, -, -, -, -⟩ := pendingTaken_blocks s n c
  have hself := pendingTaken_self s n c
  rw [promote_holds (by rw [hself]; exact hw) (by rw [hself]; exact hown) (by rw [hsv]; exact hroom)]
  refine ⟨?_, congrArg (Service.hold · .urgent (.pendingGain n)) hsv, hcv⟩
  refine (modInput_self _).trans ?_
  rw [unwait_self, hself]

/-- One whose requester is the owner no more (R91). -/
theorem pendingTaken_refuses (hw : (s.gain.table.get n).waiting = some w)
    (hown : (s.gain.table.get n).owner ≠ some w.requester.id) :
    (s.pendingTaken n c).promote n = ((s.pendingTaken n c).unwait n).refuse w.requester n .notOwner
    ∧ ((s.pendingTaken n c).promote n).gain.table.get n = { (s.gain.table.get n).changed c with waiting := none }
    ∧ ((s.pendingTaken n c).promote n).conv = s.conv := by
  have hself := pendingTaken_self s n c
  have he := promote_foreign (s := s.pendingTaken n c) (by rw [hself]; exact hw) (by rw [hself]; exact hown)
  refine ⟨he, ?_, ?_⟩
  · rw [he, refuse_only]
    exact (unwait_self _ n).trans (by rw [hself])
  · rw [he, refuse_only]
    exact (pendingTaken_blocks s n c).2.2.2.1

end Follows

/-- Settles O31: what a switch that is due leaves at a desk and at the stage, the test of R94, and the waiting change's promotion. -/
theorem switchAppliesGain : Obligations.SwitchAppliesGain := by
  unfold Obligations.SwitchAppliesGain
  refine ⟨⟨⟨fun s n hrun hplayed => ⟨fun c hid hc hf => scheduled_switches hrun hplayed hid hc hf,
      fun c f hid hc hs hw hf => pending_switches hrun hplayed hid hc hs hw hf⟩,
    fun s n c hrun _ hc hd hf => scheduledChangeApply_early hrun hc hd hf, fun s point => ⟨retestSwitches_stage, fun h => ⟨?_,
      fun n => ⟨fun hn => ?_, fun c hc => ⟨fun he => ?_, fun he => ?_⟩⟩, fun o n => ⟨fun hn => ?_, fun r hr => ?_⟩⟩,
      fun d => ⟨fun h => changeDelay_same h.symm, changeDelay_moves⟩⟩⟩,
    fun s n c w f g e moved hrun hid hplayed he hc hs hw hf hg hmoved => ?_⟩, fun s n c hrun hid hplayed hc hf => ?_,
    fun first last f => ⟨rfl, rfl⟩⟩
  · rw [retestSwitches_desk h]
  · rw [retestSwitches_mirror h, hn]
    rw [show (Option.map (fun c => Scheduled.tested c point) none) = none from rfl, ← hn]
  · rw [retestSwitches_mirror h, hc, Option.map_some, Scheduled.tested, if_pos he]
  · rw [retestSwitches_mirror h, hc, Option.map_some, Scheduled.tested, if_neg (ne_true_of_eq_false he)]
  · rw [retestSwitches_track h, hn]
    rw [Option.map_none, ← hn]
  · rw [retestSwitches_track h, hr, Option.map_some]
  · subst he hg hmoved
    obtain ⟨-, htracking, hsv, -, hme, hck, hmx, -⟩ := pendingTaken_blocks s n c
    obtain ⟨hother, hkept, hpme, hpck, hpmx⟩ := promote_keeps (s.pendingTaken n c) n
    refine ⟨_, leaves_pendingChangeApply hrun hid hplayed hc hs hf, fun k hk => (hother k hk).trans (pendingTaken_other hk),
      (pending_tracking hid hkept).1, hpme.trans hme, hpck.trans hck, hpmx.trans hmx,
      fun hown hroom => pendingTaken_announces hw hown hroom,
      fun hown hroom => pendingTaken_holds hw hown hroom, fun hown => ?_⟩
    obtain ⟨heq, htable, hconv⟩ := pendingTaken_refuses (c := c) hw hown
    refine ⟨htable, hconv, fun o tag hr => ?_, fun hr => ?_, fun l i j es y hr hworks hi hy hno hopen => ?_⟩
    · rw [heq, hr]
      exact congrArg (Service.reply · _) hsv
    · rw [heq]
      exact (refuse_svc hr).trans hsv
    · have hlane : ((s.pendingTaken n c).unwait n).lane l = s.lane l := pendingTaken_lane hno l
      obtain ⟨z, hz, hzopen⟩ := hopen
      rw [heq, hr, (refuse_lane (by rw [hlane]; exact (works_iff.mp hworks).2) hi hy).1 ⟨z, mem_set_of_mem_eraseIdx hz, hzopen⟩]
      exact congrArg Lane.activity (withOp_self _ l j _)
  · have hlate : s.scheduledTaken n c = { s with gain := (s.scheduledTaken n c).gain } := scheduledTaken_only s n c
    have hpoint : (s.scheduledTaken n c).playoutFrame = s.clock.frame - BitVec.ofNat 32 s.merge.delay := by
      rw [hlate]
      rfl
    have hleaves := leaves_scheduledChangeApply hrun hid hplayed hc hf
    rw [applyScheduled_eq hc, hpoint] at hleaves
    refine ⟨s.scheduledTaken n c, hlate, fun hmoves hd hcounts => ?_, fun hnot => ?_⟩
    · have ht : s.lateAt n c = true := by simp [State.lateAt, hmoves, hd, hcounts]
      rw [if_pos ht] at hleaves
      exact ⟨by rw [scheduledTaken_lateGains, if_pos ht], hleaves⟩
    · have ht : s.lateAt n c = false := by
        simp only [State.lateAt]
        rcases hnot with h | h | h <;> simp [h]
      rw [if_neg (by simp [ht])] at hleaves
      refine ⟨?_, hleaves⟩
      rw [scheduledTaken_lateGains, if_neg (by simp [ht])]
      exact BitVec.add_zero _

end Sys2Proof.Machine

/-!
A phantom short reported at the stage (O34; spec 05, R93; spec 10, R187, R188): the entry it leaves, its announcement, and the reports
that do nothing.
-/

namespace Sys2Proof.Machine

set_option Elab.async false

/-! ### The report -/

theorem shortReport_iff {report : BitVec 16} {n : Fin 64} : shortReport report = some n ↔ popCount report % 2 = 1
    ∧ report.extractLsb' 8 2 = 1 ∧ (report.extractLsb' 10 6).toNat = n.val := by
  unfold shortReport
  by_cases h : popCount report % 2 = 1 ∧ report.extractLsb' 8 2 = 1
  · rw [if_pos h, index?, dif_pos (report.extractLsb' 10 6).isLt, Option.some_inj, ← Fin.val_inj]
    exact ⟨fun hn => ⟨h.1, h.2, hn⟩, fun hn => hn.2.2⟩
  · rw [if_neg h]
    exact ⟨fun hn => (nomatch hn), fun hn => absurd ⟨hn.1, hn.2.1⟩ h⟩

/-- A bad report names no input. -/
theorem shortReport_none {report : BitVec 16} (h : popCount report % 2 = 0 ∨ report.extractLsb' 8 2 ≠ 1) :
    shortReport report = none := by
  refine if_neg fun hgood => ?_
  rcases h with h | h
  · exact absurd hgood.1 (by omega)
  · exact h hgood.2

section Short

variable {s : State} {report : BitVec 16} {n : Fin 64}

theorem shortActs_iff : s.shortActs n = true ↔ (s.conv.lastWords.get n).phantom = true
    ∧ ((s.gain.table.get n).state ≠ .phantomFault ∨ (s.gain.table.get n).setting.phantom = true) := by
  simp only [State.shortActs, Bool.and_eq_true, Bool.not_eq_true', Bool.and_eq_false_iff, decide_eq_false_iff_not, Bool.not_eq_false',
    ne_eq]

theorem exec_shortReport_stopped (hrun : s.isRunning = false) : exec (.phantomShortReport report) s = .next s :=
  congrArg Host.Outcome.next (not_running (fun st => st.takeReport report) hrun)

/-- A report that acts on nothing leaves a terminal as it is, RUNNING or not. -/
theorem exec_shortReport_idle (h : s.takeReport report = s) : exec (.phantomShortReport report) s = .next s := by
  cases hrun : s.isRunning with
  | true => exact exec_of_nothing (leaves_of rfl hrun h)
  | false => exact exec_shortReport_stopped hrun

theorem takeReport_none (h : shortReport report = none) : s.takeReport report = s := by
  unfold State.takeReport
  simp only [h]

theorem takeReport_some (h : shortReport report = some n) :
    s.takeReport report = if s.isStage && s.shortActs n then s.phantomShort n else s := by
  unfold State.takeReport
  simp only [h]

/-! ### The entry and its announcement -/

/-- A setting without phantom. -/
def Setting.unpowered (x : Setting) : Setting := { x with phantom := false }

/-- The table's entry of a shorted input (R93). -/
def InputEntry.shorted (e : InputEntry) : InputEntry :=
  { e with
    setting := e.setting.unpowered, state := .phantomFault
    pending := e.pending.map fun c => { c with setting := c.setting.unpowered, keepsFault := true }
    waiting := e.waiting.map fun w => { w with setting := w.setting.unpowered, keepsFault := true } }

/-- The preamp words of a shorted input: one ahead of the schedule, and those on it, without phantom (R93). -/
def State.shortWords (s : State) (n : Fin 64) : List PreampWord :=
  { due := s.clock.frame, input := n, setting := { s.conv.lastWords.get n with phantom := false } }
    :: s.conv.schedule.map fun x => if x.input = n then { x with setting := { x.setting with phantom := false } } else x

/-- The state with words and entry of a shorted input; its announcement and its record still to come. -/
def State.shorted (s : State) (n : Fin 64) : State :=
  { s with conv := { s.conv with schedule := s.shortWords n } }.modInput n InputEntry.shorted

theorem phantomShort_eq (s : State) (n : Fin 64) : s.phantomShort n = ((s.shorted n).announceFault n).fault .phantomFault none (some 0)
    none [BitVec.ofNat 32 n.val, BitVec.ofNat 32 (s.conv.lastWords.get n).gain] := rfl

theorem shorted_self (s : State) (n : Fin 64) : (s.shorted n).gain.table.get n = (s.gain.table.get n).shorted := modInput_self _

theorem shorted_other (s : State) {k : Fin 64} (h : k ≠ n) : (s.shorted n).gain.table.get k = s.gain.table.get k := modInput_other _ h

/-- The announcement of a phantom fault, by an entry's pending change; none where that is not announced yet (R93). -/
def InputEntry.faultMessage (e : InputEntry) (n : Fin 64) (now : Word) : Option Message :=
  match e.pending with
  | none => some (announceMessage n e.setting e.owner .phantomFault e.orphaned now noTag false)
  | some c => c.switch.map fun f => announceMessage n c.setting e.owner .phantomFault e.orphaned f c.requester.tag false

/-- The announcement of a shorted entry speaks of the settings without phantom. -/
theorem faultMessage_shorted (e : InputEntry) (n : Fin 64) (now : Word) :
    (e.pending = none → e.shorted.faultMessage n now
      = some (announceMessage n e.setting.unpowered e.owner .phantomFault e.orphaned now noTag false))
    ∧ ∀ c : PendingChange, e.pending = some c → e.shorted.faultMessage n now
      = c.switch.map fun f => announceMessage n c.setting.unpowered e.owner .phantomFault e.orphaned f c.requester.tag false := by
  refine ⟨fun h => ?_, fun c h => ?_⟩ <;> simp only [InputEntry.faultMessage, InputEntry.shorted, h, Option.map_none, Option.map_some]

/-- A fault announce that waits for its input. -/
def State.holdingFault (s : State) (n : Fin 64) (m : Message) : State :=
  { s with gain.heldFaults := s.gain.heldFaults.set n (some m) }

theorem announceFault_none (h : (s.gain.table.get n).faultMessage n s.clock.frame = none) : s.announceFault n = s := by
  unfold InputEntry.faultMessage at h
  unfold State.announceFault
  cases hp : (s.gain.table.get n).pending with
  | none => simp [hp] at h
  | some c =>
    have hs : c.switch = none := by simpa [hp] using h
    simp only [hp, hs]

theorem announceFault_some {m : Message} (h : (s.gain.table.get n).faultMessage n s.clock.frame = some m) :
    s.announceFault n = (s.holdingFault n m).pumpFault n := by
  unfold InputEntry.faultMessage at h
  unfold State.announceFault State.holdingFault
  cases hp : (s.gain.table.get n).pending with
  | none =>
    simp only [hp, Option.some_inj] at h
    simp only [hp, h]
  | some c =>
    rw [hp] at h
    obtain ⟨f, hf, hm⟩ := Option.map_eq_some_iff.mp h
    simp only [hp, hf, hm]

theorem holdingFault_held (s : State) (n : Fin 64) (m : Message) : (s.holdingFault n m).gain.heldFaults.get n = some m :=
  (Bank.set_get ..).trans (if_pos rfl)

/-- A fault announce is queued where the urgent queue has room. -/
theorem pumpFault_room {m : Message} (hroom : s.svc.mayPlace .urgent = true) : (s.holdingFault n m).pumpFault n
    = { s.holdingFault n m with
        gain := { s.gain with heldFaults := (s.holdingFault n m).gain.heldFaults.set n none }, svc := s.svc.enqueue m } := by
  have hheld := holdingFault_held s n m
  have hsend : (s.holdingFault n m).sendFaultAnnounce n = { s.holdingFault n m with
      gain := { s.gain with heldFaults := (s.holdingFault n m).gain.heldFaults.set n none }, svc := s.svc.enqueue m } := by
    unfold State.sendFaultAnnounce
    simp only [hheld]
    rfl
  rw [← hsend]
  refine pump_single (by rw [hheld]; rfl) hroom ?_ ?_
  · rw [hsend]
    exact congrArg Option.isSome ((Bank.set_get ..).trans (if_pos rfl))
  · rw [hsend]
    exact (enqueue_room s.svc m .urgent).trans (room_of_mayPlace hroom)

/-- It waits where the queue has none (R73, R93). -/
theorem pumpFault_holds {m : Message} (hroom : s.svc.mayPlace .urgent = false) :
    (s.holdingFault n m).pumpFault n = { s.holdingFault n m with svc := s.svc.hold .urgent (.faultAnnounce n) } :=
  pump_hold (by rw [holdingFault_held]; rfl) hroom

/-- Everything the announcement of a phantom fault can do. -/
theorem announceFault_only (s : State) (n : Fin 64) : s.announceFault n = { s with
    gain := { s.gain with heldFaults := (s.announceFault n).gain.heldFaults }, svc := (s.announceFault n).svc } := by
  cases hm : (s.gain.table.get n).faultMessage n s.clock.frame with
  | none => rw [announceFault_none hm]
  | some m =>
    cases hroom : s.svc.mayPlace .urgent with
    | true => rw [announceFault_some hm, pumpFault_room hroom]; rfl
    | false => rw [announceFault_some hm, pumpFault_holds hroom]; rfl

/-- What else is as the words and the entry of the short leave it. -/
theorem phantomShort_blocks (s : State) (n : Fin 64) : (s.phantomShort n).gain.table = (s.shorted n).gain.table
    ∧ (s.phantomShort n).gain.tracking = s.gain.tracking
    ∧ (s.phantomShort n).gain.heldFaults = ((s.shorted n).announceFault n).gain.heldFaults
    ∧ (s.phantomShort n).svc = ((s.shorted n).announceFault n).svc ∧ (s.phantomShort n).conv = { s.conv with schedule := s.shortWords n }
    ∧ (s.phantomShort n).merge = s.merge ∧ (s.phantomShort n).clock = s.clock ∧ (s.phantomShort n).mix = s.mix := by
  rw [phantomShort_eq]
  obtain ⟨hg, hsv, hcv, hme, hck, hmx⟩ := fault_blocks ((s.shorted n).announceFault n) .phantomFault none (some 0) none
    [BitVec.ofNat 32 n.val, BitVec.ofNat 32 (s.conv.lastWords.get n).gain]
  rw [hg, hsv, hcv, hme, hck, hmx, announceFault_only]
  exact ⟨rfl, rfl, rfl, rfl, rfl, rfl, rfl, rfl⟩

theorem phantomShort_logged (s : State) (n : Fin 64) : (s.phantomShort n).logged s := by
  rw [phantomShort_eq]
  refine fault_logged ?_
  rw [announceFault_only]
  rfl

/-- What the service gets of a short: its announcement, if there is one and there is room. -/
theorem phantomShort_svc (s : State) (n : Fin 64) (hroom : s.svc.mayPlace .urgent = true) : (s.phantomShort n).svc
    = match (s.gain.table.get n).shorted.faultMessage n s.clock.frame with
      | none => s.svc
      | some m => s.svc.enqueue m := by
  obtain ⟨-, -, -, hsv, -⟩ := phantomShort_blocks s n
  rw [hsv, ← shorted_self s n]
  cases hm : ((s.shorted n).gain.table.get n).faultMessage n s.clock.frame with
  | none =>
    rw [announceFault_none (s := s.shorted n) hm]
    rfl
  | some m =>
    rw [announceFault_some (s := s.shorted n) hm, pumpFault_room (s := s.shorted n) hroom]
    rfl

/-- Without room the announcement is kept for its input (R73, R93). -/
theorem phantomShort_held {m : Message} (hroom : s.svc.mayPlace .urgent = false)
    (hm : (s.gain.table.get n).shorted.faultMessage n s.clock.frame = some m) :
    (s.phantomShort n).gain.heldFaults = s.gain.heldFaults.set n (some m)
    ∧ (s.phantomShort n).svc = s.svc.hold .urgent (.faultAnnounce n) := by
  obtain ⟨-, -, hheld, hsv, -⟩ := phantomShort_blocks s n
  rw [← shorted_self s n] at hm
  rw [hheld, hsv, announceFault_some (s := s.shorted n) hm, pumpFault_holds (s := s.shorted n) hroom]
  exact ⟨rfl, rfl⟩

theorem leaves_phantomShort (hrun : s.isRunning = true) (hid : s.cfg.id = 0) (hn : shortReport report = some n)
    (hlast : (s.conv.lastWords.get n).phantom = true)
    (hlive : (s.gain.table.get n).state ≠ .phantomFault ∨ (s.gain.table.get n).setting.phantom = true) :
    leaves (.phantomShortReport report) s (s.phantomShort n) := by
  refine leaves_of rfl hrun ((takeReport_some hn).trans (if_pos ?_))
  rw [(stage_iff s).mpr hid, shortActs_iff.mpr ⟨hlast, hlive⟩]
  rfl

end Short

/-- Settles O34: what a short that acts leaves, block by block, and the reports that do nothing. -/
theorem phantomShortActs : Obligations.PhantomShortActs := by
  unfold Obligations.PhantomShortActs
  refine ⟨⟨fun s report hrun hid => ⟨fun n hn hlast hlive => ?_,
      fun hbad => exec_shortReport_idle (takeReport_none (shortReport_none hbad))⟩,
    fun s report n hn hidle => ?_, fun s report hidle => ?_, fun report n => shortReport_iff,
    fun s report n off hrun hid hn hlast hlive hoff hroom => ?_⟩, fun s report n off m hrun hid hn hlast hlive hoff hroom hm => ?_,
    fun s report n hrun hid hn hlast hlive => ⟨(s.shorted n).announceFault n, ?_, leaves_phantomShort hrun hid hn hlast hlive, ?_⟩⟩
  · obtain ⟨htable, htracking, -, -, hcv, hme, hck, hmx⟩ := phantomShort_blocks s n
    have hself : (s.phantomShort n).gain.table.get n = (s.gain.table.get n).shorted := by rw [htable, shorted_self]
    refine ⟨_, leaves_phantomShort hrun hid hn hlast hlive, by rw [hself]; rfl, by rw [hself]; rfl, by rw [hself]; rfl, fun c hc => ?_,
      fun k hk => by rw [htable, shorted_other s hk], by rw [hcv]; rfl, ?_, htracking, hme, hck, hmx⟩
    · rw [hself, InputEntry.shorted, hc]
      rfl
    · exact (phantomShort_logged s n).imp (congrArg ListRec.written) (congrArg ListRec.dropped)
  · have hnot : s.shortActs n = false := by
      rcases hidle with h | ⟨hstate, hphantom⟩
      · simp [State.shortActs, h]
      · simp [State.shortActs, hstate, hphantom]
    exact exec_shortReport_idle ((takeReport_some hn).trans (if_neg (by simp [hnot])))
  · rcases hidle with hid | hrun
    · cases hn : shortReport report with
      | none => exact exec_shortReport_idle (takeReport_none hn)
      | some n => exact exec_shortReport_idle ((takeReport_some hn).trans (if_neg (by simp [not_stage hid])))
    · exact exec_shortReport_stopped hrun
  · have hsvc := phantomShort_svc s n hroom
    obtain rfl : off = Setting.unpowered := funext hoff
    obtain ⟨hfree, hchange⟩ := faultMessage_shorted (s.gain.table.get n) n s.clock.frame
    refine ⟨_, leaves_phantomShort hrun hid hn hlast hlive, phantomShort_logged s n, fun hp => ?_, fun c f hc hf => ?_, fun c hc hf => ?_,
      fun w hw => ?_⟩
    · rw [hsvc, hfree hp]
    · rw [hsvc, hchange c hc, hf, Option.map_some]
    · rw [hsvc, hchange c hc, hf, Option.map_none]
    · rw [(phantomShort_blocks s n).1, shorted_self, InputEntry.shorted, hw]
      rfl
  · obtain rfl : off = Setting.unpowered := funext hoff
    obtain ⟨hfree, hchange⟩ := faultMessage_shorted (s.gain.table.get n) n s.clock.frame
    have hmessage : (s.gain.table.get n).shorted.faultMessage n s.clock.frame = some m := by
      rcases hm with ⟨hp, rfl⟩ | ⟨c, f, hc, hf, rfl⟩
      · exact hfree hp
      · rw [hchange c hc, hf, Option.map_some]
    obtain ⟨hheld, hsvc⟩ := phantomShort_held hroom hmessage
    refine ⟨_, leaves_phantomShort hrun hid hn hlast hlive, phantomShort_logged s n, hheld, ?_⟩
    rw [hsvc]
    by_cases hwaits : Held.faultAnnounce n ∈ s.svc.urgentRoom
    · rw [if_pos hwaits]
      exact if_pos hwaits
    · rw [if_neg hwaits]
      exact if_neg hwaits
  · rw [announceFault_only]
    rfl
  · rw [announceFault_only]
    rfl

end Sys2Proof.Machine

/-!
What a desk takes from announcements and references (O30; spec 05, R83, R84, R87, R98, R102).
-/

namespace Sys2Proof.Machine

set_option Elab.async false

/-! ### A gain announcement -/

section Announce

variable {s : State} {n : Fin 64}

theorem stateOf_code {b : Byte} {x : InputState} (h : b.toNat = x.code) : stateOf b = some x := by
  obtain rfl : b = BitVec.ofNat 8 x.code := BitVec.eq_of_toNat_eq (h.trans (by cases x <;> rfl))
  cases x <;> rfl

theorem stateOf_none {b : Byte} (h : 2 < b.toNat) : stateOf b = none := by
  have hne : ∀ c : Byte, c.toNat ≤ 2 → b ≠ c := fun c hc he => by rw [he] at h; omega
  simp only [stateOf, if_neg (hne 0 (by decide)), if_neg (hne 1 (by decide)), if_neg (hne 2 (by decide))]

/-- The mirror entry with the owner and the change an announcement tells (R84). -/
def MirrorEntry.told (m : MirrorEntry) (owner : Option (Fin 4)) (orphaned : Bool) (c : Scheduled) : MirrorEntry :=
  { m with owner := owner, orphaned := orphaned, scheduled := some c }

/-- The change a GAIN ANNOUNCE tells, against the playout point of the terminal that takes it (R84, R94). -/
def State.toldChange (s : State) (gain pad phantom : Byte) (x : InputState) (switch : Word) (tag : Tag) (refresh : Byte) : Scheduled :=
  { setting := { gain := min gain.toNat 60, pad := decide (pad ≠ 0), phantom := decide (phantom ≠ 0) }
    state := x, switch := switch, tag := tag, deferred := earlier switch s.merge.point, counts := decide (refresh = 0) }

section Good

variable {input gain pad phantom owner state orphaned refresh : Byte} {switch : Word} {tag : Tag} {x : InputState}

/-- What an announcement with good fields does to a mirror, fresh marks and SUPERSEDED included. -/
theorem takeAnnounce_good (hn : input.toNat = n.val) (hx : state.toNat = x.code) (ho : owner.toNat ≤ 3 ∨ owner = 255) :
    s.takeAnnounce input gain pad phantom owner state orphaned switch tag refresh
      = ((s.modMirror n fun m => m.told (index? 4 owner.toNat) (decide (orphaned ≠ 0))
          (s.toldChange gain pad phantom x switch tag refresh)).freshen n).supersede (s.gain.mirror.get n).scheduled switch := by
  have hgood : ¬(3 < owner.toNat ∧ owner ≠ 255) := fun h => ho.elim (by omega) h.2
  have hrefresh : (!(refresh != 0)) = decide (refresh = 0) := Bool.not_not _
  have horphan : (orphaned != 0) = decide (orphaned ≠ 0) := decide_not.symm
  unfold State.takeAnnounce
  simp only [index_of_val hn, stateOf_code hx, if_neg hgood]
  unfold State.announced
  rw [hrefresh, horphan, askedSetting_eq]
  rfl

/-- A field out of range discards the announcement (R84). -/
theorem takeAnnounce_bad (h : 63 < input.toNat ∨ 2 < state.toNat ∨ (3 < owner.toNat ∧ owner ≠ 255)) :
    s.takeAnnounce input gain pad phantom owner state orphaned switch tag refresh = s := by
  unfold State.takeAnnounce
  split
  · rename_i k st hk hst
    rcases h with h | h | h
    · rw [index_none.mpr h] at hk
      cases hk
    · rw [stateOf_none h] at hst
      cases hst
    · exact if_pos h
  · rfl

end Good

/-! ### Fresh marks (R83, R84) -/

theorem freshen_live (h : s.gain.stale = false) : s.freshen n = s := if_neg (by simp [h])

theorem freshen_stale (h : s.gain.stale = true) : s.freshen n = { s with gain := { s.gain with
    mirror := Bank.update s.gain.mirror n fun m => { m with fresh := true }
    stale := !(Bank.update s.gain.mirror n fun m => { m with fresh := true }).toList.all fun m => m.fresh } } := by
  unfold State.freshen
  rw [if_pos h]
  show (if (Bank.update s.gain.mirror n fun m => { m with fresh := true }).toList.all (fun m => m.fresh) = true then _ else _ : State) = _
  split
  · rename_i hall
    rw [hall]
    rfl
  · rename_i hsome
    rw [Bool.eq_false_of_not_eq_true hsome, ← show s.gain.stale = !false from h]
    rfl

theorem all_fresh_iff (mirror : Bank 64 MirrorEntry) :
    (mirror.toList.all fun m => m.fresh) = true ↔ ∀ k : Fin 64, (mirror.get k).fresh = true := by
  rw [List.all_eq_true]
  refine ⟨fun h k => h _ (Vector.mem_toList_iff.mpr (Vector.getElem_mem k.isLt)), fun h m hm => ?_⟩
  obtain ⟨k, hk, rfl⟩ := Vector.getElem_of_mem (Vector.mem_toList_iff.mp hm)
  exact h ⟨k, hk⟩

/-- The entry told and its fresh mark, described field by field. -/
theorem told_freshen_eq {v : State} {f : MirrorEntry → MirrorEntry}
    (hv : v = { s with gain := { s.gain with mirror := v.gain.mirror, stale := v.gain.stale } })
    (hother : ∀ k : Fin 64, k ≠ n → v.gain.mirror.get k = s.gain.mirror.get k)
    (hself : v.gain.mirror.get n = { f (s.gain.mirror.get n) with fresh := s.gain.stale || (s.gain.mirror.get n).fresh })
    (hkeeps : ∀ m : MirrorEntry, (f m).fresh = m.fresh)
    (hstale : v.gain.stale = true ↔ s.gain.stale = true ∧ ∃ k : Fin 64, (v.gain.mirror.get k).fresh = false) :
    (s.modMirror n f).freshen n = v := by
  have hmirror : ∀ g : MirrorEntry → MirrorEntry, g (s.gain.mirror.get n) = v.gain.mirror.get n →
      Bank.update s.gain.mirror n g = v.gain.mirror :=
    fun g hg => Bank.ext_get fun k => by
      rw [Bank.update_get]
      split
      · rename_i hk
        rw [hk, hg]
      · rename_i hk
        rw [hother k hk]
  cases hs : s.gain.stale with
  | false =>
    have hfalse : v.gain.stale = s.gain.stale := by
      rw [hs]
      exact Bool.eq_false_of_not_eq_true fun h => by simp [hs] at hstale; simp [hstale] at h
    rw [freshen_live (s := s.modMirror n f) hs, hv]
    have hm := hmirror f (by rw [hself, hs, Bool.false_or, ← hkeeps])
    show ({ s with gain := { s.gain with mirror := Bank.update s.gain.mirror n f } } : State) = _
    rw [hm, hfalse]
  | true =>
    have hm := hmirror (fun m => { f m with fresh := true }) (by rw [hself, hs, Bool.true_or])
    have hbank : Bank.update (s.modMirror n f).gain.mirror n (fun m => { m with fresh := true }) = v.gain.mirror :=
      (Bank.update_update ..).trans hm
    have hvalue : (!v.gain.mirror.toList.all fun m => m.fresh) = v.gain.stale := by
      rw [Bool.eq_iff_iff, hstale, Bool.not_eq_true', ← Bool.not_eq_true, all_fresh_iff]
      simp [hs]
    rw [freshen_stale (s := s.modMirror n f) hs, hbank, hvalue]
    exact hv.symm

/-! ### A change replaced (R102) -/

theorem entryEnded_lane (s : State) (l : Fin 16) (j : Join) (es : List InputStep) (i : Nat) (e : InputStep) (st : Status) :
    (s.entryEnded l j es i e st).lane l = { s.lane l with activity := .working j (.setInput (es.set i (e.endWith st))) } :=
  withOp_self (s.store e.outcome _) l j _

theorem supersede_none {old : Option Scheduled} {switch : Word}
    (h : ∀ c : Scheduled, old = some c → c.tag.requester.toNat ≠ s.cfg.id.val ∨ c.switch = switch) : s.supersede old switch = s := by
  cases old with
  | none => rfl
  | some c => exact if_neg fun hc => (h c rfl).elim (fun hne => hne hc.1) hc.2

/-- A replaced change that a lane's one entry waits for ends its step. -/
theorem supersede_entry {c : Scheduled} {switch : Word} {l : Fin 16} {j : Join} {e : InputStep}
    (hq : c.tag.requester.toNat = s.cfg.id.val) (hl : c.tag.lane.toNat = l.val) (hs : c.switch ≠ switch)
    (hact : (s.lane l).activity = .working j (.setInput [e])) (he : e.state = .switching c.tag.seq c.switch) :
    s.supersede (some c) switch = (s.entryEnded l j [e] 0 e .superseded).finish l j .superseded 0 0 := by
  have hopen : e.ended? = none := by
    unfold InputStep.ended?
    rw [he]
  unfold State.supersede
  simp only [if_pos (And.intro hq hs), index_of_val hl]
  refine settleEntries_last hact (i := 0) rfl hopen (congrArg (fun y => [y]) (if_pos he)) fun y hy => ?_
  obtain rfl := List.mem_singleton.mp hy
  exact fun h => nomatch h

end Announce

/-! ### An owner announcement (R87) and a reference (R98) -/

section Others

variable {s : State}

/-- A mirror whose entries of a result set have the owner told (R87). -/
def ownersTold (o : Option (Fin 4)) (lost : Bool) (result : BitVec 64) (mirror : Bank 64 MirrorEntry) : Bank 64 MirrorEntry :=
  Bank.mapNum (fun i (m : MirrorEntry) => if result.getLsbD i then { m with owner := o, orphaned := lost } else m) mirror

theorem announcedOwner_good {owner : Byte} (h : owner.toNat ≤ 7 ∨ owner = 255) : announcedOwner owner = some
    (if owner = 255 then none else index? 4 (owner.toNat % 4), decide (4 ≤ owner.toNat ∧ owner ≠ 255)) := by
  unfold announcedOwner
  by_cases hnone : owner = 255
  · simp [hnone]
  · have hle : owner.toNat ≤ 7 := h.resolve_right hnone
    rw [if_neg hnone]
    by_cases hown : owner.toNat ≤ 3
    · have hmod : owner.toNat % 4 = owner.toNat := Nat.mod_eq_of_lt (by omega)
      simp only [if_pos hown, hnone, hmod, if_false, not_false_eq_true, and_true, ne_eq]
      rw [decide_eq_false (by omega)]
    · have hmod : owner.toNat % 4 = owner.toNat - 4 := by omega
      simp only [if_neg hown, if_pos hle, hnone, hmod, if_false, not_false_eq_true, and_true, ne_eq]
      rw [decide_eq_true (by omega)]

theorem announcedOwner_bad {owner : Byte} (h : 7 < owner.toNat) (hnone : owner ≠ 255) : announcedOwner owner = none := by
  unfold announcedOwner
  rw [if_neg hnone, if_neg (by omega), if_neg (by omega)]

theorem answerGain_none {tag : Tag} {switch : Word} (h : s.answered? tag 2 = none) : s.answerGain tag switch = s := by
  unfold State.answerGain
  simp only [h]

theorem answerOwner_none {tag : Tag} {result : BitVec 64} (h : s.answered? tag 6 = none) : s.answerOwner tag result = s := by
  unfold State.answerOwner
  simp only [h]

theorem leaves_gainAnnounce {input gain pad phantom owner state orphaned refresh : Byte} {switch : Word} {tag : Tag}
    (hrun : s.isRunning = true) (hid : s.cfg.id ≠ 0) (h : s.answered? tag 2 = none) :
    leaves (.gainAnnounce input gain pad phantom owner state orphaned switch tag refresh) s
      (s.takeAnnounce input gain pad phantom owner state orphaned switch tag refresh) := by
  refine leaves_of rfl hrun ((if_neg (by simp [not_stage hid])).trans ?_)
  rw [answerGain_none h]

end Others

/-- Settles O30: an announcement by the entry told, its fresh mark and the change it replaces; owners and references entry by entry. -/
theorem deskTakesAnnouncements : Obligations.DeskTakesAnnouncements := by
  unfold Obligations.DeskTakesAnnouncements
  refine ⟨fun s hrun => ⟨fun input gain pad phantom owner state orphaned switch tag refresh n x hid hno hn hx ho hlive hreq => ?_,
      fun inputs owner tag result hid hno ho => ?_, fun sender input value switch n hn => ?_⟩,
    fun s v input gain pad phantom owner state orphaned switch tag refresh n x hn hx ho hv hother hself hstale => ?_,
    fun s input gain pad phantom owner state orphaned switch tag refresh => ⟨leaves_gainAnnounce, takeAnnounce_bad,
      fun inputs result hno hhigh hnone => ?_, fun sender value hhigh => ?_⟩⟩
  · have htake := takeAnnounce_good (s := s) (gain := gain) (pad := pad) (phantom := phantom) (orphaned := orphaned) (switch := switch)
      (tag := tag) (refresh := refresh) hn hx ho
    rw [freshen_live (s := s.modMirror n _) hlive, supersede_none (s := s.modMirror n _) fun c hc => .inl (hreq c hc)] at htake
    exact htake ▸ leaves_gainAnnounce hrun hid hno
  · refine ⟨ownersTold _ _ result s.gain.mirror, 
      leaves_of rfl hrun ((if_neg (by simp [not_stage hid])).trans ?_), fun n => Bank.mapNum_get ..⟩
    rw [answerOwner_none hno]
    unfold State.takeOwners
    simp only [announcedOwner_good ho]
    rfl
  · refine leaves_of rfl hrun ?_
    show s.takeReference sender input value switch = _
    unfold State.takeReference
    simp only [index_of_val hn]
    rfl
  · have hmirror := told_freshen_eq (s := s) (n := n) (f := fun m => m.told (index? 4 owner.toNat) (decide (orphaned ≠ 0))
      (s.toldChange gain pad phantom x switch tag refresh)) hv hother hself (fun m => rfl) hstale
    rw [takeAnnounce_good hn hx ho, hmirror]
    have hcfg : v.cfg = s.cfg := by rw [hv]
    have hlane : ∀ k : Fin 16, v.lane k = s.lane k := fun k => by rw [hv]; rfl
    refine ⟨fun hreq => supersede_none (by rw [hcfg]; exact hreq), fun c l j e hc hq hl hs hworks he =>
      ⟨v.entryEnded l j [e] 0 e .superseded, ?_, ?_, ?_, fun k hk => ?_⟩⟩
    · rw [hc]
      exact supersede_entry (by rw [hcfg]; exact hq) hl hs (by rw [hlane]; exact (works_iff.mp hworks).2) he
    · have hram : v.ram = s.ram := by rw [hv]
      rw [← hram]
      rfl
    · rw [entryEnded_lane, hlane]
    · exact (withOp_other hk).trans (hlane k)
  · cases hrun : s.isRunning with
    | true =>
      refine exec_of_nothing (leaves_of rfl hrun ?_)
      rw [answerOwner_none hno]
      unfold State.takeOwners
      simp only [announcedOwner_bad hhigh hnone]
      exact ite_self s
    | false => exact congrArg Host.Outcome.next (not_running _ hrun)
  · cases hrun : s.isRunning with
    | true =>
      refine exec_of_nothing (leaves_of rfl hrun ?_)
      show s.takeReference sender input value switch = s
      unfold State.takeReference
      simp only [index_none.mpr hhigh]
    | false => exact congrArg Host.Outcome.next (not_running _ hrun)

end Sys2Proof.Machine

/-!
CLAIM INPUTS and RELEASE INPUTS (O36; spec 05, R85, R86, R103): a step that acts at the stage, and one that asks the stage.
-/

namespace Sys2Proof.Machine

set_option Elab.async false

/-! ### The result set in the payload (R103) -/

section Stored

/-- Byte i of a set's little-endian bytes holds its members 8 i to 8 i + 7. -/
theorem leBytes_extract (x : BitVec 64) {i : Nat} (hi : i < 8) : (leBytes 8 x.toNat).getD i 0 = x.extractLsb' (8 * i) 8 := by
  have hpow : 256 ^ i = 2 ^ (8 * i) := by rw [Nat.pow_mul]
  have hget : (leBytes 8 x.toNat)[i]? = some (BitVec.ofNat 8 (x.toNat / 256 ^ i)) := by
    rw [leBytes_eq_map, List.getElem?_map, List.getElem?_range hi, Option.map_some]
  rw [List.getD_eq_getElem?_getD, hget, Option.getD_some]
  apply BitVec.eq_of_toNat_eq
  rw [BitVec.extractLsb'_toNat, BitVec.toNat_ofNat, Nat.shiftRight_eq_div_pow, hpow]

theorem storeJoined_snoc (s : State) (j : Join) (at_ : Nat) (bs : List Byte) (b : Byte) :
    s.storeJoined j at_ (bs ++ [b]) = (s.storeJoined j at_ bs).store (j.address (at_ + bs.length)) [b] := by
  unfold State.storeJoined
  rw [List.mapIdx_concat, List.foldl_append]
  rfl

theorem storeJoined_only (s : State) (j : Join) (at_ : Nat) (bs : List Byte) :
    s.storeJoined j at_ bs = { s with ram := (s.storeJoined j at_ bs).ram } := by
  induction bs using List.reverseRecOn with
  | nil => rfl
  | append_singleton bs b ih =>
    rw [storeJoined_snoc, ih]
    rfl

theorem storeJoined_lane (s : State) (j : Join) (at_ : Nat) (bs : List Byte) (k : Fin 16) :
    (s.storeJoined j at_ bs).lane k = s.lane k := by
  have hlanes : (s.storeJoined j at_ bs).lanes = s.lanes := by rw [storeJoined_only]
  unfold State.lane
  rw [hlanes]

/-- Bytes stored into one segment of a join are read back behind one another. -/
theorem storeJoined_read {s : State} {j : Join} {at_ b : Nat} {bs : List Byte}
    (haddr : ∀ k : Nat, k < bs.length → j.address (at_ + k) = b + k)
    (hram : b + bs.length ≤ Config.ramSize) {i : Nat} (hi : i < bs.length) :
    readByte (s.storeJoined j at_ bs).ram (b + i) = bs.getD i 0 := by
  induction bs using List.reverseRecOn with
  | nil => exact absurd hi (Nat.not_lt_zero i)
  | append_singleton bs x ih =>
    rw [List.length_append, List.length_singleton] at hi hram
    have hlast : j.address (at_ + bs.length) = b + bs.length := haddr _ (by simp)
    rw [storeJoined_snoc, hlast]
    refine (readByte_storeBytes ..).trans ?_
    rw [List.length_singleton]
    by_cases hlt : i < bs.length
    · rw [if_neg (by omega), ih (fun k hk => haddr k (by simp; omega)) (by omega) hlt, List.getD_append _ _ _ _ hlt]
    · obtain rfl : i = bs.length := by omega
      rw [if_pos (by omega), if_pos (by omega), List.getD_append_right _ _ _ _ (Nat.le_refl _), Nat.sub_self, Nat.sub_self]

variable {s : State} {l : Fin 16} {kind a : Nat}

/-- A step that passes its checks has its payload in one piece of RAM. -/
theorem stepAt_address (h : s.hasStep l kind a = true) (hkind : kind ≠ 1) {i : Nat} (hi : i < (s.stepAt a).payload.length) :
    (s.stepAt a).address i = (s.header a).payload + i ∧ (s.header a).payload + (s.stepAt a).payload.length ≤ Config.ramSize := by
  simp only [State.hasStep, Bool.and_eq_true, beq_iff_eq, Option.isNone_iff_eq_none] at h
  obtain ⟨⟨⟨⟨-, hk⟩, hfault⟩, -⟩, -⟩ := h
  obtain ⟨-, -, -, -, -, hpayload⟩ := stepAt_fields s a
  have hlength : (s.header a).length ≠ 0 := fun hz => by
    rw [hpayload, stepBytes, hz] at hi
    simp at hi
  have hreads : ((s.header a).kind != 1 && (s.header a).length != 0) = true := by simp [hk, hkind, hlength]
  have hlen : (s.stepAt a).payload.length = (s.header a).length := by
    rw [hpayload, stepBytes, if_pos hreads]
    simp [readBytes]
  have hsegments : (s.stepAt a).segments = [((s.header a).payload, (s.header a).length)] := by
    unfold State.stepAt Join.add
    simp only [hreads, if_true]
    rfl
  refine ⟨?_, ?_⟩
  · rw [Join.address, hsegments, segmentAddress, if_pos (by omega)]
  · rw [hlen]
    by_contra hbig
    have hbad : (s.header a).kind ≠ 1 ∧ (s.header a).length ≠ 0
        ∧ ((s.header a).payload < Config.anchorSize ∨ Config.ramSize < (s.header a).payload + (s.header a).length) :=
      ⟨by omega, hlength, .inr (by omega)⟩
    unfold Header.fault at hfault
    rw [if_pos hbad] at hfault
    split at hfault <;> cases hfault

theorem hasStep_length (h : s.hasStep l kind a = true) : lengthNeeded kind ≤ (s.stepAt a).payload.length := by
  simp only [State.hasStep, Bool.and_eq_true, decide_eq_true_eq] at h
  exact h.2

/-- The result set behind the input set of a 16-byte payload. -/
theorem storeJoined_result {t : State} (h : s.hasStep l kind a = true) (hkind : lengthNeeded kind = 16) (result : BitVec 64) {i : Nat}
    (hi : i < 8) : readByte (t.storeJoined (s.stepAt a) 8 (leBytes 8 result.toNat)).ram ((s.header a).payload + 8 + i)
      = result.extractLsb' (8 * i) 8 := by
  have hlen : 16 ≤ (s.stepAt a).payload.length := hkind ▸ hasStep_length h
  have hne : kind ≠ 1 := fun he => by
    rw [he] at hkind
    exact absurd hkind (by decide)
  have hsize : (leBytes 8 result.toNat).length = 8 := leBytes_length 8 _
  have hfits := (stepAt_address h hne (i := 0) (by omega)).2
  rw [storeJoined_read (fun k hk => ?_) (by omega) (by omega), leBytes_extract result hi]
  rw [(stepAt_address h hne (by omega)).1]
  omega

end Stored

/-! ### The status a result gives (R103) -/

theorem claimStatus_eq {release : Bool} {inputs result : BitVec 64}
    (hsub : ∀ n : Fin 64, result.getLsbD n.val = true → inputs.getLsbD n.val = true) : claimStatus release inputs result
      = if result = inputs then .ok else if release = false ∧ result = 0 then .held else .partly := by
  have hkept : inputs &&& result = result := inputs_ext fun n => by
    rw [BitVec.getLsbD_and]
    cases hr : result.getLsbD n.val with
    | false => exact Bool.and_false _
    | true => rw [hsub n hr]; rfl
  have hall : inputs &&& ~~~result = 0 ↔ result = inputs := by
    refine ⟨fun h => inputs_ext fun n => ?_, fun h => by rw [h]; exact BitVec.and_not_self _⟩
    have hbit := congrArg (fun v : BitVec 64 => v.getLsbD n.val) h
    have hn : n.val < 64 := n.isLt
    simp only [BitVec.getLsbD_and, BitVec.getLsbD_not, hn, decide_true, Bool.true_and] at hbit
    cases hr : result.getLsbD n.val with
    | true => exact (hsub n hr).symm
    | false =>
      simp only [hr, Bool.not_false, Bool.and_true] at hbit
      exact (hbit.trans BitVec.getLsbD_zero).symm
  unfold claimStatus
  rw [hkept]
  simp only [hall, Bool.and_eq_true, Bool.not_eq_true', decide_eq_true_eq]

/-! ### At the stage (R73, R103) -/

section Stage

variable {t : State} {l : Fin 16} {j : Join} {release : Bool} {inputs result : BitVec 64}

/-- The OWNER ANNOUNCE of a stage's own step. -/
def ownMessage (release : Bool) (inputs result : BitVec 64) : Message :=
  ownerMessage inputs (if release then 255 else 0) noTag result

/-- A lane's step that has acted on the table. -/
def State.claimed (t : State) (l : Fin 16) (j : Join) (release : Bool) (inputs result : BitVec 64) : State :=
  t.withOp l j (.claim release inputs (some result))

theorem claimed_lane (t : State) (l : Fin 16) (j : Join) (release : Bool) (inputs result : BitVec 64) :
    (t.claimed l j release inputs result).lane l = { t.lane l with activity := .working j (.claim release inputs (some result)) } :=
  withOp_self ..

theorem claimed_other {k : Fin 16} (hk : k ≠ l) : (t.claimed l j release inputs result).lane k = t.lane k :=
  withOp_other hk

/-- With room, the result is broadcast. -/
def State.claimSent (t : State) (l : Fin 16) (j : Join) (release : Bool) (inputs result : BitVec 64) : State :=
  { t.claimed l j release inputs result with svc := t.svc.enqueue (ownMessage release inputs result) }

theorem claimSent_lane (t : State) (l : Fin 16) (j : Join) (release : Bool) (inputs result : BitVec 64) :
    (t.claimSent l j release inputs result).lane l = { t.lane l with activity := .working j (.claim release inputs (some result)) } :=
  claimed_lane t l j release inputs result

/-- The result is written too, and the step is to end. -/
def State.claimTold (t : State) (l : Fin 16) (j : Join) (release : Bool) (inputs result : BitVec 64) : State :=
  (t.claimSent l j release inputs result).storeJoined j 8 (leBytes 8 result.toNat)

theorem claimTold_lanes (t : State) (l : Fin 16) (j : Join) (release : Bool) (inputs result : BitVec 64) (k : Fin 16) :
    (t.claimTold l j release inputs result).lane k = (t.claimed l j release inputs result).lane k :=
  storeJoined_lane (t.claimSent l j release inputs result) j 8 _ k

/-- The result written changes exchange RAM alone. -/
theorem claimTold_only (t : State) (l : Fin 16) (j : Join) (release : Bool) (inputs result : BitVec 64) : ∃ ram : List Host.Cell,
    t.claimTold l j release inputs result = { t.claimSent l j release inputs result with ram := ram } := by
  unfold State.claimTold
  exact ⟨_, storeJoined_only ..⟩

theorem endClaim_working {u : State} {r : Option (BitVec 64)} (hact : (u.lane l).activity = .working j (.claim release inputs r)) :
    u.endClaim l result = (u.storeJoined j 8 (leBytes 8 result.toNat)).finish l j (claimStatus release inputs result) 0
      (BitVec.ofNat 32 (popCount result)) := by
  have hjoin : u.join l = j := by
    unfold State.join
    rw [hact]
  have hstored : ((u.storeJoined j 8 (leBytes 8 result.toNat)).lane l).activity = .working j (.claim release inputs r) := by
    rw [storeJoined_lane, hact]
  unfold State.endClaim
  simp only [op_working hact, hjoin, endStep_working hstored]
  rfl

theorem stageClaim_room (hroom : t.svc.mayPlace .normal = true) (hheld : (t.lane l).held = none) :
    t.stageClaim l j release inputs result = (t.claimTold l j release inputs result).finish l j (claimStatus release inputs result) 0
      (BitVec.ofNat 32 (popCount result)) := by
  have hlane := claimSent_lane t l j release inputs result
  have hsubmit : (t.setOp l j (.claim release inputs (some result))).submit l (ownMessage release inputs result)
      = t.claimSent l j release inputs result := by
    rw [setOp_only]
    exact submit_queued hroom
  have hfree : (t.claimSent l j release inputs result).isHeld l = false := by
    unfold State.isHeld
    rw [hlane, hheld]
    rfl
  have hmessage : ownerMessage inputs (if release then 255 else ownerByte (some 0)) noTag result = ownMessage release inputs result := rfl
  unfold State.stageClaim
  simp only [hmessage, hsubmit, hfree, if_false, Bool.false_eq_true]
  exact endClaim_working (by rw [hlane])

/-- Without room, the broadcast is held and the step waits for it. -/
theorem stageClaim_held (hroom : t.svc.mayPlace .normal = false) : t.stageClaim l j release inputs result
    = { t with
        lanes := t.lanes.set l { t.lane l with
          activity := .working j (.claim release inputs (some result)), held := some (ownMessage release inputs result) }
        svc := t.svc.hold .normal (.lane l) } := by
  have hsubmit : (t.setOp l j (.claim release inputs (some result))).submit l (ownMessage release inputs result)
      = { t with
          lanes := t.lanes.set l { t.lane l with
            activity := .working j (.claim release inputs (some result)), held := some (ownMessage release inputs result) }
          svc := t.svc.hold .normal (.lane l) } := by
    have hlanes : Bank.update (t.claimed l j release inputs result).lanes l
        (fun x => { x with held := some (ownMessage release inputs result) }) = t.lanes.set l { t.lane l with
          activity := .working j (.claim release inputs (some result)), held := some (ownMessage release inputs result) } := by
      have hlane := claimed_lane t l j release inputs result
      unfold Bank.update
      rw [show Vector.get (t.claimed l j release inputs result).lanes l = _ from hlane]
      exact lanes_set_set ..
    rw [setOp_only, ← hlanes]
    exact if_neg (by simp [ownMessage, ownerMessage, kindClass, hroom])
  have hmessage : ownerMessage inputs (if release then 255 else ownerByte (some 0)) noTag result = ownMessage release inputs result := rfl
  unfold State.stageClaim
  simp only [hmessage, hsubmit]
  refine if_pos ?_
  unfold State.isHeld State.lane
  simp only [Bank.set_get, if_true]
  rfl

end Stage

/-! ### A request (spec 04, R73, R76) -/

section Ask

variable {s t : State} {l : Fin 16} {w : Want}

/-- A producer held has no part in the pending request table. -/
theorem hold_requests (v : Service) (rs : List Request) (q : QueueClass) (h : Held) :
    Service.hold { v with requests := rs } q h = { v.hold q h with requests := rs } := by
  have hroom : Service.room { v with requests := rs } q = v.room q := by cases q <;> rfl
  unfold Service.hold
  rw [hroom]
  split
  · rfl
  · cases q <;> rfl

theorem enqueue_queue (v : Service) (m : Message) : (v.enqueue m).queue (kindClass m.kind) = v.queue (kindClass m.kind) ++ [m] := by
  unfold Service.enqueue
  split <;> rename_i h <;> rw [h] <;> rfl

theorem enqueue_requests (v : Service) (m : Message) : (v.enqueue m).requests = v.requests := by
  unfold Service.enqueue
  split <;> rfl

/-- A message placed is in the queue of its class and nowhere else. -/
theorem enqueue_only (v : Service) (m : Message) : v.enqueue m = { v with
    urgent := if kindClass m.kind = .urgent then (v.enqueue m).urgent else v.urgent
    normal := if kindClass m.kind = .normal then (v.enqueue m).normal else v.normal } := by
  unfold Service.enqueue
  split <;> rename_i h <;> simp [h]

/-- The state after a lane's request has its entry and its message waits for room. -/
def State.givenHeld (s : State) (l : Fin 16) (w : Want) : State :=
  { s with
    lanes := Bank.update s.lanes l fun x => { x with
      given := x.given + 1, want := none, held := some (s.requestMessage l 1 w.target w.kind w.body) }
    svc := { s.svc.hold (kindClass w.kind) (.lane l) with
      requests := s.svc.requests ++ [{
        lane := l, number := (s.lane l).given + 1, target := w.target, kind := w.kind, state := .queued }] } }

theorem give_held (h : s.svc.mayPlace (kindClass w.kind) = false) : s.give l w = s.givenHeld l w := by
  have hmay : ¬ (({ s.modLane l fun x => { x with given := (s.lane l).given + 1, want := none } with
      svc := { s.svc with requests := s.svc.requests ++ [{
        lane := l, number := (s.lane l).given + 1, target := w.target, kind := w.kind, state := .queued }] } } : State).svc.mayPlace
      (kindClass w.kind) = true) := by
    simp [mayPlace_requests, h]
  have hseq : BitVec.ofNat 8 ((s.lane l).given + 1) = (s.lane l).seq + BitVec.ofNat 8 1 := BitVec.ofNat_add ..
  refine (if_neg hmay).trans ?_
  unfold State.givenHeld
  rw [← hold_requests]
  unfold State.modLane State.requestMessage
  simp only [Bank.update_update, hseq]
  rfl

/-- A request that finds no free entry waits for one. -/
def State.wanting (s : State) (l : Fin 16) (w : Want) : State :=
  { s with lanes := Bank.update s.lanes l fun x => { x with want := some w }, svc := { s.svc with entryWait := s.svc.entryWait ++ [l] } }

theorem request_given (hfree : s.entryFree = true) (hroom : s.svc.mayPlace (kindClass w.kind) = true) : s.request l w = s.given l w :=
  (if_pos hfree).trans (give_queued hroom)

theorem request_held (hfree : s.entryFree = true) (hroom : s.svc.mayPlace (kindClass w.kind) = false) :
    s.request l w = s.givenHeld l w := (if_pos hfree).trans (give_held hroom)

theorem request_wanting (hfree : s.entryFree = false) : s.request l w = s.wanting l w := if_neg (by simp [hfree])

/-- A lane's context changed, and the service unit with it: what each lane then is. -/
theorem updated_lane (f : Lane → Lane) (k : Fin 16) (v : Service) :
    (State.lane { s with lanes := Bank.update s.lanes l f, svc := v } k) = if k = l then f (s.lane l) else s.lane k := by
  refine (Bank.update_get ..).trans ?_
  split
  · rename_i hk
    rw [hk]
    rfl
  · rfl

/-- Everything a request can do: its lane's context and the service unit. -/
theorem request_only : ∃ (f : Lane → Lane) (v : Service), s.request l w = { s with lanes := Bank.update s.lanes l f, svc := v }
    ∧ ∀ x : Lane, (f x).activity = x.activity := by
  cases hfree : s.entryFree with
  | false => exact ⟨_, _, request_wanting hfree, fun _ => rfl⟩
  | true =>
    cases hroom : s.svc.mayPlace (kindClass w.kind) with
    | true => exact ⟨_, _, request_given hfree hroom, fun _ => rfl⟩
    | false => exact ⟨_, _, request_held hfree hroom, fun _ => rfl⟩

/-- Any request of a lane, at a state that differs from the one before the step in the lane's block alone. -/
theorem request_asked (hothers : ∀ k : Fin 16, k ≠ l → t.lane k = s.lane k) (hgiven : (t.lane l).given = (s.lane l).given)
    (hsvc : t.svc = s.svc) (hcfg : t.cfg = s.cfg) : (t.request l w).asked s l (kindClass w.kind) w.target w.kind w.body := by
  have hentry : t.entryFree = s.entryFree := by
    unfold State.entryFree
    rw [hsvc]
  have hmessage : t.requestMessage l 1 w.target w.kind w.body = s.requestMessage l 1 w.target w.kind w.body := by
    unfold State.requestMessage Lane.seq
    rw [hgiven, hcfg]
  refine ⟨fun k hk => ?_, fun hfree => ?_, fun hfull => ?_⟩
  · obtain ⟨f, v, hrequest, -⟩ := request_only (s := t) (l := l) (w := w)
    rw [hrequest, updated_lane, if_neg hk, hothers k hk]
  · cases hroom : s.svc.mayPlace (kindClass w.kind) with
    | true =>
      have hrequest : t.request l w = t.given l w := request_given (by rw [hentry, hfree]) (by rw [hsvc, hroom])
      have hsvcGiven : (t.given l w).svc = Service.enqueue { t.svc with
          requests := t.svc.requests ++ [{
            lane := l, number := (t.lane l).given + 1, target := w.target, kind := w.kind, state := .queued }] }
          (t.requestMessage l 1 w.target w.kind w.body) := rfl
      rw [hrequest]
      refine ⟨?_, ?_, fun _ => ⟨?_, ?_⟩, fun h => (nomatch h)⟩
      · unfold State.given
        rw [updated_lane, if_pos rfl, hgiven]
      · rw [hsvcGiven, enqueue_requests, hsvc, hgiven]
      · rw [hsvcGiven, hsvc, ← hmessage]
        exact enqueue_queue _ _
      · rw [hsvcGiven, hsvc, enqueue_requests]
        exact enqueue_only _ _
    | false =>
      have hrequest : t.request l w = t.givenHeld l w := request_held (by rw [hentry, hfree]) (by rw [hsvc, hroom])
      rw [hrequest]
      refine ⟨?_, ?_, fun h => (nomatch h), fun _ => ⟨?_, ?_⟩⟩
      · unfold State.givenHeld
        rw [updated_lane, if_pos rfl, hgiven]
      · unfold State.givenHeld
        simp only [hgiven, hsvc]
      · unfold State.givenHeld
        rw [updated_lane, if_pos rfl, hmessage]
      · unfold State.givenHeld
        simp only [hgiven, hsvc]
  · have hrequest : t.request l w = t.wanting l w := request_wanting (by rw [hentry, hfull])
    rw [hrequest]
    refine ⟨?_, ?_, congrArg (fun v : Service => { v with entryWait := v.entryWait ++ [l] }) hsvc⟩
    · unfold State.wanting
      rw [updated_lane, if_pos rfl, hgiven]
    · unfold State.wanting
      rw [updated_lane, if_pos rfl]

end Ask

/-! ### The two steps (R103) -/

section Steps

theorem waits_iff {s : State} {l : Fin 16} : s.waits l = false ↔ (s.lane l).held = none ∧ (s.lane l).want = none := by
  simp [State.waits]

variable {s : State} {l : Fin 16} {a kind : Nat} {j : Join} {release : Bool}

/-- CLAIM INPUTS and RELEASE INPUTS, each with its kind. -/
theorem leaves_ownership (hk : kind = 7 ∧ release = false ∨ kind = 8 ∧ release = true) (h : s.hasStep l kind a = true) :
    leaves (if release then .releaseInputs l else .claimInputs l) s
      (if release then s.beginRelease l (s.stepAt a) else s.beginClaim l (s.stepAt a)) := by
  rcases hk with ⟨rfl, rfl⟩ | ⟨rfl, rfl⟩
  · exact leaves_of rfl (hasStep_running h) (startStep_ready (fun j t => t.beginClaim l j) h)
  · exact leaves_of rfl (hasStep_running h) (startStep_ready (fun j t => t.beginRelease l j) h)

/-- The table and the result of a stage's own step. -/
def State.ownTable (s : State) (release : Bool) (inputs : BitVec 64) : State :=
  if release then s.releaseTable 0 inputs else s.claimTable 0 inputs

def State.ownResult (s : State) (release : Bool) (inputs : BitVec 64) : BitVec 64 :=
  if release then s.released 0 inputs else s.granted 0 inputs

theorem ownResult_getLsbD (s : State) (release : Bool) (inputs : BitVec 64) (n : Fin 64) : (s.ownResult release inputs).getLsbD n.val
    = (inputs.getLsbD n.val && (decide ((s.gain.table.get n).owner = some 0)
      || !release && (decide ((s.gain.table.get n).owner = none) || (s.gain.table.get n).orphaned))) := by
  cases release with
  | true => exact (released_getLsbD s 0 inputs n).trans (by simp)
  | false => exact (granted_getLsbD s 0 inputs n).trans (by simp [Bool.or_assoc, Bool.or_left_comm])

theorem ownTable_get (s : State) (release : Bool) (inputs : BitVec 64) (n : Fin 64) : (s.ownTable release inputs).gain.table.get n
    = if (s.ownResult release inputs).getLsbD n.val = true then
        { s.gain.table.get n with owner := if release then none else some 0, orphaned := false } else s.gain.table.get n := by
  cases release with
  | true => exact releaseTable_get s 0 inputs n
  | false => exact claimTable_get s 0 inputs n

theorem ownTable_only (s : State) (release : Bool) (inputs : BitVec 64) : s.ownTable release inputs
    = { s with gain := { s.gain with table := (s.ownTable release inputs).gain.table } } := by
  cases release <;> rfl

/-- What a step does at the stage. -/
theorem begin_stage (hid : s.cfg.id = 0) : (if release then s.beginRelease l j else s.beginClaim l j)
    = if release = false ∧ inputSet j.payload = 0 then
        ((s.ownTable release (inputSet j.payload)).stageClaim l j release (inputSet j.payload)
          (s.ownResult release (inputSet j.payload))).startGainRefresh
      else (s.ownTable release (inputSet j.payload)).stageClaim l j release (inputSet j.payload)
        (s.ownResult release (inputSet j.payload)) := by
  have hstage : s.isStage = true := (stage_iff s).mpr hid
  cases release with
  | true =>
    rw [if_pos rfl, if_neg (fun h => Bool.noConfusion h.1)]
    exact if_pos hstage
  | false =>
    rw [if_neg Bool.false_ne_true]
    have hbegin : s.beginClaim l j = if inputSet j.payload = 0 then
          ((s.ownTable false (inputSet j.payload)).stageClaim l j false (inputSet j.payload)
            (s.ownResult false (inputSet j.payload))).startGainRefresh
        else (s.ownTable false (inputSet j.payload)).stageClaim l j false (inputSet j.payload)
          (s.ownResult false (inputSet j.payload)) := if_pos hstage
    rw [hbegin]
    simp only [true_and]

/-- What it does at a desk. -/
theorem begin_desk (hid : s.cfg.id ≠ 0) : (if release then s.beginRelease l j else s.beginClaim l j)
    = s.remoteClaim l j release (inputSet j.payload) := by
  have hdesk : ¬ s.isStage = true := by simp [not_stage hid]
  cases release with
  | true => exact if_neg hdesk
  | false => exact if_neg hdesk

/-- A lane's step at a desk, at its block with no result yet. -/
def State.claiming (s : State) (l : Fin 16) (j : Join) (release : Bool) : State :=
  s.withOp l j (.claim release (inputSet j.payload) none)

theorem claiming_lane (s : State) (l : Fin 16) (j : Join) (release : Bool) : (s.claiming l j release).lane l
    = { s.lane l with activity := .working j (.claim release (inputSet j.payload) none) } := withOp_self ..

theorem claiming_other {k : Fin 16} (hk : k ≠ l) : (s.claiming l j release).lane k = s.lane k := withOp_other hk

theorem setOp_claiming (s : State) (l : Fin 16) (j : Join) (release : Bool) :
    s.setOp l j (.claim release (inputSet j.payload) none) = s.claiming l j release := setOp_eq ..

theorem remoteClaim_cut (hcut : s.reachable 0 = false) :
    s.remoteClaim l j release (inputSet j.payload) = (s.claiming l j release).finish l j .unreachable 0 0 := by
  have hcut' : ¬ (s.claiming l j release).reachable 0 = true := Bool.eq_false_iff.mp hcut
  unfold State.remoteClaim
  rw [setOp_claiming]
  refine (if_neg hcut').trans (endStep_working (op := .claim release (inputSet j.payload) none) ?_ ..)
  rw [claiming_lane]

theorem remoteClaim_asks (hreach : s.reachable 0 = true) : s.remoteClaim l j release (inputSet j.payload)
    = (s.claiming l j release).request l
        { target := 0, kind := if release then 5 else 4, body := leBytes 8 (inputSet j.payload).toNat } := by
  unfold State.remoteClaim
  rw [setOp_claiming]
  exact if_pos hreach

/-- The bytes of the input set are those of the payload (R103). -/
theorem inputSet_bytes {b : List Byte} (h : 8 ≤ b.length) : leBytes 8 (inputSet b).toNat = b.take 8 := by
  have hlen : (b.take 8).length = 8 := by simp [h]
  have hvalue : (inputSet b).toNat = leNat (b.take 8) := by
    unfold inputSet numAt
    rw [List.drop_zero, BitVec.toNat_ofNat, Nat.mod_eq_of_lt]
    have hlt := leNat_lt (b.take 8)
    rwa [hlen] at hlt
  refine List.ext_getElem (by rw [leBytes_length, hlen]) fun i hi hi' => ?_
  have hbyte := leBytes_leNat_getD (b.take 8) (n := 8) (i := i) (by omega)
  rw [← hvalue, byteAt, List.getD_eq_getElem _ _ hi, List.getD_eq_getElem _ _ hi'] at hbyte
  exact hbyte

/-- The state in which a stage's step with room is to end. -/
def State.ownTold (s : State) (l : Fin 16) (j : Join) (release : Bool) : State :=
  (s.ownTable release (inputSet j.payload)).claimTold l j release (inputSet j.payload) (s.ownResult release (inputSet j.payload))

theorem ownTold_only (s : State) (l : Fin 16) (j : Join) (release : Bool) : s.ownTold l j release = { s with
    lanes := (s.ownTold l j release).lanes, ram := (s.ownTold l j release).ram
    gain := { s.gain with table := (s.ownTable release (inputSet j.payload)).gain.table }
    svc := s.svc.enqueue (ownMessage release (inputSet j.payload) (s.ownResult release (inputSet j.payload))) } := by
  obtain ⟨ram, hram⟩ := claimTold_only (s.ownTable release (inputSet j.payload)) l j release (inputSet j.payload)
    (s.ownResult release (inputSet j.payload))
  unfold State.ownTold
  rw [hram]
  unfold State.claimSent State.claimed State.withOp
  rw [ownTable_only]

theorem ownTold_table (s : State) (l : Fin 16) (j : Join) (release : Bool) :
    (s.ownTold l j release).gain.table = (s.ownTable release (inputSet j.payload)).gain.table := by
  obtain ⟨ram, hram⟩ := claimTold_only (s.ownTable release (inputSet j.payload)) l j release (inputSet j.payload)
    (s.ownResult release (inputSet j.payload))
  unfold State.ownTold
  rw [hram]
  rfl

theorem ownTable_lane (s : State) (release : Bool) (inputs : BitVec 64) (k : Fin 16) : (s.ownTable release inputs).lane k = s.lane k := by
  rw [ownTable_only]
  rfl

theorem ownTold_lane (s : State) (l : Fin 16) (j : Join) (release : Bool) :
    ((s.ownTold l j release).lane l).done = (s.lane l).done ∧ ∀ k : Fin 16, k ≠ l → (s.ownTold l j release).lane k = s.lane k := by
  unfold State.ownTold
  refine ⟨?_, fun k hk => ?_⟩
  · rw [claimTold_lanes, claimed_lane, ownTable_lane]
  · rw [claimTold_lanes, claimed_other hk, ownTable_lane]

/-- The two steps, each with the kind of its request (R66, R103). -/
theorem ownership_kinds {request : Nat}
    (hkind : kind = 7 ∧ request = 4 ∧ release = false ∨ kind = 8 ∧ request = 5 ∧ release = true) :
    (kind = 7 ∧ release = false ∨ kind = 8 ∧ release = true) ∧ (if release then 5 else 4) = request
    ∧ kindClass request = .normal := by
  rcases hkind with ⟨rfl, rfl, rfl⟩ | ⟨rfl, rfl, rfl⟩
  · exact ⟨.inl ⟨rfl, rfl⟩, rfl, rfl⟩
  · exact ⟨.inr ⟨rfl, rfl⟩, rfl, rfl⟩

/-- The owners a stage's own step leaves. -/
theorem ownTold_owner (n : Fin 64) : ((s.ownTold l j release).gain.table.get n).owner
    = if (s.ownResult release (inputSet j.payload)).getLsbD n.val = true then (if release then none else some 0)
      else (s.gain.table.get n).owner := by
  rw [ownTold_table]
  exact (congrArg InputEntry.owner (ownTable_get ..)).trans (apply_ite InputEntry.owner ..)

variable (hk : kind = 7 ∧ release = false ∨ kind = 8 ∧ release = true) (h : s.hasStep l kind a = true)

include hk h

theorem ownTold_bytes {i : Nat} (hi : i < 8) : readByte (s.ownTold l (s.stepAt a) release).ram ((s.header a).payload + 8 + i)
    = (s.ownResult release (inputSet (s.stepAt a).payload)).extractLsb' (8 * i) 8 := by
  have hlength : lengthNeeded kind = 16 := by rcases hk with ⟨rfl, -⟩ | ⟨rfl, -⟩ <;> rfl
  unfold State.ownTold State.claimTold
  exact storeJoined_result h hlength _ hi

/-- At the stage, with room (R103). -/
theorem ownership_told (hid : s.cfg.id = 0) (hroom : s.svc.mayPlace .normal = true) (hwaits : s.waits l = false) :
    leaves (if release then .releaseInputs l else .claimInputs l) s
      (if release = false ∧ inputSet (s.stepAt a).payload = 0 then
        ((s.ownTold l (s.stepAt a) release).finish l (s.stepAt a)
          (claimStatus release (inputSet (s.stepAt a).payload) (s.ownResult release (inputSet (s.stepAt a).payload))) 0
          (BitVec.ofNat 32 (popCount (s.ownResult release (inputSet (s.stepAt a).payload))))).startGainRefresh
      else (s.ownTold l (s.stepAt a) release).finish l (s.stepAt a)
        (claimStatus release (inputSet (s.stepAt a).payload) (s.ownResult release (inputSet (s.stepAt a).payload))) 0
        (BitVec.ofNat 32 (popCount (s.ownResult release (inputSet (s.stepAt a).payload))))) := by
  have hleaves := leaves_ownership hk h
  have hroom' : (s.ownTable release (inputSet (s.stepAt a).payload)).svc.mayPlace .normal = true := by
    rw [ownTable_only]
    exact hroom
  rw [begin_stage hid, stageClaim_room hroom' (by rw [ownTable_lane]; exact (waits_iff.mp hwaits).1)] at hleaves
  exact hleaves

theorem ownership_ends (hid : s.cfg.id = 0) (hroom : s.svc.mayPlace .normal = true) (hwaits : s.waits l = false)
    (hset : ¬(release = false ∧ inputSet (s.stepAt a).payload = 0)) :
    leaves (if release then .releaseInputs l else .claimInputs l) s ((s.ownTold l (s.stepAt a) release).finish l (s.stepAt a)
      (if s.ownResult release (inputSet (s.stepAt a).payload) = inputSet (s.stepAt a).payload then .ok
        else if release = false ∧ s.ownResult release (inputSet (s.stepAt a).payload) = 0 then .held else .partly) 0
      (BitVec.ofNat 32 (popCount (s.ownResult release (inputSet (s.stepAt a).payload))))) := by
  have htold := ownership_told hk h hid hroom hwaits
  have hresult := ownResult_getLsbD s release (inputSet (s.stepAt a).payload)
  rw [if_neg hset, claimStatus_eq fun n hn => (Bool.and_eq_true_iff.mp ((hresult n).symm.trans hn)).1] at htold
  exact htold

/-- At a desk cut off from the stage (R17). -/
theorem ownership_cut (hid : s.cfg.id ≠ 0) (hcut : s.reachable 0 = false) :
    exec (if release then .releaseInputs l else .claimInputs l) s
      = .next ((s.claiming l (s.stepAt a) release).finish l (s.stepAt a) .unreachable 0 0) := by
  have hleaves := leaves_ownership hk h
  rw [begin_desk hid, remoteClaim_cut hcut] at hleaves
  exact exec_of_leaves hleaves fun v => (viewTrigger_worksOn (worksOn_finish ..) v).trans (by cases v <;> rfl)

/-- At a desk that reaches it (R103). -/
theorem ownership_asks (hid : s.cfg.id ≠ 0) (hreach : s.reachable 0 = true) :
    exec (if release then .releaseInputs l else .claimInputs l) s = .next ((s.claiming l (s.stepAt a) release).request l
      { target := 0, kind := if release then 5 else 4, body := (s.stepAt a).payload.take 8 }) := by
  have hlength : 16 ≤ (s.stepAt a).payload.length := by
    have hneed := hasStep_length h
    rcases hk with ⟨rfl, -⟩ | ⟨rfl, -⟩ <;> exact hneed
  have hleaves := leaves_ownership hk h
  rw [begin_desk hid, remoteClaim_asks hreach, inputSet_bytes (by omega)] at hleaves
  refine exec_of_leaves hleaves fun v => ?_
  obtain ⟨f, x, hrequest, -⟩ := request_only (s := s.claiming l (s.stepAt a) release) (l := l)
    (w := { target := 0, kind := if release then 5 else 4, body := (s.stepAt a).payload.take 8 })
  rw [hrequest]
  cases v <;> rfl

end Steps

section Empty

variable (s : State)

theorem ownResult_zero : s.ownResult false 0 = 0 := granted_zero s 0

/-- An empty claim leaves the table. -/
theorem ownTable_zero : (s.ownTable false 0).gain.table = s.gain.table := Bank.ext_get fun n => by
  rw [ownTable_get, ownResult_zero, if_neg (by simp)]

end Empty

/-- A normal room list with a lane held in it. -/
theorem hold_normal (v : Service) (l : Fin 16) : v.hold .normal (.lane l)
    = { v with normalRoom := if Held.lane l ∈ v.normalRoom then v.normalRoom else v.normalRoom ++ [.lane l] } := by
  by_cases hin : Held.lane l ∈ v.normalRoom
  · rw [if_pos hin]
    exact if_pos hin
  · rw [if_neg hin]
    exact if_neg hin

/-- Settles O36: at the stage by what acting on the table, telling it and waiting to tell it leave; at a desk by the request asked. -/
theorem ownershipStepsAct : Obligations.OwnershipStepsAct := by
  unfold Obligations.OwnershipStepsAct
  refine ⟨fun s l a => ⟨fun h hid hroom hwaits hset => ?_, fun h hid hroom hwaits => ?_, fun h hid hcut => ?_⟩,
    fun s l a h hid hcut => ?_, fun s l a kind request release hkind h hid hreach hfree hroom hwaits => ?_,
    fun s l a h hid hroom hwaits hset => ?_, fun s l a kind release inputs hkind h hid hroom hwaits hinputs => ?_,
    fun s l a kind request release hkind h hid hreach hwaits => ?_⟩
  · have hk : 7 = 7 ∧ false = false ∨ 7 = 8 ∧ false = true := .inl ⟨rfl, rfl⟩
    have hends := ownership_ends hk h hid hroom hwaits fun hz => hset hz.2
    have hresult := ownResult_getLsbD s false (inputSet (s.stepAt a).payload)
    simp only [true_and] at hends
    obtain ⟨hdone, hothers⟩ := ownTold_lane s l (s.stepAt a) false
    refine ⟨s.ownTold l (s.stepAt a) false, s.ownResult false (inputSet (s.stepAt a).payload), ?_, ?_, hdone, hothers,
      fun i hi => ownTold_bytes hk h hi, fun n => ⟨?_, ?_⟩⟩
    · exact hends
    · rw [ownTold_table]
      exact ownTold_only ..
    · rw [hresult]
      simp [Bool.or_assoc, Bool.or_left_comm]
    · exact ownTold_owner n
  · have hk : 8 = 7 ∧ true = false ∨ 8 = 8 ∧ true = true := .inr ⟨rfl, rfl⟩
    have hends := ownership_ends hk h hid hroom hwaits fun hz => Bool.noConfusion hz.1
    have hresult := ownResult_getLsbD s true (inputSet (s.stepAt a).payload)
    simp only [Bool.true_eq_false, false_and, if_false] at hends
    obtain ⟨hdone, hothers⟩ := ownTold_lane s l (s.stepAt a) true
    refine ⟨s.ownTold l (s.stepAt a) true, s.ownResult true (inputSet (s.stepAt a).payload), ?_, ?_, hdone, hothers,
      fun i hi => ownTold_bytes hk h hi, fun n => ⟨?_, ?_⟩⟩
    · exact hends
    · rw [ownTold_table]
      exact ownTold_only ..
    · rw [hresult]
      simp
    · exact ownTold_owner n
  · exact ⟨_, ownership_cut (.inl ⟨rfl, rfl⟩) h hid hcut, rfl, by rw [claiming_lane]⟩
  · exact ⟨_, ownership_cut (.inr ⟨rfl, rfl⟩) h hid hcut, rfl, by rw [claiming_lane], fun k hk => claiming_other hk⟩
  · obtain ⟨hk, hrequestKind, hclass⟩ := ownership_kinds hkind
    have hexec := ownership_asks hk h hid hreach
    rw [hrequestKind, request_given (s := s.claiming l (s.stepAt a) release)
      (w := { target := 0, kind := request, body := (s.stepAt a).payload.take 8 }) hfree (by rw [hclass]; exact hroom)] at hexec
    refine ⟨_, hexec, rfl, ?_, ?_, fun k hk => ?_⟩
    · unfold State.given
      rw [claiming_lane]
      unfold Service.enqueue
      simp only [hclass]
      rfl
    · unfold State.given
      rw [updated_lane, if_pos rfl, claiming_lane]
      simp only [(waits_iff.mp hwaits).2]
    · unfold State.given
      rw [updated_lane, if_neg hk, claiming_other hk]
  · have hk : 7 = 7 ∧ false = false ∨ 7 = 8 ∧ false = true := .inl ⟨rfl, rfl⟩
    have htold := ownership_told hk h hid hroom hwaits
    have hbytes := fun i (hi : i < 8) => ownTold_bytes hk h hi
    have honly := ownTold_only s l (s.stepAt a) false
    have hempty : false = false ∧ (0 : BitVec 64) = 0 := ⟨rfl, rfl⟩
    have hok : claimStatus false 0 0 = .ok := rfl
    have hcount : BitVec.ofNat 32 (popCount (0 : BitVec 64)) = 0 := by decide
    rw [hset, ownResult_zero, if_pos hempty, hok, hcount] at htold
    rw [hset, ownResult_zero] at hbytes
    rw [hset, ownResult_zero, ownTable_zero] at honly
    obtain ⟨hdone, hothers⟩ := ownTold_lane s l (s.stepAt a) false
    exact ⟨s.ownTold l (s.stepAt a) false, htold, honly, hdone, hothers, fun i hi => (hbytes i hi).trans (by simp)⟩
  · subst hinputs
    have hheld := stageClaim_held (t := s.ownTable release (inputSet (s.stepAt a).payload)) (l := l) (j := s.stepAt a) (release := release)
      (inputs := inputSet (s.stepAt a).payload) (result := s.ownResult release (inputSet (s.stepAt a).payload))
      (by rw [ownTable_only]; exact hroom)
    have hleaves := leaves_ownership hkind h
    rw [begin_stage hid, hheld] at hleaves
    refine ⟨_, s.ownResult release (inputSet (s.stepAt a).payload), hleaves, ?_, ?_, fun k hk => ?_, fun n =>
      ⟨ownResult_getLsbD s release _ n, ownTable_get s release _ n⟩⟩
    · rw [← hold_normal]
      rw [ownTable_only]
    · exact ((Bank.set_get ..).trans (if_pos rfl)).trans (by rw [ownTable_lane]; rfl)
    · exact ((Bank.set_get ..).trans (if_neg hk)).trans (ownTable_lane ..)
  · obtain ⟨hk, hrequestKind, hclass⟩ := ownership_kinds hkind
    have hexec := ownership_asks hk h hid hreach
    rw [hrequestKind] at hexec
    have hasked := request_asked (s := s) (t := s.claiming l (s.stepAt a) release) (l := l)
      (w := { target := 0, kind := request, body := (s.stepAt a).payload.take 8 }) (fun k hk => claiming_other hk)
      (by rw [claiming_lane]) rfl rfl
    rw [hclass] at hasked
    obtain ⟨f, v, hrequest, hf⟩ := request_only (s := s.claiming l (s.stepAt a) release) (l := l)
      (w := { target := 0, kind := request, body := (s.stepAt a).payload.take 8 })
    refine ⟨_, hexec, ?_, hasked, ?_⟩
    · rw [hrequest]
      rfl
    · rw [hrequest, updated_lane, if_pos rfl, hf, claiming_lane]

end Sys2Proof.Machine

/-!
SET REFERENCE (O37; spec 05, R98, R104): the checks of its entries, what each queues, and the end of the step.
-/

namespace Sys2Proof.Machine

set_option Elab.async false

/-! ### The entries (R104) -/

section Entries

theorem refMode_good {b v : Byte} {mode : RefMode} (h : b = 0 ∧ mode = .trackNow
    ∨ b = 1 ∧ mode = .fixed (some (max (-20) (min v.toInt 60))) ∨ b = 2 ∧ mode = .fixed none) : refMode b v = some mode := by
  rcases h with ⟨rfl, rfl⟩ | ⟨rfl, rfl⟩ | ⟨rfl, rfl⟩ <;> rfl

theorem refMode_isNone (b v : Byte) : (refMode b v).isNone = decide (2 < b.toNat) := by
  have hne : ∀ c : Byte, b ≠ c → b.toNat ≠ c.toNat := fun c hc he => hc (BitVec.eq_of_toNat_eq he)
  unfold refMode
  split
  · rename_i h; rw [h]; rfl
  · rename_i h0
    split
    · rename_i h; rw [h]; rfl
    · rename_i h1
      split
      · rename_i h; rw [h]; rfl
      · rename_i h2
        have h0' : b.toNat ≠ 0 := hne 0 h0
        have h1' : b.toNat ≠ 1 := hne 1 h1
        have h2' : b.toNat ≠ 2 := hne 2 h2
        exact (decide_eq_true (by omega)).symm

theorem index_isNone (n k : Nat) : (index? n k).isNone = decide (n ≤ k) := by
  rw [Bool.eq_iff_iff, Option.isNone_iff_eq_none, index_none, decide_eq_true_eq]

/-- The checks of the inputs and of the modes. -/
theorem asked_inputs (bs : List (List Byte)) :
    ((bs.map referenceAsked).any fun e => e.1.isNone) = bs.any fun b => decide (63 < (byteAt b 0).toNat) := by
  rw [List.any_map]
  exact congrArg bs.any (funext fun b => index_isNone 64 _)

theorem asked_modes (bs : List (List Byte)) :
    ((bs.map referenceAsked).any fun e => e.2.isNone) = bs.any fun b => decide (2 < (byteAt b 1).toNat) := by
  rw [List.any_map]
  exact congrArg bs.any (funext fun b => refMode_isNone _ _)

/-- An entry of a checked payload, and its bytes (R104). -/
def asksReference (b : List Byte) (n : Fin 64) (mode : RefMode) : Prop :=
  (byteAt b 0).toNat = n.val ∧ (byteAt b 1 = 0 ∧ mode = .trackNow
    ∨ byteAt b 1 = 1 ∧ mode = .fixed (some (max (-20) (min (byteAt b 2).toInt 60)))
    ∨ byteAt b 1 = 2 ∧ mode = .fixed none)

theorem referenceAsked_good {b : List Byte} {n : Fin 64} {mode : RefMode} (h : asksReference b n mode) :
    referenceAsked b = (some n, some mode) := by
  unfold referenceAsked
  rw [index_of_val h.1, refMode_good h.2]

theorem map_referenceAsked {bs : List (List Byte)} {todo : List (Fin 64 × RefMode)} (hlen : bs.length = todo.length)
    (h : ∀ (i : Nat) (n : Fin 64) (mode : RefMode) (b : List Byte), todo[i]? = some (n, mode) → bs[i]? = some b →
      asksReference b n mode) :
    bs.map referenceAsked = todo.map fun e => (some e.1, some e.2) := by
  refine List.ext_getElem (by simp [hlen]) fun i hi hi' => ?_
  rw [List.length_map] at hi hi'
  rw [List.getElem_map, List.getElem_map]
  exact referenceAsked_good (h i _ _ _ (List.getElem?_eq_getElem hi') (List.getElem?_eq_getElem hi))

theorem goodReferences_map (todo : List (Fin 64 × RefMode)) : goodReferences (todo.map fun e => (some e.1, some e.2)) = todo := by
  unfold goodReferences
  rw [List.filterMap_map]
  exact List.filterMap_some

end Entries

/-! ### References queued one after the other (R98, R104) -/

section Queue

variable {s t : State} {l : Fin 16} {j : Join}

/-- The switch frame of a reference queued now (R98). -/
def State.referenceFrame (s : State) : Word := s.clock.frame + BitVec.ofNat 32 (s.merge.delay + 32)

/-- A REFERENCE to all (R66, R98). -/
def referenceMessage (n : Fin 64) (v : Option Int) (f : Word) : Message :=
  { kind := 7, dest := 15, body := [BitVec.ofNat 8 n.val, refByte v] ++ leBytes 4 f.toNat }

/-- References queued in order, each with its value. -/
def State.queued (t : State) (v : Fin 64 × RefMode → Option Int) (es : List (Fin 64 × RefMode)) : State :=
  es.foldl (fun st e => st.sendReference e.1 (v e)) t

theorem sendReference_eq (t : State) (n : Fin 64) (v : Option Int) : t.sendReference n v
    = { t.modTrack t.cfg.id n (fun x => { x with scheduled := some { value := v, switch := t.referenceFrame, deferred := false } }) with
        svc := { t.svc with urgent := t.svc.urgent ++ [referenceMessage n v t.referenceFrame] } } := rfl

variable (v : Fin 64 × RefMode → Option Int)

theorem queued_snoc (t : State) (es : List (Fin 64 × RefMode)) (e : Fin 64 × RefMode) :
    t.queued v (es ++ [e]) = (t.queued v es).sendReference e.1 (v e) := List.foldl_concat ..

/-- Everything references queued can do. -/
theorem queued_only (t : State) (es : List (Fin 64 × RefMode)) : t.queued v es = { t with
    gain := { t.gain with tracking := (t.queued v es).gain.tracking }
    svc := { t.svc with urgent := t.svc.urgent ++ es.map fun e => referenceMessage e.1 (v e) t.referenceFrame } } := by
  induction es using List.reverseRecOn with
  | nil =>
    rw [List.map_nil, List.append_nil]
    rfl
  | append_singleton es e ih =>
    have hframe : (t.queued v es).referenceFrame = t.referenceFrame := by
      unfold State.referenceFrame
      rw [ih]
    rw [queued_snoc, sendReference_eq, hframe, List.map_append, ← List.append_assoc]
    rw [ih]
    rfl

/-- The same, with the tables named. -/
theorem queued_tracking (t : State) (es : List (Fin 64 × RefMode)) : ∃ tracking, t.queued v es = { t with
    gain := { t.gain with tracking := tracking }
    svc := { t.svc with urgent := t.svc.urgent ++ es.map fun e => referenceMessage e.1 (v e) t.referenceFrame } } :=
  ⟨_, queued_only v t es⟩

/-- The own table takes for an input the last reference queued for it; the other entries stand. -/
theorem queued_track (t : State) (es : List (Fin 64 × RefMode)) (o : Fin 4) (k : Fin 64) :
    ((∀ e : Fin 64 × RefMode, o = t.cfg.id → es.reverse.find? (fun x => decide (x.1 = k)) = some e → (t.queued v es).track o k
      = { t.track o k with scheduled := some { value := v e, switch := t.referenceFrame, deferred := false } })
    ∧ (o ≠ t.cfg.id ∨ (∀ e ∈ es, e.1 ≠ k) → (t.queued v es).track o k = t.track o k)) := by
  induction es using List.reverseRecOn with
  | nil => exact ⟨fun e _ h => (nomatch h), fun _ => rfl⟩
  | append_singleton es x ih =>
    have hid : (t.queued v es).cfg.id = t.cfg.id := by rw [queued_only]
    have hframe : (t.queued v es).referenceFrame = t.referenceFrame := by
      unfold State.referenceFrame
      rw [queued_only]
    have hstep : (t.queued v (es ++ [x])).track o k = if o = t.cfg.id ∧ k = x.1 then
        { (t.queued v es).track o k with scheduled := some { value := v x, switch := t.referenceFrame, deferred := false } }
        else (t.queued v es).track o k := by
      rw [queued_snoc, sendReference_eq, hframe, ← hid]
      exact modTrack_track ..
    rw [hstep]
    refine ⟨fun e ho hfind => ?_, fun hnot => ?_⟩
    · rw [List.reverse_append, List.reverse_singleton, List.singleton_append, List.find?_cons] at hfind
      by_cases hx : x.1 = k
      · rw [decide_eq_true hx] at hfind
        obtain rfl : x = e := Option.some.inj hfind
        rw [if_pos ⟨ho, hx.symm⟩]
        cases hearlier : es.reverse.find? (fun y => decide (y.1 = k)) with
        | none =>
          have hnone : ∀ y ∈ es, y.1 ≠ k := fun y hy hk => by
            have hmiss := List.find?_eq_none.mp hearlier y (List.mem_reverse.mpr hy)
            exact hmiss (decide_eq_true hk)
          rw [ih.2 (.inr hnone)]
        | some y => rw [ih.1 y ho hearlier]
      · rw [decide_eq_false hx] at hfind
        rw [if_neg fun h => hx h.2.symm]
        exact ih.1 e ho hfind
    · rw [if_neg fun h => hnot.elim (fun hne => hne h.1) fun hall => hall x (by simp) h.2.symm]
      exact ih.2 (hnot.imp_right fun hall y hy => hall y (List.mem_append_left _ hy))

/-! ### The step's list -/

/-- The value a reference is queued with does not depend on the references queued (R104). -/
theorem fixReference_queued (t : State) (es : List (Fin 64 × RefMode)) (n : Fin 64) (m : RefMode) :
    (t.queued v es).fixReference n m = t.fixReference n m := by
  rw [queued_only]
  cases m <;> rfl

theorem sendHeadReference_withOp (t : State) (l : Fin 16) (j : Join) (n : Fin 64) (m : RefMode) (rest : List (Fin 64 × RefMode))
    (count : Nat) (frames : List Word) : (t.withOp l j (.setReference ((n, m) :: rest) count frames)).sendHeadReference l
      = (t.sendReference n (t.fixReference n m)).withOp l j (.setReference rest count (frames ++ [t.referenceFrame])) := by
  have hfix : (t.withOp l j (.setReference ((n, m) :: rest) count frames)).fixReference n m = t.fixReference n m := by cases m <;> rfl
  unfold State.sendHeadReference
  simp only [op_working (withOp_working ..), putOp_withOp, hfix]
  rfl

/-- The references with room are queued, one after the other. -/
theorem sendReferences_room {t : State} {placed rest : List (Fin 64 × RefMode)} {count : Nat} {frames : List Word} (fuel : Nat)
    (hv : ∀ e : Fin 64 × RefMode, t.fixReference e.1 e.2 = v e)
    (hroom : placed ≠ [] → t.svc.urgentRoom = [] ∧ t.svc.urgent.length + placed.length ≤ 16) :
    State.sendReferences l (placed.length + fuel) (t.withOp l j (.setReference (placed ++ rest) count frames))
      = State.sendReferences l fuel ((t.queued v placed).withOp l j (.setReference rest count
          (frames ++ List.replicate placed.length t.referenceFrame))) := by
  induction placed generalizing t frames with
  | nil =>
    rw [List.length_nil, Nat.zero_add, List.replicate_zero, List.append_nil]
    rfl
  | cons e placed ih =>
    obtain ⟨hwaiting, hsize⟩ := hroom (List.cons_ne_nil _ _)
    rw [List.length_cons] at hsize
    have hplace : (t.withOp l j (.setReference ((e.1, e.2) :: (placed ++ rest)) count frames)).svc.mayPlace .urgent = true := by
      have hlt : t.svc.urgent.length < 16 := by omega
      show (decide (t.svc.urgent.length < 16) && t.svc.urgentRoom.isEmpty) = true
      rw [decide_eq_true hlt, hwaiting]
      rfl
    have hnext := ih (t := t.sendReference e.1 (v e)) (frames := frames ++ [t.referenceFrame])
      (fun y => (fixReference_queued v t [e] y.1 y.2).trans (hv y)) fun _ => ⟨hwaiting, by
        rw [sendReference_eq]
        show (t.svc.urgent ++ [_]).length + _ ≤ 16
        rw [List.length_append, List.length_singleton]
        omega⟩
    have hframes : frames ++ [t.referenceFrame] ++ List.replicate placed.length t.referenceFrame
        = frames ++ List.replicate (placed.length + 1) t.referenceFrame := by
      rw [List.append_assoc, List.replicate_succ]
      rfl
    have hframe : (t.sendReference e.1 (v e)).referenceFrame = t.referenceFrame := rfl
    rw [hframe, hframes] at hnext
    have hsucc : (e :: placed).length + fuel = placed.length + fuel + 1 := by rw [List.length_cons]; omega
    rw [hsucc, State.sendReferences]
    have hhead : (t.withOp l j (.setReference (e :: (placed ++ rest)) count frames)).sendHeadReference l
        = (t.sendReference e.1 (v e)).withOp l j (.setReference (placed ++ rest) count (frames ++ [t.referenceFrame])) := by
      rw [← hv e]
      exact sendHeadReference_withOp ..
    simp only [List.cons_append, op_working (withOp_working ..), hplace, if_true]
    rw [hhead]
    exact hnext

/-- The next one, without room, is fixed and waits with those behind it. -/
theorem sendReferences_held {t : State} {n : Fin 64} {m : RefMode} {rest : List (Fin 64 × RefMode)} {count : Nat} {frames : List Word}
    (fuel : Nat) (hroom : t.svc.mayPlace .urgent = false) :
    State.sendReferences l (fuel + 1) (t.withOp l j (.setReference ((n, m) :: rest) count frames))
      = { t.withOp l j (.setReference ((n, .fixed (t.fixReference n m)) :: rest) count frames) with
          svc := t.svc.hold .urgent (.lane l) } := by
  have hfix : (t.withOp l j (.setReference ((n, m) :: rest) count frames)).fixReference n m = t.fixReference n m := by cases m <;> rfl
  have hfull : (t.withOp l j (.setReference ((n, m) :: rest) count frames)).svc.mayPlace .urgent = false := hroom
  rw [State.sendReferences]
  simp only [op_working (withOp_working ..), hfull, if_false, Bool.false_eq_true, hfix, putOp_withOp]
  rfl

/-- With none left the step waits for its frames. -/
theorem sendReferences_done (t : State) (l : Fin 16) (j : Join) (count : Nat) (frames : List Word) (fuel : Nat) :
    State.sendReferences l (fuel + 1) (t.withOp l j (.setReference [] count frames)) = t.withOp l j (.setReference [] count frames) := by
  rw [State.sendReferences]
  simp only [op_working (withOp_working ..)]

end Queue

/-! ### The step (R104) -/

section Step

variable {s : State} {l : Fin 16} {a : Nat}

theorem leaves_setReference {u : State} (h : s.hasStep l 9 a = true) (hu : s.beginReferences l (s.stepAt a) = u) :
    leaves (.setReference l) s u :=
  leaves_of rfl (hasStep_running h) ((startStep_ready (fun j t => t.beginReferences l j) h).trans hu)

/-- A step that ends at once. -/
theorem setReference_ends {st : Status} {d : Nat} {c : Word} (h : s.hasStep l 9 a = true)
    (hu : s.beginReferences l (s.stepAt a) = s.finish l (s.stepAt a) st d c) :
    exec (.setReference l) s = .next (s.finish l (s.stepAt a) st d c) :=
  exec_of_leaves (leaves_setReference h hu) (viewTrigger_worksOn (worksOn_finish s l _ st d c))

theorem beginReferences_good {j : Join} {todo : List (Fin 64 × RefMode)} (hsome : todo ≠ [])
    (hasked : (chunks 4 j.payload).map referenceAsked = todo.map fun e => (some e.1, some e.2)) : s.beginReferences l j
      = State.sendReferences l (todo.length + 1) (s.withOp l j (.setReference todo todo.length [])) := by
  have hinputs : ((todo.map fun e => (some e.1, some e.2)).any fun e : Option (Fin 64) × Option RefMode => e.1.isNone) = false := by
    simp
  have hmodes : ((todo.map fun e => (some e.1, some e.2)).any fun e : Option (Fin 64) × Option RefMode => e.2.isNone) = false := by
    simp
  have hlist : (todo.map fun e => (some e.1, some e.2) : List (Option (Fin 64) × Option RefMode)).isEmpty = false := by
    cases todo with
    | nil => exact absurd rfl hsome
    | cons => rfl
  unfold State.beginReferences
  simp only [hasked, hinputs, hmodes, hlist, if_false, Bool.false_eq_true, goodReferences_map, List.length_map, setOp_eq]
  unfold State.moreReferences
  simp only [op_working (withOp_working ..)]

/-- What the step leaves of a checked payload, its references placed as far as there is room (R104). -/
theorem beginReferences_placed {j : Join} {placed rest : List (Fin 64 × RefMode)} (hsome : placed ++ rest ≠ [])
    (hasked : (chunks 4 j.payload).map referenceAsked = (placed ++ rest).map fun e => (some e.1, some e.2))
    (hroom : placed ≠ [] → s.svc.urgentRoom = [] ∧ s.svc.urgent.length + placed.length ≤ 16) : s.beginReferences l j
      = State.sendReferences l (rest.length + 1) ((s.queued (fun e => s.fixReference e.1 e.2) placed).withOp l j
          (.setReference rest (placed ++ rest).length (List.replicate placed.length s.referenceFrame))) := by
  have hfuel : (placed ++ rest).length + 1 = placed.length + (rest.length + 1) := by rw [List.length_append]; omega
  rw [beginReferences_good hsome hasked, hfuel]
  exact sendReferences_room _ _ (fun _ => rfl) hroom

/-- An urgent room list with a lane held in it. -/
theorem hold_urgent (v : Service) (l : Fin 16) : v.hold .urgent (.lane l)
    = { v with urgentRoom := if Held.lane l ∈ v.urgentRoom then v.urgentRoom else v.urgentRoom ++ [.lane l] } := by
  by_cases hin : Held.lane l ∈ v.urgentRoom
  · rw [if_pos hin]
    exact if_pos hin
  · rw [if_neg hin]
    exact if_neg hin

/-- What the end of SET REFERENCE steps does to one lane. -/
def State.endReferencesAt (s : State) (l : Fin 16) : State :=
  match s.op? l with
  | some (.setReference [] count frames) => if frames.all fun f => !later f s.playoutFrame then s.endStep l .ok 0 (snap count) else s
  | _ => s

theorem endReferences_eq (s : State) : s.endReferences = (indices 16).foldl State.endReferencesAt s := rfl

theorem endReferencesAt_none {t : State} {k : Fin 16} (h : t.op? k = none) : t.endReferencesAt k = t := by
  unfold State.endReferencesAt
  simp only [h]

theorem endReferencesAt_working {j : Join} {n : Nat} {frames : List Word}
    (hact : (s.lane l).activity = .working j (.setReference [] n frames)) : s.endReferencesAt l
      = if frames.all fun f => !later f s.playoutFrame then s.finish l j .ok 0 (BitVec.ofNat 32 n) else s := by
  unfold State.endReferencesAt
  simp only [op_working hact, endStep_working hact]
  rfl

/-- The entries left once there is no room. -/
theorem sendReferences_rest {q : State} {j : Join} {rest : List (Fin 64 × RefMode)} {count : Nat} {frames : List Word}
    (hroom : rest ≠ [] → q.svc.mayPlace .urgent = false) : ∃ (op : Op) (v : Service),
      State.sendReferences l (rest.length + 1) (q.withOp l j (.setReference rest count frames)) = { q.withOp l j op with svc := v }
      ∧ v = { q.svc with urgentRoom :=
          if rest ≠ [] ∧ Held.lane l ∉ q.svc.urgentRoom then q.svc.urgentRoom ++ [.lane l] else q.svc.urgentRoom }
      ∧ (rest = [] → op = .setReference [] count frames)
      ∧ ∀ (n : Fin 64) (m : RefMode) (more : List (Fin 64 × RefMode)), rest = (n, m) :: more →
        op = .setReference ((n, .fixed (q.fixReference n m)) :: more) count frames := by
  cases rest with
  | nil =>
    refine ⟨_, q.svc, sendReferences_done .., ?_, fun _ => rfl, fun _ _ _ h => (nomatch h)⟩
    rw [if_neg fun h => h.1 rfl]
  | cons e more =>
    refine ⟨_, _, sendReferences_held _ (hroom (List.cons_ne_nil _ _)), ?_, fun h => (nomatch h), fun n m more' h => ?_⟩
    · rw [hold_urgent]
      by_cases hin : Held.lane l ∈ q.svc.urgentRoom
      · rw [if_pos hin, if_neg fun h => h.2 hin]
      · rw [if_neg hin, if_pos ⟨List.cons_ne_nil _ _, hin⟩]
    · cases h
      rfl

/-- Steps that have queued all end as their frames are reached (R104). -/
theorem endReferences_one {j : Join} {n : Nat} {frames : List Word} (hact : (s.lane l).activity = .working j (.setReference [] n frames))
    (hother : ∀ k : Fin 16, k ≠ l → s.op? k = none) : s.endReferences
      = if frames.all fun f => !later f s.playoutFrame then s.finish l j .ok 0 (BitVec.ofNat 32 n) else s := by
  have hworks : WorksOn l (s.endReferencesAt l) s := by
    rw [endReferencesAt_working hact]
    split
    · exact worksOn_finish ..
    · exact .refl l s
  have hkeep : ∀ k : Fin 16, k ≠ l → (s.endReferencesAt l).op? k = none := fun k hk => by
    unfold State.op?
    rw [hworks.others k hk]
    exact hother k hk
  rw [endReferences_eq, foldl_one (fun k hk => endReferencesAt_none (hother k hk)) (fun k hk => endReferencesAt_none (hkeep k hk))
    (indices_nodup 16) (mem_indices l), endReferencesAt_working hact]

theorem mayPlace_urgent (v : Service) : v.mayPlace .urgent = true ↔ v.urgentRoom = [] ∧ v.urgent.length < 16 := by
  show (decide (v.urgent.length < 16) && v.urgentRoom.isEmpty) = true ↔ _
  rw [Bool.and_eq_true, decide_eq_true_eq, List.isEmpty_iff, and_comm]

/-- One reference queued, and the step's list empty behind it. -/
theorem sendReference_facts (s : State) (l : Fin 16) (j : Join) (n : Fin 64) (v : Option Int) (op : Op) :
    ((s.sendReference n v).withOp l j op).track s.cfg.id n
      = { s.track s.cfg.id n with scheduled := some { value := v, switch := s.referenceFrame, deferred := false } }
    ∧ (∀ (o : Fin 4) (k : Fin 64), o ≠ s.cfg.id ∨ k ≠ n → ((s.sendReference n v).withOp l j op).track o k = s.track o k)
    ∧ (((s.sendReference n v).withOp l j op).lane l).activity = .working j op :=
  ⟨(modTrack_track ..).trans (if_pos ⟨rfl, rfl⟩),
    fun _ _ hne => (modTrack_track ..).trans (if_neg fun h => hne.elim (fun ho => ho h.1) fun hk => hk h.2), withOp_working ..⟩

/-- Byte k of the i-th record of n bytes. -/
theorem byteAt_chunk (b : List Byte) {n k : Nat} (hk : k < n) (i : Nat) : byteAt ((b.drop (n * i)).take n) k = byteAt b (n * i + k) := by
  unfold byteAt
  rw [List.getD_eq_getElem?_getD, List.getD_eq_getElem?_getD, List.getElem?_take_of_lt hk, List.getElem?_drop]

/-- A payload of one record. -/
theorem chunks_one {n : Nat} {b : List Byte} (hlow : n ≤ b.length) (hhigh : b.length < 2 * n) : chunks n b = [b.take n] := by
  have hcount : b.length / n = 1 := Nat.div_eq_of_lt_le (by omega) (by omega)
  unfold chunks
  rw [hcount]
  rfl

/-- A payload too short for a record. -/
theorem chunks_none {n : Nat} {b : List Byte} (h : b.length < n) : chunks n b = [] := by
  unfold chunks
  rw [Nat.div_eq_of_lt h]
  rfl

/-- The one entry of a payload, and the value it is queued with. -/
theorem reference_one {b : List Byte} {n : Fin 64} {value : Option Int} (hlow : 4 ≤ b.length) (hhigh : b.length < 8)
    (hn : (byteAt b 0).toNat = n.val) (hvalue : byteAt b 1 = 0 ∧ value = some (s.setting n).effective
      ∨ byteAt b 1 = 1 ∧ value = some (max (-20) (min (byteAt b 2).toInt 60)) ∨ byteAt b 1 = 2 ∧ value = none) :
    ∃ mode : RefMode, (chunks 4 b).map referenceAsked = [(some n, some mode)] ∧ s.fixReference n mode = value := by
  have hbyte : ∀ k : Nat, k < 4 → byteAt (b.take 4) k = byteAt b k := fun k hk => by
    have h := byteAt_chunk b hk 0
    rwa [Nat.mul_zero, List.drop_zero, Nat.zero_add] at h
  have hasked : ∀ mode : RefMode, (byteAt b 1 = 0 ∧ mode = .trackNow
      ∨ byteAt b 1 = 1 ∧ mode = .fixed (some (max (-20) (min (byteAt b 2).toInt 60))) ∨ byteAt b 1 = 2 ∧ mode = .fixed none) →
      (chunks 4 b).map referenceAsked = [(some n, some mode)] := fun mode hmode => by
    rw [chunks_one hlow hhigh]
    refine congrArg (fun e => [e]) (referenceAsked_good ⟨?_, ?_⟩)
    · rw [hbyte 0 (by decide)]
      exact hn
    · rw [hbyte 1 (by decide), hbyte 2 (by decide)]
      exact hmode
  rcases hvalue with ⟨h, rfl⟩ | ⟨h, rfl⟩ | ⟨h, rfl⟩
  · exact ⟨.trackNow, hasked _ (.inl ⟨h, rfl⟩), rfl⟩
  · exact ⟨_, hasked _ (.inr (.inl ⟨h, rfl⟩)), rfl⟩
  · exact ⟨_, hasked _ (.inr (.inr ⟨h, rfl⟩)), rfl⟩

theorem withOp_same {j : Join} {op : Op} (h : (s.lane l).activity = .working j op) : s.withOp l j op = s := by
  have hlane : ({ s.lane l with activity := .working j op } : Lane) = s.lane l := by rw [← h]
  have hset : s.lanes.set l (s.lane l) = s.lanes := Bank.ext_get fun k => by
    rw [Bank.set_get]
    split
    · rename_i hk
      rw [hk]
      rfl
    · rfl
  unfold State.withOp
  rw [hlane, hset]

/-- A lane held with its last reference places it (R73, R104). -/
theorem placeHeld_reference {j : Join} {n : Fin 64} {m : RefMode} {count : Nat} {frames : List Word}
    (hact : (s.lane l).activity = .working j (.setReference [(n, m)] count frames)) : s.placeHeld l
      = (s.sendReference n (s.fixReference n m)).withOp l j (.setReference [] count (frames ++ [s.referenceFrame])) := by
  have hhead : s.sendHeadReference l
      = (s.sendReference n (s.fixReference n m)).withOp l j (.setReference [] count (frames ++ [s.referenceFrame])) := by
    conv_lhs => rw [← withOp_same hact]
    exact sendHeadReference_withOp ..
  unfold State.placeHeld
  simp only [op_working hact, hhead]
  unfold State.moreReferences
  simp only [op_working (withOp_working ..)]
  exact sendReferences_done ..

end Step

/-- Settles O37: the checks, the references placed as far as there is room with what is left of the list, and the step's end. -/
theorem setReferenceQueues : Obligations.SetReferenceQueues := by
  unfold Obligations.SetReferenceQueues
  refine ⟨fun s l a h => ⟨fun hbad => ?_, fun n value f hlow hhigh hn hvalue hf hroom => ?_⟩,
    fun s l a h => ⟨fun hgood hbad => ?_, fun hshort => ?_⟩,
    fun s l j n frames hworks hother => ?_, fun s n v => ⟨rfl, rfl⟩,
    fun s l a p f todo h hsome hlen hasks hf hp => ?_, fun s l j n v count frames rest f hworks hroom hfree hf => ?_⟩
  · refine setReference_ends h ?_
    unfold State.beginReferences
    simp only [asked_inputs, hbad, if_true]
  · subst hf
    obtain ⟨mode, hasked, rfl⟩ := reference_one hlow hhigh hn hvalue
    obtain ⟨htrack, hother, hact⟩ := sendReference_facts s l (s.stepAt a) n (s.fixReference n mode)
      (.setReference [] 1 [s.referenceFrame])
    have hbegin := beginReferences_placed (s := s) (l := l) (placed := [(n, mode)]) (rest := []) (List.cons_ne_nil _ _) hasked
      fun _ => (mayPlace_urgent s.svc).mp hroom
    rw [sendReferences_done] at hbegin
    exact ⟨_, leaves_setReference h hbegin, rfl, htrack, hother, hact⟩
  · refine setReference_ends h ?_
    unfold State.beginReferences
    simp only [asked_inputs, asked_modes, hgood, hbad, if_true, if_false, Bool.false_eq_true]
  · refine setReference_ends h ?_
    unfold State.beginReferences
    simp only [chunks_none hshort]
    rfl
  · have hone := endReferences_one (works_iff.mp hworks).2 hother
    refine ⟨fun hall => hone.trans (if_pos ?_), fun ⟨f, hf, hlater⟩ => hone.trans (if_neg ?_)⟩
    · exact List.all_eq_true.mpr fun f hf => (congrArg not (hall f hf) : _)
    · intro hall
      have hf' := List.all_eq_true.mp hall f hf
      rw [show later f s.playoutFrame = true from hlater] at hf'
      cases hf'
  · subst hf
    have hsplit : todo.take p ++ todo.drop p = todo := List.take_append_drop p todo
    have hple : p ≤ todo.length := by
      rw [hp]
      split
      · exact Nat.min_le_left ..
      · exact Nat.zero_le _
    have htake : (todo.take p).length = p := List.length_take_of_le hple
    have hasked := map_referenceAsked hlen hasks
    rw [← hsplit] at hasked hsome
    have honly := queued_only (fun e => s.fixReference e.1 e.2) s (todo.take p)
    have htrack := queued_track (fun e => s.fixReference e.1 e.2) s (todo.take p)
    have hfit : p ≠ 0 → s.svc.urgentRoom = [] ∧ s.svc.urgent.length + p ≤ 16 := fun hne => by
      by_cases hwaiting : s.svc.urgentRoom = []
      · rw [if_pos hwaiting] at hp
        exact ⟨hwaiting, by omega⟩
      · rw [if_neg hwaiting] at hp
        exact absurd hp hne
    have hbegin := beginReferences_placed (s := s) (l := l) hsome hasked fun hne => by
      rw [htake]
      exact hfit fun hz => hne (by rw [hz]; rfl)
    have hmore : todo.drop p ≠ [] ↔ p < todo.length := by rw [Ne, List.drop_eq_nil_iff, Nat.not_le]
    have hfull : todo.drop p ≠ [] → (s.queued (fun e => s.fixReference e.1 e.2) (todo.take p)).svc.mayPlace .urgent
        = false := fun hne => by
      have hlt := hmore.mp hne
      refine Bool.eq_false_iff.mpr fun hplace => ?_
      rw [honly, mayPlace_urgent, List.length_append, List.length_map, htake] at hplace
      rw [if_pos hplace.1] at hp
      have hsize := hplace.2
      omega
    obtain ⟨op, v, hsent, hv, hdone, hheld⟩ := sendReferences_rest (l := l) (j := s.stepAt a) (count := todo.length)
      (frames := List.replicate p s.referenceFrame) hfull
    rw [hsplit, htake, hsent] at hbegin
    have hact : (State.lane { (s.queued (fun e => s.fixReference e.1 e.2) (todo.take p)).withOp l (s.stepAt a) op with svc := v } l).activity
      = .working (s.stepAt a) op := withOp_working ..
    refine ⟨_, leaves_setReference h hbegin, ?_, fun o k hne => (htrack o k).2 hne, fun e k hfind => ?_, fun k hk => ?_, fun hall => ?_,
      fun n mode rest hrest => ?_⟩
    · rw [hv]
      simp only [hmore]
      obtain ⟨tracking, hq⟩ := queued_tracking (fun e => s.fixReference e.1 e.2) s (todo.take p)
      rw [hq]
      rfl
    · have hk : e.1 = k := by simpa using List.find?_some hfind
      rw [← hk] at hfind ⊢
      exact (htrack s.cfg.id e.1).1 e rfl hfind
    · refine (withOp_other hk).trans ?_
      rw [honly]
      rfl
    · rw [hact, hdone (List.drop_eq_nil_iff.mpr (Nat.le_of_eq hall.symm)), hall]
      rfl
    · rw [hact, hheld n mode rest hrest, fixReference_queued]
      rfl
  · subst hf
    have hwait : ({ s with svc := s.svc.setRoom .urgent rest } : State).placeHeld l = _ :=
      placeHeld_reference (works_iff.mp hworks).2
    have hplaces : State.placesIn { s with svc := s.svc.setRoom .urgent rest } .urgent (.lane l) = true :=
      (placesIn_reference (op_working (works_iff.mp hworks).2)).trans (decide_eq_true rfl)
    obtain ⟨htrack, hother, hact⟩ := sendReference_facts { s with svc := s.svc.setRoom .urgent rest } l j n v
      (.setReference [] count (frames ++ [s.referenceFrame]))
    exact ⟨_, roomGrant_placed (works_iff.mp hworks).1 hroom (decide_eq_true hfree) hplaces hwait, rfl, htrack, hother, hact⟩

end Sys2Proof.Machine

/-!
The entries of a SET INPUT step (O35; spec 05, R101): what a payload asks for, the checks, and the outcome bytes.
-/

namespace Sys2Proof.Machine

set_option Elab.async false

/-! ### What a payload asks for -/

/-- The inputs that the records of a payload name (R101). -/
structure NamesInputs (b : List Byte) (inputs : List (Fin 64)) : Prop where
  length : inputs.length = b.length / 8
  named : ∀ (i : Nat) (n : Fin 64), inputs[i]? = some n → (byteAt b (8 * i)).toNat = n.val

/-- The entry of a step at an index, whose payload lies at an address. -/
def stepEntry (b : List Byte) (base : Nat) (inputs : List (Fin 64)) (i : Nat) (st : EntryState) : InputStep :=
  { input := inputs.getD i 0, setting := settingAsked b (8 * i), outcome := base + (8 * i + 4), state := st }

/-- The entries of a step that are all in one state. -/
def stepEntries (b : List Byte) (base : Nat) (inputs : List (Fin 64)) (st : EntryState) : List InputStep :=
  (List.range inputs.length).map fun i => stepEntry b base inputs i st

section Payload

variable {b : List Byte} {inputs : List (Fin 64)}

theorem getD_input {i : Nat} (hi : i < inputs.length) : inputs[i]? = some (inputs.getD i 0) := by
  rw [List.getElem?_eq_getElem hi, List.getD_eq_getElem _ _ hi]

theorem inputAsked_chunk (h : NamesInputs b inputs) {i : Nat} (hi : i < inputs.length) :
    inputAsked ((b.drop (8 * i)).take 8) = (some (inputs.getD i 0), settingAsked b (8 * i)) := by
  unfold inputAsked
  rw [byteAt_chunk b (by decide : 0 < 8), byteAt_chunk b (by decide : 1 < 8), byteAt_chunk b (by decide : 2 < 8),
    byteAt_chunk b (by decide : 3 < 8), Nat.add_zero, index_of_val (h.named i _ (getD_input hi)), askedSetting_eq]
  rfl

theorem map_inputAsked (h : NamesInputs b inputs) : (chunks 8 b).map inputAsked
    = (List.range inputs.length).map fun i => (some (inputs.getD i 0), settingAsked b (8 * i)) := by
  unfold chunks
  rw [← h.length, List.map_map]
  exact List.map_congr_left fun i hi => inputAsked_chunk h (List.mem_range.mp hi)

theorem inputAsked_isNone (bs : List (List Byte)) :
    ((bs.map inputAsked).any fun e => e.1.isNone) = bs.any fun b => decide (63 < (byteAt b 0).toNat) := by
  rw [List.any_map]
  exact congrArg bs.any (funext fun b => index_isNone 64 _)

/-- The entries of a checked payload, as the model lists them. -/
theorem inputSteps_eq {j : Join} {base : Nat} (h : NamesInputs j.payload inputs)
    (haddr : ∀ i : Nat, i < inputs.length → j.address (8 * i + 4) = base + (8 * i + 4)) (st : EntryState) :
    inputSteps j st = stepEntries j.payload base inputs st := by
  have hindexed : ((chunks 8 j.payload).mapIdx fun i b => (i, inputAsked b))
      = (List.range inputs.length).map fun i => (i, (some (inputs.getD i 0), settingAsked j.payload (8 * i))) := by
    refine List.ext_getElem (by simp [chunks, h.length]) fun i hi hi' => ?_
    have hlt : i < inputs.length := by simpa using hi'
    rw [List.getElem_mapIdx, List.getElem_map, List.getElem_range, ← inputAsked_chunk h hlt]
    simp only [chunks, List.getElem_map, List.getElem_range]
  have hentry : ∀ i : Nat, i < inputs.length → (Option.map
      (fun n => ({ input := n, setting := settingAsked j.payload (8 * i), outcome := j.address (8 * i + 4), state := st } : InputStep))
      (some (inputs.getD i 0))) = some (stepEntry j.payload base inputs i st) := fun i hi => by
    rw [Option.map_some, haddr i hi]
    rfl
  unfold inputSteps stepEntries
  rw [hindexed, List.filterMap_map, ← List.filterMap_eq_map]
  exact List.filterMap_congr fun i hi => hentry i (List.mem_range.mp hi)

/-- A payload whose records all name inputs names a list of them. -/
theorem names_of_good (h : ∀ c ∈ chunks 8 b, (byteAt c 0).toNat < 64) : ∃ inputs : List (Fin 64), NamesInputs b inputs := by
  refine ⟨(chunks 8 b).map fun c => Fin.ofNat 64 (byteAt c 0).toNat, by rw [List.length_map, chunks_length], fun i n hn => ?_⟩
  rw [List.getElem?_map, Option.map_eq_some_iff] at hn
  obtain ⟨c, hc, rfl⟩ := hn
  have hlt := h c (List.mem_of_getElem? hc)
  have hi : i < b.length / 8 := by
    have := (List.getElem?_eq_some_iff.mp hc).1
    rwa [chunks_length] at this
  obtain rfl := Option.some.inj ((chunks_getElem? hi).symm.trans hc)
  rw [byteAt_chunk b (by decide : 0 < 8)] at hlt ⊢
  exact (Nat.mod_eq_of_lt hlt).symm

/-- Every record is one of the entries. -/
theorem record_named (h : NamesInputs b inputs) {c : List Byte} (hc : c ∈ chunks 8 b) {n : Fin 64} (hn : (byteAt c 0).toNat = n.val) :
    n ∈ inputs := by
  obtain ⟨i, hi⟩ := List.getElem?_of_mem hc
  have hlt : i < inputs.length := by
    have := (List.getElem?_eq_some_iff.mp hi).1
    rwa [chunks_length, ← h.length] at this
  obtain rfl := Option.some.inj ((chunks_getElem? (h.length ▸ hlt)).symm.trans hi)
  rw [byteAt_chunk b (by decide : 0 < 8)] at hn
  have hnamed := h.named i _ (getD_input hlt)
  have heq : inputs.getD i 0 = n := Fin.ext (hnamed.symm.trans hn)
  exact List.mem_of_getElem? ((getD_input hlt).trans (congrArg some heq))

/-- A payload of one record. -/
theorem names_one {n : Fin 64} (hlow : 8 ≤ b.length) (hhigh : b.length < 16) (hn : (byteAt b 0).toNat = n.val) : NamesInputs b [n] := by
  refine ⟨(by rw [List.length_singleton]; omega), fun i m hm => ?_⟩
  cases i with
  | zero =>
    obtain rfl := Option.some.inj hm
    exact hn
  | succ i => cases hm

/-- A payload of two. -/
theorem names_two {n m : Fin 64} (hlow : 16 ≤ b.length) (hhigh : b.length < 24) (hn : (byteAt b 0).toNat = n.val)
    (hm : (byteAt b 8).toNat = m.val) : NamesInputs b [n, m] := by
  refine ⟨(by simp only [List.length_cons, List.length_nil]; omega), fun i k hk => ?_⟩
  match i, hk with
  | 0, hk =>
    obtain rfl := Option.some.inj hk
    exact hn
  | 1, hk =>
    obtain rfl := Option.some.inj hk
    exact hm

end Payload

/-! ### The outcome bytes (R101) -/

section Outcomes

variable {s : State}

theorem openOutcomes_snoc (s : State) (es : List InputStep) (e : InputStep) :
    s.openOutcomes (es ++ [e]) = (s.openOutcomes es).store e.outcome [255] := List.foldl_concat ..

/-- Outcome bytes are exchange RAM alone. -/
theorem openOutcomes_only (s : State) (es : List InputStep) : ∃ ram : List Host.Cell, s.openOutcomes es = { s with ram := ram } := by
  induction es using List.reverseRecOn with
  | nil => exact ⟨_, rfl⟩
  | append_singleton es e ih =>
    obtain ⟨ram, hram⟩ := ih
    rw [openOutcomes_snoc, hram]
    exact ⟨_, rfl⟩

theorem openOutcomes_read (es : List InputStep) (hram : ∀ e ∈ es, e.outcome < Config.ramSize) (x : Nat) :
    ((∃ e ∈ es, e.outcome = x) → readByte (s.openOutcomes es).ram x = 255)
    ∧ ((∀ e ∈ es, x ≠ e.outcome) → readByte (s.openOutcomes es).ram x = readByte s.ram x) := by
  induction es using List.reverseRecOn with
  | nil => exact ⟨fun ⟨_, h, _⟩ => (nomatch h), fun _ => rfl⟩
  | append_singleton es e ih =>
    obtain ⟨hopen, hother⟩ := ih fun y hy => hram y (List.mem_append_left _ hy)
    obtain ⟨hself, hrest⟩ := readByte_outcome (s.openOutcomes es).ram e.outcome 255
    rw [openOutcomes_snoc]
    by_cases hx : x = e.outcome
    · subst hx
      refine ⟨fun _ => hself (hram e (by simp)), fun hnot => absurd rfl (hnot e (by simp))⟩
    · refine ⟨fun ⟨y, hy, hyx⟩ => (hrest x hx).trans (hopen ⟨y, ?_, hyx⟩), fun hnot => (hrest x hx).trans (hother fun y hy =>
        hnot y (List.mem_append_left _ hy))⟩
      rcases List.mem_append.mp hy with hy | hy
      · exact hy
      · obtain rfl := List.mem_singleton.mp hy
        exact absurd hyx.symm hx

end Outcomes

/-! ### How the step begins (R101) -/

section Begin

variable {s : State} {l : Fin 16} {a : Nat} {inputs : List (Fin 64)}

theorem leaves_setInput {u : State} (h : s.hasStep l 6 a = true) (hu : s.beginInputs l (s.stepAt a) = u) : leaves (.setInput l) s u :=
  leaves_of rfl (hasStep_running h) ((startStep_ready (fun j t => t.beginInputs l j) h).trans hu)

theorem setInput_ends {st : Status} {d : Nat} {c : Word} (h : s.hasStep l 6 a = true)
    (hu : s.beginInputs l (s.stepAt a) = s.finish l (s.stepAt a) st d c) :
    exec (.setInput l) s = .next (s.finish l (s.stepAt a) st d c) :=
  exec_of_leaves (leaves_setInput h hu) (viewTrigger_worksOn (worksOn_finish s l _ st d c))

/-- The state in which a step's entries are open, none sent yet. -/
def State.opened (s : State) (l : Fin 16) (a : Nat) (inputs : List (Fin 64)) (st : EntryState) : State :=
  (s.openOutcomes (stepEntries (s.stepAt a).payload (s.header a).payload inputs st)).withOp l (s.stepAt a)
    (.setInput (stepEntries (s.stepAt a).payload (s.header a).payload inputs st))

theorem stepEntries_inputs (b : List Byte) (base : Nat) (inputs : List (Fin 64)) (st : EntryState) :
    (stepEntries b base inputs st).map InputStep.input = inputs := by
  unfold stepEntries
  rw [List.map_map]
  refine List.ext_getElem (by simp) fun i hi hi' => ?_
  rw [List.getElem_map, List.getElem_range]
  exact List.getD_eq_getElem _ _ hi'

theorem stepEntries_address (h : s.hasStep l 6 a = true) (hnames : NamesInputs (s.stepAt a).payload inputs) {i : Nat}
    (hi : i < inputs.length) : (s.stepAt a).address (8 * i + 4) = (s.header a).payload + (8 * i + 4)
      ∧ (s.header a).payload + (8 * i + 4) < Config.ramSize := by
  have hlength := hnames.length
  have hlt : 8 * i + 4 < (s.stepAt a).payload.length := by omega
  obtain ⟨haddr, hfits⟩ := stepAt_address h (by decide) hlt
  exact ⟨haddr, by omega⟩

/-- The chain of checks, for a payload whose records name inputs. -/
theorem beginInputs_named (h : s.hasStep l 6 a = true) (hnames : NamesInputs (s.stepAt a).payload inputs) (hsome : inputs ≠ []) :
    s.beginInputs l (s.stepAt a)
      = if !s.isStage && (s.gain.stale || !s.reachable 0) then s.finish l (s.stepAt a) .unreachable 0 0
        else if inputs.any s.foreign then s.finish l (s.stepAt a) .notOwner 0 0
        else if s.isStage then (s.opened l a inputs .taken).takeEntries l
            (stepEntries (s.stepAt a).payload (s.header a).payload inputs .taken)
          else (s.opened l a inputs .unsent).moreInputs l := by
  have hgood : (((List.range inputs.length).map fun i => (some (inputs.getD i 0), settingAsked (s.stepAt a).payload (8 * i))).any
      fun e => e.1.isNone) = false := by simp
  have hforeign : ∀ st : EntryState, ((stepEntries (s.stepAt a).payload (s.header a).payload inputs st).any fun e => s.foreign e.input)
      = inputs.any s.foreign := fun st => by
    conv_rhs => rw [← stepEntries_inputs (s.stepAt a).payload (s.header a).payload inputs st]
    rw [List.any_map]
    rfl
  have hlist : ∀ st : EntryState, (stepEntries (s.stepAt a).payload (s.header a).payload inputs st).isEmpty = false := fun st => by
    rw [Bool.eq_false_iff, Ne, List.isEmpty_iff, ← List.map_eq_nil_iff (f := InputStep.input), stepEntries_inputs]
    exact hsome
  have hsteps := inputSteps_eq (base := (s.header a).payload) hnames fun i hi => (stepEntries_address h hnames hi).1
  unfold State.beginInputs
  simp only [map_inputAsked hnames, hgood, hsteps, hforeign, hlist, if_false, Bool.false_eq_true, setOp_eq]
  cases hstage : s.isStage <;> rfl

/-- The opened state differs from the one before in the lane's step and the outcome bytes (R101). -/
theorem opened_facts (h : s.hasStep l 6 a = true) (hnames : NamesInputs (s.stepAt a).payload inputs) (st : EntryState) :
    (∃ (lanes : Bank 16 Lane) (ram : List Host.Cell), s.opened l a inputs st = { s with lanes := lanes, ram := ram })
    ∧ (s.opened l a inputs st).lane l = { s.lane l with
        activity := .working (s.stepAt a) (.setInput (stepEntries (s.stepAt a).payload (s.header a).payload inputs st)) }
    ∧ (∀ k : Fin 16, k ≠ l → (s.opened l a inputs st).lane k = s.lane k)
    ∧ (∀ i : Nat, i < inputs.length → readByte (s.opened l a inputs st).ram ((s.header a).payload + (8 * i + 4)) = 255)
    ∧ ∀ x : Nat, (∀ i : Nat, i < inputs.length → x ≠ (s.header a).payload + (8 * i + 4)) →
      readByte (s.opened l a inputs st).ram x = readByte s.ram x := by
  have hmem : ∀ e : InputStep, e ∈ stepEntries (s.stepAt a).payload (s.header a).payload inputs st ↔
      ∃ i : Nat, i < inputs.length ∧ stepEntry (s.stepAt a).payload (s.header a).payload inputs i st = e := fun e => by
    simp only [stepEntries, List.mem_map, List.mem_range]
  obtain ⟨ram, hram⟩ := openOutcomes_only s (stepEntries (s.stepAt a).payload (s.header a).payload inputs st)
  have hread := openOutcomes_read (s := s) (stepEntries (s.stepAt a).payload (s.header a).payload inputs st) fun e he => by
    obtain ⟨i, hi, rfl⟩ := (hmem e).mp he
    exact (stepEntries_address h hnames hi).2
  have hlane : ∀ k : Fin 16, (s.openOutcomes (stepEntries (s.stepAt a).payload (s.header a).payload inputs st)).lane k
      = s.lane k := fun k => by
    rw [hram]
    rfl
  unfold State.opened
  refine ⟨?_, by rw [withOp_self, hlane], fun k hk => by rw [withOp_other hk, hlane], fun i hi => ?_, fun x hx => ?_⟩
  · rw [hram]
    exact ⟨_, _, rfl⟩
  · exact (hread _).1 ⟨_, (hmem _).mpr ⟨i, hi, rfl⟩, rfl⟩
  · refine (hread x).2 fun e he => ?_
    obtain ⟨i, hi, rfl⟩ := (hmem e).mp he
    exact hx i hi

end Begin

end Sys2Proof.Machine

/-!
The requests of a desk's SET INPUT step (O35; spec 04, R71, R73, R76; spec 05, R101): as many as there are entries and places, and then
the wait for what is lacking.
-/

namespace Sys2Proof.Machine

set_option Elab.async false

/-! ### The entries sent -/

section Sent

variable {b : List Byte} {base given : Nat} {inputs : List (Fin 64)}

/-- A step's entries, the first m of them requested. -/
def sentEntries (b : List Byte) (base : Nat) (inputs : List (Fin 64)) (given m : Nat) : List InputStep :=
  (List.range inputs.length).map fun i => stepEntry b base inputs i (if i < m then .requested (given + (i + 1)) else .unsent)

theorem sentEntries_length (b : List Byte) (base : Nat) (inputs : List (Fin 64)) (given m : Nat) :
    (sentEntries b base inputs given m).length = inputs.length := by simp [sentEntries]

theorem sentEntries_getElem (m : Nat) {i : Nat} (hi : i < inputs.length) : (sentEntries b base inputs given m)[i]?
    = some (stepEntry b base inputs i (if i < m then .requested (given + (i + 1)) else .unsent)) := by
  unfold sentEntries
  rw [List.getElem?_map, List.getElem?_range hi, Option.map_some]

theorem sentEntries_zero (b : List Byte) (base : Nat) (inputs : List (Fin 64)) (given : Nat) :
    sentEntries b base inputs given 0 = stepEntries b base inputs .unsent := by
  unfold sentEntries stepEntries
  exact List.map_congr_left fun i _ => by rw [if_neg (Nat.not_lt_zero i)]

/-- Behind the last one there is none to send. -/
theorem sentEntries_beyond {m : Nat} (hm : inputs.length ≤ m) :
    sentEntries b base inputs given m = sentEntries b base inputs given inputs.length := by
  unfold sentEntries
  refine List.map_congr_left fun i hi => ?_
  have hlt := List.mem_range.mp hi
  rw [if_pos (by omega), if_pos hlt]

theorem sentEntries_set {m : Nat} (hm : m < inputs.length) :
    (sentEntries b base inputs given m).set m (stepEntry b base inputs m (.requested (given + m + 1)))
      = sentEntries b base inputs given (m + 1) := by
  refine List.ext_getElem? fun i => ?_
  by_cases hi : i < inputs.length
  · rw [sentEntries_getElem (m + 1) hi, List.getElem?_set, sentEntries_length, sentEntries_getElem m hi]
    by_cases he : m = i
    · subst he
      rw [if_pos rfl, if_pos hm, if_pos (Nat.lt_succ_self m)]
      rfl
    · rw [if_neg he]
      have hiff : (i < m) = (i < m + 1) := by rw [eq_iff_iff]; omega
      simp only [hiff]
  · rw [List.getElem?_eq_none (by rw [List.length_set, sentEntries_length]; omega),
      List.getElem?_eq_none (by rw [sentEntries_length]; omega)]

theorem sentEntries_next {m : Nat} (hm : m < inputs.length) :
    (sentEntries b base inputs given m).findIdx? (fun e => e.state == .unsent) = some m := by
  rw [List.findIdx?_eq_some_iff_getElem]
  refine ⟨by rw [sentEntries_length]; exact hm, ?_, fun i hi => ?_⟩
  · have hget := sentEntries_getElem (b := b) (base := base) (given := given) m hm
    rw [if_neg (Nat.lt_irrefl m), List.getElem?_eq_getElem (by rw [sentEntries_length]; exact hm)] at hget
    rw [Option.some.inj hget]
    rfl
  · have hlt : i < inputs.length := by omega
    have hget := sentEntries_getElem (b := b) (base := base) (given := given) m hlt
    rw [if_pos hi, List.getElem?_eq_getElem (by rw [sentEntries_length]; exact hlt)] at hget
    rw [Option.some.inj hget]
    exact fun h => EntryState.noConfusion (eq_of_beq h)

theorem sentEntries_none : (sentEntries b base inputs given inputs.length).findIdx? (fun e => e.state == .unsent) = none := by
  rw [List.findIdx?_eq_none_iff]
  intro e he
  obtain ⟨i, hi, rfl⟩ := List.mem_map.mp he
  rw [if_pos (List.mem_range.mp hi)]
  rfl

/-- The bytes a GAIN REQUEST carries of an entry (R66). -/
theorem requestBody_eq (n : Fin 64) (b : List Byte) (k : Nat) : requestBody n (settingAsked b k) = gainAsk n b k := by
  have hbit : ∀ x : Byte, BitVec.ofNat 8 (bitNat (decide (x ≠ 0))) = if x = 0 then (0 : Byte) else 1 := fun x => by
    by_cases hx : x = 0
    · rw [if_pos hx, decide_eq_false (fun h => h hx)]
      rfl
    · rw [if_neg hx, decide_eq_true hx]
      rfl
  unfold requestBody settingAsked gainAsk
  rw [hbit, hbit]

end Sent

/-! ### A lane's block while it asks -/

section Asking

variable {t : State} {l : Fin 16} {j : Join} {es : List InputStep} {g : Nat} {held : Option Message} {want : Option Want} {v : Service}
  {w : Want}

/-- A lane's SET INPUT step with its entries, its requests given, what it waits for, and the service unit. -/
def State.asking (t : State) (l : Fin 16) (j : Join) (es : List InputStep) (g : Nat) (held : Option Message) (want : Option Want)
    (v : Service) : State :=
  { t with
    lanes := t.lanes.set l { t.lane l with
      activity := .working j (.setInput es), given := (t.lane l).given + g, held := held, want := want }
    svc := v }

theorem asking_lane (t : State) (l : Fin 16) (j : Join) (es : List InputStep) (g : Nat) (held : Option Message) (want : Option Want)
    (v : Service) : (t.asking l j es g held want v).lane l
      = { t.lane l with activity := .working j (.setInput es), given := (t.lane l).given + g, held := held, want := want } :=
  (Bank.set_get ..).trans (if_pos rfl)

theorem asking_other {k : Fin 16} (hk : k ≠ l) : (t.asking l j es g held want v).lane k = t.lane k := (Bank.set_get ..).trans (if_neg hk)

theorem asking_activity : ((t.asking l j es g held want v).lane l).activity = .working j (.setInput es) := by rw [asking_lane]

theorem asking_waits : (t.asking l j es g held want v).waits l = (held.isSome || want.isSome) := by
  unfold State.waits
  rw [asking_lane]

/-- A lane that waits for nothing, before its first request. -/
theorem asking_start (hact : (t.lane l).activity = .working j (.setInput es)) (hwaits : t.waits l = false) :
    t.asking l j es 0 none none t.svc = t := by
  obtain ⟨hheld, hwant⟩ := waits_iff.mp hwaits
  have hlane : ({ t.lane l with activity := .working j (.setInput es), given := (t.lane l).given + 0, held := none, want := none } : Lane)
      = { t.lane l with activity := .working j (.setInput es) } := by
    show ({ t.lane l with activity := .working j (.setInput es), held := none, want := none } : Lane)
      = { t.lane l with activity := .working j (.setInput es), held := (t.lane l).held, want := (t.lane l).want }
    rw [hheld, hwant]
  have hsame : t.withOp l j (.setInput es) = t := withOp_same hact
  unfold State.asking
  rw [hlane]
  exact hsame

theorem asking_withOp (es' : List InputStep) :
    (t.asking l j es g held want v).withOp l j (.setInput es') = t.asking l j es' g held want v := by
  show ({ t with lanes := (t.lanes.set l _).set l { (t.asking l j es g held want v).lane l with activity := .working j (.setInput es') },
                 svc := v } : State) = _
  rw [asking_lane, lanes_set_set]
  rfl

/-- A lane's context changed while it asks. -/
theorem asking_update (f : Lane → Lane) : Bank.update (t.asking l j es g held want v).lanes l f
    = t.lanes.set l (f { t.lane l with
        activity := .working j (.setInput es), given := (t.lane l).given + g, held := held, want := want }) := by
  have hlane := asking_lane t l j es g held want v
  unfold State.lane at hlane
  unfold Bank.update
  rw [hlane]
  exact lanes_set_set ..

/-- The next request's message is told by the requests given before (R67, R76). -/
theorem asking_message (o : Fin 4) (kind : Nat) (body : List Byte) :
    (t.asking l j es g held want v).requestMessage l 1 o kind body = t.requestMessage l (g + 1) o kind body := by
  have hseq : ∀ x y : Nat, BitVec.ofNat 8 (x + y) + BitVec.ofNat 8 1 = BitVec.ofNat 8 x + BitVec.ofNat 8 (y + 1) := fun x y => by
    rw [← BitVec.ofNat_add, ← BitVec.ofNat_add, Nat.add_assoc]
  unfold State.requestMessage Lane.seq
  rw [asking_lane]
  simp only [hseq, Nat.add_assoc]
  rfl

/-- The entry of the request a lane gives next (R76). -/
def State.nextEntry (t : State) (l : Fin 16) (g : Nat) (o : Fin 4) (kind : Nat) : Request :=
  { lane := l, number := (t.lane l).given + (g + 1), target := o, kind := kind, state := .queued }

theorem asking_given (hfree : (t.asking l j es g none none v).entryFree = true) (hroom : v.mayPlace (kindClass w.kind) = true) :
    (t.asking l j es g none none v).request l w = t.asking l j es (g + 1) none none
      (Service.enqueue { v with requests := v.requests ++ [t.nextEntry l g w.target w.kind] }
        (t.requestMessage l (g + 1) w.target w.kind w.body)) := by
  have hgiven : (t.asking l j es g none none v).given l w = { t.asking l j es g none none v with
      lanes := Bank.update (t.asking l j es g none none v).lanes l fun x => { x with given := x.given + 1, want := none }
      svc := Service.enqueue { v with
        requests := v.requests ++ [{
          lane := l, number := ((t.asking l j es g none none v).lane l).given + 1, target := w.target, kind := w.kind, state := .queued }] }
        ((t.asking l j es g none none v).requestMessage l 1 w.target w.kind w.body) } := rfl
  rw [request_given hfree hroom, hgiven, asking_update, asking_message, asking_lane]
  rfl

theorem asking_held (hfree : (t.asking l j es g none none v).entryFree = true) (hroom : v.mayPlace (kindClass w.kind) = false) :
    (t.asking l j es g none none v).request l w
      = t.asking l j es (g + 1) (some (t.requestMessage l (g + 1) w.target w.kind w.body)) none
        { v.hold (kindClass w.kind) (.lane l) with requests := v.requests ++ [t.nextEntry l g w.target w.kind] } := by
  rw [request_held hfree hroom]
  unfold State.givenHeld
  rw [asking_update, asking_message, asking_lane]
  rfl

theorem asking_wants (hfree : (t.asking l j es g none none v).entryFree = false) :
    (t.asking l j es g none none v).request l w = t.asking l j es g none (some w) { v with entryWait := v.entryWait ++ [l] } := by
  rw [request_wanting hfree]
  unfold State.wanting
  rw [asking_update]
  rfl

end Asking

/-! ### One request after the other (R101) -/

section Loop

variable {t : State} {l : Fin 16} {j : Join} {b : List Byte} {base : Nat} {inputs : List (Fin 64)}

/-- The service unit with the first m requests of a step placed. -/
def State.placedAsks (t : State) (l : Fin 16) (b : List Byte) (inputs : List (Fin 64)) (m : Nat) : Service :=
  { t.svc with
    normal := t.svc.normal ++ (List.range m).map fun i => t.requestMessage l (i + 1) 0 1 (gainAsk (inputs.getD i 0) b (8 * i))
    requests := t.svc.requests ++ (List.range m).map fun i => t.nextEntry l i 0 1 }

theorem placedAsks_succ (t : State) (l : Fin 16) (b : List Byte) (inputs : List (Fin 64)) (m : Nat) :
    Service.enqueue { t.placedAsks l b inputs m with requests := (t.placedAsks l b inputs m).requests ++ [t.nextEntry l m 0 1] }
      (t.requestMessage l (m + 1) 0 1 (gainAsk (inputs.getD m 0) b (8 * m))) = t.placedAsks l b inputs (m + 1) := by
  unfold State.placedAsks
  rw [List.range_succ, List.map_append, List.map_append, ← List.append_assoc, ← List.append_assoc]
  rfl

/-- The step with its first m requests placed. -/
def State.askedTo (t : State) (l : Fin 16) (j : Join) (b : List Byte) (base : Nat) (inputs : List (Fin 64)) (m : Nat) : State :=
  t.asking l j (sentEntries b base inputs (t.lane l).given m) m none none (t.placedAsks l b inputs m)

/-- A step that waits sends no more. -/
theorem sendInputs_waits {s : State} (h : s.waits l = true) (fuel : Nat) : State.sendInputs l fuel s = s := by
  cases fuel with
  | zero => rfl
  | succ fuel =>
    rw [State.sendInputs]
    split
    · rw [if_pos h]
    · rfl

/-- One that has sent all does neither. -/
theorem sendInputs_done (fuel : Nat) : State.sendInputs l fuel (t.askedTo l j b base inputs inputs.length)
    = t.askedTo l j b base inputs inputs.length := by
  cases fuel with
  | zero => rfl
  | succ fuel =>
    rw [State.sendInputs]
    simp only [State.askedTo, op_working asking_activity, asking_waits, sentEntries_none]
    rfl

/-- The next entry is asked for. -/
theorem sendInputs_next {m : Nat} (hm : m < inputs.length) (fuel : Nat) :
    State.sendInputs l (fuel + 1) (t.askedTo l j b base inputs m) = State.sendInputs l fuel
      ((t.asking l j (sentEntries b base inputs (t.lane l).given (m + 1)) m none none (t.placedAsks l b inputs m)).request l
        { target := 0, kind := 1, body := gainAsk (inputs.getD m 0) b (8 * m) }) := by
  have hgiven : ((t.askedTo l j b base inputs m).lane l).given = (t.lane l).given + m := by
    unfold State.askedTo
    rw [asking_lane]
  have hput : (t.askedTo l j b base inputs m).putOp l (.setInput (sentEntries b base inputs (t.lane l).given (m + 1)))
      = t.asking l j (sentEntries b base inputs (t.lane l).given (m + 1)) m none none (t.placedAsks l b inputs m) :=
    (putOp_working asking_activity).trans (asking_withOp _)
  have hset : (sentEntries b base inputs (t.lane l).given m).set m
      { stepEntry b base inputs m (if m < m then .requested ((t.lane l).given + (m + 1)) else .unsent) with
        state := .requested ((t.lane l).given + m + 1) } = sentEntries b base inputs (t.lane l).given (m + 1) := sentEntries_set hm
  have hop : (t.askedTo l j b base inputs m).op? l = some (.setInput (sentEntries b base inputs (t.lane l).given m)) :=
    op_working asking_activity
  have hwaits : (t.askedTo l j b base inputs m).waits l = false := asking_waits
  rw [State.sendInputs]
  simp only [hop, hwaits, if_false, Bool.false_eq_true, sentEntries_next hm, sentEntries_getElem m hm, hgiven, hset, hput]
  rw [show (stepEntry b base inputs m (if m < m then .requested ((t.lane l).given + (m + 1)) else .unsent)).input = inputs.getD m 0 from rfl]
  rw [← requestBody_eq]
  rfl

/-- The entries of the pending request table and the places in the queue that the step finds (R71, R76). -/
theorem askedTo_entryFree (m : Nat) : (t.asking l j (sentEntries b base inputs (t.lane l).given (m + 1)) m none none
    (t.placedAsks l b inputs m)).entryFree = true ↔ t.svc.requests.length + m < 64 ∧ t.svc.entryWait = [] := by
  show (decide ((t.svc.requests ++ (List.range m).map fun i => t.nextEntry l i 0 1).length < 64) && t.svc.entryWait.isEmpty) = true ↔ _
  rw [Bool.and_eq_true, decide_eq_true_eq, List.isEmpty_iff, List.length_append, List.length_map, List.length_range]

theorem placedAsks_mayPlace (m : Nat) : (t.placedAsks l b inputs m).mayPlace .normal = true
    ↔ t.svc.normal.length + m < 16 ∧ t.svc.normalRoom = [] := by
  show (decide ((t.svc.normal ++ (List.range m).map fun i =>
    t.requestMessage l (i + 1) 0 1 (gainAsk (inputs.getD i 0) b (8 * i))).length < 16) && t.svc.normalRoom.isEmpty) = true ↔ _
  rw [Bool.and_eq_true, decide_eq_true_eq, List.isEmpty_iff, List.length_append, List.length_map, List.length_range]

/-- As many as there are entries and places are queued one after the other. -/
theorem sendInputs_placed {k : Nat} (fuel : Nat) (hk : k ≤ inputs.length)
    (hentries : ∀ m : Nat, m < k → t.svc.requests.length + m < 64 ∧ t.svc.entryWait = [])
    (hplaces : ∀ m : Nat, m < k → t.svc.normal.length + m < 16 ∧ t.svc.normalRoom = []) :
    State.sendInputs l (k + fuel) (t.askedTo l j b base inputs 0) = State.sendInputs l fuel (t.askedTo l j b base inputs k) := by
  induction k generalizing fuel with
  | zero => rw [Nat.zero_add]
  | succ k ih =>
    have hfree := askedTo_entryFree (l := l) (j := j) (b := b) (base := base) (inputs := inputs) k |>.mpr (hentries k (Nat.lt_succ_self k))
    have hroom := placedAsks_mayPlace (l := l) (b := b) (inputs := inputs) k |>.mpr (hplaces k (Nat.lt_succ_self k))
    have hsum : k + 1 + fuel = k + (fuel + 1) := by omega
    rw [hsum, ih (fuel + 1) (by omega) (fun m hm => hentries m (by omega)) (fun m hm => hplaces m (by omega)),
      sendInputs_next (by omega), asking_given (w := { target := 0, kind := 1, body := gainAsk (inputs.getD k 0) b (8 * k) }) hfree hroom,
      placedAsks_succ]
    rfl

/-- The service unit after a step has asked as far as it can: k requests placed, and then the entry or the place it lacks. -/
def State.askedService (t : State) (l : Fin 16) (b : List Byte) (inputs : List (Fin 64)) (free room k given : Nat) : Service :=
  { t.svc with
    normal := t.svc.normal ++ (List.range k).map fun i => t.requestMessage l (i + 1) 0 1 (gainAsk (inputs.getD i 0) b (8 * i))
    requests := t.svc.requests ++ (List.range given).map fun i => t.nextEntry l i 0 1
    entryWait := if free ≤ room ∧ k < inputs.length then t.svc.entryWait ++ [l] else t.svc.entryWait
    normalRoom := if room < free ∧ k < inputs.length then (t.svc.hold .normal (.lane l)).normalRoom else t.svc.normalRoom }

section Service

variable {free room k : Nat}

/-- All are asked for. -/
theorem askedService_all (hall : inputs.length ≤ k) : t.askedService l b inputs free room k k = t.placedAsks l b inputs k := by
  have hnone : ∀ p : Prop, ¬(p ∧ k < inputs.length) := fun p h => absurd h.2 (Nat.not_lt.mpr hall)
  unfold State.askedService
  rw [if_neg (hnone _), if_neg (hnone _)]
  rfl

/-- The next one waits for an entry (R76). -/
theorem askedService_wants (h : free ≤ room ∧ k < inputs.length) : t.askedService l b inputs free room k k
    = { t.placedAsks l b inputs k with entryWait := t.svc.entryWait ++ [l] } := by
  have hholds : ¬(room < free ∧ k < inputs.length) := fun h' => absurd h'.1 (Nat.not_lt.mpr h.1)
  unfold State.askedService
  rw [if_pos h, if_neg hholds]
  rfl

/-- The next one has an entry and waits for a place (R73). -/
theorem askedService_holds (h : room < free ∧ k < inputs.length) : t.askedService l b inputs free room k (k + 1)
    = { (t.placedAsks l b inputs k).hold .normal (.lane l) with
        requests := (t.placedAsks l b inputs k).requests ++ [t.nextEntry l k 0 1] } := by
  have hwants : ¬(free ≤ room ∧ k < inputs.length) := fun h' => absurd h.1 (Nat.not_lt.mpr h'.1)
  unfold State.askedService
  rw [if_neg hwants, if_pos h, hold_normal, hold_normal, List.range_succ, List.map_append, ← List.append_assoc]
  rfl

end Service

/-- The step after it has asked as far as it can. -/
def State.askedAll (t : State) (l : Fin 16) (j : Join) (b : List Byte) (base : Nat) (inputs : List (Fin 64))
    (free room k given : Nat) : State :=
  t.asking l j (sentEntries b base inputs (t.lane l).given (k + 1)) given
    (if room < free ∧ k < inputs.length then some (t.requestMessage l (k + 1) 0 1 (gainAsk (inputs.getD k 0) b (8 * k))) else none)
    (if free ≤ room ∧ k < inputs.length then some { target := 0, kind := 1, body := gainAsk (inputs.getD k 0) b (8 * k) } else none)
    (t.askedService l b inputs free room k given)

theorem sendInputs_all {free room k given : Nat} (hfree : free = if t.svc.entryWait = [] then 64 - t.svc.requests.length else 0)
    (hroom : room = if t.svc.normalRoom = [] then 16 - t.svc.normal.length else 0) (hk : k = min inputs.length (min free room))
    (hgiven : given = if room < free ∧ k < inputs.length then k + 1 else k) :
    State.sendInputs l inputs.length (t.askedTo l j b base inputs 0) = t.askedAll l j b base inputs free room k given := by
  have hentries : ∀ m : Nat, m < free → t.svc.requests.length + m < 64 ∧ t.svc.entryWait = [] := fun m hm => by
    split at hfree
    · exact ⟨by omega, by assumption⟩
    · omega
  have hplaces : ∀ m : Nat, m < room → t.svc.normal.length + m < 16 ∧ t.svc.normalRoom = [] := fun m hm => by
    split at hroom
    · exact ⟨by omega, by assumption⟩
    · omega
  have hplaced := fun fuel => sendInputs_placed (t := t) (l := l) (j := j) (b := b) (base := base) (inputs := inputs) (k := k) fuel
    (by omega) (fun m hm => hentries m (by omega)) (fun m hm => hplaces m (by omega))
  by_cases hall : k = inputs.length
  · have hnone : ∀ p : Prop, ¬(p ∧ k < inputs.length) := fun p h => by omega
    rw [if_neg (hnone _)] at hgiven
    unfold State.askedAll
    rw [if_neg (hnone _), if_neg (hnone _), hgiven, askedService_all (by omega), sentEntries_beyond (by omega), hall]
    rw [hall] at hplaced
    exact (hplaced 0).trans (sendInputs_done 0)
  · have hlt : k < inputs.length := by omega
    obtain ⟨fuel, hfuel⟩ : ∃ fuel : Nat, inputs.length = k + (fuel + 1) := ⟨inputs.length - k - 1, by omega⟩
    have hsteps := hplaced (fuel + 1)
    rw [← hfuel, sendInputs_next hlt] at hsteps
    rw [hsteps]
    unfold State.askedAll
    by_cases hlack : free ≤ room
    · have hwants : free ≤ room ∧ k < inputs.length := ⟨hlack, hlt⟩
      have hholds : ¬(room < free ∧ k < inputs.length) := fun h => by omega
      have hnofree : (t.asking l j (sentEntries b base inputs (t.lane l).given (k + 1)) k none none (t.placedAsks l b inputs k)).entryFree
          = false := Bool.eq_false_iff.mpr fun h => by
        obtain ⟨hsize, hwait⟩ := (askedTo_entryFree k).mp h
        rw [if_pos hwait] at hfree
        omega
      rw [if_neg hholds] at hgiven
      rw [asking_wants hnofree, sendInputs_waits (by rw [asking_waits]; rfl), hgiven, askedService_wants hwants,
        if_neg hholds, if_pos hwants]
      rfl
    · have hwants : ¬(free ≤ room ∧ k < inputs.length) := fun h => hlack h.1
      have hholds : room < free ∧ k < inputs.length := ⟨by omega, hlt⟩
      have hfreeNow := (askedTo_entryFree (t := t) (l := l) (j := j) (b := b) (base := base) (inputs := inputs) k).mpr
        (hentries k (by omega))
      have hnoroom : (t.placedAsks l b inputs k).mayPlace .normal = false := Bool.eq_false_iff.mpr fun h => by
        obtain ⟨hsize, hwait⟩ := (placedAsks_mayPlace k).mp h
        rw [if_pos hwait] at hroom
        omega
      rw [if_pos hholds] at hgiven
      rw [asking_held (w := { target := 0, kind := 1, body := gainAsk (inputs.getD k 0) b (8 * k) }) hfreeNow hnoroom,
        sendInputs_waits (by rw [asking_waits]; rfl), hgiven, askedService_holds hholds, if_neg hwants, if_pos hholds]
      rfl

end Loop

end Sys2Proof.Machine

/-!
SET INPUT settled (O35; spec 05, R89, R101, R102): the refusals, the step at a desk, and the step at the stage.
-/

namespace Sys2Proof.Machine

set_option Elab.async false

section SetInput

variable {s : State} {l : Fin 16} {a : Nat} {inputs : List (Fin 64)}

/-! ### Refusals (R17, R101) -/

theorem foreign_stage (hid : s.cfg.id = 0) (n : Fin 64) : s.foreign n = decide ((s.gain.table.get n).owner ≠ some 0) :=
  if_pos ((stage_iff s).mpr hid)

theorem foreign_desk (hid : s.cfg.id ≠ 0) (n : Fin 64) :
    s.foreign n = true ↔ ∃ o : Fin 4, (s.gain.mirror.get n).owner = some o ∧ o ≠ s.cfg.id := by
  unfold State.foreign
  rw [if_neg (by simp [not_stage hid])]
  cases (s.gain.mirror.get n).owner with
  | none => simp
  | some o => simp

section Named

variable (h : s.hasStep l 6 a = true) (hnames : NamesInputs (s.stepAt a).payload inputs) (hsome : inputs ≠ [])

include h hnames hsome

theorem setInput_cut (hid : s.cfg.id ≠ 0) (hcut : s.gain.stale = true ∨ s.reachable 0 = false) :
    exec (.setInput l) s = .next (s.finish l (s.stepAt a) .unreachable 0 0) := by
  refine setInput_ends h ((beginInputs_named h hnames hsome).trans (if_pos ?_))
  rw [not_stage hid]
  rcases hcut with hc | hc <;> simp [hc]

theorem setInput_foreign (hreach : s.cfg.id = 0 ∨ s.gain.stale = false ∧ s.reachable 0 = true) {n : Fin 64} (hn : n ∈ inputs)
    (hforeign : s.foreign n = true) : exec (.setInput l) s = .next (s.finish l (s.stepAt a) .notOwner 0 0) := by
  refine setInput_ends h ((beginInputs_named h hnames hsome).trans ((if_neg ?_).trans (if_pos (List.any_eq_true.mpr ⟨n, hn, hforeign⟩))))
  rcases hreach with hid | ⟨hlive, hup⟩
  · simp [(stage_iff s).mpr hid]
  · simp [hlive, hup]

/-- At the stage, with every input its own. -/
theorem setInput_taken (hid : s.cfg.id = 0) (hown : ∀ n ∈ inputs, (s.gain.table.get n).owner = some 0) : leaves (.setInput l) s
    ((List.range inputs.length).foldl (fun st i => st.takeGain (inputs.getD i 0) (settingAsked (s.stepAt a).payload (8 * i)) (.lane l i))
      (s.opened l a inputs .taken)) := by
  have hstage : s.isStage = true := (stage_iff s).mpr hid
  have hours : inputs.any s.foreign = false := Bool.eq_false_iff.mpr fun hany => by
    obtain ⟨n, hn, hforeign⟩ := List.any_eq_true.mp hany
    rw [foreign_stage hid, decide_eq_true_eq] at hforeign
    exact hforeign (hown n hn)
  have hentries : (stepEntries (s.stepAt a).payload (s.header a).payload inputs .taken).mapIdx (fun i e => (i, e))
      = (List.range inputs.length).map fun i => (i, stepEntry (s.stepAt a).payload (s.header a).payload inputs i .taken) := by
    refine List.ext_getElem (by simp [stepEntries]) fun i hi hi' => ?_
    rw [List.getElem_mapIdx, List.getElem_map, List.getElem_range]
    simp only [stepEntries, List.getElem_map, List.getElem_range]
  refine leaves_setInput h ((beginInputs_named h hnames hsome).trans ?_)
  simp only [hstage, hours, Bool.not_true, Bool.false_and, if_false, if_true, Bool.false_eq_true]
  unfold State.takeEntries
  rw [hentries, List.foldl_map]
  rfl

end Named

/-! ### At a desk (R101) -/

section Desk

/-- What a step has asked for is told by the lane and the service unit alone. -/
theorem askedService_congr {t : State} {b : List Byte} {free room k given : Nat} (hsvc : t.svc = s.svc) (hcfg : t.cfg = s.cfg)
    (hgiven : (t.lane l).given = (s.lane l).given) :
    t.askedService l b inputs free room k given = s.askedService l b inputs free room k given := by
  unfold State.askedService State.requestMessage State.nextEntry Lane.seq
  rw [hsvc, hcfg, hgiven]

/-- So is a request's message. -/
theorem requestMessage_congr {t : State} {i : Nat} {o : Fin 4} {kind : Nat} {body : List Byte} (hcfg : t.cfg = s.cfg)
    (hgiven : (t.lane l).given = (s.lane l).given) : t.requestMessage l i o kind body = s.requestMessage l i o kind body := by
  unfold State.requestMessage Lane.seq
  rw [hcfg, hgiven]

theorem placedAsks_zero (t : State) (l : Fin 16) (b : List Byte) (inputs : List (Fin 64)) : t.placedAsks l b inputs 0 = t.svc := by
  unfold State.placedAsks
  rw [List.range_zero, List.map_nil, List.map_nil, List.append_nil, List.append_nil]

/-- The step as it asks for its entries, before the first (R101). -/
theorem moreInputs_opened (h : s.hasStep l 6 a = true) (hnames : NamesInputs (s.stepAt a).payload inputs)
    (hwaits : s.waits l = false) : (s.opened l a inputs .unsent).moreInputs l
    = State.sendInputs l inputs.length
        ((s.opened l a inputs .unsent).askedTo l (s.stepAt a) (s.stepAt a).payload (s.header a).payload inputs 0) := by
  obtain ⟨⟨lanes, ram, hopened⟩, hlane, -, -, -⟩ := opened_facts h hnames .unsent
  have hact : ((s.opened l a inputs .unsent).lane l).activity
      = .working (s.stepAt a) (.setInput (stepEntries (s.stepAt a).payload (s.header a).payload inputs .unsent)) := by rw [hlane]
  have hquiet : (s.opened l a inputs .unsent).waits l = false := by
    unfold State.waits
    rw [hlane]
    exact hwaits
  have hstart : (s.opened l a inputs .unsent).askedTo l (s.stepAt a) (s.stepAt a).payload (s.header a).payload inputs 0
      = s.opened l a inputs .unsent := by
    unfold State.askedTo
    rw [placedAsks_zero, sentEntries_zero]
    exact asking_start hact hquiet
  unfold State.moreInputs
  simp only [op_working hact, hstart]
  rw [← sentEntries_zero _ _ _ 0, sentEntries_length]

variable (h : s.hasStep l 6 a = true) (hnames : NamesInputs (s.stepAt a).payload inputs) (hsome : inputs ≠ []) (hid : s.cfg.id ≠ 0)
  (hlive : s.gain.stale = false) (hreach : s.reachable 0 = true)
  (hown : ∀ n ∈ inputs, (s.gain.mirror.get n).owner = some s.cfg.id ∨ (s.gain.mirror.get n).owner = none)

include h hnames hsome hid hlive hreach hown

theorem beginInputs_desk : s.beginInputs l (s.stepAt a) = (s.opened l a inputs .unsent).moreInputs l := by
  have hours : inputs.any s.foreign = false := Bool.eq_false_iff.mpr fun hany => by
    obtain ⟨n, hn, hforeign⟩ := List.any_eq_true.mp hany
    obtain ⟨o, ho, hne⟩ := (foreign_desk hid n).mp hforeign
    rcases hown n hn with hself | hnone
    · rw [hself] at ho
      exact hne (Option.some.inj ho).symm
    · rw [hnone] at ho
      cases ho
  refine (beginInputs_named h hnames hsome).trans ?_
  simp only [not_stage hid, hours, hlive, hreach, Bool.not_true, Bool.not_false, Bool.or_false, Bool.and_false, if_false, Bool.false_eq_true]

/-- A desk's step asks as far as it can, and waits for what it lacks (R71, R73, R76, R101). -/
theorem setInput_asks {free room k given : Nat} (hwaits : s.waits l = false)
    (hfree : free = if s.svc.entryWait = [] then 64 - s.svc.requests.length else 0)
    (hroom : room = if s.svc.normalRoom = [] then 16 - s.svc.normal.length else 0) (hk : k = min inputs.length (min free room))
    (hgiven : given = if room < free ∧ k < inputs.length then k + 1 else k) :
    ∃ u : State, exec (.setInput l) s = .next u ∧ u = { s with lanes := u.lanes, ram := u.ram, svc := u.svc }
      ∧ (∀ i : Fin 16, i ≠ l → u.lane i = s.lane i)
      ∧ (u.lane l = { s.lane l with
          activity := .working (s.stepAt a) (.setInput
            (sentEntries (s.stepAt a).payload (s.header a).payload inputs (s.lane l).given (k + 1)))
          given := (s.lane l).given + given
          held := if room < free ∧ k < inputs.length then
            some (s.requestMessage l (k + 1) 0 1 (gainAsk (inputs.getD k 0) (s.stepAt a).payload (8 * k))) else none
          want := if free ≤ room ∧ k < inputs.length then
            some { target := 0, kind := 1, body := gainAsk (inputs.getD k 0) (s.stepAt a).payload (8 * k) } else none })
      ∧ u.svc = s.askedService l (s.stepAt a).payload inputs free room k given
      ∧ u.ram = (s.opened l a inputs .unsent).ram := by
  obtain ⟨⟨lanes, ram, hopened⟩, hlane, hothers, -, -⟩ := opened_facts h hnames .unsent
  have hsvc : (s.opened l a inputs .unsent).svc = s.svc := by rw [hopened]
  have hcfg : (s.opened l a inputs .unsent).cfg = s.cfg := by rw [hopened]
  have hbefore : ((s.opened l a inputs .unsent).lane l).given = (s.lane l).given := by rw [hlane]
  have hsent := sendInputs_all (t := s.opened l a inputs .unsent) (l := l) (j := s.stepAt a) (b := (s.stepAt a).payload)
    (base := (s.header a).payload) (by rw [hsvc]; exact hfree) (by rw [hsvc]; exact hroom) hk hgiven
  have hleaves := leaves_setInput h ((beginInputs_desk h hnames hsome hid hlive hreach hown).trans
    ((moreInputs_opened h hnames hwaits).trans hsent))
  have honly : ∃ (lanes : Bank 16 Lane) (v : Service), (s.opened l a inputs .unsent).askedAll l (s.stepAt a) (s.stepAt a).payload
      (s.header a).payload inputs free room k given = { s with lanes := lanes, ram := ram, svc := v } := by
    unfold State.askedAll State.asking
    rw [hopened]
    exact ⟨_, _, rfl⟩
  obtain ⟨lanes', v, hall⟩ := honly
  refine ⟨_, exec_of_leaves hleaves fun w => ?_, ?_, fun i hi => (asking_other hi).trans (hothers i hi), ?_,
    askedService_congr hsvc hcfg hbefore, rfl⟩
  · rw [hall]
    cases w <;> rfl
  · rw [hall]
  · unfold State.askedAll
    rw [asking_lane, hlane, requestMessage_congr hcfg hbefore]

end Desk

/-- A desk's step of one entry, the entry marked as requested and its request still to be given. -/
def State.marked (s : State) (l : Fin 16) (a : Nat) (n : Fin 64) : State :=
  (s.opened l a [n] .unsent).asking l (s.stepAt a) (sentEntries (s.stepAt a).payload (s.header a).payload [n] (s.lane l).given 1) 0 none none
    s.svc

/-- A desk's step of one entry asks with one request (R17, R73, R76, R101). -/
theorem setInput_one {n : Fin 64} (h : s.hasStep l 6 a = true) (hnames : NamesInputs (s.stepAt a).payload [n]) (hid : s.cfg.id ≠ 0)
    (hlive : s.gain.stale = false) (hreach : s.reachable 0 = true)
    (hown : (s.gain.mirror.get n).owner = some s.cfg.id ∨ (s.gain.mirror.get n).owner = none) (hwaits : s.waits l = false) :
    ∃ t : State, exec (.setInput l) s = .next t ∧ t = { s with lanes := t.lanes, ram := t.ram, svc := t.svc }
      ∧ t.asked s l .normal 0 1 (gainAsk n (s.stepAt a).payload 0)
      ∧ (t.lane l).activity = .working (s.stepAt a) (.setInput [{
          input := n, setting := settingAsked (s.stepAt a).payload 0, outcome := (s.header a).payload + 4
          state := .requested ((s.lane l).given + 1) }])
      ∧ readByte t.ram ((s.header a).payload + 4) = 255
      ∧ ∀ i : Nat, i ≠ (s.header a).payload + 4 → readByte t.ram i = readByte s.ram i := by
  obtain ⟨⟨lanes, ram, hopened⟩, hlane, hothers, hopen, hrest⟩ := opened_facts h hnames .unsent
  have hbefore : ((s.opened l a [n] .unsent).lane l).given = (s.lane l).given := by rw [hlane]
  have hsvc : (s.opened l a [n] .unsent).svc = s.svc := by rw [hopened]
  have hbegin := (beginInputs_desk h hnames (List.cons_ne_nil _ _) hid hlive hreach fun m hm => (List.mem_singleton.mp hm) ▸ hown).trans
    (moreInputs_opened h hnames hwaits)
  have hone : ([n] : List (Fin 64)).length = 0 + 1 := rfl
  rw [hone, sendInputs_next Nat.zero_lt_one, placedAsks_zero, hbefore, hsvc] at hbegin
  have hmarked : (s.marked l a n).lane l = { s.lane l with
      activity := .working (s.stepAt a) (.setInput (sentEntries (s.stepAt a).payload (s.header a).payload [n] (s.lane l).given 1))
      given := (s.lane l).given + 0, held := none, want := none } := by
    unfold State.marked
    rw [asking_lane, hlane]
  have hasked := request_asked (s := s) (t := s.marked l a n) (l := l)
    (w := { target := 0, kind := 1, body := gainAsk n (s.stepAt a).payload 0 })
    (fun k hk => (asking_other hk).trans (hothers k hk)) (by rw [hmarked]; rfl) rfl (by unfold State.marked; rw [hopened]; rfl)
  obtain ⟨f, v, hrequest, hf⟩ := request_only (s := s.marked l a n) (l := l)
    (w := { target := 0, kind := 1, body := gainAsk n (s.stepAt a).payload 0 })
  have hram : ((s.marked l a n).request l { target := 0, kind := 1, body := gainAsk n (s.stepAt a).payload 0 }).ram
      = (s.opened l a [n] .unsent).ram := by
    rw [hrequest]
    rfl
  obtain ⟨lanes', v', hall⟩ : ∃ (lanes' : Bank 16 Lane) (v' : Service), (s.marked l a n).request l
      { target := 0, kind := 1, body := gainAsk n (s.stepAt a).payload 0 } = { s with lanes := lanes', ram := ram, svc := v' } := by
    rw [hrequest]
    unfold State.marked State.asking
    rw [hopened]
    exact ⟨_, _, rfl⟩
  refine ⟨(s.marked l a n).request l { target := 0, kind := 1, body := gainAsk n (s.stepAt a).payload 0 },
    exec_of_leaves (leaves_setInput h hbegin) fun w => ?_, ?_, hasked, ?_, ?_, fun i hi => ?_⟩
  · show State.viewTrigger ((s.marked l a n).request l { target := 0, kind := 1, body := gainAsk n (s.stepAt a).payload 0 }) w = _
    rw [hall]
    cases w <;> rfl
  · rw [hall]
  · rw [hrequest, updated_lane, if_pos rfl, hf, hmarked]
    rfl
  · rw [hram]
    exact hopen 0 Nat.zero_lt_one
  · rw [hram]
    refine hrest i fun k hk => ?_
    obtain rfl : k = 0 := Nat.lt_one_iff.mp hk
    exact hi

/-! ### At the stage (R89) -/

section Lane

variable {n : Fin 64} {x : Setting} {i : Nat}

/-- A lane's change that is announced (R89, R90, R92). -/
theorem takeGain_lane_announces (hown : (s.gain.table.get n).owner = some 0) (hp : (s.gain.table.get n).pending = none)
    (hroom : s.svc.mayPlace .urgent = true) : s.takeGain n x (.lane l i) = { (s.modInput n fun e => { e with
          pending := some { setting := x, requester := .lane l i, switch := some s.switchFrame, keepsFault := false }
          mute := if x.phantom = e.setting.phantom then e.mute else muteWindow e.mute s.switchFrame }) with
        svc := s.svc.enqueue (announceMessage n x (some 0)
          (if x.phantom = (s.gain.table.get n).setting.phantom then .normal else .phantomMute)
          (s.gain.table.get n).orphaned s.switchFrame { requester := 255, lane := 0, seq := 0 } false)
        conv := { s.conv with
          schedule := addWord s.conv.schedule { due := s.switchFrame - BitVec.ofNat 32 s.cfg.latency, input := n, setting := x } } } := by
  rw [takeGain_announces (r := .lane l i) hown hp hroom, ← hown]
  rfl

/-- One that is held for room (R73, R89). -/
theorem takeGain_lane_holds (hown : (s.gain.table.get n).owner = some 0) (hp : (s.gain.table.get n).pending = none)
    (hroom : s.svc.mayPlace .urgent = false) : s.takeGain n x (.lane l i) = { (s.modInput n fun e => { e with
          pending := some { setting := x, requester := .lane l i, switch := none, keepsFault := false } }) with
        svc := s.svc.hold .urgent (.pendingGain n) } := takeGain_holds hown hp hroom

/-- One that waits behind the pending change (R89). -/
theorem takeGain_lane_waits {c : PendingChange} (hown : (s.gain.table.get n).owner = some 0) (hp : (s.gain.table.get n).pending = some c)
    (hw : (s.gain.table.get n).waiting = none) : s.takeGain n x (.lane l i) = s.modInput n fun e => { e with
      waiting := some { setting := x, requester := .lane l i, keepsFault := false } } := takeGain_waits hown hp hw

theorem announcing_self (c : PendingChange) (e : InputEntry) (f : Word) :
    (s.announcing n c e f).gain.table.get n = (s.gain.table.get n).announcedFor c f := modInput_self _

theorem announcing_await (c : PendingChange) (e : InputEntry) (f : Word) (y : Setting) (r : Requester) : (s.announcing n c e f).await n y r
    = { (s.modInput n fun e => { e.announcedFor c f with waiting := some { setting := y, requester := r, keepsFault := false } }) with
        svc := (s.announcing n c e f).svc, conv := (s.announcing n c e f).conv } := by
  exact congrArg (fun m : State => ({ m with svc := (s.announcing n c e f).svc, conv := (s.announcing n c e f).conv } : State))
    (modInput_modInput (s := s) (n := n) (fun e => e.announcedFor c f) fun e => { e with
      waiting := some { setting := y, requester := r, keepsFault := false } })

/-- Of two changes for one input the second waits behind the first (R89, R101). -/
theorem takeGain_lane_two {y : Setting} {k : Nat} (hown : (s.gain.table.get n).owner = some 0) (hp : (s.gain.table.get n).pending = none)
    (hw : (s.gain.table.get n).waiting = none) (hroom : s.svc.mayPlace .urgent = true) :
    (s.takeGain n x (.lane l i)).takeGain n y (.lane l k) = { (s.modInput n fun e => { e with
          pending := some { setting := x, requester := .lane l i, switch := some s.switchFrame, keepsFault := false }
          waiting := some { setting := y, requester := .lane l k, keepsFault := false }
          mute := if x.phantom = e.setting.phantom then e.mute else muteWindow e.mute s.switchFrame }) with
        svc := s.svc.enqueue (announceMessage n x (some 0)
          (if x.phantom = (s.gain.table.get n).setting.phantom then .normal else .phantomMute)
          (s.gain.table.get n).orphaned s.switchFrame { requester := 255, lane := 0, seq := 0 } false)
        conv := { s.conv with
          schedule := addWord s.conv.schedule { due := s.switchFrame - BitVec.ofNat 32 s.cfg.latency, input := n, setting := x } } } := by
  have hself := announcing_self (s := s) (n := n) ((Requester.lane l i).asks x) (s.gain.table.get n) s.switchFrame
  rw [takeGain_announces (r := .lane l i) hown hp hroom, takeGain_waits (r := .lane l k) (by rw [hself]; exact hown)
    (by rw [hself]; rfl) (by rw [hself]; exact hw), announcing_await, ← hown]
  rfl

end Lane

end SetInput

/-- A payload with records names some input. -/
theorem names_some {b : List Byte} {inputs : List (Fin 64)} (hnames : NamesInputs b inputs) (hsome : chunks 8 b ≠ []) : inputs ≠ [] :=
  fun hnil => hsome (List.length_eq_zero_iff.mp (by rw [chunks_length, ← hnames.length, hnil, List.length_nil]))

/-- The entries of a step as its sent ones are told (R101). -/
theorem sentEntries_upTo (b : List Byte) (base : Nat) (inputs : List (Fin 64)) (given k : Nat) : sentEntries b base inputs given (k + 1)
    = (List.range inputs.length).map fun i => {
        input := inputs.getD i 0, setting := settingAsked b (8 * i), outcome := base + (8 * i + 4)
        state := if i ≤ k then .requested (given + (i + 1)) else .unsent } :=
  List.map_congr_left fun i _ => by
    unfold stepEntry
    simp only [Nat.lt_succ_iff]

/-- Settles O35: the refusals by the chain of checks, a desk's requests by how far the step can ask, and the stage's own changes by what
taking each of them is. -/
theorem setInputBegins : Obligations.SetInputBegins := by
  unfold Obligations.SetInputBegins
  refine ⟨fun s l a h => ⟨fun hbad => ?_, fun hshort => ?_,
      fun n hlow hhigh hn hid => ⟨fun hcut => ?_, fun hlive hreach hsome hother => ?_, fun hlive hreach hown hfree hroom hwaits => ?_⟩⟩,
    fun s l a es h hes hsome hgood => ⟨fun hid hcut => ?_, fun hid hlive hreach hforeign => ?_, fun hid hforeign => ?_⟩,
    fun s l a b n h hb hlow hhigh hn hid hlive hreach hown hwaits => ?_,
    fun s l a b n m h hb hlow hhigh hn hm hid hlive hreach hown hwaits hentry hentries hplace hplaces => ?_,
    fun s l a b n x f h hb hlow hhigh hn hid hx hf => ?_,
    fun s l a b n x f h hb hlow hhigh hn hm hid hx hf hown hp hw hroom => ?_,
    fun s l a free room k given b inputs asks h hb hsome hlen hnamed hid hlive hreach hwaits hown hasks hfree hroom hk hgiven => ?_,
    fun s l a b inputs h hb hsome hlen hnamed hid hown => ?_,
    fun s n x l i f hown hf => ⟨fun hp hroom => ?_, fun hp hroom => takeGain_lane_holds hown hp hroom,
      fun c hp hw => takeGain_lane_waits hown hp hw, fun c w k j es m e hp hw hr hworks he hopen hothers => ?_⟩⟩
  · refine setInput_ends h ?_
    unfold State.beginInputs
    simp only [inputAsked_isNone, hbad, if_true]
  · refine setInput_ends h ?_
    unfold State.beginInputs inputSteps
    simp only [chunks_none hshort]
    rfl
  · exact setInput_cut h (names_one hlow hhigh hn) (List.cons_ne_nil _ _) hid hcut
  · obtain ⟨o, ho⟩ := Option.ne_none_iff_exists'.mp hsome
    refine setInput_foreign h (names_one hlow hhigh hn) (List.cons_ne_nil _ _) (.inr ⟨hlive, hreach⟩) (List.mem_singleton_self n)
      ((foreign_desk hid n).mpr ⟨o, ho, fun he => hother (he ▸ ho)⟩)
  · obtain ⟨t, hexec, honly, ⟨hothers, hgiven, -⟩, -, hopen, hrest⟩ :=
      setInput_one h (names_one hlow hhigh hn) hid hlive hreach hown hwaits
    obtain ⟨hg, hrequests, hroomy, -⟩ := hgiven hfree
    obtain ⟨hqueue, hsvc⟩ := hroomy hroom
    refine ⟨t, hexec, honly, ?_, hg, hothers, hopen, hrest⟩
    rw [hsvc, hrequests, if_neg (by decide), if_pos rfl, show t.svc.normal = _ from hqueue]
    rfl
  · subst hes
    obtain ⟨inputs, hnames⟩ := names_of_good hgood
    exact setInput_cut h hnames (names_some hnames hsome) hid hcut
  · subst hes
    obtain ⟨inputs, hnames⟩ := names_of_good hgood
    obtain ⟨c, hc, n, o, hn, ho, hne⟩ := hforeign
    exact setInput_foreign h hnames (names_some hnames hsome) (.inr ⟨hlive, hreach⟩) (record_named hnames hc hn)
      ((foreign_desk hid n).mpr ⟨o, ho, hne⟩)
  · subst hes
    obtain ⟨inputs, hnames⟩ := names_of_good hgood
    obtain ⟨c, hc, n, hn, hne⟩ := hforeign
    exact setInput_foreign h hnames (names_some hnames hsome) (.inl hid) (record_named hnames hc hn)
      ((foreign_stage hid n).trans (decide_eq_true hne))
  · subst hb
    exact setInput_one h (names_one hlow hhigh hn) hid hlive hreach hown hwaits
  · subst hb
    have hnames := names_two hlow hhigh hn hm
    have hboth : ∀ k ∈ [n, m], (s.gain.mirror.get k).owner = some s.cfg.id ∨ (s.gain.mirror.get k).owner = none := fun k hk =>
      hown k (by simpa using hk)
    obtain ⟨k, hk⟩ : ∃ k : Nat, k = min [n, m].length (min (64 - s.svc.requests.length) (16 - s.svc.normal.length)) := ⟨_, rfl⟩
    obtain ⟨given, hgiven⟩ : ∃ given : Nat, given = if 16 - s.svc.normal.length < 64 - s.svc.requests.length ∧ k < [n, m].length
      then k + 1 else k := ⟨_, rfl⟩
    obtain ⟨u, hexec, honly, hothers, hlane, hsvc, hram⟩ := setInput_asks h hnames (List.cons_ne_nil _ _) hid hlive hreach hboth hwaits
      (if_pos hentry).symm (if_pos hplace).symm hk hgiven
    obtain ⟨-, -, -, hopen, hrest⟩ := opened_facts (s := s) (l := l) h hnames .unsent
    have htwo : [n, m].length = 2 := rfl
    rw [htwo] at hk hgiven hopen hrest
    refine ⟨u, hexec, honly, hothers, ?_, ?_, ?_, fun i h0 h1 => ?_, fun hlast => ?_, fun hmore => ?_⟩
    · rw [hlane, sentEntries_beyond (by rw [htwo]; omega)]
      rfl
    · rw [hram]
      exact hopen 0 (by decide)
    · rw [hram]
      exact hopen 1 (by decide)
    · rw [hram]
      refine hrest i fun q hq => ?_
      rcases (by omega : q = 0 ∨ q = 1) with rfl | rfl
      · exact h0
      · exact h1
    · obtain rfl : k = 1 := by omega
      have hheld : ¬(16 - s.svc.normal.length < 64 - s.svc.requests.length ∧ 1 < 2) := fun h => by omega
      have hwant : 64 - s.svc.requests.length ≤ 16 - s.svc.normal.length ∧ 1 < 2 := ⟨by omega, by decide⟩
      rw [if_neg hheld] at hgiven
      refine ⟨by rw [hlane, hgiven], ?_, ?_⟩
      · rw [hlane]
        exact if_pos hwant
      · rw [hsvc, hgiven, askedService_wants hwant, hentry]
        rfl
    · have hgiven2 : given = 2 := by
        rw [hgiven]
        split <;> omega
      refine ⟨by rw [hlane, hgiven2], by rw [hsvc, hgiven2]; rfl, fun hplaces2 => ?_, fun hfull => ?_⟩
      · obtain rfl : k = 2 := by omega
        have hheld : ¬(16 - s.svc.normal.length < 64 - s.svc.requests.length ∧ 2 < 2) := fun h => by omega
        refine ⟨?_, ?_⟩
        · rw [hlane]
          exact if_neg hheld
        · rw [hsvc, hgiven2, askedService_all (Nat.le_of_eq htwo)]
          rfl
      · obtain rfl : k = 1 := by omega
        have hheld : 16 - s.svc.normal.length < 64 - s.svc.requests.length ∧ 1 < 2 := ⟨by omega, by decide⟩
        refine ⟨?_, ?_⟩
        · rw [hlane]
          exact if_pos hheld
        · have hnone : (s.placedAsks l (s.stepAt a).payload [n, m] 1).normalRoom = [] := hplace
          rw [hsvc, hgiven2, askedService_holds hheld, hold_normal, hnone]
          rfl
  · subst hb hx hf
    have hnames := names_one hlow hhigh hn
    obtain ⟨⟨lanes, ram, hopened⟩, hlane, hothers, hopen, hrest⟩ := opened_facts (s := s) (l := l) h hnames .taken
    refine ⟨s.opened l a [n] .taken, by rw [hopened], hothers, fun i hi => hrest i fun q hq => ?_, fun hforeign => ?_, fun hown => ?_⟩
    · obtain rfl : q = 0 := Nat.lt_one_iff.mp hq
      exact hi
    · exact setInput_foreign h hnames (List.cons_ne_nil _ _) (.inl hid) (List.mem_singleton_self n)
        ((foreign_stage hid n).trans (decide_eq_true hforeign))
    · have htaken := setInput_taken h hnames (List.cons_ne_nil _ _) hid fun k hk => List.mem_singleton.mp hk ▸ hown
      have hrange : List.range [n].length = [0] := rfl
      have hinput : [n].getD 0 0 = n := rfl
      rw [hrange, List.foldl_cons, List.foldl_nil, hinput, Nat.mul_zero] at htaken
      have hentry : (s.opened l a [n] .taken).gain.table.get n = s.gain.table.get n := by rw [hopened]
      refine ⟨hopen 0 Nat.zero_lt_one, by rw [hlane]; rfl, fun hp hroom => ?_, fun hp hroom => ?_, fun c hp hw => ?_⟩
      · rw [takeGain_lane_announces (by rw [hentry]; exact hown) (by rw [hentry]; exact hp) (by rw [hopened]; exact hroom),
          hopened] at htaken
        rw [hopened]
        exact htaken
      · rw [takeGain_lane_holds (by rw [hentry]; exact hown) (by rw [hentry]; exact hp) (by rw [hopened]; exact hroom), hopened] at htaken
        rw [hopened]
        exact htaken
      · rw [takeGain_lane_waits (by rw [hentry]; exact hown) (by rw [hentry]; exact hp) (by rw [hentry]; exact hw)] at htaken
        exact htaken
  · subst hb hx hf
    have hnames := names_two hlow hhigh hn hm
    obtain ⟨⟨lanes, ram, hopened⟩, hlane, hothers, -, -⟩ := opened_facts (s := s) (l := l) h hnames .taken
    have htaken := setInput_taken h hnames (List.cons_ne_nil _ _) hid fun k hk => by
      obtain rfl : k = n := by simpa using hk
      exact hown
    have hrange : List.range [n, n].length = [0, 1] := rfl
    have hfirst : [n, n].getD 0 0 = n := rfl
    have hsecond : [n, n].getD 1 0 = n := rfl
    rw [hrange, List.foldl_cons, List.foldl_cons, List.foldl_nil, hfirst, hsecond, Nat.mul_zero, Nat.mul_one] at htaken
    have hentry : (s.opened l a [n, n] .taken).gain.table.get n = s.gain.table.get n := by rw [hopened]
    rw [takeGain_lane_two (by rw [hentry]; exact hown) (by rw [hentry]; exact hp) (by rw [hentry]; exact hw) (by rw [hopened]; exact hroom),
      hopened] at htaken
    refine ⟨s.opened l a [n, n] .taken, by rw [hopened], hothers, by rw [hlane]; rfl, ?_⟩
    rw [hopened]
    exact htaken
  · subst hb
    obtain ⟨u, hexec, honly, hothers, hlane, hsvc, hram⟩ :=
      setInput_asks h ⟨hlen, hnamed⟩ hsome hid hlive hreach hown hwaits hfree hroom hk hgiven
    obtain ⟨-, -, -, hopen, hrest⟩ := opened_facts (s := s) (l := l) h ⟨hlen, hnamed⟩ .unsent
    have hask : ∀ i : Nat, i < inputs.length → asks.getD i [] = gainAsk (inputs.getD i 0) (s.stepAt a).payload (8 * i) := fun i hi => by
      rw [hasks, List.getD_eq_getElem?_getD, List.getElem?_map, List.getElem?_range hi]
      rfl
    refine ⟨u, hexec, honly, hothers, by rw [hlane], ?_, ?_, ?_, ?_, by rw [hram]; exact hopen, by rw [hram]; exact hrest⟩
    · rw [hlane]
      by_cases hlack : room < free ∧ k < inputs.length
      · simp only [if_pos hlack, hask k hlack.2]
      · simp only [if_neg hlack]
    · rw [hlane]
      by_cases hlack : free ≤ room ∧ k < inputs.length
      · simp only [if_pos hlack, hask k hlack.2]
      · simp only [if_neg hlack]
    · rw [hlane, sentEntries_upTo]
    · rw [hsvc]
      have hmessages : (List.range k).map (fun i => s.requestMessage l (i + 1) 0 1 (gainAsk (inputs.getD i 0) (s.stepAt a).payload (8 * i)))
          = (List.range k).map fun i => s.requestMessage l (i + 1) 0 1 (asks.getD i []) :=
        List.map_congr_left fun i hi => by
          have hlt := List.mem_range.mp hi
          rw [hask i (by omega)]
      unfold State.askedService
      rw [hmessages]
      rfl
  · subst hb
    obtain ⟨⟨lanes, ram, hopened⟩, hlane, hothers, hopen, hrest⟩ := opened_facts (s := s) (l := l) h ⟨hlen, hnamed⟩ .taken
    refine ⟨s.opened l a inputs .taken, by rw [hopened], hothers, by rw [hlane]; rfl, hopen, hrest,
      setInput_taken h ⟨hlen, hnamed⟩ hsome hid hown⟩
  · rw [hf]
    exact takeGain_lane_announces hown hp hroom
  · have htake := takeGain_supersedes (x := x) (r := .lane l i) hown hp hw
    rw [hr] at htake
    obtain ⟨q, o, hq, ho, hoopen⟩ := hothers
    have hact : ((s.await n x (.lane l i)).lane k).activity = .working j (.setInput es) := (works_iff.mp hworks).2
    refine ⟨_, htake.trans ((refuse_lane hact he hopen).1 ⟨o, ?_, hoopen⟩), rfl⟩
    refine List.mem_of_getElem? (i := q) ?_
    rw [List.getElem?_set_ne (Ne.symm hq)]
    exact ho

end Sys2Proof.Machine
